-- ==== Sys2Proof/Word.lean ====
section
/-!
DEFINITION. The byte and the 64 B line.
-/

namespace Sys2Proof

/-- One byte. -/
abbrev Byte := BitVec 8

/-- A 64 B line (01_architecture.md R14); byte j is bits [8j+7:8j]. -/
abbrev Line := BitVec 512

end Sys2Proof
end

