-- ==== Sys2Proof/Machine/Bits.lean ====
section
/-!
DEFINITION. Bit fields, little-endian packing, sparse tables, checksums and serial numbers: the helpers that every chapter uses.
-/

namespace Sys2Proof

/-- Bits [lo+w-1:lo] of a number. -/
def bitsOf (x lo w : Nat) : Nat := (x >>> lo) % 2 ^ w

/-- Bit i of a number. -/
def bitOf (x i : Nat) : Bool := x.testBit i

/-- One where the condition holds, zero elsewhere. -/
def b2n (b : Bool) : Nat := if b then 1 else 0

/-- A number with bit i set. -/
def setBit (x i : Nat) : Nat := x ||| (1 <<< i)

/-- A number with bit i clear. -/
def clearBit (x i : Nat) : Nat := if x.testBit i then x - 2 ^ i else x

/-- The number whose bits are set in `x` and not in `m`. -/
def maskOff (x m : Nat) : Nat := x - (x &&& m)

/-- How many of bits [w-1:0] are set. -/
def popCount (x : Nat) : Nat → Nat
  | 0 => 0
  | w + 1 => popCount x w + b2n (x.testBit w)

/-- Bytes read little-endian (00_scope.md, byte order). -/
def leNat : List Byte → Nat
  | [] => 0
  | b :: bs => b.toNat + 256 * leNat bs

/-- `n` bytes of a number, little-endian. -/
def leBytes : Nat → Nat → List Byte
  | 0, _ => []
  | n + 1, v => BitVec.ofNat 8 v :: leBytes n (v / 256)

/-- Bytes read big-endian (network headers). -/
def beNat (bs : List Byte) : Nat := leNat bs.reverse

/-- The little-endian number in bytes [o, o+n) of a byte string, missing bytes being 0. -/
def leAt (bs : List Byte) (o n : Nat) : Nat := leNat ((bs.drop o).take n)

/-- `n` bytes from offset `o`, padded with zeros. -/
def sliceAt (bs : List Byte) (o n : Nat) : List Byte :=
  let t := (bs.drop o).take n
  t ++ List.replicate (n - t.length) 0

/-- The bytes of a line, byte 0 first. -/
def Line.bytes (l : Line) : List Byte := leBytes 64 l.toNat

/-- The bit mask of byte mask `m` (64 bits). -/
def byteMaskBits (m : Nat) : Nat :=
  (List.range 64).foldl (fun a j => if m.testBit j then a ||| (0xFF <<< (8 * j)) else a) 0

/-- `new` under byte mask `m` over `old`. -/
def Line.merge (old new : Line) (m : Nat) : Line :=
  let k : Line := BitVec.ofNat 512 (byteMaskBits m)
  (old &&& ~~~k) ||| (new &&& k)

/-- The byte mask of bytes [o, o+n) of a line. -/
def spanMask (o n : Nat) : Nat := (2 ^ n - 1) <<< o

/-- Division rounded up. -/
def ceilDiv (a b : Nat) : Nat := (a + b - 1) / b

/-! ### Sparse tables -/

/-- A sparse table: entries in rising key order, no key twice. -/
abbrev Tab (V : Type) := List (Nat × V)

/-- The entry of a key. -/
def Tab.get? {V : Type} : Tab V → Nat → Option V
  | [], _ => none
  | (k', v) :: t, k => if k' = k then some v else Tab.get? t k

/-- Puts a value before the first that an order lets follow it. -/
def insertBy {V : Type} (le : V → V → Bool) (x : V) : List V → List V
  | [] => [x]
  | y :: t => if le x y then x :: y :: t else y :: insertBy le x t

/-- A list in an order; values that are equal in it stay as they were. -/
def sortBy {V : Type} (le : V → V → Bool) (l : List V) : List V := l.foldr (insertBy le) []

/-- The entry of a key, or a default. -/
def Tab.getD {V : Type} (t : Tab V) (k : Nat) (d : V) : V := (t.get? k).getD d

/-- Puts an entry in its place in the order. -/
def Tab.put {V : Type} : Tab V → Nat → V → Tab V
  | [], k, v => [(k, v)]
  | (k', v') :: t, k, v =>
    if k < k' then (k, v) :: (k', v') :: t
    else if k' = k then (k, v) :: t
    else (k', v') :: Tab.put t k v

/-- Removes a key. -/
def Tab.del {V : Type} (t : Tab V) (k : Nat) : Tab V := t.filter (fun e => e.1 != k)

/-- Changes an entry that is there, in its place. -/
def Tab.upd {V : Type} : Tab V → Nat → (V → V) → Tab V
  | [], _, _ => []
  | (k', v) :: t, k, f => if k' = k then (k', f v) :: t else (k', v) :: Tab.upd t k f

/-- Keeps the entries that satisfy a test. -/
def Tab.keep {V : Type} (t : Tab V) (p : Nat → V → Bool) : Tab V := t.filter (fun e => p e.1 e.2)

/-- The entries. -/
def Tab.vals {V : Type} (t : Tab V) : List V := t.map Prod.snd

/-- How many entries satisfy a test. -/
def Tab.count {V : Type} (t : Tab V) (p : Nat → V → Bool) : Nat := (t.keep p).length

/-- The canonical form: keys strictly rising. -/
def Tab.wf {V : Type} : Tab V → Bool
  | [] => true
  | [_] => true
  | a :: b :: t => decide (a.1 < b.1) && Tab.wf (b :: t)

/-- The least number below `n` that the test accepts. -/
def firstFree (n : Nat) (p : Nat → Bool) : Option Nat := (List.range n).find? p

/-- The least key below `n` with no entry; it looks only at the keys that are there. -/
def Tab.firstGap {V : Type} : Tab V → Nat → Nat → Option Nat
  | [], i, n => if i < n then some i else none
  | (k, _) :: t, i, n =>
    if i < k then (if i < n then some i else none)
    else Tab.firstGap t (if k = i then i + 1 else i) n

/-! ### Checksums -/

/-- One step of a reflected CRC. -/
def crcBit (poly c : Nat) : Nat := if c % 2 = 1 then (c / 2) ^^^ poly else c / 2

/-- One byte of a reflected CRC. -/
def crcByte (poly c : Nat) (b : Byte) : Nat :=
  (List.range 8).foldl (fun a _ => crcBit poly a) (c ^^^ b.toNat)

/-- CRC-32 (IEEE 802.3), as the Forme's directory and the records use it. -/
def crc32 (bs : List Byte) : Nat :=
  (bs.foldl (crcByte 0xEDB88320) 0xFFFFFFFF) ^^^ 0xFFFFFFFF

/-! ### Serial numbers -/

/-- `a` comes before `b` by serial arithmetic of `w` bits (20_event_recorder.md R593). -/
def serialLt (w a b : Nat) : Bool :=
  let d := (b + 2 ^ w - a % 2 ^ w) % 2 ^ w
  decide (0 < d ∧ d < 2 ^ (w - 1))

/-- `b - a` by serial arithmetic of `w` bits. -/
def serialDist (w a b : Nat) : Nat := (b % 2 ^ w + 2 ^ w - a % 2 ^ w) % 2 ^ w

/-- A saturating counter of 32 bits. -/
def sat32 (n : Nat) : Nat := min n 0xFFFFFFFF

end Sys2Proof
end

