-- ==== Sys2Proof/Machine/Registers.lean ====
section
/-!
DEFINITION. The register map: one constant per register field of the manual's register tables, and
the decoder of register addresses (21_register_map.md R608 to R610, 00_scope.md R6 to R10).
-/

namespace Sys2Proof.Machine

/-- The field types of 00_scope.md R9. -/
inductive Acc where
  | rw | ro | wo | w1c | w1s | rc | rws
  deriving DecidableEq, Repr

/-- The reset domains of 21_register_map.md R611. -/
inductive Dom where
  | aon | core | persist
  deriving DecidableEq, Repr

/-- One field of one register: the register's byte address, the field's place, its type, its reset
value and its register's reset domain. -/
structure Fld where
  reg   : Nat
  lo    : Nat
  width : Nat
  ty    : Acc
  reset : Nat
  dom   : Dom
  deriving DecidableEq, Repr

/-- The field's key in the register file: no two fields of the map share one. -/
def Fld.key (f : Fld) : Nat := f.reg * 32 + f.lo

/-- The register base of memory controller `n`: `DDRC[n]` for n below 8, else `HBMC[n - 8]`
(21_register_map.md R608). -/
def memBase (n : Nat) : Nat :=
  if n < 8 then 0x00100000 + n * 0x00010000 else 0x00200000 + (n - 8) * 0x00004000

/-- The register base of `NANDC[n]` (R608). -/
def nandBase (n : Nat) : Nat := 0x00300000 + n * 0x00008000

/-- The register base of `PORT[n]` (R608). -/
def portBase (n : Nat) : Nat := 0x00400000 + n * 0x00020000

/-! ### Identity, mode and interrupt summary -/

/-- MODE_STATE[3:0], 02_operating_modes.md. -/
def Fld.MODE_STATE_MODE : Fld := ⟨0x20, 0, 4, .ro, 0, .aon⟩
/-- MODE_STATE[7:4], 02_operating_modes.md. -/
def Fld.MODE_STATE_TARGET : Fld := ⟨0x20, 4, 4, .ro, 0, .aon⟩
/-- MODE_STATE[11:8], 02_operating_modes.md. -/
def Fld.MODE_STATE_PAGE : Fld := ⟨0x20, 8, 4, .ro, 0, .aon⟩
/-- MODE_STATE[12:12], 02_operating_modes.md. -/
def Fld.MODE_STATE_DEGRADED : Fld := ⟨0x20, 12, 1, .ro, 0, .aon⟩
/-- MODE_STATE[13:13], 02_operating_modes.md. -/
def Fld.MODE_STATE_TRANSIT : Fld := ⟨0x20, 13, 1, .ro, 0, .aon⟩
/-- MODE_STATE[14:14], 02_operating_modes.md. -/
def Fld.MODE_STATE_WAIT_TWIN : Fld := ⟨0x20, 14, 1, .ro, 0, .aon⟩
/-- MODE_STATE[15:15], 02_operating_modes.md. -/
def Fld.MODE_STATE_CAL_RUN : Fld := ⟨0x20, 15, 1, .ro, 0, .aon⟩
/-- MODE_STATE[17:16], 02_operating_modes.md. -/
def Fld.MODE_STATE_ROLE : Fld := ⟨0x20, 16, 2, .ro, 0, .aon⟩

/-- MODE_ENTRY[3:0], 02_operating_modes.md. -/
def Fld.MODE_ENTRY_FROM : Fld := ⟨0x24, 0, 4, .ro, 0, .aon⟩
/-- MODE_ENTRY[11:8], 02_operating_modes.md. -/
def Fld.MODE_ENTRY_CAUSE : Fld := ⟨0x24, 8, 4, .ro, 0, .aon⟩

/-- MODE_CMD[3:0], 02_operating_modes.md. -/
def Fld.MODE_CMD_OP : Fld := ⟨0x28, 0, 4, .wo, 0, .aon⟩
/-- MODE_CMD[15:8], 02_operating_modes.md. -/
def Fld.MODE_CMD_GUARD : Fld := ⟨0x28, 8, 8, .wo, 0, .aon⟩

/-- MODE_RESULT[0:0], 02_operating_modes.md. -/
def Fld.MODE_RESULT_CHANGED : Fld := ⟨0x2c, 0, 1, .w1c, 0, .aon⟩
/-- MODE_RESULT[1:1], 02_operating_modes.md. -/
def Fld.MODE_RESULT_REFUSED : Fld := ⟨0x2c, 1, 1, .w1c, 0, .aon⟩
/-- MODE_RESULT[2:2], 02_operating_modes.md. -/
def Fld.MODE_RESULT_DEGRADED_SEEN : Fld := ⟨0x2c, 2, 1, .w1c, 0, .aon⟩
/-- MODE_RESULT[7:4], 02_operating_modes.md. -/
def Fld.MODE_RESULT_REASON : Fld := ⟨0x2c, 4, 4, .ro, 0, .aon⟩
/-- MODE_RESULT[11:8], 02_operating_modes.md. -/
def Fld.MODE_RESULT_LAST_OP : Fld := ⟨0x2c, 8, 4, .ro, 0, .aon⟩

/-- ID_CHIP[31:0], 21_register_map.md. -/
def Fld.ID_CHIP_CHIP : Fld := ⟨0x0, 0, 32, .ro, 0x60400a02, .aon⟩

/-- ID_HBM[7:0], 21_register_map.md. -/
def Fld.ID_HBM_GIB : Fld := ⟨0x4, 0, 8, .ro, 0, .aon⟩
/-- ID_HBM[11:8], 21_register_map.md. -/
def Fld.ID_HBM_HEIGHT : Fld := ⟨0x4, 8, 4, .ro, 0, .aon⟩

/-- ID_SERIAL_LO[31:0], 21_register_map.md. -/
def Fld.ID_SERIAL_LO_SERIAL_LO : Fld := ⟨0x8, 0, 32, .ro, 0, .aon⟩

/-- ID_SERIAL_HI[31:0], 21_register_map.md. -/
def Fld.ID_SERIAL_HI_SERIAL_HI : Fld := ⟨0xc, 0, 32, .ro, 0, .aon⟩

/-- INT_SUMMARY[13:0], 21_register_map.md. -/
def Fld.INT_SUMMARY_SUMMARY : Fld := ⟨0x40, 0, 14, .ro, 0, .aon⟩

/-- INT_MASK[13:0], 21_register_map.md. -/
def Fld.INT_MASK_MASK : Fld := ⟨0x44, 0, 14, .rw, 0, .aon⟩

/-- INT_PENDING[13:0], 21_register_map.md. -/
def Fld.INT_PENDING_PENDING : Fld := ⟨0x48, 0, 14, .ro, 0, .aon⟩

/-- INT_DRAM_SRC[23:0], 21_register_map.md. -/
def Fld.INT_DRAM_SRC_UNITS : Fld := ⟨0x50, 0, 24, .ro, 0, .aon⟩

/-- INT_NAND_SRC[31:0], 21_register_map.md. -/
def Fld.INT_NAND_SRC_UNITS : Fld := ⟨0x54, 0, 32, .ro, 0, .aon⟩

/-- INT_PORT_SRC[7:0], 21_register_map.md. -/
def Fld.INT_PORT_SRC_UNITS : Fld := ⟨0x58, 0, 8, .ro, 0, .aon⟩

/-! ### Power supervisor -/

/-- PWR_STATUS[2:0], 17_power_and_holdup.md. -/
def Fld.PWR_STATUS_SEQ : Fld := ⟨0x10000, 0, 3, .ro, 0, .aon⟩
/-- PWR_STATUS[6:3], 17_power_and_holdup.md. -/
def Fld.PWR_STATUS_STEP : Fld := ⟨0x10000, 3, 4, .ro, 0, .aon⟩
/-- PWR_STATUS[7:7], 17_power_and_holdup.md. -/
def Fld.PWR_STATUS_LOCKOUT : Fld := ⟨0x10000, 7, 1, .ro, 0, .aon⟩
/-- PWR_STATUS[8:8], 17_power_and_holdup.md. -/
def Fld.PWR_STATUS_FAULT_OWN : Fld := ⟨0x10000, 8, 1, .ro, 0, .aon⟩
/-- PWR_STATUS[9:9], 17_power_and_holdup.md. -/
def Fld.PWR_STATUS_FAULT_EXT : Fld := ⟨0x10000, 9, 1, .ro, 0, .aon⟩
/-- PWR_STATUS[10:10], 17_power_and_holdup.md. -/
def Fld.PWR_STATUS_HOLDUP_EN : Fld := ⟨0x10000, 10, 1, .ro, 0, .aon⟩
/-- PWR_STATUS[11:11], 17_power_and_holdup.md. -/
def Fld.PWR_STATUS_ESTORE_TEST : Fld := ⟨0x10000, 11, 1, .ro, 0, .aon⟩
/-- PWR_STATUS[12:12], 17_power_and_holdup.md. -/
def Fld.PWR_STATUS_PWRGD_IN : Fld := ⟨0x10000, 12, 1, .ro, 0, .aon⟩
/-- PWR_STATUS[13:13], 17_power_and_holdup.md. -/
def Fld.PWR_STATUS_RAIL_FAULT_SEEN : Fld := ⟨0x10000, 13, 1, .w1c, 0, .aon⟩
/-- PWR_STATUS[14:14], 17_power_and_holdup.md. -/
def Fld.PWR_STATUS_EXT_FAULT_SEEN : Fld := ⟨0x10000, 14, 1, .w1c, 0, .aon⟩
/-- PWR_STATUS[15:15], 17_power_and_holdup.md. -/
def Fld.PWR_STATUS_ESTORE_FAULT : Fld := ⟨0x10000, 15, 1, .w1c, 0, .aon⟩
/-- PWR_STATUS[16:16], 17_power_and_holdup.md. -/
def Fld.PWR_STATUS_MEAS_ABORTED : Fld := ⟨0x10000, 16, 1, .w1c, 0, .aon⟩
/-- PWR_STATUS[17:17], 17_power_and_holdup.md. -/
def Fld.PWR_STATUS_RESERVE_HIT : Fld := ⟨0x10000, 17, 1, .w1c, 0, .aon⟩
/-- PWR_STATUS[18:18], 17_power_and_holdup.md. -/
def Fld.PWR_STATUS_TABLE_SRC : Fld := ⟨0x10000, 18, 1, .ro, 0, .aon⟩
/-- PWR_STATUS[21:19], 17_power_and_holdup.md. -/
def Fld.PWR_STATUS_RETRIES : Fld := ⟨0x10000, 19, 3, .ro, 0, .aon⟩

/-- PWR_CTRL[0:0], 17_power_and_holdup.md. -/
def Fld.PWR_CTRL_MEASURE : Fld := ⟨0x10004, 0, 1, .wo, 0, .aon⟩
/-- PWR_CTRL[1:1], 17_power_and_holdup.md. -/
def Fld.PWR_CTRL_CLEAR_LOCKOUT : Fld := ⟨0x10004, 1, 1, .wo, 0, .aon⟩
/-- PWR_CTRL[15:8], 17_power_and_holdup.md. -/
def Fld.PWR_CTRL_GUARD : Fld := ⟨0x10004, 8, 8, .wo, 0, .aon⟩

/-- PWR_ESTORE_V[15:0], 17_power_and_holdup.md. -/
def Fld.PWR_ESTORE_V_MV : Fld := ⟨0x10008, 0, 16, .ro, 0, .aon⟩
/-- PWR_ESTORE_V[31:16], 17_power_and_holdup.md. -/
def Fld.PWR_ESTORE_V_FLOOR_MV : Fld := ⟨0x10008, 16, 16, .ro, 0, .aon⟩

/-- PWR_ESTORE_C[31:0], 17_power_and_holdup.md. -/
def Fld.PWR_ESTORE_C_MF : Fld := ⟨0x1000c, 0, 32, .ro, 0, .aon⟩

/-- PWR_ESTORE_ESR[31:0], 17_power_and_holdup.md. -/
def Fld.PWR_ESTORE_ESR_UOHM : Fld := ⟨0x10010, 0, 32, .ro, 0, .aon⟩

/-- PWR_ESTORE_E[31:0], 17_power_and_holdup.md. -/
def Fld.PWR_ESTORE_E_JOULES : Fld := ⟨0x10014, 0, 32, .ro, 0, .aon⟩

/-- PWR_VIGIL_LAST[19:0], 17_power_and_holdup.md. -/
def Fld.PWR_VIGIL_LAST_MS : Fld := ⟨0x10018, 0, 20, .ro, 0, .aon⟩
/-- PWR_VIGIL_LAST[20:20], 17_power_and_holdup.md. -/
def Fld.PWR_VIGIL_LAST_RESERVE : Fld := ⟨0x10018, 20, 1, .ro, 0, .aon⟩
/-- PWR_VIGIL_LAST[21:21], 17_power_and_holdup.md. -/
def Fld.PWR_VIGIL_LAST_SEALED : Fld := ⟨0x10018, 21, 1, .ro, 0, .aon⟩
/-- PWR_VIGIL_LAST[22:22], 17_power_and_holdup.md. -/
def Fld.PWR_VIGIL_LAST_LIMITED : Fld := ⟨0x10018, 22, 1, .ro, 0, .aon⟩

/-- PWR_CYCLES[23:0], 17_power_and_holdup.md. -/
def Fld.PWR_CYCLES_COUNT : Fld := ⟨0x1001c, 0, 24, .ro, 0, .aon⟩

/-- PWR_ESTORE_AGE[15:0], 17_power_and_holdup.md. -/
def Fld.PWR_ESTORE_AGE_AGE_S : Fld := ⟨0x10020, 0, 16, .ro, 0, .aon⟩

/-- PWR_RAIL_STATUS[2:0], 17_power_and_holdup.md. -/
def Fld.PWR_RAIL_STATUS_STATE (i : Nat) : Fld := ⟨0x10100 + 0x10 * i, 0, 3, .ro, 0, .aon⟩
/-- PWR_RAIL_STATUS[3:3], 17_power_and_holdup.md. -/
def Fld.PWR_RAIL_STATUS_EN (i : Nat) : Fld := ⟨0x10100 + 0x10 * i, 3, 1, .ro, 0, .aon⟩
/-- PWR_RAIL_STATUS[19:4], 17_power_and_holdup.md. -/
def Fld.PWR_RAIL_STATUS_MV (i : Nat) : Fld := ⟨0x10100 + 0x10 * i, 4, 16, .ro, 0, .aon⟩

/-- PWR_RAIL_CNT[7:0], 17_power_and_holdup.md. -/
def Fld.PWR_RAIL_CNT_UV (i : Nat) : Fld := ⟨0x10104 + 0x10 * i, 0, 8, .rc, 0, .aon⟩
/-- PWR_RAIL_CNT[15:8], 17_power_and_holdup.md. -/
def Fld.PWR_RAIL_CNT_OV (i : Nat) : Fld := ⟨0x10104 + 0x10 * i, 8, 8, .rc, 0, .aon⟩
/-- PWR_RAIL_CNT[23:16], 17_power_and_holdup.md. -/
def Fld.PWR_RAIL_CNT_UP_TO (i : Nat) : Fld := ⟨0x10104 + 0x10 * i, 16, 8, .rc, 0, .aon⟩
/-- PWR_RAIL_CNT[31:24], 17_power_and_holdup.md. -/
def Fld.PWR_RAIL_CNT_DIS_TO (i : Nat) : Fld := ⟨0x10104 + 0x10 * i, 24, 8, .rc, 0, .aon⟩

/-! ### Clocks and thermal -/

/-- CLK_RUN[24:0], 18_clocks_and_thermal.md. -/
def Fld.CLK_RUN_RUN : Fld := ⟨0x20000, 0, 25, .ro, 3, .aon⟩

/-- CLK_FAULT[24:0], 18_clocks_and_thermal.md. -/
def Fld.CLK_FAULT_FAULT : Fld := ⟨0x20004, 0, 25, .w1c, 0, .aon⟩

/-- CLK_STATE[0:0], 18_clocks_and_thermal.md. -/
def Fld.CLK_STATE_REF_PRESENT : Fld := ⟨0x20008, 0, 1, .ro, 0, .aon⟩
/-- CLK_STATE[1:1], 18_clocks_and_thermal.md. -/
def Fld.CLK_STATE_MASTER_LOCK : Fld := ⟨0x20008, 1, 1, .ro, 0, .aon⟩
/-- CLK_STATE[2:2], 18_clocks_and_thermal.md. -/
def Fld.CLK_STATE_HOLDOVER : Fld := ⟨0x20008, 2, 1, .ro, 0, .aon⟩
/-- CLK_STATE[3:3], 18_clocks_and_thermal.md. -/
def Fld.CLK_STATE_XTAL_FAIL : Fld := ⟨0x20008, 3, 1, .ro, 0, .aon⟩

/-- CLK_RATIO_SEL[4:0], 18_clocks_and_thermal.md. -/
def Fld.CLK_RATIO_SEL_DOMAIN : Fld := ⟨0x20010, 0, 5, .rw, 0, .core⟩

/-- CLK_RATIO[7:0], 18_clocks_and_thermal.md. -/
def Fld.CLK_RATIO_N : Fld := ⟨0x20014, 0, 8, .ro, 0, .core⟩
/-- CLK_RATIO[15:8], 18_clocks_and_thermal.md. -/
def Fld.CLK_RATIO_M : Fld := ⟨0x20014, 8, 8, .ro, 0, .core⟩
/-- CLK_RATIO[31:16], 18_clocks_and_thermal.md. -/
def Fld.CLK_RATIO_MHZ : Fld := ⟨0x20014, 16, 16, .ro, 0, .core⟩

/-- THERM_STATUS[11:0], 18_clocks_and_thermal.md. -/
def Fld.THERM_STATUS_TJ : Fld := ⟨0x20020, 0, 12, .ro, 0, .aon⟩
/-- THERM_STATUS[12:12], 18_clocks_and_thermal.md. -/
def Fld.THERM_STATUS_CAPPED : Fld := ⟨0x20020, 12, 1, .ro, 0, .aon⟩
/-- THERM_STATUS[13:13], 18_clocks_and_thermal.md. -/
def Fld.THERM_STATUS_THERMTRIP : Fld := ⟨0x20020, 13, 1, .ro, 0, .aon⟩
/-- THERM_STATUS[14:14], 18_clocks_and_thermal.md. -/
def Fld.THERM_STATUS_TRIP_SEEN : Fld := ⟨0x20020, 14, 1, .w1c, 0, .aon⟩
/-- THERM_STATUS[15:15], 18_clocks_and_thermal.md. -/
def Fld.THERM_STATUS_SENSOR_FAIL_SEEN : Fld := ⟨0x20020, 15, 1, .w1c, 0, .aon⟩
/-- THERM_STATUS[20:16], 18_clocks_and_thermal.md. -/
def Fld.THERM_STATUS_FAILED : Fld := ⟨0x20020, 16, 5, .ro, 0, .aon⟩
/-- THERM_STATUS[21:21], 18_clocks_and_thermal.md. -/
def Fld.THERM_STATUS_ASSUMED : Fld := ⟨0x20020, 21, 1, .ro, 0, .aon⟩
/-- THERM_STATUS[22:22], 18_clocks_and_thermal.md. -/
def Fld.THERM_STATUS_MEM_HOT : Fld := ⟨0x20020, 22, 1, .ro, 0, .aon⟩

/-- THERM_PEAK[11:0], 18_clocks_and_thermal.md. -/
def Fld.THERM_PEAK_PEAK : Fld := ⟨0x20024, 0, 12, .rc, 0, .aon⟩

/-- GOV_STATUS[3:0], 18_clocks_and_thermal.md. -/
def Fld.GOV_STATUS_LEVEL : Fld := ⟨0x20030, 0, 4, .ro, 0, .core⟩
/-- GOV_STATUS[4:4], 18_clocks_and_thermal.md. -/
def Fld.GOV_STATUS_PEAK_ALLOWED : Fld := ⟨0x20030, 4, 1, .ro, 0, .core⟩
/-- GOV_STATUS[5:5], 18_clocks_and_thermal.md. -/
def Fld.GOV_STATUS_CAP_UNMET : Fld := ⟨0x20030, 5, 1, .ro, 0, .core⟩
/-- GOV_STATUS[6:6], 18_clocks_and_thermal.md. -/
def Fld.GOV_STATUS_LEVEL_SEEN : Fld := ⟨0x20030, 6, 1, .w1c, 0, .core⟩
/-- GOV_STATUS[7:7], 18_clocks_and_thermal.md. -/
def Fld.GOV_STATUS_UNMET_SEEN : Fld := ⟨0x20030, 7, 1, .w1c, 0, .core⟩
/-- GOV_STATUS[27:16], 18_clocks_and_thermal.md. -/
def Fld.GOV_STATUS_EXCESS_S : Fld := ⟨0x20030, 16, 12, .ro, 0, .core⟩

/-- GOV_POWER[15:0], 18_clocks_and_thermal.md. -/
def Fld.GOV_POWER_P_EST : Fld := ⟨0x20034, 0, 16, .ro, 0, .core⟩
/-- GOV_POWER[31:16], 18_clocks_and_thermal.md. -/
def Fld.GOV_POWER_LIMIT : Fld := ⟨0x20034, 16, 16, .ro, 0, .core⟩

/-- GOV_CFG[7:0], 18_clocks_and_thermal.md. -/
def Fld.GOV_CFG_SP_CAP_W : Fld := ⟨0x20038, 0, 8, .rws, 0, .core⟩

/-- GOV_LEVEL_PERIODS[31:0], 18_clocks_and_thermal.md. -/
def Fld.GOV_LEVEL_PERIODS_PERIODS : Fld := ⟨0x20040, 0, 32, .rc, 0, .core⟩

/-- GOV_EXCESS_S[31:0], 18_clocks_and_thermal.md. -/
def Fld.GOV_EXCESS_S_PEAK_S : Fld := ⟨0x20044, 0, 32, .rc, 0, .core⟩

/-- THERM_CAP_PERIODS[31:0], 18_clocks_and_thermal.md. -/
def Fld.THERM_CAP_PERIODS_CAPPED : Fld := ⟨0x20048, 0, 32, .rc, 0, .core⟩

/-- CLK_HOLDOVERS[31:0], 18_clocks_and_thermal.md. -/
def Fld.CLK_HOLDOVERS_HOLDOVERS : Fld := ⟨0x2004c, 0, 32, .rc, 0, .core⟩

/-! ### Event recorder window -/

/-- EVT_STATUS[0:0], 20_event_recorder.md. -/
def Fld.EVT_STATUS_RUNNING : Fld := ⟨0x30000, 0, 1, .ro, 0, .core⟩
/-- EVT_STATUS[1:1], 20_event_recorder.md. -/
def Fld.EVT_STATUS_GAP_SEEN : Fld := ⟨0x30000, 1, 1, .w1c, 0, .core⟩
/-- EVT_STATUS[2:2], 20_event_recorder.md. -/
def Fld.EVT_STATUS_ARCH_GAP_SEEN : Fld := ⟨0x30000, 2, 1, .w1c, 0, .core⟩
/-- EVT_STATUS[3:3], 20_event_recorder.md. -/
def Fld.EVT_STATUS_NOTIFIED : Fld := ⟨0x30000, 3, 1, .w1c, 0, .core⟩
/-- EVT_STATUS[4:4], 20_event_recorder.md. -/
def Fld.EVT_STATUS_CLEARED_SEEN : Fld := ⟨0x30000, 4, 1, .w1c, 0, .core⟩
/-- EVT_STATUS[5:5], 20_event_recorder.md. -/
def Fld.EVT_STATUS_ARCHIVING : Fld := ⟨0x30000, 5, 1, .ro, 0, .core⟩
/-- EVT_STATUS[25:16], 20_event_recorder.md. -/
def Fld.EVT_STATUS_QUEUE : Fld := ⟨0x30000, 16, 10, .ro, 0, .core⟩

/-- EVT_HEAD[31:0], 20_event_recorder.md. -/
def Fld.EVT_HEAD_HEAD : Fld := ⟨0x30004, 0, 32, .ro, 0, .core⟩

/-- EVT_OLDEST[31:0], 20_event_recorder.md. -/
def Fld.EVT_OLDEST_OLDEST : Fld := ⟨0x30008, 0, 32, .ro, 0, .core⟩

/-- EVT_ARCH_OLDEST[31:0], 20_event_recorder.md. -/
def Fld.EVT_ARCH_OLDEST_ARCH_OLDEST : Fld := ⟨0x3000c, 0, 32, .ro, 0, .core⟩

/-- EVT_ARCH_NEXT[31:0], 20_event_recorder.md. -/
def Fld.EVT_ARCH_NEXT_ARCH_NEXT : Fld := ⟨0x30010, 0, 32, .ro, 0, .core⟩

/-- EVT_CTRL[0:0], 20_event_recorder.md. -/
def Fld.EVT_CTRL_CLEAR : Fld := ⟨0x30014, 0, 1, .wo, 0, .core⟩
/-- EVT_CTRL[15:8], 20_event_recorder.md. -/
def Fld.EVT_CTRL_GUARD : Fld := ⟨0x30014, 8, 8, .wo, 0, .core⟩

/-- EVT_NOTIFY[15:0], 20_event_recorder.md. -/
def Fld.EVT_NOTIFY_AREAS : Fld := ⟨0x30018, 0, 16, .rw, 0x6412, .core⟩

/-- EVT_RATE[7:0], 20_event_recorder.md. -/
def Fld.EVT_RATE_COUNT : Fld := ⟨0x3001c, 0, 8, .rws, 8, .core⟩
/-- EVT_RATE[23:8], 20_event_recorder.md. -/
def Fld.EVT_RATE_WINDOW_S : Fld := ⟨0x3001c, 8, 16, .rws, 0xa, .core⟩

/-- EVT_CURSOR[31:0], 20_event_recorder.md. -/
def Fld.EVT_CURSOR_SEQ : Fld := ⟨0x30020, 0, 32, .rw, 0, .core⟩

/-- EVT_WIN_STATUS[3:0], 20_event_recorder.md. -/
def Fld.EVT_WIN_STATUS_VALID : Fld := ⟨0x30024, 0, 4, .ro, 0, .core⟩
/-- EVT_WIN_STATUS[7:4], 20_event_recorder.md. -/
def Fld.EVT_WIN_STATUS_GONE : Fld := ⟨0x30024, 4, 4, .ro, 0, .core⟩
/-- EVT_WIN_STATUS[8:8], 20_event_recorder.md. -/
def Fld.EVT_WIN_STATUS_READY : Fld := ⟨0x30024, 8, 1, .ro, 0, .core⟩
/-- EVT_WIN_STATUS[9:9], 20_event_recorder.md. -/
def Fld.EVT_WIN_STATUS_ARCHIVE : Fld := ⟨0x30024, 9, 1, .ro, 0, .core⟩

/-- EVT_WRITTEN[31:0], 20_event_recorder.md. -/
def Fld.EVT_WRITTEN_WRITTEN : Fld := ⟨0x30040, 0, 32, .rc, 0, .core⟩

/-- EVT_FOLDED[31:0], 20_event_recorder.md. -/
def Fld.EVT_FOLDED_FOLDED : Fld := ⟨0x30044, 0, 32, .rc, 0, .core⟩

/-- EVT_SUPPRESSED[31:0], 20_event_recorder.md. -/
def Fld.EVT_SUPPRESSED_SUPPRESSED : Fld := ⟨0x30048, 0, 32, .rc, 0, .core⟩

/-- EVT_LOST[31:0], 20_event_recorder.md. -/
def Fld.EVT_LOST_LOST : Fld := ⟨0x3004c, 0, 32, .rc, 0, .core⟩

/-- EVT_ARCH_LOST[31:0], 20_event_recorder.md. -/
def Fld.EVT_ARCH_LOST_ARCH_LOST : Fld := ⟨0x30050, 0, 32, .rc, 0, .core⟩

/-- EVT_WINDOW[31:0], 20_event_recorder.md. -/
def Fld.EVT_WINDOW_DATA (i : Nat) : Fld := ⟨0x30100 + 0x4 * i, 0, 32, .ro, 0, .core⟩

/-! ### Mailboxes, doorbells, I3C and sideband -/

/-- MB_TO_DEV[31:0], 19_management_interface.md. -/
def Fld.MB_TO_DEV_WORD (i : Nat) : Fld := ⟨0x40000 + 0x4 * i, 0, 32, .rw, 0, .core⟩

/-- MB_TO_SP[31:0], 19_management_interface.md. -/
def Fld.MB_TO_SP_WORD (i : Nat) : Fld := ⟨0x40040 + 0x4 * i, 0, 32, .rc, 0, .core⟩

/-- MB_FLAGS[15:0], 19_management_interface.md. -/
def Fld.MB_FLAGS_TO_DEV_FULL : Fld := ⟨0x40080, 0, 16, .ro, 0, .core⟩
/-- MB_FLAGS[31:16], 19_management_interface.md. -/
def Fld.MB_FLAGS_TO_SP_FULL : Fld := ⟨0x40080, 16, 16, .ro, 0, .core⟩

/-- MB_STATUS[15:0], 19_management_interface.md. -/
def Fld.MB_STATUS_OVERRUN : Fld := ⟨0x40084, 0, 16, .w1c, 0, .core⟩
/-- MB_STATUS[16:16], 19_management_interface.md. -/
def Fld.MB_STATUS_CMDWIN_BUSY : Fld := ⟨0x40084, 16, 1, .w1c, 0, .core⟩

/-- DB_TO_SP[31:0], 19_management_interface.md. -/
def Fld.DB_TO_SP_BITS : Fld := ⟨0x40090, 0, 32, .w1c, 0, .core⟩

/-- DB_MASK[31:0], 19_management_interface.md. -/
def Fld.DB_MASK_MASK : Fld := ⟨0x40094, 0, 32, .rw, 0xffffffff, .core⟩

/-- DB_PENDING[31:0], 19_management_interface.md. -/
def Fld.DB_PENDING_PENDING : Fld := ⟨0x40098, 0, 32, .ro, 0, .core⟩

/-- I3C_STATUS[1:0], 19_management_interface.md. -/
def Fld.I3C_STATUS_BUSMODE : Fld := ⟨0x400a0, 0, 2, .ro, 0, .core⟩
/-- I3C_STATUS[8:2], 19_management_interface.md. -/
def Fld.I3C_STATUS_DYN_ADDR : Fld := ⟨0x400a0, 2, 7, .ro, 0, .core⟩
/-- I3C_STATUS[15:9], 19_management_interface.md. -/
def Fld.I3C_STATUS_STATIC_ADDR : Fld := ⟨0x400a0, 9, 7, .ro, 0x3c, .core⟩
/-- I3C_STATUS[16:16], 19_management_interface.md. -/
def Fld.I3C_STATUS_IBI_EN : Fld := ⟨0x400a0, 16, 1, .ro, 0, .core⟩
/-- I3C_STATUS[17:17], 19_management_interface.md. -/
def Fld.I3C_STATUS_HJ_EN : Fld := ⟨0x400a0, 17, 1, .ro, 0, .core⟩
/-- I3C_STATUS[18:18], 19_management_interface.md. -/
def Fld.I3C_STATUS_SADDR_MISMATCH : Fld := ⟨0x400a0, 18, 1, .w1c, 0, .core⟩

/-- I3C_SADDR[6:0], 19_management_interface.md. -/
def Fld.I3C_SADDR_ADDR : Fld := ⟨0x400a4, 0, 7, .rw, 0, .aon⟩

/-- I3C_SADDR_CHK[31:0], 19_management_interface.md. -/
def Fld.I3C_SADDR_CHK_CHECK : Fld := ⟨0x400a8, 0, 32, .rw, 0xffffffff, .aon⟩

/-- I3C_REFUSED[31:0], 19_management_interface.md. -/
def Fld.I3C_REFUSED_REFUSED : Fld := ⟨0x400ac, 0, 32, .rc, 0, .core⟩

/-- I3C_LAST_REFUSAL[3:0], 19_management_interface.md. -/
def Fld.I3C_LAST_REFUSAL_REASON : Fld := ⟨0x400b0, 0, 4, .ro, 0, .core⟩
/-- I3C_LAST_REFUSAL[31:8], 19_management_interface.md. -/
def Fld.I3C_LAST_REFUSAL_ADDR : Fld := ⟨0x400b0, 8, 24, .ro, 0, .core⟩

/-- SB_STATUS[15:0], 19_management_interface.md. -/
def Fld.SB_STATUS_PRESENT : Fld := ⟨0x40100, 0, 16, .ro, 0, .core⟩
/-- SB_STATUS[31:16], 19_management_interface.md. -/
def Fld.SB_STATUS_MISMATCH : Fld := ⟨0x40100, 16, 16, .w1c, 0, .core⟩

/-- SB_XFER_CTRL[3:0], 19_management_interface.md. -/
def Fld.SB_XFER_CTRL_SLOT : Fld := ⟨0x40104, 0, 4, .rw, 0, .core⟩
/-- SB_XFER_CTRL[5:4], 19_management_interface.md. -/
def Fld.SB_XFER_CTRL_DEV : Fld := ⟨0x40104, 4, 2, .rw, 0, .core⟩
/-- SB_XFER_CTRL[6:6], 19_management_interface.md. -/
def Fld.SB_XFER_CTRL_WRITE : Fld := ⟨0x40104, 6, 1, .rw, 0, .core⟩
/-- SB_XFER_CTRL[7:7], 19_management_interface.md. -/
def Fld.SB_XFER_CTRL_GO : Fld := ⟨0x40104, 7, 1, .wo, 0, .core⟩
/-- SB_XFER_CTRL[11:8], 19_management_interface.md. -/
def Fld.SB_XFER_CTRL_LENGTH : Fld := ⟨0x40104, 8, 4, .rw, 0, .core⟩
/-- SB_XFER_CTRL[13:12], 19_management_interface.md. -/
def Fld.SB_XFER_CTRL_RESULT : Fld := ⟨0x40104, 12, 2, .ro, 0, .core⟩
/-- SB_XFER_CTRL[31:16], 19_management_interface.md. -/
def Fld.SB_XFER_CTRL_OFFSET : Fld := ⟨0x40104, 16, 16, .rw, 0, .core⟩

/-- SB_XFER_DATA[31:0], 19_management_interface.md. -/
def Fld.SB_XFER_DATA_DATA (i : Nat) : Fld := ⟨0x40108 + 0x4 * i, 0, 32, .rw, 0, .core⟩

/-- SB_SLOT_ADDR[2:0], 19_management_interface.md. -/
def Fld.SB_SLOT_ADDR_SEL (i : Nat) : Fld := ⟨0x40200 + 0x8 * i, 0, 3, .rw, i % 8, .core⟩

/-- SB_SLOT_CHK[31:0], 19_management_interface.md. -/
def Fld.SB_SLOT_CHK_CHECK (i : Nat) : Fld := ⟨0x40204 + 0x8 * i, 0, 32, .rw, 0xFFFFFFFF - i % 8, .core⟩

/-- CMD_WINDOW[31:0], 19_management_interface.md. -/
def Fld.CMD_WINDOW_DATA (i : Nat) : Fld := ⟨0x41000 + 0x4 * i, 0, 32, .rw, 0, .core⟩

/-- RESP_WINDOW[31:0], 19_management_interface.md. -/
def Fld.RESP_WINDOW_DATA (i : Nat) : Fld := ⟨0x42000 + 0x4 * i, 0, 32, .ro, 0, .core⟩

/-! ### Forme loader, calendar control and boot store -/

/-- FORME_STATUS[1:0], 03_forme.md. -/
def Fld.FORME_STATUS_ACTIVE_SLOT : Fld := ⟨0x50000, 0, 2, .ro, 0, .aon⟩
/-- FORME_STATUS[2:2], 03_forme.md. -/
def Fld.FORME_STATUS_A_REFUSED : Fld := ⟨0x50000, 2, 1, .w1c, 0, .aon⟩
/-- FORME_STATUS[3:3], 03_forme.md. -/
def Fld.FORME_STATUS_B_REFUSED : Fld := ⟨0x50000, 3, 1, .w1c, 0, .aon⟩
/-- FORME_STATUS[12:8], 03_forme.md. -/
def Fld.FORME_STATUS_A_REASON : Fld := ⟨0x50000, 8, 5, .ro, 0, .aon⟩
/-- FORME_STATUS[20:16], 03_forme.md. -/
def Fld.FORME_STATUS_B_REASON : Fld := ⟨0x50000, 16, 5, .ro, 0, .aon⟩

/-- FORME_DETAIL_A[31:0], 03_forme.md. -/
def Fld.FORME_DETAIL_A_DETAIL : Fld := ⟨0x50004, 0, 32, .ro, 0, .aon⟩

/-- FORME_DETAIL_B[31:0], 03_forme.md. -/
def Fld.FORME_DETAIL_B_DETAIL : Fld := ⟨0x50008, 0, 32, .ro, 0, .aon⟩

/-- FORME_CTRL[1:0], 03_forme.md. -/
def Fld.FORME_CTRL_NEXT_SLOT : Fld := ⟨0x50010, 0, 2, .rw, 0, .aon⟩
/-- FORME_CTRL[8:8], 03_forme.md. -/
def Fld.FORME_CTRL_SVN_COMMIT : Fld := ⟨0x50010, 8, 1, .wo, 0, .aon⟩
/-- FORME_CTRL[9:9], 03_forme.md. -/
def Fld.FORME_CTRL_KEY_REVOKE : Fld := ⟨0x50010, 9, 1, .wo, 0, .aon⟩
/-- FORME_CTRL[11:10], 03_forme.md. -/
def Fld.FORME_CTRL_KEY_INDEX : Fld := ⟨0x50010, 10, 2, .wo, 0, .aon⟩
/-- FORME_CTRL[23:16], 03_forme.md. -/
def Fld.FORME_CTRL_GUARD : Fld := ⟨0x50010, 16, 8, .wo, 0, .aon⟩

/-- FORME_SVN[6:0], 03_forme.md. -/
def Fld.FORME_SVN_FUSED : Fld := ⟨0x50014, 0, 7, .ro, 0, .aon⟩
/-- FORME_SVN[14:8], 03_forme.md. -/
def Fld.FORME_SVN_RUNNING : Fld := ⟨0x50014, 8, 7, .ro, 0, .aon⟩
/-- FORME_SVN[19:16], 03_forme.md. -/
def Fld.FORME_SVN_REVOKED : Fld := ⟨0x50014, 16, 4, .ro, 0, .aon⟩
/-- FORME_SVN[21:20], 03_forme.md. -/
def Fld.FORME_SVN_RUNNING_KEY : Fld := ⟨0x50014, 20, 2, .ro, 0, .aon⟩

/-- FORME_BUILD_LO[31:0], 03_forme.md. -/
def Fld.FORME_BUILD_LO_VALUE : Fld := ⟨0x50018, 0, 32, .ro, 0, .core⟩

/-- FORME_BUILD_HI[31:0], 03_forme.md. -/
def Fld.FORME_BUILD_HI_VALUE : Fld := ⟨0x5001c, 0, 32, .ro, 0, .core⟩

/-- FORME_DIGEST[31:0], 03_forme.md. -/
def Fld.FORME_DIGEST_VALUE (i : Nat) : Fld := ⟨0x50040 + 0x4 * i, 0, 32, .ro, 0, .core⟩

/-- CAL_CTRL[0:0], 03_forme.md. -/
def Fld.CAL_CTRL_IMPRESS : Fld := ⟨0x50100, 0, 1, .w1s, 0, .core⟩
/-- CAL_CTRL[1:1], 03_forme.md. -/
def Fld.CAL_CTRL_DISCARD : Fld := ⟨0x50100, 1, 1, .wo, 0, .core⟩

/-- IMPRESS_STATUS[0:0], 03_forme.md. -/
def Fld.IMPRESS_STATUS_PENDING : Fld := ⟨0x50104, 0, 1, .ro, 0, .core⟩
/-- IMPRESS_STATUS[1:1], 03_forme.md. -/
def Fld.IMPRESS_STATUS_DONE : Fld := ⟨0x50104, 1, 1, .w1c, 0, .core⟩
/-- IMPRESS_STATUS[2:2], 03_forme.md. -/
def Fld.IMPRESS_STATUS_REFUSED : Fld := ⟨0x50104, 2, 1, .w1c, 0, .core⟩
/-- IMPRESS_STATUS[3:3], 03_forme.md. -/
def Fld.IMPRESS_STATUS_DROPPED : Fld := ⟨0x50104, 3, 1, .w1c, 0, .core⟩
/-- IMPRESS_STATUS[7:4], 03_forme.md. -/
def Fld.IMPRESS_STATUS_REASON : Fld := ⟨0x50104, 4, 4, .ro, 0, .core⟩
/-- IMPRESS_STATUS[31:16], 03_forme.md. -/
def Fld.IMPRESS_STATUS_WRITES : Fld := ⟨0x50104, 16, 16, .ro, 0, .core⟩

/-- CAL_STATUS[0:0], 04_calendar.md. -/
def Fld.CAL_STATUS_LOADING : Fld := ⟨0x50108, 0, 1, .ro, 0, .core⟩
/-- CAL_STATUS[7:4], 04_calendar.md. -/
def Fld.CAL_STATUS_NEXT_PAGE : Fld := ⟨0x50108, 4, 4, .ro, 0, .core⟩
/-- CAL_STATUS[8:8], 04_calendar.md. -/
def Fld.CAL_STATUS_SWITCHED : Fld := ⟨0x50108, 8, 1, .w1c, 0, .core⟩
/-- CAL_STATUS[9:9], 04_calendar.md. -/
def Fld.CAL_STATUS_UNCOVERED : Fld := ⟨0x50108, 9, 1, .w1c, 0, .core⟩
/-- CAL_STATUS[31:16], 04_calendar.md. -/
def Fld.CAL_STATUS_LOST_UNIT : Fld := ⟨0x50108, 16, 16, .ro, 0, .core⟩

/-- CAL_CYCLE_LO[31:0], 04_calendar.md. -/
def Fld.CAL_CYCLE_LO_CYCLE_LO : Fld := ⟨0x50110, 0, 32, .ro, 0, .core⟩

/-- CAL_CYCLE_HI[15:0], 04_calendar.md. -/
def Fld.CAL_CYCLE_HI_CYCLE_HI : Fld := ⟨0x50114, 0, 16, .ro, 0, .core⟩

/-- ADMIT_STAT[12:0], 04_calendar.md. -/
def Fld.ADMIT_STAT_OCC (i : Nat) : Fld := ⟨0x50200 + 0x10 * i, 0, 13, .ro, 0, .core⟩
/-- ADMIT_STAT[25:13], 04_calendar.md. -/
def Fld.ADMIT_STAT_DEPTH (i : Nat) : Fld := ⟨0x50200 + 0x10 * i, 13, 13, .ro, 0, .core⟩

/-- ADMIT_PEAK[12:0], 04_calendar.md. -/
def Fld.ADMIT_PEAK_PEAK (i : Nat) : Fld := ⟨0x50204 + 0x10 * i, 0, 13, .rc, 0, .core⟩

/-- ADMIT_DROP[31:0], 04_calendar.md. -/
def Fld.ADMIT_DROP_DROPS (i : Nat) : Fld := ⟨0x50208 + 0x10 * i, 0, 32, .rc, 0, .core⟩

/-- ADMIT_OVER[31:0], 04_calendar.md. -/
def Fld.ADMIT_OVER_OVER (i : Nat) : Fld := ⟨0x5020c + 0x10 * i, 0, 32, .rc, 0, .core⟩

/-- BS_CTRL[2:0], 19_management_interface.md. -/
def Fld.BS_CTRL_OP : Fld := ⟨0x50800, 0, 3, .rw, 0, .core⟩
/-- BS_CTRL[3:3], 19_management_interface.md. -/
def Fld.BS_CTRL_GO : Fld := ⟨0x50800, 3, 1, .wo, 0, .core⟩
/-- BS_CTRL[15:4], 19_management_interface.md. -/
def Fld.BS_CTRL_LENGTH : Fld := ⟨0x50800, 4, 12, .rw, 0, .core⟩
/-- BS_CTRL[23:16], 19_management_interface.md. -/
def Fld.BS_CTRL_GUARD : Fld := ⟨0x50800, 16, 8, .wo, 0, .core⟩

/-- BS_ADDR[26:0], 19_management_interface.md. -/
def Fld.BS_ADDR_ADDR : Fld := ⟨0x50804, 0, 27, .rw, 0, .core⟩

/-- BS_STATUS[0:0], 19_management_interface.md. -/
def Fld.BS_STATUS_BUSY : Fld := ⟨0x50808, 0, 1, .ro, 0, .core⟩
/-- BS_STATUS[1:1], 19_management_interface.md. -/
def Fld.BS_STATUS_DONE : Fld := ⟨0x50808, 1, 1, .w1c, 0, .core⟩
/-- BS_STATUS[3:2], 19_management_interface.md. -/
def Fld.BS_STATUS_RESULT : Fld := ⟨0x50808, 2, 2, .ro, 0, .core⟩

/-- BS_WINDOW[31:0], 19_management_interface.md. -/
def Fld.BS_WINDOW_DATA (i : Nat) : Fld := ⟨0x51000 + 0x4 * i, 0, 32, .rw, 0, .core⟩

/-! ### Integrity banks -/

/-- INTEG_SUMMARY[15:1], 05_integrity.md. -/
def Fld.INTEG_SUMMARY_KIND_SEEN : Fld := ⟨0x60000, 1, 15, .w1c, 0, .core⟩
/-- INTEG_SUMMARY[16:16], 05_integrity.md. -/
def Fld.INTEG_SUMMARY_RETIRED : Fld := ⟨0x60000, 16, 1, .w1c, 0, .core⟩
/-- INTEG_SUMMARY[17:17], 05_integrity.md. -/
def Fld.INTEG_SUMMARY_SPARE_USED : Fld := ⟨0x60000, 17, 1, .w1c, 0, .core⟩
/-- INTEG_SUMMARY[18:18], 05_integrity.md. -/
def Fld.INTEG_SUMMARY_SPARE_NONE : Fld := ⟨0x60000, 18, 1, .w1c, 0, .core⟩
/-- INTEG_SUMMARY[19:19], 05_integrity.md. -/
def Fld.INTEG_SUMMARY_POISON : Fld := ⟨0x60000, 19, 1, .w1c, 0, .core⟩
/-- INTEG_SUMMARY[20:20], 05_integrity.md. -/
def Fld.INTEG_SUMMARY_INJ_MISMATCH : Fld := ⟨0x60000, 20, 1, .w1c, 0, .core⟩
/-- INTEG_SUMMARY[21:21], 05_integrity.md. -/
def Fld.INTEG_SUMMARY_INJ_DONE : Fld := ⟨0x60000, 21, 1, .w1c, 0, .core⟩
/-- INTEG_SUMMARY[22:22], 05_integrity.md. -/
def Fld.INTEG_SUMMARY_TAP_MISMATCH : Fld := ⟨0x60000, 22, 1, .w1c, 0, .core⟩

/-- INTEG_SPARES[1:0], 05_integrity.md. -/
def Fld.INTEG_SPARES_NET_LANES : Fld := ⟨0x60004, 0, 2, .ro, 2, .core⟩
/-- INTEG_SPARES[2:2], 05_integrity.md. -/
def Fld.INTEG_SPARES_FLESAL_LANE : Fld := ⟨0x60004, 2, 1, .ro, 1, .core⟩
/-- INTEG_SPARES[3:3], 05_integrity.md. -/
def Fld.INTEG_SPARES_CIPHER : Fld := ⟨0x60004, 3, 1, .ro, 1, .core⟩
/-- INTEG_SPARES[4:4], 05_integrity.md. -/
def Fld.INTEG_SPARES_MGMT : Fld := ⟨0x60004, 4, 1, .ro, 1, .core⟩
/-- INTEG_SPARES[14:8], 05_integrity.md. -/
def Fld.INTEG_SPARES_LC_GROUPS : Fld := ⟨0x60004, 8, 7, .ro, 0, .core⟩

/-- INTEG_QUERY[15:0], 05_integrity.md. -/
def Fld.INTEG_QUERY_UNIT : Fld := ⟨0x60010, 0, 16, .rw, 0, .core⟩

/-- INTEG_QUERY_RESULT[2:0], 05_integrity.md. -/
def Fld.INTEG_QUERY_RESULT_STATE : Fld := ⟨0x60014, 0, 3, .ro, 0, .core⟩
/-- INTEG_QUERY_RESULT[15:8], 05_integrity.md. -/
def Fld.INTEG_QUERY_RESULT_LAST_KIND : Fld := ⟨0x60014, 8, 8, .ro, 0, .core⟩
/-- INTEG_QUERY_RESULT[31:16], 05_integrity.md. -/
def Fld.INTEG_QUERY_RESULT_COUNT : Fld := ⟨0x60014, 16, 16, .ro, 0, .core⟩

/-- INTEG_CLEAR[15:0], 05_integrity.md. -/
def Fld.INTEG_CLEAR_UNIT : Fld := ⟨0x60018, 0, 16, .wo, 0, .core⟩
/-- INTEG_CLEAR[23:16], 05_integrity.md. -/
def Fld.INTEG_CLEAR_GUARD : Fld := ⟨0x60018, 16, 8, .wo, 0, .core⟩

/-- INTEG_TRANS[31:0], 05_integrity.md. -/
def Fld.INTEG_TRANS_TRANS (i : Nat) : Fld := ⟨0x60100 + 0x8 * i, 0, 32, .rc, 0, .core⟩

/-- INTEG_FAIL[31:0], 05_integrity.md. -/
def Fld.INTEG_FAIL_FAIL (i : Nat) : Fld := ⟨0x60104 + 0x8 * i, 0, 32, .rc, 0, .core⟩

/-- INTEG_LOG_HEAD[7:0], 05_integrity.md. -/
def Fld.INTEG_LOG_HEAD_NEXT : Fld := ⟨0x60200, 0, 8, .ro, 0, .core⟩
/-- INTEG_LOG_HEAD[31:16], 05_integrity.md. -/
def Fld.INTEG_LOG_HEAD_WRAPS : Fld := ⟨0x60200, 16, 16, .ro, 0, .core⟩

/-- INTEG_LOG_CURSOR[7:0], 05_integrity.md. -/
def Fld.INTEG_LOG_CURSOR_INDEX : Fld := ⟨0x60204, 0, 8, .rw, 0, .core⟩

/-- INTEG_LOG_DATA0[31:0], 05_integrity.md. -/
def Fld.INTEG_LOG_DATA0_OSEQ : Fld := ⟨0x60210, 0, 32, .ro, 0, .core⟩

/-- INTEG_LOG_DATA1[15:0], 05_integrity.md. -/
def Fld.INTEG_LOG_DATA1_UNIT : Fld := ⟨0x60214, 0, 16, .ro, 0, .core⟩
/-- INTEG_LOG_DATA1[23:16], 05_integrity.md. -/
def Fld.INTEG_LOG_DATA1_KIND : Fld := ⟨0x60214, 16, 8, .ro, 0, .core⟩
/-- INTEG_LOG_DATA1[24:24], 05_integrity.md. -/
def Fld.INTEG_LOG_DATA1_CORRECTED : Fld := ⟨0x60214, 24, 1, .ro, 0, .core⟩
/-- INTEG_LOG_DATA1[25:25], 05_integrity.md. -/
def Fld.INTEG_LOG_DATA1_POISONED : Fld := ⟨0x60214, 25, 1, .ro, 0, .core⟩
/-- INTEG_LOG_DATA1[26:26], 05_integrity.md. -/
def Fld.INTEG_LOG_DATA1_INJECTED : Fld := ⟨0x60214, 26, 1, .ro, 0, .core⟩

/-- INTEG_LOG_DATA2[31:0], 05_integrity.md. -/
def Fld.INTEG_LOG_DATA2_CYCLE : Fld := ⟨0x60218, 0, 32, .ro, 0, .core⟩

/-- INTEG_LOG_DATA3[11:0], 05_integrity.md. -/
def Fld.INTEG_LOG_DATA3_TICK : Fld := ⟨0x6021c, 0, 12, .ro, 0, .core⟩

/-- INTEG_INJECT_A[15:0], 05_integrity.md. -/
def Fld.INTEG_INJECT_A_UNIT : Fld := ⟨0x60300, 0, 16, .rw, 0, .core⟩
/-- INTEG_INJECT_A[23:16], 05_integrity.md. -/
def Fld.INTEG_INJECT_A_KIND : Fld := ⟨0x60300, 16, 8, .rw, 0, .core⟩
/-- INTEG_INJECT_A[24:24], 05_integrity.md. -/
def Fld.INTEG_INJECT_A_ARM : Fld := ⟨0x60300, 24, 1, .rw, 0, .core⟩

/-- INTEG_INJECT_B[31:0], 05_integrity.md. -/
def Fld.INTEG_INJECT_B_CHECK : Fld := ⟨0x60304, 0, 32, .rw, 0xffffffff, .core⟩

/-! ### Key store and cipher -/

/-- CIPHER_STATUS[5:0], 16_cipher_and_keys.md. -/
def Fld.CIPHER_STATUS_CLUSTERS : Fld := ⟨0x70000, 0, 6, .ro, 0, .core⟩
/-- CIPHER_STATUS[6:6], 16_cipher_and_keys.md. -/
def Fld.CIPHER_STATUS_SPARE_USED : Fld := ⟨0x70000, 6, 1, .ro, 0, .core⟩
/-- CIPHER_STATUS[9:7], 16_cipher_and_keys.md. -/
def Fld.CIPHER_STATUS_SPARE_FOR : Fld := ⟨0x70000, 7, 3, .ro, 0, .core⟩
/-- CIPHER_STATUS[10:10], 16_cipher_and_keys.md. -/
def Fld.CIPHER_STATUS_KAT_FAIL : Fld := ⟨0x70000, 10, 1, .w1c, 0, .core⟩
/-- CIPHER_STATUS[11:11], 16_cipher_and_keys.md. -/
def Fld.CIPHER_STATUS_ENTROPY_FAIL : Fld := ⟨0x70000, 11, 1, .ro, 0, .core⟩
/-- CIPHER_STATUS[12:12], 16_cipher_and_keys.md. -/
def Fld.CIPHER_STATUS_MASK_DEGRADED : Fld := ⟨0x70000, 12, 1, .ro, 0, .core⟩
/-- CIPHER_STATUS[13:13], 16_cipher_and_keys.md. -/
def Fld.CIPHER_STATUS_USAGE90_SEEN : Fld := ⟨0x70000, 13, 1, .w1c, 0, .core⟩
/-- CIPHER_STATUS[14:14], 16_cipher_and_keys.md. -/
def Fld.CIPHER_STATUS_USAGE100_SEEN : Fld := ⟨0x70000, 14, 1, .w1c, 0, .core⟩
/-- CIPHER_STATUS[15:15], 16_cipher_and_keys.md. -/
def Fld.CIPHER_STATUS_REKEY_ACTIVE : Fld := ⟨0x70000, 15, 1, .ro, 0, .core⟩
/-- CIPHER_STATUS[16:16], 16_cipher_and_keys.md. -/
def Fld.CIPHER_STATUS_LOST_SEEN : Fld := ⟨0x70000, 16, 1, .w1c, 0, .core⟩

/-- KEY_CFG[15:0], 16_cipher_and_keys.md. -/
def Fld.KEY_CFG_REKEY_MBPS : Fld := ⟨0x70004, 0, 16, .rws, 0x7d0, .core⟩

/-- KEY_COUNT[13:0], 16_cipher_and_keys.md. -/
def Fld.KEY_COUNT_USED : Fld := ⟨0x70008, 0, 14, .ro, 0, .core⟩
/-- KEY_COUNT[28:16], 16_cipher_and_keys.md. -/
def Fld.KEY_COUNT_NV_FREE : Fld := ⟨0x70008, 16, 13, .ro, 0, .core⟩

/-- KEY_SEL[12:0], 16_cipher_and_keys.md. -/
def Fld.KEY_SEL_INDEX : Fld := ⟨0x70010, 0, 13, .rw, 0, .core⟩
/-- KEY_SEL[31:31], 16_cipher_and_keys.md. -/
def Fld.KEY_SEL_READY : Fld := ⟨0x70010, 31, 1, .ro, 0, .core⟩

/-- KEY_VIEW0[2:0], 16_cipher_and_keys.md. -/
def Fld.KEY_VIEW0_STATE : Fld := ⟨0x70014, 0, 3, .ro, 0, .core⟩
/-- KEY_VIEW0[5:3], 16_cipher_and_keys.md. -/
def Fld.KEY_VIEW0_KIND : Fld := ⟨0x70014, 3, 3, .ro, 0, .core⟩
/-- KEY_VIEW0[6:6], 16_cipher_and_keys.md. -/
def Fld.KEY_VIEW0_NV : Fld := ⟨0x70014, 6, 1, .ro, 0, .core⟩
/-- KEY_VIEW0[7:7], 16_cipher_and_keys.md. -/
def Fld.KEY_VIEW0_BOUND : Fld := ⟨0x70014, 7, 1, .ro, 0, .core⟩
/-- KEY_VIEW0[14:8], 16_cipher_and_keys.md. -/
def Fld.KEY_VIEW0_AUTO_PCT : Fld := ⟨0x70014, 8, 7, .ro, 0, .core⟩
/-- KEY_VIEW0[31:16], 16_cipher_and_keys.md. -/
def Fld.KEY_VIEW0_OWNER : Fld := ⟨0x70014, 16, 16, .ro, 0, .core⟩

/-- KEY_VIEW1[31:0], 16_cipher_and_keys.md. -/
def Fld.KEY_VIEW1_USAGE_LO : Fld := ⟨0x70018, 0, 32, .ro, 0, .core⟩

/-- KEY_VIEW2[15:0], 16_cipher_and_keys.md. -/
def Fld.KEY_VIEW2_USAGE_HI : Fld := ⟨0x7001c, 0, 16, .ro, 0, .core⟩
/-- KEY_VIEW2[31:16], 16_cipher_and_keys.md. -/
def Fld.KEY_VIEW2_LIMIT_HI : Fld := ⟨0x7001c, 16, 16, .ro, 0, .core⟩

/-- KEY_VIEW3[31:0], 16_cipher_and_keys.md. -/
def Fld.KEY_VIEW3_LIMIT_LO : Fld := ⟨0x70020, 0, 32, .ro, 0, .core⟩

/-- KD_SEL[12:0], 16_cipher_and_keys.md. -/
def Fld.KD_SEL_INDEX : Fld := ⟨0x70030, 0, 13, .rw, 0, .core⟩
/-- KD_SEL[31:31], 16_cipher_and_keys.md. -/
def Fld.KD_SEL_READY : Fld := ⟨0x70030, 31, 1, .ro, 0, .core⟩

/-- KD_VIEW0[2:0], 16_cipher_and_keys.md. -/
def Fld.KD_VIEW0_STATE : Fld := ⟨0x70034, 0, 3, .ro, 0, .core⟩
/-- KD_VIEW0[28:16], 16_cipher_and_keys.md. -/
def Fld.KD_VIEW0_CUR_SLOT : Fld := ⟨0x70034, 16, 13, .ro, 0, .core⟩

/-- KD_VIEW1[31:0], 16_cipher_and_keys.md. -/
def Fld.KD_VIEW1_CUR_EPOCH : Fld := ⟨0x70038, 0, 32, .ro, 0, .core⟩

/-- KD_VIEW2[12:0], 16_cipher_and_keys.md. -/
def Fld.KD_VIEW2_PREV_SLOT : Fld := ⟨0x7003c, 0, 13, .ro, 0, .core⟩
/-- KD_VIEW2[13:13], 16_cipher_and_keys.md. -/
def Fld.KD_VIEW2_PREV_VALID : Fld := ⟨0x7003c, 13, 1, .ro, 0, .core⟩

/-- KD_VIEW3[31:0], 16_cipher_and_keys.md. -/
def Fld.KD_VIEW3_PREV_EPOCH : Fld := ⟨0x70040, 0, 32, .ro, 0, .core⟩

/-- KD_VIEW4[31:0], 16_cipher_and_keys.md. -/
def Fld.KD_VIEW4_LEFT : Fld := ⟨0x70044, 0, 32, .ro, 0, .core⟩

/-- KD_VIEW5[20:0], 16_cipher_and_keys.md. -/
def Fld.KD_VIEW5_EXTENTS : Fld := ⟨0x70048, 0, 21, .ro, 0, .core⟩

/-- ENTROPY_STATUS[0:0], 16_cipher_and_keys.md. -/
def Fld.ENTROPY_STATUS_HEALTHY : Fld := ⟨0x70050, 0, 1, .ro, 0, .core⟩
/-- ENTROPY_STATUS[1:1], 16_cipher_and_keys.md. -/
def Fld.ENTROPY_STATUS_RCT_FAIL : Fld := ⟨0x70050, 1, 1, .w1c, 0, .core⟩
/-- ENTROPY_STATUS[2:2], 16_cipher_and_keys.md. -/
def Fld.ENTROPY_STATUS_APT_FAIL : Fld := ⟨0x70050, 2, 1, .w1c, 0, .core⟩

/-- ENTROPY_RESEEDS[31:0], 16_cipher_and_keys.md. -/
def Fld.ENTROPY_RESEEDS_RESEEDS : Fld := ⟨0x70054, 0, 32, .rc, 0, .core⟩

/-- KEY_ENC_REFUSED[31:0], 16_cipher_and_keys.md. -/
def Fld.KEY_ENC_REFUSED_REFUSED : Fld := ⟨0x70060, 0, 32, .rc, 0, .core⟩

/-- KEY_UNWRAP_FAIL[31:0], 16_cipher_and_keys.md. -/
def Fld.KEY_UNWRAP_FAIL_UNWRAP : Fld := ⟨0x70064, 0, 32, .rc, 0, .core⟩

/-- KEY_REKEY_FOLIOS[31:0], 16_cipher_and_keys.md. -/
def Fld.KEY_REKEY_FOLIOS_REKEYED : Fld := ⟨0x70068, 0, 32, .rc, 0, .core⟩

/-- KEY_LOADS[31:0], 16_cipher_and_keys.md. -/
def Fld.KEY_LOADS_LOADS : Fld := ⟨0x7006c, 0, 32, .rc, 0, .core⟩

/-- KEY_KAT_RUNS[31:0], 16_cipher_and_keys.md. -/
def Fld.KEY_KAT_RUNS_KATS : Fld := ⟨0x70070, 0, 32, .rc, 0, .core⟩

/-! ### Daybook controller -/

/-- DB_STATUS[3:0], 14_daybook.md. -/
def Fld.DB_STATUS_BANKS : Fld := ⟨0x80000, 0, 4, .ro, 0, .core⟩
/-- DB_STATUS[4:4], 14_daybook.md. -/
def Fld.DB_STATUS_JOURNAL_HIGH : Fld := ⟨0x80000, 4, 1, .ro, 0, .core⟩
/-- DB_STATUS[5:5], 14_daybook.md. -/
def Fld.DB_STATUS_JOURNAL_FULL : Fld := ⟨0x80000, 5, 1, .ro, 0, .core⟩
/-- DB_STATUS[6:6], 14_daybook.md. -/
def Fld.DB_STATUS_GAP : Fld := ⟨0x80000, 6, 1, .w1c, 0, .core⟩
/-- DB_STATUS[7:7], 14_daybook.md. -/
def Fld.DB_STATUS_UNRECOVERABLE : Fld := ⟨0x80000, 7, 1, .w1c, 0, .core⟩
/-- DB_STATUS[8:8], 14_daybook.md. -/
def Fld.DB_STATUS_REMAP_SEEN : Fld := ⟨0x80000, 8, 1, .w1c, 0, .core⟩
/-- DB_STATUS[9:9], 14_daybook.md. -/
def Fld.DB_STATUS_SPARES_OUT : Fld := ⟨0x80000, 9, 1, .w1c, 0, .core⟩
/-- DB_STATUS[10:10], 14_daybook.md. -/
def Fld.DB_STATUS_UNSEALED : Fld := ⟨0x80000, 10, 1, .w1c, 0, .core⟩
/-- DB_STATUS[12:11], 14_daybook.md. -/
def Fld.DB_STATUS_SEAL_STATE : Fld := ⟨0x80000, 11, 2, .ro, 0, .core⟩

/-- DB_CFG[7:0], 14_daybook.md. -/
def Fld.DB_CFG_ROW_CE_LIMIT : Fld := ⟨0x80004, 0, 8, .rws, 0x10, .core⟩
/-- DB_CFG[15:8], 14_daybook.md. -/
def Fld.DB_CFG_SCRUB_HOURS : Fld := ⟨0x80004, 8, 8, .rws, 0x18, .core⟩

/-- DB_BANK_SEL[1:0], 14_daybook.md. -/
def Fld.DB_BANK_SEL_BANK : Fld := ⟨0x80008, 0, 2, .rw, 0, .core⟩

/-- DB_BANK_VIEW[10:0], 14_daybook.md. -/
def Fld.DB_BANK_VIEW_SPARES_LEFT : Fld := ⟨0x8000c, 0, 11, .ro, 0x400, .core⟩
/-- DB_BANK_VIEW[11:11], 14_daybook.md. -/
def Fld.DB_BANK_VIEW_RETIRED : Fld := ⟨0x8000c, 11, 1, .ro, 0, .core⟩

/-- DB_JOURNAL_FILL[22:0], 14_daybook.md. -/
def Fld.DB_JOURNAL_FILL_RETAINED : Fld := ⟨0x80010, 0, 23, .ro, 0, .core⟩

/-- DB_GSEQ_LO[31:0], 14_daybook.md. -/
def Fld.DB_GSEQ_LO_GSEQ_LO : Fld := ⟨0x80014, 0, 32, .ro, 0, .core⟩

/-- DB_GSEQ_HI[15:0], 14_daybook.md. -/
def Fld.DB_GSEQ_HI_GSEQ_HI : Fld := ⟨0x80018, 0, 16, .ro, 0, .core⟩

/-- DB_TAIL[6:0], 14_daybook.md. -/
def Fld.DB_TAIL_TAIL : Fld := ⟨0x8001c, 0, 7, .ro, 0, .core⟩

/-- DB_CE[31:0], 14_daybook.md. -/
def Fld.DB_CE_CE : Fld := ⟨0x80020, 0, 32, .rc, 0, .core⟩

/-- DB_UE[31:0], 14_daybook.md. -/
def Fld.DB_UE_UE : Fld := ⟨0x80024, 0, 32, .rc, 0, .core⟩

/-- DB_REBUILT[31:0], 14_daybook.md. -/
def Fld.DB_REBUILT_REBUILT : Fld := ⟨0x80028, 0, 32, .rc, 0, .core⟩

/-- DB_REMAPS[31:0], 14_daybook.md. -/
def Fld.DB_REMAPS_REMAPS : Fld := ⟨0x8002c, 0, 32, .rc, 0, .core⟩

/-- DB_JOURNAL_WAITS[31:0], 14_daybook.md. -/
def Fld.DB_JOURNAL_WAITS_WAITS : Fld := ⟨0x80030, 0, 32, .rc, 0, .core⟩

/-- DB_SCRUBBED[31:0], 14_daybook.md. -/
def Fld.DB_SCRUBBED_SCRUBBED : Fld := ⟨0x80034, 0, 32, .rc, 0, .core⟩

/-- DB_ERR_INFO[0:0], 14_daybook.md. -/
def Fld.DB_ERR_INFO_VALID : Fld := ⟨0x80040, 0, 1, .w1c, 0, .core⟩
/-- DB_ERR_INFO[1:1], 14_daybook.md. -/
def Fld.DB_ERR_INFO_UE : Fld := ⟨0x80040, 1, 1, .ro, 0, .core⟩
/-- DB_ERR_INFO[3:2], 14_daybook.md. -/
def Fld.DB_ERR_INFO_BANK : Fld := ⟨0x80040, 2, 2, .ro, 0, .core⟩
/-- DB_ERR_INFO[18:4], 14_daybook.md. -/
def Fld.DB_ERR_INFO_ROW : Fld := ⟨0x80040, 4, 15, .ro, 0, .core⟩
/-- DB_ERR_INFO[24:19], 14_daybook.md. -/
def Fld.DB_ERR_INFO_GRANULE : Fld := ⟨0x80040, 19, 6, .ro, 0, .core⟩
/-- DB_ERR_INFO[27:25], 14_daybook.md. -/
def Fld.DB_ERR_INFO_BITS : Fld := ⟨0x80040, 25, 3, .ro, 0, .core⟩

/-! ### Twin and Flesal -/

/-- TWIN_CFG[15:0], 15_twin_mirroring.md. -/
def Fld.TWIN_CFG_LOSS_US : Fld := ⟨0x90000, 0, 16, .rws, 0x1f4, .core⟩
/-- TWIN_CFG[23:16], 15_twin_mirroring.md. -/
def Fld.TWIN_CFG_DEFER_MS : Fld := ⟨0x90000, 16, 8, .rws, 0x14, .core⟩
/-- TWIN_CFG[31:24], 15_twin_mirroring.md. -/
def Fld.TWIN_CFG_EGRESS_WARN_DAYS : Fld := ⟨0x90000, 24, 8, .rws, 0x1e, .core⟩

/-- TWIN_LEASE_CFG[15:0], 15_twin_mirroring.md. -/
def Fld.TWIN_LEASE_CFG_LEASE_WAIT_MS : Fld := ⟨0x90004, 0, 16, .rws, 0x7d0, .core⟩
/-- TWIN_LEASE_CFG[28:16], 15_twin_mirroring.md. -/
def Fld.TWIN_LEASE_CFG_WITNESS_SLOT : Fld := ⟨0x90004, 16, 13, .rws, 0, .core⟩

/-- TWIN_KEY_CFG[12:0], 15_twin_mirroring.md. -/
def Fld.TWIN_KEY_CFG_SLOT0 : Fld := ⟨0x90008, 0, 13, .rws, 0, .core⟩
/-- TWIN_KEY_CFG[28:16], 15_twin_mirroring.md. -/
def Fld.TWIN_KEY_CFG_SLOT1 : Fld := ⟨0x90008, 16, 13, .rws, 0, .core⟩

/-- TWIN_RESYNC_CFG[15:0], 15_twin_mirroring.md. -/
def Fld.TWIN_RESYNC_CFG_CATCHUP_GROUPS : Fld := ⟨0x9000c, 0, 16, .rws, 0x1000, .core⟩
/-- TWIN_RESYNC_CFG[23:16], 15_twin_mirroring.md. -/
def Fld.TWIN_RESYNC_CFG_MAX_PASSES : Fld := ⟨0x9000c, 16, 8, .rws, 0x10, .core⟩

/-- TWIN_STATUS[0:0], 15_twin_mirroring.md. -/
def Fld.TWIN_STATUS_LINK_UP : Fld := ⟨0x90010, 0, 1, .ro, 0, .core⟩
/-- TWIN_STATUS[1:1], 15_twin_mirroring.md. -/
def Fld.TWIN_STATUS_PAIRED : Fld := ⟨0x90010, 1, 1, .ro, 0, .core⟩
/-- TWIN_STATUS[2:2], 15_twin_mirroring.md. -/
def Fld.TWIN_STATUS_FENCED : Fld := ⟨0x90010, 2, 1, .ro, 0, .core⟩
/-- TWIN_STATUS[3:3], 15_twin_mirroring.md. -/
def Fld.TWIN_STATUS_HOLDING : Fld := ⟨0x90010, 3, 1, .ro, 0, .core⟩
/-- TWIN_STATUS[7:4], 15_twin_mirroring.md. -/
def Fld.TWIN_STATUS_PARTNER_MODE : Fld := ⟨0x90010, 4, 4, .ro, 0xf, .core⟩
/-- TWIN_STATUS[11:8], 15_twin_mirroring.md. -/
def Fld.TWIN_STATUS_LANES_UP : Fld := ⟨0x90010, 8, 4, .ro, 0, .core⟩
/-- TWIN_STATUS[12:12], 15_twin_mirroring.md. -/
def Fld.TWIN_STATUS_SPARE_IN_USE : Fld := ⟨0x90010, 12, 1, .ro, 0, .core⟩
/-- TWIN_STATUS[13:13], 15_twin_mirroring.md. -/
def Fld.TWIN_STATUS_EGRESS_OLD : Fld := ⟨0x90010, 13, 1, .ro, 0, .core⟩
/-- TWIN_STATUS[14:14], 15_twin_mirroring.md. -/
def Fld.TWIN_STATUS_LINK_LOST_SEEN : Fld := ⟨0x90010, 14, 1, .w1c, 0, .core⟩
/-- TWIN_STATUS[15:15], 15_twin_mirroring.md. -/
def Fld.TWIN_STATUS_MISMATCH_SEEN : Fld := ⟨0x90010, 15, 1, .w1c, 0, .core⟩
/-- TWIN_STATUS[16:16], 15_twin_mirroring.md. -/
def Fld.TWIN_STATUS_DIVERGED_SEEN : Fld := ⟨0x90010, 16, 1, .w1c, 0, .core⟩
/-- TWIN_STATUS[17:17], 15_twin_mirroring.md. -/
def Fld.TWIN_STATUS_TAKEOVER_SEEN : Fld := ⟨0x90010, 17, 1, .w1c, 0, .core⟩
/-- TWIN_STATUS[18:18], 15_twin_mirroring.md. -/
def Fld.TWIN_STATUS_PROTOCOL_ERR : Fld := ⟨0x90010, 18, 1, .w1c, 0, .core⟩
/-- TWIN_STATUS[19:19], 15_twin_mirroring.md. -/
def Fld.TWIN_STATUS_STRAP_CONFLICT : Fld := ⟨0x90010, 19, 1, .w1c, 0, .core⟩
/-- TWIN_STATUS[20:20], 15_twin_mirroring.md. -/
def Fld.TWIN_STATUS_DIGEST_DIFF : Fld := ⟨0x90010, 20, 1, .w1c, 0, .core⟩

/-- TWIN_TERM[31:0], 15_twin_mirroring.md. -/
def Fld.TWIN_TERM_TERM : Fld := ⟨0x90014, 0, 32, .ro, 0, .core⟩

/-- TWIN_PAIR[31:0], 15_twin_mirroring.md. -/
def Fld.TWIN_PAIR_PAIR : Fld := ⟨0x90018, 0, 32, .ro, 0, .core⟩

/-- TWIN_RTT[15:0], 15_twin_mirroring.md. -/
def Fld.TWIN_RTT_NS : Fld := ⟨0x9001c, 0, 16, .ro, 0, .core⟩
/-- TWIN_RTT[31:16], 15_twin_mirroring.md. -/
def Fld.TWIN_RTT_MAX_NS : Fld := ⟨0x9001c, 16, 16, .rc, 0, .core⟩

/-- TWIN_ONUM_LO[31:0], 15_twin_mirroring.md. -/
def Fld.TWIN_ONUM_LO_ONUM : Fld := ⟨0x90020, 0, 32, .ro, 0, .core⟩

/-- TWIN_REPORTED_LO[31:0], 15_twin_mirroring.md. -/
def Fld.TWIN_REPORTED_LO_REPORTED : Fld := ⟨0x90028, 0, 32, .ro, 0, .core⟩

/-- TWIN_OSEQ_LO[31:0], 15_twin_mirroring.md. -/
def Fld.TWIN_OSEQ_LO_OSEQ : Fld := ⟨0x90030, 0, 32, .ro, 0, .core⟩

/-- TWIN_WINDOW[31:0], 15_twin_mirroring.md. -/
def Fld.TWIN_WINDOW_WINDOW : Fld := ⟨0x90038, 0, 32, .ro, 0, .core⟩

/-- TWIN_RESYNC[2:0], 15_twin_mirroring.md. -/
def Fld.TWIN_RESYNC_PHASE : Fld := ⟨0x90040, 0, 3, .ro, 0, .core⟩
/-- TWIN_RESYNC[3:3], 15_twin_mirroring.md. -/
def Fld.TWIN_RESYNC_FULL : Fld := ⟨0x90040, 3, 1, .ro, 0, .core⟩
/-- TWIN_RESYNC[11:4], 15_twin_mirroring.md. -/
def Fld.TWIN_RESYNC_PASS : Fld := ⟨0x90040, 4, 8, .ro, 0, .core⟩

/-- TWIN_RESYNC_LEFT[25:0], 15_twin_mirroring.md. -/
def Fld.TWIN_RESYNC_LEFT_GROUPS : Fld := ⟨0x90044, 0, 26, .ro, 0, .core⟩

/-- TWIN_TAKEOVER_LO[31:0], 15_twin_mirroring.md. -/
def Fld.TWIN_TAKEOVER_LO_TAKEOVER : Fld := ⟨0x90048, 0, 32, .ro, 0, .core⟩

/-- TWIN_ONUM_HI[31:0], 15_twin_mirroring.md. -/
def Fld.TWIN_ONUM_HI_ONUM : Fld := ⟨0x90024, 0, 32, .ro, 0, .core⟩

/-- TWIN_REPORTED_HI[31:0], 15_twin_mirroring.md. -/
def Fld.TWIN_REPORTED_HI_REPORTED : Fld := ⟨0x9002c, 0, 32, .ro, 0, .core⟩

/-- TWIN_OSEQ_HI[31:0], 15_twin_mirroring.md. -/
def Fld.TWIN_OSEQ_HI_OSEQ : Fld := ⟨0x90034, 0, 32, .ro, 0, .core⟩

/-- TWIN_TAKEOVER_HI[31:0], 15_twin_mirroring.md. -/
def Fld.TWIN_TAKEOVER_HI_TAKEOVER : Fld := ⟨0x9004c, 0, 32, .ro, 0, .core⟩

/-- TWIN_EGRESS[31:0], 15_twin_mirroring.md. -/
def Fld.TWIN_EGRESS_HOURS : Fld := ⟨0x9003c, 0, 32, .ro, 0, .persist⟩

/-- TWIN_LEASE_REQ[31:0], 15_twin_mirroring.md. -/
def Fld.TWIN_LEASE_REQ_REQ (i : Nat) : Fld := ⟨0x90100 + 0x4 * i, 0, 32, .ro, 0, .core⟩

/-- TWIN_LEASE_GRANT[31:0], 15_twin_mirroring.md. -/
def Fld.TWIN_LEASE_GRANT_GRANT (i : Nat) : Fld := ⟨0x90140 + 0x4 * i, 0, 32, .rw, 0, .core⟩

/-- TWIN_LEASE_CTRL[0:0], 15_twin_mirroring.md. -/
def Fld.TWIN_LEASE_CTRL_SUBMIT : Fld := ⟨0x90180, 0, 1, .wo, 0, .core⟩
/-- TWIN_LEASE_CTRL[1:1], 15_twin_mirroring.md. -/
def Fld.TWIN_LEASE_CTRL_DENY : Fld := ⟨0x90180, 1, 1, .wo, 0, .core⟩
/-- TWIN_LEASE_CTRL[15:8], 15_twin_mirroring.md. -/
def Fld.TWIN_LEASE_CTRL_GUARD : Fld := ⟨0x90180, 8, 8, .wo, 0, .core⟩

/-- TWIN_LEASE_STATUS[0:0], 15_twin_mirroring.md. -/
def Fld.TWIN_LEASE_STATUS_PENDING : Fld := ⟨0x90184, 0, 1, .ro, 0, .core⟩
/-- TWIN_LEASE_STATUS[1:1], 15_twin_mirroring.md. -/
def Fld.TWIN_LEASE_STATUS_GRANTED : Fld := ⟨0x90184, 1, 1, .w1c, 0, .core⟩
/-- TWIN_LEASE_STATUS[2:2], 15_twin_mirroring.md. -/
def Fld.TWIN_LEASE_STATUS_DENIED : Fld := ⟨0x90184, 2, 1, .w1c, 0, .core⟩
/-- TWIN_LEASE_STATUS[3:3], 15_twin_mirroring.md. -/
def Fld.TWIN_LEASE_STATUS_REJECTED : Fld := ⟨0x90184, 3, 1, .w1c, 0, .core⟩
/-- TWIN_LEASE_STATUS[4:4], 15_twin_mirroring.md. -/
def Fld.TWIN_LEASE_STATUS_EXPIRED : Fld := ⟨0x90184, 4, 1, .w1c, 0, .core⟩
/-- TWIN_LEASE_STATUS[5:5], 15_twin_mirroring.md. -/
def Fld.TWIN_LEASE_STATUS_WITHDRAWN : Fld := ⟨0x90184, 5, 1, .w1c, 0, .core⟩
/-- TWIN_LEASE_STATUS[11:8], 15_twin_mirroring.md. -/
def Fld.TWIN_LEASE_STATUS_REASON : Fld := ⟨0x90184, 8, 4, .ro, 0, .core⟩

/-- TWIN_MB_OUT[31:0], 15_twin_mirroring.md. -/
def Fld.TWIN_MB_OUT_WORD (i : Nat) : Fld := ⟨0x90200 + 0x4 * i, 0, 32, .rw, 0, .core⟩

/-- TWIN_MB_IN[31:0], 15_twin_mirroring.md. -/
def Fld.TWIN_MB_IN_WORD (i : Nat) : Fld := ⟨0x90220 + 0x4 * i, 0, 32, .rc, 0, .core⟩

/-- TWIN_MB_FLAGS[7:0], 15_twin_mirroring.md. -/
def Fld.TWIN_MB_FLAGS_OUT_FULL : Fld := ⟨0x90240, 0, 8, .ro, 0, .core⟩
/-- TWIN_MB_FLAGS[15:8], 15_twin_mirroring.md. -/
def Fld.TWIN_MB_FLAGS_IN_FULL : Fld := ⟨0x90240, 8, 8, .ro, 0, .core⟩
/-- TWIN_MB_FLAGS[23:16], 15_twin_mirroring.md. -/
def Fld.TWIN_MB_FLAGS_OVERRUN : Fld := ⟨0x90240, 16, 8, .w1c, 0, .core⟩
/-- TWIN_MB_FLAGS[31:24], 15_twin_mirroring.md. -/
def Fld.TWIN_MB_FLAGS_LOST : Fld := ⟨0x90240, 24, 8, .w1c, 0, .core⟩

/-- TWIN_DB_OUT[31:0], 15_twin_mirroring.md. -/
def Fld.TWIN_DB_OUT_RING : Fld := ⟨0x90244, 0, 32, .w1s, 0, .core⟩

/-- TWIN_DB_IN[31:0], 15_twin_mirroring.md. -/
def Fld.TWIN_DB_IN_BITS : Fld := ⟨0x90248, 0, 32, .w1c, 0, .core⟩

/-- TWIN_DB_MASK[31:0], 15_twin_mirroring.md. -/
def Fld.TWIN_DB_MASK_MASK : Fld := ⟨0x9024c, 0, 32, .rw, 0xffffffff, .core⟩

/-- TWIN_ITEMS[31:0], 15_twin_mirroring.md. -/
def Fld.TWIN_ITEMS_ITEMS : Fld := ⟨0x90300, 0, 32, .rc, 0, .core⟩

/-- TWIN_LINK_RETRIES[31:0], 15_twin_mirroring.md. -/
def Fld.TWIN_LINK_RETRIES_RETRIES : Fld := ⟨0x90304, 0, 32, .rc, 0, .core⟩

/-- TWIN_TAG_FAILS[31:0], 15_twin_mirroring.md. -/
def Fld.TWIN_TAG_FAILS_TAG_FAILS : Fld := ⟨0x90308, 0, 32, .rc, 0, .core⟩

/-- TWIN_WINDOWS[31:0], 15_twin_mirroring.md. -/
def Fld.TWIN_WINDOWS_WINDOWS : Fld := ⟨0x9030c, 0, 32, .rc, 0, .core⟩

/-- TWIN_MISMATCHES[31:0], 15_twin_mirroring.md. -/
def Fld.TWIN_MISMATCHES_MISMATCHES : Fld := ⟨0x90310, 0, 32, .rc, 0, .core⟩

/-- TWIN_HELD_RESPONSES[31:0], 15_twin_mirroring.md. -/
def Fld.TWIN_HELD_RESPONSES_HELD : Fld := ⟨0x90314, 0, 32, .rc, 0, .core⟩

/-! ### Tier manager, line cache and galley -/

/-- TIER_STATUS[1:0], 09_tiers_and_migration.md. -/
def Fld.TIER_STATUS_THROTTLE : Fld := ⟨0xa0000, 0, 2, .ro, 0, .core⟩
/-- TIER_STATUS[2:2], 09_tiers_and_migration.md. -/
def Fld.TIER_STATUS_MAP_WARM : Fld := ⟨0xa0000, 2, 1, .ro, 0, .core⟩
/-- TIER_STATUS[3:3], 09_tiers_and_migration.md. -/
def Fld.TIER_STATUS_HOLDUP_SHORT : Fld := ⟨0xa0000, 3, 1, .ro, 0, .core⟩
/-- TIER_STATUS[4:4], 09_tiers_and_migration.md. -/
def Fld.TIER_STATUS_OVER_BUDGET : Fld := ⟨0xa0000, 4, 1, .ro, 0, .core⟩
/-- TIER_STATUS[5:5], 09_tiers_and_migration.md. -/
def Fld.TIER_STATUS_PAIR_BUDGET : Fld := ⟨0xa0000, 5, 1, .ro, 0, .core⟩
/-- TIER_STATUS[7:6], 09_tiers_and_migration.md. -/
def Fld.TIER_STATUS_LIMIT : Fld := ⟨0xa0000, 6, 2, .ro, 0, .core⟩
/-- TIER_STATUS[8:8], 09_tiers_and_migration.md. -/
def Fld.TIER_STATUS_BUDGET_CHANGED : Fld := ⟨0xa0000, 8, 1, .w1c, 0, .core⟩
/-- TIER_STATUS[9:9], 09_tiers_and_migration.md. -/
def Fld.TIER_STATUS_THROTTLE_SEEN : Fld := ⟨0xa0000, 9, 1, .w1c, 0, .core⟩
/-- TIER_STATUS[10:10], 09_tiers_and_migration.md. -/
def Fld.TIER_STATUS_MOVE_FAILED : Fld := ⟨0xa0000, 10, 1, .w1c, 0, .core⟩
/-- TIER_STATUS[11:11], 09_tiers_and_migration.md. -/
def Fld.TIER_STATUS_FOLIO_LOST : Fld := ⟨0xa0000, 11, 1, .w1c, 0, .core⟩

/-- TIER_DIRTY_LO[31:0], 09_tiers_and_migration.md. -/
def Fld.TIER_DIRTY_LO_FOLIOS : Fld := ⟨0xa0008, 0, 32, .ro, 0, .core⟩

/-- TIER_DIRTY_HI[2:0], 09_tiers_and_migration.md. -/
def Fld.TIER_DIRTY_HI_FOLIOS : Fld := ⟨0xa000c, 0, 3, .ro, 0, .core⟩

/-- TIER_BUDGET_LO[31:0], 09_tiers_and_migration.md. -/
def Fld.TIER_BUDGET_LO_FOLIOS : Fld := ⟨0xa0010, 0, 32, .ro, 0, .core⟩

/-- TIER_BUDGET_HI[2:0], 09_tiers_and_migration.md. -/
def Fld.TIER_BUDGET_HI_FOLIOS : Fld := ⟨0xa0014, 0, 3, .ro, 0, .core⟩

/-- TIER_ENERGY[31:0], 09_tiers_and_migration.md. -/
def Fld.TIER_ENERGY_JOULES : Fld := ⟨0xa0018, 0, 32, .ro, 0, .core⟩

/-- TIER_RSAVE[19:0], 09_tiers_and_migration.md. -/
def Fld.TIER_RSAVE_MBPS : Fld := ⟨0xa001c, 0, 20, .ro, 0, .core⟩

/-- TIER_VIGIL_CAP_LO[31:0], 09_tiers_and_migration.md. -/
def Fld.TIER_VIGIL_CAP_LO_FOLIOS : Fld := ⟨0xa0020, 0, 32, .ro, 0, .core⟩

/-- TIER_VIGIL_CAP_HI[2:0], 09_tiers_and_migration.md. -/
def Fld.TIER_VIGIL_CAP_HI_FOLIOS : Fld := ⟨0xa0024, 0, 3, .ro, 0, .core⟩

/-- TIER_STAGE[20:0], 09_tiers_and_migration.md. -/
def Fld.TIER_STAGE_USED : Fld := ⟨0xa0028, 0, 21, .ro, 0, .core⟩

/-- TIER_EVB[19:0], 09_tiers_and_migration.md. -/
def Fld.TIER_EVB_USED : Fld := ⟨0xa002c, 0, 20, .ro, 0, .core⟩

/-- TIER_LATCH[16:0], 09_tiers_and_migration.md. -/
def Fld.TIER_LATCH_USED : Fld := ⟨0xa0030, 0, 17, .ro, 0, .core⟩

/-- TIER_MAP_LOAD[25:0], 09_tiers_and_migration.md. -/
def Fld.TIER_MAP_LOAD_PAGES : Fld := ⟨0xa0034, 0, 26, .ro, 0, .core⟩

/-- TIER_SEASON[31:0], 09_tiers_and_migration.md. -/
def Fld.TIER_SEASON_SEASON : Fld := ⟨0xa0038, 0, 32, .ro, 0, .core⟩

/-- TIER_PROMOTIONS[31:0], 09_tiers_and_migration.md. -/
def Fld.TIER_PROMOTIONS_PROMOTIONS : Fld := ⟨0xa0040, 0, 32, .rc, 0, .core⟩

/-- TIER_DEMOTIONS[31:0], 09_tiers_and_migration.md. -/
def Fld.TIER_DEMOTIONS_DEMOTIONS : Fld := ⟨0xa0044, 0, 32, .rc, 0, .core⟩

/-- TIER_DESTAGES[31:0], 09_tiers_and_migration.md. -/
def Fld.TIER_DESTAGES_DESTAGES : Fld := ⟨0xa0048, 0, 32, .rc, 0, .core⟩

/-- TIER_STAGES[31:0], 09_tiers_and_migration.md. -/
def Fld.TIER_STAGES_STAGES : Fld := ⟨0xa004c, 0, 32, .rc, 0, .core⟩

/-- TIER_CANCELS[31:0], 09_tiers_and_migration.md. -/
def Fld.TIER_CANCELS_CANCELS : Fld := ⟨0xa0050, 0, 32, .rc, 0, .core⟩

/-- TIER_DROPS[31:0], 09_tiers_and_migration.md. -/
def Fld.TIER_DROPS_DROPS : Fld := ⟨0xa0054, 0, 32, .rc, 0, .core⟩

/-- TIER_MOVE_FAILS[31:0], 09_tiers_and_migration.md. -/
def Fld.TIER_MOVE_FAILS_FAILS : Fld := ⟨0xa0058, 0, 32, .rc, 0, .core⟩

/-- TIER_THROTTLE_CYCLES[31:0], 09_tiers_and_migration.md. -/
def Fld.TIER_THROTTLE_CYCLES_CYCLES : Fld := ⟨0xa005c, 0, 32, .rc, 0, .core⟩

/-- TIER_FOLIO_SEL_LO[31:0], 09_tiers_and_migration.md. -/
def Fld.TIER_FOLIO_SEL_LO_INDEX_LO : Fld := ⟨0xa0100, 0, 32, .rw, 0, .core⟩

/-- TIER_FOLIO_SEL_HI[1:0], 09_tiers_and_migration.md. -/
def Fld.TIER_FOLIO_SEL_HI_INDEX_HI : Fld := ⟨0xa0104, 0, 2, .rw, 0, .core⟩
/-- TIER_FOLIO_SEL_HI[2:2], 09_tiers_and_migration.md. -/
def Fld.TIER_FOLIO_SEL_HI_META : Fld := ⟨0xa0104, 2, 1, .rw, 0, .core⟩
/-- TIER_FOLIO_SEL_HI[31:31], 09_tiers_and_migration.md. -/
def Fld.TIER_FOLIO_SEL_HI_READY : Fld := ⟨0xa0104, 31, 1, .ro, 0, .core⟩

/-- TIER_FOLIO_VIEW0[31:0], 09_tiers_and_migration.md. -/
def Fld.TIER_FOLIO_VIEW0_ENTRY_LO : Fld := ⟨0xa0110, 0, 32, .ro, 0, .core⟩

/-- TIER_FOLIO_VIEW1[31:0], 09_tiers_and_migration.md. -/
def Fld.TIER_FOLIO_VIEW1_ENTRY_HI : Fld := ⟨0xa0114, 0, 32, .ro, 0, .core⟩

/-- TIER_FOLIO_VIEW2[15:0], 09_tiers_and_migration.md. -/
def Fld.TIER_FOLIO_VIEW2_HEAT : Fld := ⟨0xa0118, 0, 16, .ro, 0, .core⟩
/-- TIER_FOLIO_VIEW2[18:16], 09_tiers_and_migration.md. -/
def Fld.TIER_FOLIO_VIEW2_LATCH : Fld := ⟨0xa0118, 16, 3, .ro, 0, .core⟩
/-- TIER_FOLIO_VIEW2[19:19], 09_tiers_and_migration.md. -/
def Fld.TIER_FOLIO_VIEW2_REDIRTY : Fld := ⟨0xa0118, 19, 1, .ro, 0, .core⟩
/-- TIER_FOLIO_VIEW2[20:20], 09_tiers_and_migration.md. -/
def Fld.TIER_FOLIO_VIEW2_MAP_COLD : Fld := ⟨0xa0118, 20, 1, .ro, 0, .core⟩

/-- TIER_FOLIO_VIEW3[28:0], 09_tiers_and_migration.md. -/
def Fld.TIER_FOLIO_VIEW3_WSEQ : Fld := ⟨0xa011c, 0, 29, .ro, 0, .core⟩

/-- LC_STATUS[31:0], 10_line_cache_and_galley.md. -/
def Fld.LC_STATUS_BANKS : Fld := ⟨0xa1000, 0, 32, .ro, 0, .core⟩

/-- LC_CTRL[0:0], 10_line_cache_and_galley.md. -/
def Fld.LC_CTRL_INVALIDATE : Fld := ⟨0xa1004, 0, 1, .wo, 0, .core⟩
/-- LC_CTRL[15:8], 10_line_cache_and_galley.md. -/
def Fld.LC_CTRL_GUARD : Fld := ⟨0xa1004, 8, 8, .wo, 0, .core⟩

/-- LC_SPARE_LO[31:0], 10_line_cache_and_galley.md. -/
def Fld.LC_SPARE_LO_GROUPS : Fld := ⟨0xa1008, 0, 32, .ro, 0, .core⟩

/-- LC_SPARE_HI[31:0], 10_line_cache_and_galley.md. -/
def Fld.LC_SPARE_HI_GROUPS : Fld := ⟨0xa100c, 0, 32, .ro, 0, .core⟩

/-- LC_LFSR_SEL[4:0], 10_line_cache_and_galley.md. -/
def Fld.LC_LFSR_SEL_BANK : Fld := ⟨0xa1010, 0, 5, .rw, 0, .core⟩

/-- LC_LFSR[31:0], 10_line_cache_and_galley.md. -/
def Fld.LC_LFSR_VALUE : Fld := ⟨0xa1014, 0, 32, .ro, 0, .core⟩

/-- LC_READ_HITS[31:0], 10_line_cache_and_galley.md. -/
def Fld.LC_READ_HITS_HITS : Fld := ⟨0xa1020, 0, 32, .rc, 0, .core⟩

/-- LC_READ_MISSES[31:0], 10_line_cache_and_galley.md. -/
def Fld.LC_READ_MISSES_MISSES : Fld := ⟨0xa1024, 0, 32, .rc, 0, .core⟩

/-- LC_WRITE_HITS[31:0], 10_line_cache_and_galley.md. -/
def Fld.LC_WRITE_HITS_WRITE_HITS : Fld := ⟨0xa1028, 0, 32, .rc, 0, .core⟩

/-- LC_FILLS[31:0], 10_line_cache_and_galley.md. -/
def Fld.LC_FILLS_FILLS : Fld := ⟨0xa102c, 0, 32, .rc, 0, .core⟩

/-- LC_FILL_STALE[31:0], 10_line_cache_and_galley.md. -/
def Fld.LC_FILL_STALE_STALE : Fld := ⟨0xa1030, 0, 32, .rc, 0, .core⟩

/-- LC_INVALIDATES[31:0], 10_line_cache_and_galley.md. -/
def Fld.LC_INVALIDATES_INVALIDATES : Fld := ⟨0xa1034, 0, 32, .rc, 0, .core⟩

/-- GALLEY_CFG[7:0], 10_line_cache_and_galley.md. -/
def Fld.GALLEY_CFG_DRAIN_AGE : Fld := ⟨0xa2000, 0, 8, .rws, 8, .core⟩
/-- GALLEY_CFG[17:8], 10_line_cache_and_galley.md. -/
def Fld.GALLEY_CFG_C0_RESERVE : Fld := ⟨0xa2000, 8, 10, .rws, 0x100, .core⟩
/-- GALLEY_CFG[24:18], 10_line_cache_and_galley.md. -/
def Fld.GALLEY_CFG_HIGH_PCT : Fld := ⟨0xa2000, 18, 7, .rws, 0x4b, .core⟩

/-- GALLEY_STATUS[17:0], 10_line_cache_and_galley.md. -/
def Fld.GALLEY_STATUS_OCC : Fld := ⟨0xa2004, 0, 18, .ro, 0, .core⟩
/-- GALLEY_STATUS[18:18], 10_line_cache_and_galley.md. -/
def Fld.GALLEY_STATUS_WAIT_SEEN : Fld := ⟨0xa2004, 18, 1, .w1c, 0, .core⟩
/-- GALLEY_STATUS[19:19], 10_line_cache_and_galley.md. -/
def Fld.GALLEY_STATUS_EVACUATED : Fld := ⟨0xa2004, 19, 1, .w1c, 0, .core⟩

/-- GALLEY_BANKS[15:0], 10_line_cache_and_galley.md. -/
def Fld.GALLEY_BANKS_IN_SERVICE : Fld := ⟨0xa2008, 0, 16, .ro, 0, .core⟩

/-- GALLEY_BANK_SEL[3:0], 10_line_cache_and_galley.md. -/
def Fld.GALLEY_BANK_SEL_BANK : Fld := ⟨0xa200c, 0, 4, .rw, 0, .core⟩

/-- GALLEY_BANK_OCC[13:0], 10_line_cache_and_galley.md. -/
def Fld.GALLEY_BANK_OCC_OCC : Fld := ⟨0xa2010, 0, 14, .ro, 0, .core⟩

/-- GALLEY_BANK_PEAK[13:0], 10_line_cache_and_galley.md. -/
def Fld.GALLEY_BANK_PEAK_PEAK : Fld := ⟨0xa2014, 0, 14, .rc, 0, .core⟩

/-- GALLEY_MERGES[31:0], 10_line_cache_and_galley.md. -/
def Fld.GALLEY_MERGES_MERGES : Fld := ⟨0xa2020, 0, 32, .rc, 0, .core⟩

/-- GALLEY_ALLOCS[31:0], 10_line_cache_and_galley.md. -/
def Fld.GALLEY_ALLOCS_ALLOCS : Fld := ⟨0xa2024, 0, 32, .rc, 0, .core⟩

/-- GALLEY_DRAINS[31:0], 10_line_cache_and_galley.md. -/
def Fld.GALLEY_DRAINS_DRAINS : Fld := ⟨0xa2028, 0, 32, .rc, 0, .core⟩

/-- GALLEY_REDRAINS[31:0], 10_line_cache_and_galley.md. -/
def Fld.GALLEY_REDRAINS_REDRAINS : Fld := ⟨0xa202c, 0, 32, .rc, 0, .core⟩

/-- GALLEY_WAITS[31:0], 10_line_cache_and_galley.md. -/
def Fld.GALLEY_WAITS_WAITS : Fld := ⟨0xa2030, 0, 32, .rc, 0, .core⟩

/-- GALLEY_OVERLAYS[31:0], 10_line_cache_and_galley.md. -/
def Fld.GALLEY_OVERLAYS_OVERLAYS : Fld := ⟨0xa2034, 0, 32, .rc, 0, .core⟩

/-! ### `DDRC[n]` (n = 0 to 7) and `HBMC[n]` (as n = 8 to 23) -/

/-- MEM_CFG[3:0], 11_dram_controller.md. -/
def Fld.MEM_CFG_GEN (n : Nat) : Fld := ⟨memBase n + 0x0, 0, 4, .ro, 0, .core⟩
/-- MEM_CFG[4:4], 11_dram_controller.md. -/
def Fld.MEM_CFG_ENABLED (n : Nat) : Fld := ⟨memBase n + 0x0, 4, 1, .ro, 0, .core⟩
/-- MEM_CFG[5:5], 11_dram_controller.md. -/
def Fld.MEM_CFG_IN_INTERLEAVE (n : Nat) : Fld := ⟨memBase n + 0x0, 5, 1, .ro, 0, .core⟩
/-- MEM_CFG[9:6], 11_dram_controller.md. -/
def Fld.MEM_CFG_SLOT (n : Nat) : Fld := ⟨memBase n + 0x0, 6, 4, .ro, 0, .core⟩
/-- MEM_CFG[11:10], 11_dram_controller.md. -/
def Fld.MEM_CFG_DPC (n : Nat) : Fld := ⟨memBase n + 0x0, 10, 2, .ro, 0, .core⟩
/-- MEM_CFG[31:16], 11_dram_controller.md. -/
def Fld.MEM_CFG_MT_S (n : Nat) : Fld := ⟨memBase n + 0x0, 16, 16, .ro, 0, .core⟩

/-- MEM_STATUS[0:0], 11_dram_controller.md. -/
def Fld.MEM_STATUS_TRAINED (n : Nat) : Fld := ⟨memBase n + 0x4, 0, 1, .ro, 0, .core⟩
/-- MEM_STATUS[1:1], 11_dram_controller.md. -/
def Fld.MEM_STATUS_RETIRED (n : Nat) : Fld := ⟨memBase n + 0x4, 1, 1, .ro, 0, .core⟩
/-- MEM_STATUS[2:2], 11_dram_controller.md. -/
def Fld.MEM_STATUS_GATED (n : Nat) : Fld := ⟨memBase n + 0x4, 2, 1, .ro, 0, .core⟩
/-- MEM_STATUS[3:3], 11_dram_controller.md. -/
def Fld.MEM_STATUS_REFRESH_SHORT (n : Nat) : Fld := ⟨memBase n + 0x4, 3, 1, .w1c, 0, .core⟩
/-- MEM_STATUS[4:4], 11_dram_controller.md. -/
def Fld.MEM_STATUS_ALERT_SEEN (n : Nat) : Fld := ⟨memBase n + 0x4, 4, 1, .w1c, 0, .core⟩
/-- MEM_STATUS[5:5], 11_dram_controller.md. -/
def Fld.MEM_STATUS_UE_SEEN (n : Nat) : Fld := ⟨memBase n + 0x4, 5, 1, .w1c, 0, .core⟩
/-- MEM_STATUS[6:6], 11_dram_controller.md. -/
def Fld.MEM_STATUS_REPAIR_PENDING (n : Nat) : Fld := ⟨memBase n + 0x4, 6, 1, .ro, 0, .core⟩
/-- MEM_STATUS[11:8], 11_dram_controller.md. -/
def Fld.MEM_STATUS_TRAIN_STEP (n : Nat) : Fld := ⟨memBase n + 0x4, 8, 4, .ro, 0, .core⟩

/-- MEM_TEMP[7:0], 11_dram_controller.md. -/
def Fld.MEM_TEMP_TEMP_MAX (n : Nat) : Fld := ⟨memBase n + 0x8, 0, 8, .ro, 0, .core⟩
/-- MEM_TEMP[15:8], 11_dram_controller.md. -/
def Fld.MEM_TEMP_PEAK (n : Nat) : Fld := ⟨memBase n + 0x8, 8, 8, .rc, 0, .core⟩
/-- MEM_TEMP[23:16], 11_dram_controller.md. -/
def Fld.MEM_TEMP_REF_TEMP (n : Nat) : Fld := ⟨memBase n + 0x8, 16, 8, .ro, 0, .core⟩

/-- MEM_ECC_CTRL[7:0], 11_dram_controller.md. -/
def Fld.MEM_ECC_CTRL_ROW_CE_LIMIT (n : Nat) : Fld := ⟨memBase n + 0xc, 0, 8, .rws, 0x10, .core⟩
/-- MEM_ECC_CTRL[15:8], 11_dram_controller.md. -/
def Fld.MEM_ECC_CTRL_SCRUB_HOURS (n : Nat) : Fld := ⟨memBase n + 0xc, 8, 8, .rws, 0x18, .core⟩

/-- MEM_ERR_INFO[0:0], 11_dram_controller.md. -/
def Fld.MEM_ERR_INFO_VALID (n : Nat) : Fld := ⟨memBase n + 0x10, 0, 1, .w1c, 0, .core⟩
/-- MEM_ERR_INFO[1:1], 11_dram_controller.md. -/
def Fld.MEM_ERR_INFO_UE (n : Nat) : Fld := ⟨memBase n + 0x10, 1, 1, .ro, 0, .core⟩
/-- MEM_ERR_INFO[2:2], 11_dram_controller.md. -/
def Fld.MEM_ERR_INFO_SUB (n : Nat) : Fld := ⟨memBase n + 0x10, 2, 1, .ro, 0, .core⟩
/-- MEM_ERR_INFO[5:3], 11_dram_controller.md. -/
def Fld.MEM_ERR_INFO_RANK (n : Nat) : Fld := ⟨memBase n + 0x10, 3, 3, .ro, 0, .core⟩
/-- MEM_ERR_INFO[8:6], 11_dram_controller.md. -/
def Fld.MEM_ERR_INFO_CID (n : Nat) : Fld := ⟨memBase n + 0x10, 6, 3, .ro, 0, .core⟩
/-- MEM_ERR_INFO[11:9], 11_dram_controller.md. -/
def Fld.MEM_ERR_INFO_BG (n : Nat) : Fld := ⟨memBase n + 0x10, 9, 3, .ro, 0, .core⟩
/-- MEM_ERR_INFO[13:12], 11_dram_controller.md. -/
def Fld.MEM_ERR_INFO_BA (n : Nat) : Fld := ⟨memBase n + 0x10, 12, 2, .ro, 0, .core⟩
/-- MEM_ERR_INFO[21:14], 11_dram_controller.md. -/
def Fld.MEM_ERR_INFO_COL (n : Nat) : Fld := ⟨memBase n + 0x10, 14, 8, .ro, 0, .core⟩

/-- MEM_ERR_ROW[17:0], 11_dram_controller.md. -/
def Fld.MEM_ERR_ROW_ROW (n : Nat) : Fld := ⟨memBase n + 0x14, 0, 18, .ro, 0, .core⟩

/-- MEM_ERR_SYN[5:0], 11_dram_controller.md. -/
def Fld.MEM_ERR_SYN_POSITION (n : Nat) : Fld := ⟨memBase n + 0x18, 0, 6, .ro, 0, .core⟩
/-- MEM_ERR_SYN[6:6], 11_dram_controller.md. -/
def Fld.MEM_ERR_SYN_MULTI (n : Nat) : Fld := ⟨memBase n + 0x18, 6, 1, .ro, 0, .core⟩
/-- MEM_ERR_SYN[31:16], 11_dram_controller.md. -/
def Fld.MEM_ERR_SYN_SYNDROME (n : Nat) : Fld := ⟨memBase n + 0x18, 16, 16, .ro, 0, .core⟩

/-- MEM_CE[31:0], 11_dram_controller.md. -/
def Fld.MEM_CE_CE (n : Nat) : Fld := ⟨memBase n + 0x20, 0, 32, .rc, 0, .core⟩

/-- MEM_UE[31:0], 11_dram_controller.md. -/
def Fld.MEM_UE_UE (n : Nat) : Fld := ⟨memBase n + 0x24, 0, 32, .rc, 0, .core⟩

/-- MEM_POISON[31:0], 11_dram_controller.md. -/
def Fld.MEM_POISON_POISON (n : Nat) : Fld := ⟨memBase n + 0x28, 0, 32, .rc, 0, .core⟩

/-- MEM_ALERTS[31:0], 11_dram_controller.md. -/
def Fld.MEM_ALERTS_ALERTS (n : Nat) : Fld := ⟨memBase n + 0x2c, 0, 32, .rc, 0, .core⟩

/-- MEM_DEFERRED[31:0], 11_dram_controller.md. -/
def Fld.MEM_DEFERRED_DEFERRED (n : Nat) : Fld := ⟨memBase n + 0x30, 0, 32, .rc, 0, .core⟩

/-- MEM_REF_POSTPONED[31:0], 11_dram_controller.md. -/
def Fld.MEM_REF_POSTPONED_REF_POSTPONED (n : Nat) : Fld := ⟨memBase n + 0x34, 0, 32, .rc, 0, .core⟩

/-- MEM_WB_DROPPED[31:0], 11_dram_controller.md. -/
def Fld.MEM_WB_DROPPED_WB_DROPPED (n : Nat) : Fld := ⟨memBase n + 0x38, 0, 32, .rc, 0, .core⟩

/-- MEM_SCRUBBED[31:0], 11_dram_controller.md. -/
def Fld.MEM_SCRUBBED_SCRUBBED (n : Nat) : Fld := ⟨memBase n + 0x3c, 0, 32, .rc, 0, .core⟩

/-- MEM_DEV_SEL[5:0], 11_dram_controller.md. -/
def Fld.MEM_DEV_SEL_POSITION (n : Nat) : Fld := ⟨memBase n + 0x40, 0, 6, .rw, 0, .core⟩

/-- MEM_DEV_CE[31:0], 11_dram_controller.md. -/
def Fld.MEM_DEV_CE_DEV_CE (n : Nat) : Fld := ⟨memBase n + 0x44, 0, 32, .rc, 0, .core⟩

/-- MEM_REPAIR[7:0], 11_dram_controller.md. -/
def Fld.MEM_REPAIR_PENDING (n : Nat) : Fld := ⟨memBase n + 0x50, 0, 8, .ro, 0, .persist⟩
/-- MEM_REPAIR[15:8], 11_dram_controller.md. -/
def Fld.MEM_REPAIR_DONE (n : Nat) : Fld := ⟨memBase n + 0x50, 8, 8, .ro, 0, .persist⟩
/-- MEM_REPAIR[23:16], 11_dram_controller.md. -/
def Fld.MEM_REPAIR_EXHAUSTED (n : Nat) : Fld := ⟨memBase n + 0x50, 16, 8, .ro, 0, .persist⟩

/-- MEM_LANE[3:0], 11_dram_controller.md. -/
def Fld.MEM_LANE_REMAPPED (n : Nat) : Fld := ⟨memBase n + 0x54, 0, 4, .ro, 0, .persist⟩
/-- MEM_LANE[7:4], 11_dram_controller.md. -/
def Fld.MEM_LANE_SPARES_LEFT (n : Nat) : Fld := ⟨memBase n + 0x54, 4, 4, .ro, 0, .persist⟩
/-- MEM_LANE[11:8], 11_dram_controller.md. -/
def Fld.MEM_LANE_PENDING (n : Nat) : Fld := ⟨memBase n + 0x54, 8, 4, .ro, 0, .persist⟩

/-! ### `NANDC[n]` -/

/-- NANDC_CFG[3:0], 13_flash_channels.md. -/
def Fld.NANDC_CFG_TABLE (n : Nat) : Fld := ⟨nandBase n + 0x0, 0, 4, .ro, 0, .core⟩
/-- NANDC_CFG[6:4], 13_flash_channels.md. -/
def Fld.NANDC_CFG_IFACE (n : Nat) : Fld := ⟨nandBase n + 0x0, 4, 3, .ro, 0, .core⟩
/-- NANDC_CFG[7:7], 13_flash_channels.md. -/
def Fld.NANDC_CFG_ENABLED (n : Nat) : Fld := ⟨nandBase n + 0x0, 7, 1, .ro, 0, .core⟩
/-- NANDC_CFG[11:8], 13_flash_channels.md. -/
def Fld.NANDC_CFG_TARGETS (n : Nat) : Fld := ⟨nandBase n + 0x0, 8, 4, .ro, 0, .core⟩
/-- NANDC_CFG[14:12], 13_flash_channels.md. -/
def Fld.NANDC_CFG_LUNS (n : Nat) : Fld := ⟨nandBase n + 0x0, 12, 3, .ro, 0, .core⟩
/-- NANDC_CFG[31:16], 13_flash_channels.md. -/
def Fld.NANDC_CFG_MT_S (n : Nat) : Fld := ⟨nandBase n + 0x0, 16, 16, .ro, 0, .core⟩

/-- NANDC_STATUS[0:0], 13_flash_channels.md. -/
def Fld.NANDC_STATUS_TRAINED (n : Nat) : Fld := ⟨nandBase n + 0x4, 0, 1, .ro, 0, .core⟩
/-- NANDC_STATUS[1:1], 13_flash_channels.md. -/
def Fld.NANDC_STATUS_RETIRED (n : Nat) : Fld := ⟨nandBase n + 0x4, 1, 1, .ro, 0, .core⟩
/-- NANDC_STATUS[2:2], 13_flash_channels.md. -/
def Fld.NANDC_STATUS_REFUSED_SEEN (n : Nat) : Fld := ⟨nandBase n + 0x4, 2, 1, .w1c, 0, .core⟩
/-- NANDC_STATUS[3:3], 13_flash_channels.md. -/
def Fld.NANDC_STATUS_STARVE_SEEN (n : Nat) : Fld := ⟨nandBase n + 0x4, 3, 1, .w1c, 0, .core⟩
/-- NANDC_STATUS[4:4], 13_flash_channels.md. -/
def Fld.NANDC_STATUS_TIMEOUT_SEEN (n : Nat) : Fld := ⟨nandBase n + 0x4, 4, 1, .w1c, 0, .core⟩
/-- NANDC_STATUS[5:5], 13_flash_channels.md. -/
def Fld.NANDC_STATUS_UE_SEEN (n : Nat) : Fld := ⟨nandBase n + 0x4, 5, 1, .w1c, 0, .core⟩
/-- NANDC_STATUS[11:8], 13_flash_channels.md. -/
def Fld.NANDC_STATUS_TRAIN_STEP (n : Nat) : Fld := ⟨nandBase n + 0x4, 8, 4, .ro, 0, .core⟩

/-- NANDC_SUSPEND_CFG[15:0], 13_flash_channels.md. -/
def Fld.NANDC_SUSPEND_CFG_RESUME_GRANT_US (n : Nat) : Fld := ⟨nandBase n + 0x8, 0, 16, .rws, 0x64, .core⟩
/-- NANDC_SUSPEND_CFG[31:16], 13_flash_channels.md. -/
def Fld.NANDC_SUSPEND_CFG_STARVE_MS (n : Nat) : Fld := ⟨nandBase n + 0x8, 16, 16, .rws, 0x32, .core⟩

/-- NANDC_CONT_CFG[11:0], 13_flash_channels.md. -/
def Fld.NANDC_CONT_CFG_CONT_MAX_PAGES (n : Nat) : Fld := ⟨nandBase n + 0xc, 0, 12, .rws, 0x100, .core⟩

/-- NANDC_LUN_SEL[4:0], 13_flash_channels.md. -/
def Fld.NANDC_LUN_SEL_INDEX (n : Nat) : Fld := ⟨nandBase n + 0x10, 0, 5, .rw, 0, .core⟩
/-- NANDC_LUN_SEL[31:31], 13_flash_channels.md. -/
def Fld.NANDC_LUN_SEL_READY (n : Nat) : Fld := ⟨nandBase n + 0x10, 31, 1, .ro, 0, .core⟩

/-- NANDC_LUN_VIEW0[3:0], 13_flash_channels.md. -/
def Fld.NANDC_LUN_VIEW0_OP (n : Nat) : Fld := ⟨nandBase n + 0x14, 0, 4, .ro, 0xf, .core⟩
/-- NANDC_LUN_VIEW0[7:4], 13_flash_channels.md. -/
def Fld.NANDC_LUN_VIEW0_SUSP_OP (n : Nat) : Fld := ⟨nandBase n + 0x14, 4, 4, .ro, 0xf, .core⟩
/-- NANDC_LUN_VIEW0[8:8], 13_flash_channels.md. -/
def Fld.NANDC_LUN_VIEW0_STARVED (n : Nat) : Fld := ⟨nandBase n + 0x14, 8, 1, .ro, 0, .core⟩
/-- NANDC_LUN_VIEW0[31:16], 13_flash_channels.md. -/
def Fld.NANDC_LUN_VIEW0_SUSPENDS (n : Nat) : Fld := ⟨nandBase n + 0x14, 16, 16, .ro, 0, .core⟩

/-- NANDC_LUN_VIEW1[31:0], 13_flash_channels.md. -/
def Fld.NANDC_LUN_VIEW1_ELAPSED_US (n : Nat) : Fld := ⟨nandBase n + 0x18, 0, 32, .ro, 0, .core⟩

/-- NANDC_READS[31:0], 13_flash_channels.md. -/
def Fld.NANDC_READS_READS (n : Nat) : Fld := ⟨nandBase n + 0x20, 0, 32, .rc, 0, .core⟩

/-- NANDC_PROGRAMS[31:0], 13_flash_channels.md. -/
def Fld.NANDC_PROGRAMS_PROGRAMS (n : Nat) : Fld := ⟨nandBase n + 0x24, 0, 32, .rc, 0, .core⟩

/-- NANDC_ERASES[31:0], 13_flash_channels.md. -/
def Fld.NANDC_ERASES_ERASES (n : Nat) : Fld := ⟨nandBase n + 0x28, 0, 32, .rc, 0, .core⟩

/-- NANDC_SUSPENDS[31:0], 13_flash_channels.md. -/
def Fld.NANDC_SUSPENDS_SUSPENDS (n : Nat) : Fld := ⟨nandBase n + 0x2c, 0, 32, .rc, 0, .core⟩

/-- NANDC_RETRY_READS[31:0], 13_flash_channels.md. -/
def Fld.NANDC_RETRY_READS_RETRY_READS (n : Nat) : Fld := ⟨nandBase n + 0x30, 0, 32, .rc, 0, .core⟩

/-- NANDC_SOFT_DECODES[31:0], 13_flash_channels.md. -/
def Fld.NANDC_SOFT_DECODES_SOFT (n : Nat) : Fld := ⟨nandBase n + 0x34, 0, 32, .rc, 0, .core⟩

/-- NANDC_UE[31:0], 13_flash_channels.md. -/
def Fld.NANDC_UE_UE (n : Nat) : Fld := ⟨nandBase n + 0x38, 0, 32, .rc, 0, .core⟩

/-- NANDC_CODEWORDS[31:0], 13_flash_channels.md. -/
def Fld.NANDC_CODEWORDS_CODEWORDS (n : Nat) : Fld := ⟨nandBase n + 0x3c, 0, 32, .rc, 0, .core⟩

/-- NANDC_BITS_CORRECTED[31:0], 13_flash_channels.md. -/
def Fld.NANDC_BITS_CORRECTED_BITS (n : Nat) : Fld := ⟨nandBase n + 0x40, 0, 32, .rc, 0, .core⟩

/-- NANDC_PROG_REFUSED[31:0], 13_flash_channels.md. -/
def Fld.NANDC_PROG_REFUSED_REFUSED (n : Nat) : Fld := ⟨nandBase n + 0x44, 0, 32, .rc, 0, .core⟩

/-- NANDC_TIMEOUTS[31:0], 13_flash_channels.md. -/
def Fld.NANDC_TIMEOUTS_TIMEOUTS (n : Nat) : Fld := ⟨nandBase n + 0x48, 0, 32, .rc, 0, .core⟩

/-- NANDC_CONT_PAGES[31:0], 13_flash_channels.md. -/
def Fld.NANDC_CONT_PAGES_CONT_PAGES (n : Nat) : Fld := ⟨nandBase n + 0x4c, 0, 32, .rc, 0, .core⟩

/-- NANDC_RETRY_HIST_SEL[6:0], 13_flash_channels.md. -/
def Fld.NANDC_RETRY_HIST_SEL_STEP (n : Nat) : Fld := ⟨nandBase n + 0x50, 0, 7, .rw, 0, .core⟩
/-- NANDC_RETRY_HIST_SEL[8:8], 13_flash_channels.md. -/
def Fld.NANDC_RETRY_HIST_SEL_SLC (n : Nat) : Fld := ⟨nandBase n + 0x50, 8, 1, .rw, 0, .core⟩

/-- NANDC_RETRY_HIST[31:0], 13_flash_channels.md. -/
def Fld.NANDC_RETRY_HIST_COUNT (n : Nat) : Fld := ⟨nandBase n + 0x54, 0, 32, .rc, 0, .core⟩

/-- NANDC_ERR_INFO[0:0], 13_flash_channels.md. -/
def Fld.NANDC_ERR_INFO_VALID (n : Nat) : Fld := ⟨nandBase n + 0x60, 0, 1, .w1c, 0, .core⟩
/-- NANDC_ERR_INFO[1:1], 13_flash_channels.md. -/
def Fld.NANDC_ERR_INFO_SLC (n : Nat) : Fld := ⟨nandBase n + 0x60, 1, 1, .ro, 0, .core⟩
/-- NANDC_ERR_INFO[3:2], 13_flash_channels.md. -/
def Fld.NANDC_ERR_INFO_SLOT (n : Nat) : Fld := ⟨nandBase n + 0x60, 2, 2, .ro, 0, .core⟩
/-- NANDC_ERR_INFO[8:4], 13_flash_channels.md. -/
def Fld.NANDC_ERR_INFO_LUN (n : Nat) : Fld := ⟨nandBase n + 0x60, 4, 5, .ro, 0, .core⟩
/-- NANDC_ERR_INFO[18:12], 13_flash_channels.md. -/
def Fld.NANDC_ERR_INFO_STEPS (n : Nat) : Fld := ⟨nandBase n + 0x60, 12, 7, .ro, 0, .core⟩

/-- NANDC_ERR_ADDR[12:0], 13_flash_channels.md. -/
def Fld.NANDC_ERR_ADDR_BLOCK (n : Nat) : Fld := ⟨nandBase n + 0x64, 0, 13, .ro, 0, .core⟩
/-- NANDC_ERR_ADDR[26:16], 13_flash_channels.md. -/
def Fld.NANDC_ERR_ADDR_PAGE (n : Nat) : Fld := ⟨nandBase n + 0x64, 16, 11, .ro, 0, .core⟩

/-- NANDC_ERR_SYN[15:0], 13_flash_channels.md. -/
def Fld.NANDC_ERR_SYN_WEIGHT (n : Nat) : Fld := ⟨nandBase n + 0x68, 0, 16, .ro, 0, .core⟩
/-- NANDC_ERR_SYN[31:16], 13_flash_channels.md. -/
def Fld.NANDC_ERR_SYN_ZERO_BITS (n : Nat) : Fld := ⟨nandBase n + 0x68, 16, 16, .ro, 0, .core⟩

/-- NANDC_RAW_CTRL[3:0], 13_flash_channels.md. -/
def Fld.NANDC_RAW_CTRL_OP (n : Nat) : Fld := ⟨nandBase n + 0x80, 0, 4, .rw, 0, .core⟩
/-- NANDC_RAW_CTRL[8:8], 13_flash_channels.md. -/
def Fld.NANDC_RAW_CTRL_GO (n : Nat) : Fld := ⟨nandBase n + 0x80, 8, 1, .wo, 0, .core⟩
/-- NANDC_RAW_CTRL[23:16], 13_flash_channels.md. -/
def Fld.NANDC_RAW_CTRL_GUARD (n : Nat) : Fld := ⟨nandBase n + 0x80, 16, 8, .wo, 0, .core⟩

/-- NANDC_RAW_ADDR0[4:0], 13_flash_channels.md. -/
def Fld.NANDC_RAW_ADDR0_LUN (n : Nat) : Fld := ⟨nandBase n + 0x84, 0, 5, .rw, 0, .core⟩
/-- NANDC_RAW_ADDR0[5:5], 13_flash_channels.md. -/
def Fld.NANDC_RAW_ADDR0_SLC (n : Nat) : Fld := ⟨nandBase n + 0x84, 5, 1, .rw, 0, .core⟩
/-- NANDC_RAW_ADDR0[28:16], 13_flash_channels.md. -/
def Fld.NANDC_RAW_ADDR0_BLOCK (n : Nat) : Fld := ⟨nandBase n + 0x84, 16, 13, .rw, 0, .core⟩

/-- NANDC_RAW_ADDR1[10:0], 13_flash_channels.md. -/
def Fld.NANDC_RAW_ADDR1_PAGE (n : Nat) : Fld := ⟨nandBase n + 0x88, 0, 11, .rw, 0, .core⟩

/-- NANDC_RAW_STATUS[0:0], 13_flash_channels.md. -/
def Fld.NANDC_RAW_STATUS_BUSY (n : Nat) : Fld := ⟨nandBase n + 0x8c, 0, 1, .ro, 0, .core⟩
/-- NANDC_RAW_STATUS[1:1], 13_flash_channels.md. -/
def Fld.NANDC_RAW_STATUS_DONE (n : Nat) : Fld := ⟨nandBase n + 0x8c, 1, 1, .w1c, 0, .core⟩
/-- NANDC_RAW_STATUS[4:2], 13_flash_channels.md. -/
def Fld.NANDC_RAW_STATUS_RESULT (n : Nat) : Fld := ⟨nandBase n + 0x8c, 2, 3, .ro, 0, .core⟩
/-- NANDC_RAW_STATUS[15:8], 13_flash_channels.md. -/
def Fld.NANDC_RAW_STATUS_STATUS_BYTE (n : Nat) : Fld := ⟨nandBase n + 0x8c, 8, 8, .ro, 0, .core⟩
/-- NANDC_RAW_STATUS[22:16], 13_flash_channels.md. -/
def Fld.NANDC_RAW_STATUS_STEPS (n : Nat) : Fld := ⟨nandBase n + 0x8c, 16, 7, .ro, 0, .core⟩

/-- NANDC_RAW_DATA[31:0], 13_flash_channels.md. -/
def Fld.NANDC_RAW_DATA_DATA (n i : Nat) : Fld := ⟨nandBase n + 0x1000 + 0x4 * i, 0, 32, .rw, 0, .core⟩

/-! ### `PORT[n]` -/

/-- PORT_CFG[3:0], 06_rdma_transport.md. -/
def Fld.PORT_CFG_SPEED (n : Nat) : Fld := ⟨portBase n + 0x0, 0, 4, .ro, 0, .core⟩
/-- PORT_CFG[7:4], 06_rdma_transport.md. -/
def Fld.PORT_CFG_LANE_BASE (n : Nat) : Fld := ⟨portBase n + 0x0, 4, 4, .ro, 0, .core⟩
/-- PORT_CFG[11:8], 06_rdma_transport.md. -/
def Fld.PORT_CFG_LANES (n : Nat) : Fld := ⟨portBase n + 0x0, 8, 4, .ro, 0, .core⟩
/-- PORT_CFG[13:12], 06_rdma_transport.md. -/
def Fld.PORT_CFG_FEC (n : Nat) : Fld := ⟨portBase n + 0x0, 12, 2, .ro, 0, .core⟩
/-- PORT_CFG[14:14], 06_rdma_transport.md. -/
def Fld.PORT_CFG_ENABLED (n : Nat) : Fld := ⟨portBase n + 0x0, 14, 1, .ro, 0, .core⟩
/-- PORT_CFG[31:16], 06_rdma_transport.md. -/
def Fld.PORT_CFG_MAX_FRAME (n : Nat) : Fld := ⟨portBase n + 0x0, 16, 16, .ro, 0, .core⟩

/-- PORT_STATUS[0:0], 06_rdma_transport.md. -/
def Fld.PORT_STATUS_LINK_UP (n : Nat) : Fld := ⟨portBase n + 0x4, 0, 1, .ro, 0, .core⟩
/-- PORT_STATUS[1:1], 06_rdma_transport.md. -/
def Fld.PORT_STATUS_ADVERTISED (n : Nat) : Fld := ⟨portBase n + 0x4, 1, 1, .ro, 0, .core⟩
/-- PORT_STATUS[2:2], 06_rdma_transport.md. -/
def Fld.PORT_STATUS_HELD (n : Nat) : Fld := ⟨portBase n + 0x4, 2, 1, .ro, 0, .core⟩
/-- PORT_STATUS[3:3], 06_rdma_transport.md. -/
def Fld.PORT_STATUS_SPARED (n : Nat) : Fld := ⟨portBase n + 0x4, 3, 1, .ro, 0, .core⟩
/-- PORT_STATUS[4:4], 06_rdma_transport.md. -/
def Fld.PORT_STATUS_LINK_CHANGED (n : Nat) : Fld := ⟨portBase n + 0x4, 4, 1, .w1c, 0, .core⟩
/-- PORT_STATUS[5:5], 06_rdma_transport.md. -/
def Fld.PORT_STATUS_PAUSE_C0 (n : Nat) : Fld := ⟨portBase n + 0x4, 5, 1, .w1c, 0, .core⟩

/-- PORT_MAC_LO[31:0], 06_rdma_transport.md. -/
def Fld.PORT_MAC_LO_MAC_LO (n : Nat) : Fld := ⟨portBase n + 0x8, 0, 32, .rws, 0, .core⟩

/-- PORT_MAC_HI[15:0], 06_rdma_transport.md. -/
def Fld.PORT_MAC_HI_MAC_HI (n : Nat) : Fld := ⟨portBase n + 0xc, 0, 16, .rws, 0, .core⟩

/-- PORT_VLAN[11:0], 06_rdma_transport.md. -/
def Fld.PORT_VLAN_VID (n : Nat) : Fld := ⟨portBase n + 0x10, 0, 12, .rws, 0, .core⟩
/-- PORT_VLAN[12:12], 06_rdma_transport.md. -/
def Fld.PORT_VLAN_TAGGED (n : Nat) : Fld := ⟨portBase n + 0x10, 12, 1, .rws, 0, .core⟩
/-- PORT_VLAN[18:16], 06_rdma_transport.md. -/
def Fld.PORT_VLAN_PCP_C0 (n : Nat) : Fld := ⟨portBase n + 0x10, 16, 3, .rws, 0, .core⟩
/-- PORT_VLAN[21:19], 06_rdma_transport.md. -/
def Fld.PORT_VLAN_PCP_C1 (n : Nat) : Fld := ⟨portBase n + 0x10, 19, 3, .rws, 0, .core⟩
/-- PORT_VLAN[24:22], 06_rdma_transport.md. -/
def Fld.PORT_VLAN_PCP_C2 (n : Nat) : Fld := ⟨portBase n + 0x10, 22, 3, .rws, 0, .core⟩
/-- PORT_VLAN[27:25], 06_rdma_transport.md. -/
def Fld.PORT_VLAN_PCP_OTHER (n : Nat) : Fld := ⟨portBase n + 0x10, 25, 3, .rws, 0, .core⟩

/-- PORT_ADDR_CTRL[0:0], 06_rdma_transport.md. -/
def Fld.PORT_ADDR_CTRL_VALID (n i : Nat) : Fld := ⟨portBase n + 0x100 + 0x20 * i, 0, 1, .rws, 0, .core⟩
/-- PORT_ADDR_CTRL[1:1], 06_rdma_transport.md. -/
def Fld.PORT_ADDR_CTRL_IPV6 (n i : Nat) : Fld := ⟨portBase n + 0x100 + 0x20 * i, 1, 1, .rws, 0, .core⟩

/-- PORT_ADDR_DATA0[31:0], 06_rdma_transport.md. -/
def Fld.PORT_ADDR_DATA0_ADDR (n i : Nat) : Fld := ⟨portBase n + 0x104 + 0x20 * i, 0, 32, .rws, 0, .core⟩

/-- PORT_ADDR_DATA1[31:0], 06_rdma_transport.md. -/
def Fld.PORT_ADDR_DATA1_ADDR (n i : Nat) : Fld := ⟨portBase n + 0x108 + 0x20 * i, 0, 32, .rws, 0, .core⟩

/-- PORT_ADDR_DATA2[31:0], 06_rdma_transport.md. -/
def Fld.PORT_ADDR_DATA2_ADDR (n i : Nat) : Fld := ⟨portBase n + 0x10c + 0x20 * i, 0, 32, .rws, 0, .core⟩

/-- PORT_ADDR_DATA3[31:0], 06_rdma_transport.md. -/
def Fld.PORT_ADDR_DATA3_ADDR (n i : Nat) : Fld := ⟨portBase n + 0x110 + 0x20 * i, 0, 32, .rws, 0, .core⟩

/-- PORT_RX_FRAMES[31:0], 06_rdma_transport.md. -/
def Fld.PORT_RX_FRAMES_RX_FRAMES (n : Nat) : Fld := ⟨portBase n + 0x200, 0, 32, .rc, 0, .core⟩

/-- PORT_RX_FCS_ERR[31:0], 06_rdma_transport.md. -/
def Fld.PORT_RX_FCS_ERR_RX_FCS_ERR (n : Nat) : Fld := ⟨portBase n + 0x204, 0, 32, .rc, 0, .core⟩

/-- PORT_RX_ICRC_ERR[31:0], 06_rdma_transport.md. -/
def Fld.PORT_RX_ICRC_ERR_RX_ICRC_ERR (n : Nat) : Fld := ⟨portBase n + 0x208, 0, 32, .rc, 0, .core⟩

/-- PORT_RX_DISCARD[31:0], 06_rdma_transport.md. -/
def Fld.PORT_RX_DISCARD_RX_DISCARD (n : Nat) : Fld := ⟨portBase n + 0x20c, 0, 32, .rc, 0, .core⟩

/-- PORT_RX_ESP_FAIL[31:0], 06_rdma_transport.md. -/
def Fld.PORT_RX_ESP_FAIL_RX_ESP_FAIL (n : Nat) : Fld := ⟨portBase n + 0x210, 0, 32, .rc, 0, .core⟩

/-- PORT_RX_CE[31:0], 06_rdma_transport.md. -/
def Fld.PORT_RX_CE_RX_CE (n : Nat) : Fld := ⟨portBase n + 0x214, 0, 32, .rc, 0, .core⟩

/-- PORT_TX_FRAMES[31:0], 06_rdma_transport.md. -/
def Fld.PORT_TX_FRAMES_TX_FRAMES (n : Nat) : Fld := ⟨portBase n + 0x218, 0, 32, .rc, 0, .core⟩

/-- PORT_CNP_TX[31:0], 06_rdma_transport.md. -/
def Fld.PORT_CNP_TX_CNP_TX (n : Nat) : Fld := ⟨portBase n + 0x21c, 0, 32, .rc, 0, .core⟩

/-- PORT_CNP_RX[31:0], 06_rdma_transport.md. -/
def Fld.PORT_CNP_RX_CNP_RX (n : Nat) : Fld := ⟨portBase n + 0x220, 0, 32, .rc, 0, .core⟩

/-- PORT_PAUSE_CYCLES[31:0], 06_rdma_transport.md. -/
def Fld.PORT_PAUSE_CYCLES_PAUSE_CYCLES (n : Nat) : Fld := ⟨portBase n + 0x224, 0, 32, .rc, 0, .core⟩

/-- PORT_ICMP_DROP[31:0], 06_rdma_transport.md. -/
def Fld.PORT_ICMP_DROP_ICMP_DROP (n : Nat) : Fld := ⟨portBase n + 0x228, 0, 32, .rc, 0, .core⟩

/-! ### RDMA transport globals, regions, protection domains and device queues -/

/-- XPORT_CM_PORT_A[15:0], 06_rdma_transport.md. -/
def Fld.XPORT_CM_PORT_A_DATA_PORT : Fld := ⟨0x500000, 0, 16, .rws, 0x1d24, .core⟩
/-- XPORT_CM_PORT_A[31:16], 06_rdma_transport.md. -/
def Fld.XPORT_CM_PORT_A_CONTROL_PORT : Fld := ⟨0x500000, 16, 16, .rws, 0x1d25, .core⟩

/-- XPORT_CM_PORT_B[15:0], 06_rdma_transport.md. -/
def Fld.XPORT_CM_PORT_B_DEVQ_PORT : Fld := ⟨0x500004, 0, 16, .rws, 0x1d26, .core⟩

/-- XPORT_REQ[4:0], 06_rdma_transport.md. -/
def Fld.XPORT_REQ_TIMEOUT : Fld := ⟨0x500008, 0, 5, .rws, 0xc, .core⟩
/-- XPORT_REQ[7:5], 06_rdma_transport.md. -/
def Fld.XPORT_REQ_RETRY : Fld := ⟨0x500008, 5, 3, .rws, 7, .core⟩
/-- XPORT_REQ[10:8], 06_rdma_transport.md. -/
def Fld.XPORT_REQ_RNR_RETRY : Fld := ⟨0x500008, 8, 3, .rws, 7, .core⟩
/-- XPORT_REQ[15:11], 06_rdma_transport.md. -/
def Fld.XPORT_REQ_MIN_RNR : Fld := ⟨0x500008, 11, 5, .rws, 1, .core⟩

/-- XPORT_ACK[7:0], 06_rdma_transport.md. -/
def Fld.XPORT_ACK_COALESCE : Fld := ⟨0x50000c, 0, 8, .rws, 1, .core⟩
/-- XPORT_ACK[15:8], 06_rdma_transport.md. -/
def Fld.XPORT_ACK_TIMER : Fld := ⟨0x50000c, 8, 8, .rws, 1, .core⟩
/-- XPORT_ACK[31:16], 06_rdma_transport.md. -/
def Fld.XPORT_ACK_CNP_INTERVAL : Fld := ⟨0x50000c, 16, 16, .rws, 0x32, .core⟩

/-- XPORT_STATUS[17:0], 06_rdma_transport.md. -/
def Fld.XPORT_STATUS_QPS_OPEN : Fld := ⟨0x500010, 0, 18, .ro, 0, .core⟩
/-- XPORT_STATUS[31:18], 06_rdma_transport.md. -/
def Fld.XPORT_STATUS_HOSTS : Fld := ⟨0x500010, 18, 14, .ro, 0, .core⟩

/-- XPORT_QP_SEL[16:0], 06_rdma_transport.md. -/
def Fld.XPORT_QP_SEL_INDEX : Fld := ⟨0x500014, 0, 17, .rw, 0, .core⟩
/-- XPORT_QP_SEL[31:31], 06_rdma_transport.md. -/
def Fld.XPORT_QP_SEL_READY : Fld := ⟨0x500014, 31, 1, .ro, 0, .core⟩

/-- XPORT_QP_VIEW0[2:0], 06_rdma_transport.md. -/
def Fld.XPORT_QP_VIEW0_STATE : Fld := ⟨0x500040, 0, 3, .ro, 0, .core⟩
/-- XPORT_QP_VIEW0[4:3], 06_rdma_transport.md. -/
def Fld.XPORT_QP_VIEW0_KIND : Fld := ⟨0x500040, 3, 2, .ro, 0, .core⟩
/-- XPORT_QP_VIEW0[6:5], 06_rdma_transport.md. -/
def Fld.XPORT_QP_VIEW0_CLASS : Fld := ⟨0x500040, 5, 2, .ro, 0, .core⟩
/-- XPORT_QP_VIEW0[7:7], 06_rdma_transport.md. -/
def Fld.XPORT_QP_VIEW0_ESP : Fld := ⟨0x500040, 7, 1, .ro, 0, .core⟩
/-- XPORT_QP_VIEW0[10:8], 06_rdma_transport.md. -/
def Fld.XPORT_QP_VIEW0_PORT : Fld := ⟨0x500040, 8, 3, .ro, 0, .core⟩
/-- XPORT_QP_VIEW0[13:11], 06_rdma_transport.md. -/
def Fld.XPORT_QP_VIEW0_MTU : Fld := ⟨0x500040, 11, 3, .ro, 0, .core⟩
/-- XPORT_QP_VIEW0[14:14], 06_rdma_transport.md. -/
def Fld.XPORT_QP_VIEW0_IPV6 : Fld := ⟨0x500040, 14, 1, .ro, 0, .core⟩
/-- XPORT_QP_VIEW0[15:15], 06_rdma_transport.md. -/
def Fld.XPORT_QP_VIEW0_NAK_SENT : Fld := ⟨0x500040, 15, 1, .ro, 0, .core⟩
/-- XPORT_QP_VIEW0[31:16], 06_rdma_transport.md. -/
def Fld.XPORT_QP_VIEW0_PD : Fld := ⟨0x500040, 16, 16, .ro, 0, .core⟩

/-- XPORT_QP_VIEW1[23:0], 06_rdma_transport.md. -/
def Fld.XPORT_QP_VIEW1_REMOTE_QPN : Fld := ⟨0x500044, 0, 24, .ro, 0, .core⟩

/-- XPORT_QP_VIEW2[23:0], 06_rdma_transport.md. -/
def Fld.XPORT_QP_VIEW2_EPSN : Fld := ⟨0x500048, 0, 24, .ro, 0, .core⟩

/-- XPORT_QP_VIEW3[23:0], 06_rdma_transport.md. -/
def Fld.XPORT_QP_VIEW3_MSN : Fld := ⟨0x50004c, 0, 24, .ro, 0, .core⟩

/-- XPORT_QP_VIEW4[23:0], 06_rdma_transport.md. -/
def Fld.XPORT_QP_VIEW4_SPSN : Fld := ⟨0x500050, 0, 24, .ro, 0, .core⟩

/-- XPORT_QP_VIEW5[23:0], 06_rdma_transport.md. -/
def Fld.XPORT_QP_VIEW5_UNACKED : Fld := ⟨0x500054, 0, 24, .ro, 0, .core⟩

/-- XPORT_QP_VIEW6[15:0], 06_rdma_transport.md. -/
def Fld.XPORT_QP_VIEW6_PKEY : Fld := ⟨0x500058, 0, 16, .ro, 0, .core⟩
/-- XPORT_QP_VIEW6[20:16], 06_rdma_transport.md. -/
def Fld.XPORT_QP_VIEW6_TIMEOUT : Fld := ⟨0x500058, 16, 5, .ro, 0, .core⟩
/-- XPORT_QP_VIEW6[23:21], 06_rdma_transport.md. -/
def Fld.XPORT_QP_VIEW6_RETRY : Fld := ⟨0x500058, 21, 3, .ro, 0, .core⟩
/-- XPORT_QP_VIEW6[26:24], 06_rdma_transport.md. -/
def Fld.XPORT_QP_VIEW6_RNR_RETRY : Fld := ⟨0x500058, 24, 3, .ro, 0, .core⟩
/-- XPORT_QP_VIEW6[31:27], 06_rdma_transport.md. -/
def Fld.XPORT_QP_VIEW6_MIN_RNR : Fld := ⟨0x500058, 27, 5, .ro, 0, .core⟩

/-- XPORT_QP_VIEW7[5:0], 06_rdma_transport.md. -/
def Fld.XPORT_QP_VIEW7_DSCP : Fld := ⟨0x50005c, 0, 6, .ro, 0, .core⟩
/-- XPORT_QP_VIEW7[12:8], 06_rdma_transport.md. -/
def Fld.XPORT_QP_VIEW7_OUTSTANDING : Fld := ⟨0x50005c, 8, 5, .ro, 0, .core⟩
/-- XPORT_QP_VIEW7[17:13], 06_rdma_transport.md. -/
def Fld.XPORT_QP_VIEW7_ACACHE : Fld := ⟨0x50005c, 13, 5, .ro, 0, .core⟩
/-- XPORT_QP_VIEW7[30:18], 06_rdma_transport.md. -/
def Fld.XPORT_QP_VIEW7_HOST : Fld := ⟨0x50005c, 18, 13, .ro, 0, .core⟩

/-- XPORT_QP_VIEW8[31:0], 06_rdma_transport.md. -/
def Fld.XPORT_QP_VIEW8_RATE : Fld := ⟨0x500060, 0, 32, .ro, 0, .core⟩

/-- XPORT_QP_VIEW9[31:0], 06_rdma_transport.md. -/
def Fld.XPORT_QP_VIEW9_RTT_MIN : Fld := ⟨0x500064, 0, 32, .ro, 0, .core⟩

/-- XPORT_QP_VIEW10[31:0], 06_rdma_transport.md. -/
def Fld.XPORT_QP_VIEW10_RTT_LAST : Fld := ⟨0x500068, 0, 32, .ro, 0, .core⟩

/-- XPORT_QP_VIEW11[31:0], 06_rdma_transport.md. -/
def Fld.XPORT_QP_VIEW11_IMM_LAST : Fld := ⟨0x50006c, 0, 32, .ro, 0, .core⟩

/-- XPORT_QP_VIEW12[31:0], 06_rdma_transport.md. -/
def Fld.XPORT_QP_VIEW12_IMM_COUNT : Fld := ⟨0x500070, 0, 32, .ro, 0, .core⟩

/-- XPORT_QP_VIEW13[31:0], 06_rdma_transport.md. -/
def Fld.XPORT_QP_VIEW13_DUPS : Fld := ⟨0x500074, 0, 32, .ro, 0, .core⟩

/-- XPORT_QP_VIEW14[12:0], 06_rdma_transport.md. -/
def Fld.XPORT_QP_VIEW14_KEY_SLOT : Fld := ⟨0x500078, 0, 13, .ro, 0, .core⟩

/-- XPORT_QP_VIEW15[31:0], 06_rdma_transport.md. -/
def Fld.XPORT_QP_VIEW15_RETRIES : Fld := ⟨0x50007c, 0, 32, .ro, 0, .core⟩

/-- XPORT_DUP_WRITE[31:0], 06_rdma_transport.md. -/
def Fld.XPORT_DUP_WRITE_DUP_WRITE : Fld := ⟨0x500100, 0, 32, .rc, 0, .core⟩

/-- XPORT_DUP_READ[31:0], 06_rdma_transport.md. -/
def Fld.XPORT_DUP_READ_DUP_READ : Fld := ⟨0x500104, 0, 32, .rc, 0, .core⟩

/-- XPORT_DUP_ATOMIC[31:0], 06_rdma_transport.md. -/
def Fld.XPORT_DUP_ATOMIC_DUP_ATOMIC : Fld := ⟨0x500108, 0, 32, .rc, 0, .core⟩

/-- XPORT_NAK_SEQ[31:0], 06_rdma_transport.md. -/
def Fld.XPORT_NAK_SEQ_NAK_SEQ : Fld := ⟨0x50010c, 0, 32, .rc, 0, .core⟩

/-- XPORT_NAK_INVALID[31:0], 06_rdma_transport.md. -/
def Fld.XPORT_NAK_INVALID_NAK_INVALID : Fld := ⟨0x500110, 0, 32, .rc, 0, .core⟩

/-- XPORT_NAK_ACCESS[31:0], 06_rdma_transport.md. -/
def Fld.XPORT_NAK_ACCESS_NAK_ACCESS : Fld := ⟨0x500114, 0, 32, .rc, 0, .core⟩

/-- XPORT_NAK_OPER[31:0], 06_rdma_transport.md. -/
def Fld.XPORT_NAK_OPER_NAK_OPER : Fld := ⟨0x500118, 0, 32, .rc, 0, .core⟩

/-- XPORT_RNR[31:0], 06_rdma_transport.md. -/
def Fld.XPORT_RNR_RNR : Fld := ⟨0x50011c, 0, 32, .rc, 0, .core⟩

/-- XPORT_RETRY_EXC[31:0], 06_rdma_transport.md. -/
def Fld.XPORT_RETRY_EXC_RETRY_EXC : Fld := ⟨0x500120, 0, 32, .rc, 0, .core⟩

/-- XPORT_PROBES[31:0], 06_rdma_transport.md. -/
def Fld.XPORT_PROBES_PROBES : Fld := ⟨0x500124, 0, 32, .rc, 0, .core⟩

/-- REGION_SEL[19:0], 07_regions_and_protection.md. -/
def Fld.REGION_SEL_INDEX : Fld := ⟨0x501000, 0, 20, .rw, 0, .core⟩
/-- REGION_SEL[31:31], 07_regions_and_protection.md. -/
def Fld.REGION_SEL_READY : Fld := ⟨0x501000, 31, 1, .ro, 0, .core⟩

/-- REGION_VIEW0[1:0], 07_regions_and_protection.md. -/
def Fld.REGION_VIEW0_STATE : Fld := ⟨0x501010, 0, 2, .ro, 0, .core⟩
/-- REGION_VIEW0[3:2], 07_regions_and_protection.md. -/
def Fld.REGION_VIEW0_KIND : Fld := ⟨0x501010, 2, 2, .ro, 0, .core⟩
/-- REGION_VIEW0[8:4], 07_regions_and_protection.md. -/
def Fld.REGION_VIEW0_ACCESS : Fld := ⟨0x501010, 4, 5, .ro, 0, .core⟩
/-- REGION_VIEW0[12:9], 07_regions_and_protection.md. -/
def Fld.REGION_VIEW0_ZONE_LOG2 : Fld := ⟨0x501010, 9, 4, .ro, 0, .core⟩
/-- REGION_VIEW0[31:16], 07_regions_and_protection.md. -/
def Fld.REGION_VIEW0_PD : Fld := ⟨0x501010, 16, 16, .ro, 0, .core⟩

/-- REGION_VIEW1[11:0], 07_regions_and_protection.md. -/
def Fld.REGION_VIEW1_GEN : Fld := ⟨0x501014, 0, 12, .ro, 0, .core⟩
/-- REGION_VIEW1[28:16], 07_regions_and_protection.md. -/
def Fld.REGION_VIEW1_KEY_DOMAIN : Fld := ⟨0x501014, 16, 13, .ro, 0, .core⟩

/-- REGION_VIEW2[31:0], 07_regions_and_protection.md. -/
def Fld.REGION_VIEW2_VA_BASE : Fld := ⟨0x501018, 0, 32, .ro, 0, .core⟩

/-- REGION_VIEW3[31:0], 07_regions_and_protection.md. -/
def Fld.REGION_VIEW3_VA_BASE : Fld := ⟨0x50101c, 0, 32, .ro, 0, .core⟩

/-- REGION_VIEW4[31:0], 07_regions_and_protection.md. -/
def Fld.REGION_VIEW4_LENGTH : Fld := ⟨0x501020, 0, 32, .ro, 0, .core⟩

/-- REGION_VIEW5[31:0], 07_regions_and_protection.md. -/
def Fld.REGION_VIEW5_LENGTH : Fld := ⟨0x501024, 0, 32, .ro, 0, .core⟩

/-- REGION_VIEW6[31:0], 07_regions_and_protection.md. -/
def Fld.REGION_VIEW6_RANGE_BASE : Fld := ⟨0x501028, 0, 32, .ro, 0, .core⟩

/-- REGION_VIEW7[31:0], 07_regions_and_protection.md. -/
def Fld.REGION_VIEW7_RANGE_BASE : Fld := ⟨0x50102c, 0, 32, .ro, 0, .core⟩

/-- REGION_VIEW8[31:0], 07_regions_and_protection.md. -/
def Fld.REGION_VIEW8_IN_FLIGHT : Fld := ⟨0x501030, 0, 32, .ro, 0, .core⟩

/-- REGION_VIEW9[31:0], 07_regions_and_protection.md. -/
def Fld.REGION_VIEW9_VIOLATIONS : Fld := ⟨0x501034, 0, 32, .ro, 0, .core⟩

/-- PD_SEL[15:0], 07_regions_and_protection.md. -/
def Fld.PD_SEL_INDEX : Fld := ⟨0x501040, 0, 16, .rw, 0, .core⟩
/-- PD_SEL[31:31], 07_regions_and_protection.md. -/
def Fld.PD_SEL_READY : Fld := ⟨0x501040, 31, 1, .ro, 0, .core⟩

/-- PD_VIEW0[0:0], 07_regions_and_protection.md. -/
def Fld.PD_VIEW0_VALID : Fld := ⟨0x501044, 0, 1, .ro, 0, .core⟩
/-- PD_VIEW0[2:1], 07_regions_and_protection.md. -/
def Fld.PD_VIEW0_CAPS : Fld := ⟨0x501044, 1, 2, .ro, 0, .core⟩
/-- PD_VIEW0[20:3], 07_regions_and_protection.md. -/
def Fld.PD_VIEW0_QPS : Fld := ⟨0x501044, 3, 18, .ro, 0, .core⟩

/-- PD_VIEW1[20:0], 07_regions_and_protection.md. -/
def Fld.PD_VIEW1_REGIONS : Fld := ⟨0x501048, 0, 21, .ro, 0, .core⟩

/-- PD_VIEW2[31:0], 07_regions_and_protection.md. -/
def Fld.PD_VIEW2_EVQ_RKEY : Fld := ⟨0x50104c, 0, 32, .ro, 0, .core⟩

/-- REGION_LIVE[20:0], 07_regions_and_protection.md. -/
def Fld.REGION_LIVE_LIVE : Fld := ⟨0x501060, 0, 21, .ro, 0, .core⟩

/-- REGION_REVOKING[20:0], 07_regions_and_protection.md. -/
def Fld.REGION_REVOKING_REVOKING : Fld := ⟨0x501064, 0, 21, .ro, 0, .core⟩

/-- PD_COUNT[16:0], 07_regions_and_protection.md. -/
def Fld.PD_COUNT_PDS : Fld := ⟨0x501068, 0, 17, .ro, 0, .core⟩

/-- REGION_ACCESS_ERR[31:0], 07_regions_and_protection.md. -/
def Fld.REGION_ACCESS_ERR_ACCESS_ERR : Fld := ⟨0x50106c, 0, 32, .rc, 0, .core⟩

/-- REGION_REVOKE_FORCED[31:0], 07_regions_and_protection.md. -/
def Fld.REGION_REVOKE_FORCED_FORCED : Fld := ⟨0x501070, 0, 32, .rc, 0, .core⟩

/-- REGION_EVQ_OVERFLOW[31:0], 07_regions_and_protection.md. -/
def Fld.REGION_EVQ_OVERFLOW_EVQ_OVERFLOW : Fld := ⟨0x501074, 0, 32, .rc, 0, .core⟩

/-- DQ_SEL[11:0], 08_persistence_and_ordering.md. -/
def Fld.DQ_SEL_INDEX : Fld := ⟨0x502000, 0, 12, .rw, 0, .core⟩
/-- DQ_SEL[31:31], 08_persistence_and_ordering.md. -/
def Fld.DQ_SEL_READY : Fld := ⟨0x502000, 31, 1, .ro, 0, .core⟩

/-- DQ_VIEW0[2:0], 08_persistence_and_ordering.md. -/
def Fld.DQ_VIEW0_STATE : Fld := ⟨0x502010, 0, 3, .ro, 0, .core⟩
/-- DQ_VIEW0[5:4], 08_persistence_and_ordering.md. -/
def Fld.DQ_VIEW0_CLASS : Fld := ⟨0x502010, 4, 2, .ro, 0, .core⟩
/-- DQ_VIEW0[15:8], 08_persistence_and_ordering.md. -/
def Fld.DQ_VIEW0_CAUSE : Fld := ⟨0x502010, 8, 8, .ro, 0, .core⟩
/-- DQ_VIEW0[31:16], 08_persistence_and_ordering.md. -/
def Fld.DQ_VIEW0_PD : Fld := ⟨0x502010, 16, 16, .ro, 0, .core⟩

/-- DQ_VIEW1[12:0], 08_persistence_and_ordering.md. -/
def Fld.DQ_VIEW1_DEPTH : Fld := ⟨0x502014, 0, 13, .ro, 0, .core⟩

/-- DQ_VIEW2[31:0], 08_persistence_and_ordering.md. -/
def Fld.DQ_VIEW2_RING_BASE : Fld := ⟨0x502018, 0, 32, .ro, 0, .core⟩

/-- DQ_VIEW3[31:0], 08_persistence_and_ordering.md. -/
def Fld.DQ_VIEW3_RING_BASE : Fld := ⟨0x50201c, 0, 32, .ro, 0, .core⟩

/-- DQ_VIEW4[31:0], 08_persistence_and_ordering.md. -/
def Fld.DQ_VIEW4_COMPLETED : Fld := ⟨0x502020, 0, 32, .ro, 0, .core⟩

/-- DQ_VIEW5[31:0], 08_persistence_and_ordering.md. -/
def Fld.DQ_VIEW5_COMPLETED : Fld := ⟨0x502024, 0, 32, .ro, 0, .core⟩

/-- DQ_VIEW6[31:0], 08_persistence_and_ordering.md. -/
def Fld.DQ_VIEW6_POSTED : Fld := ⟨0x502028, 0, 32, .ro, 0, .core⟩

/-- DQ_VIEW7[31:0], 08_persistence_and_ordering.md. -/
def Fld.DQ_VIEW7_POSTED : Fld := ⟨0x50202c, 0, 32, .ro, 0, .core⟩

/-- DQ_VIEW8[16:0], 08_persistence_and_ordering.md. -/
def Fld.DQ_VIEW8_DEVQ_QP : Fld := ⟨0x502030, 0, 17, .ro, 0, .core⟩
/-- DQ_VIEW8[17:17], 08_persistence_and_ordering.md. -/
def Fld.DQ_VIEW8_BOUND : Fld := ⟨0x502030, 17, 1, .ro, 0, .core⟩

/-- DQ_COUNT[12:0], 08_persistence_and_ordering.md. -/
def Fld.DQ_COUNT_QUEUES : Fld := ⟨0x502040, 0, 13, .ro, 0, .core⟩

/-- DQ_ERRORS[31:0], 08_persistence_and_ordering.md. -/
def Fld.DQ_ERRORS_ERRORS : Fld := ⟨0x502044, 0, 32, .rc, 0, .core⟩

/-- DQ_TIMEOUTS[31:0], 08_persistence_and_ordering.md. -/
def Fld.DQ_TIMEOUTS_TIMEOUTS : Fld := ⟨0x502048, 0, 32, .rc, 0, .core⟩

/-- XPORT_READ_HELD[31:0], 08_persistence_and_ordering.md. -/
def Fld.XPORT_READ_HELD_HELD : Fld := ⟨0x50204c, 0, 32, .rc, 0, .core⟩

/-! ### Flash management globals -/

/-- FM_STATUS[4:0], 12_flash_management.md. -/
def Fld.FM_STATUS_WIDTH : Fld := ⟨0x600000, 0, 5, .ro, 0, .core⟩
/-- FM_STATUS[5:5], 12_flash_management.md. -/
def Fld.FM_STATUS_GC_ACTIVE : Fld := ⟨0x600000, 5, 1, .ro, 0, .core⟩
/-- FM_STATUS[6:6], 12_flash_management.md. -/
def Fld.FM_STATUS_GC_URGENT : Fld := ⟨0x600000, 6, 1, .ro, 0, .core⟩
/-- FM_STATUS[7:7], 12_flash_management.md. -/
def Fld.FM_STATUS_WEAR_LIMITED : Fld := ⟨0x600000, 7, 1, .ro, 0, .core⟩
/-- FM_STATUS[8:8], 12_flash_management.md. -/
def Fld.FM_STATUS_LIFE_SHORT : Fld := ⟨0x600000, 8, 1, .ro, 0, .core⟩
/-- FM_STATUS[9:9], 12_flash_management.md. -/
def Fld.FM_STATUS_OP_LOW : Fld := ⟨0x600000, 9, 1, .ro, 0, .core⟩
/-- FM_STATUS[10:10], 12_flash_management.md. -/
def Fld.FM_STATUS_REBUILD : Fld := ⟨0x600000, 10, 1, .ro, 0, .core⟩
/-- FM_STATUS[11:11], 12_flash_management.md. -/
def Fld.FM_STATUS_PURGE : Fld := ⟨0x600000, 11, 1, .ro, 0, .core⟩
/-- FM_STATUS[12:12], 12_flash_management.md. -/
def Fld.FM_STATUS_STRIPE_LOST : Fld := ⟨0x600000, 12, 1, .w1c, 0, .core⟩
/-- FM_STATUS[13:13], 12_flash_management.md. -/
def Fld.FM_STATUS_BLOCK_RETIRED : Fld := ⟨0x600000, 13, 1, .w1c, 0, .core⟩
/-- FM_STATUS[14:14], 12_flash_management.md. -/
def Fld.FM_STATUS_HALF_ERASED : Fld := ⟨0x600000, 14, 1, .w1c, 0, .core⟩
/-- FM_STATUS[15:15], 12_flash_management.md. -/
def Fld.FM_STATUS_LUN_FAILED : Fld := ⟨0x600000, 15, 1, .w1c, 0, .core⟩

/-- FM_BANDS_FREE[19:0], 12_flash_management.md. -/
def Fld.FM_BANDS_FREE_FREE : Fld := ⟨0x600004, 0, 20, .ro, 0, .core⟩

/-- FM_BANDS_VIGIL[19:0], 12_flash_management.md. -/
def Fld.FM_BANDS_VIGIL_VIGIL : Fld := ⟨0x600008, 0, 20, .ro, 0, .core⟩

/-- FM_BANDS_OPEN[7:0], 12_flash_management.md. -/
def Fld.FM_BANDS_OPEN_OPEN : Fld := ⟨0x60000c, 0, 8, .ro, 0, .core⟩
/-- FM_BANDS_OPEN[15:8], 12_flash_management.md. -/
def Fld.FM_BANDS_OPEN_LOG_OPEN : Fld := ⟨0x60000c, 8, 8, .ro, 0, .core⟩

/-- FM_BANDS_TOTAL[19:0], 12_flash_management.md. -/
def Fld.FM_BANDS_TOTAL_TOTAL : Fld := ⟨0x600010, 0, 20, .ro, 0, .core⟩

/-- FM_EC[15:0], 12_flash_management.md. -/
def Fld.FM_EC_MEAN : Fld := ⟨0x600014, 0, 16, .ro, 0, .core⟩
/-- FM_EC[31:16], 12_flash_management.md. -/
def Fld.FM_EC_MAX : Fld := ⟨0x600014, 16, 16, .ro, 0, .core⟩

/-- FM_EC_MIN[15:0], 12_flash_management.md. -/
def Fld.FM_EC_MIN_MIN : Fld := ⟨0x600018, 0, 16, .ro, 0, .core⟩

/-- FM_ALLOW[19:0], 12_flash_management.md. -/
def Fld.FM_ALLOW_MBPS : Fld := ⟨0x60001c, 0, 20, .ro, 0, .core⟩

/-- FM_CREDIT[31:0], 12_flash_management.md. -/
def Fld.FM_CREDIT_MIB : Fld := ⟨0x600020, 0, 32, .ro, 0, .core⟩

/-- FM_LIFE[15:0], 12_flash_management.md. -/
def Fld.FM_LIFE_LEFT : Fld := ⟨0x600024, 0, 16, .ro, 0, .core⟩
/-- FM_LIFE[31:16], 12_flash_management.md. -/
def Fld.FM_LIFE_WANT : Fld := ⟨0x600024, 16, 16, .ro, 0, .core⟩

/-- FM_REBUILD[31:0], 12_flash_management.md. -/
def Fld.FM_REBUILD_FOLIOS : Fld := ⟨0x600028, 0, 32, .ro, 0, .core⟩

/-- FM_PURGE[12:0], 12_flash_management.md. -/
def Fld.FM_PURGE_DOMAIN : Fld := ⟨0x600030, 0, 13, .ro, 0, .core⟩
/-- FM_PURGE[17:16], 12_flash_management.md. -/
def Fld.FM_PURGE_STAGE : Fld := ⟨0x600030, 16, 2, .ro, 0, .core⟩

/-- FM_PURGE_TOTAL[19:0], 12_flash_management.md. -/
def Fld.FM_PURGE_TOTAL_TOTAL : Fld := ⟨0x600034, 0, 20, .ro, 0, .core⟩

/-- FM_PURGE_DONE[19:0], 12_flash_management.md. -/
def Fld.FM_PURGE_DONE_DONE : Fld := ⟨0x600038, 0, 20, .ro, 0, .core⟩

/-- FM_PURGE_UNVERIFIED[22:0], 12_flash_management.md. -/
def Fld.FM_PURGE_UNVERIFIED_BLOCKS : Fld := ⟨0x60003c, 0, 23, .ro, 0, .core⟩

/-- FM_PROG_FAIL[31:0], 12_flash_management.md. -/
def Fld.FM_PROG_FAIL_PROG_FAIL : Fld := ⟨0x600040, 0, 32, .rc, 0, .core⟩

/-- FM_ERASE_FAIL[31:0], 12_flash_management.md. -/
def Fld.FM_ERASE_FAIL_ERASE_FAIL : Fld := ⟨0x600044, 0, 32, .rc, 0, .core⟩

/-- FM_BLOCKS_RETIRED[31:0], 12_flash_management.md. -/
def Fld.FM_BLOCKS_RETIRED_RETIRED : Fld := ⟨0x600048, 0, 32, .rc, 0, .core⟩

/-- FM_STRIPE_REBUILDS[31:0], 12_flash_management.md. -/
def Fld.FM_STRIPE_REBUILDS_REBUILDS : Fld := ⟨0x60004c, 0, 32, .rc, 0, .core⟩

/-- FM_GC_FOLIOS[31:0], 12_flash_management.md. -/
def Fld.FM_GC_FOLIOS_GC : Fld := ⟨0x600050, 0, 32, .rc, 0, .core⟩

/-- FM_HOST_FOLIOS[31:0], 12_flash_management.md. -/
def Fld.FM_HOST_FOLIOS_HOST : Fld := ⟨0x600054, 0, 32, .rc, 0, .core⟩

/-- FM_VIGIL_FOLIOS[31:0], 12_flash_management.md. -/
def Fld.FM_VIGIL_FOLIOS_VIGIL : Fld := ⟨0x600058, 0, 32, .rc, 0, .core⟩

/-- FM_PADS[31:0], 12_flash_management.md. -/
def Fld.FM_PADS_PADS : Fld := ⟨0x60005c, 0, 32, .rc, 0, .core⟩

/-- FM_LUN_SEL[9:0], 12_flash_management.md. -/
def Fld.FM_LUN_SEL_INDEX : Fld := ⟨0x600100, 0, 10, .rw, 0, .core⟩
/-- FM_LUN_SEL[31:31], 12_flash_management.md. -/
def Fld.FM_LUN_SEL_READY : Fld := ⟨0x600100, 31, 1, .ro, 0, .core⟩

/-- FM_LUN_VIEW0[0:0], 12_flash_management.md. -/
def Fld.FM_LUN_VIEW0_ENABLED : Fld := ⟨0x600104, 0, 1, .ro, 0, .core⟩
/-- FM_LUN_VIEW0[1:1], 12_flash_management.md. -/
def Fld.FM_LUN_VIEW0_FAILED : Fld := ⟨0x600104, 1, 1, .ro, 0, .core⟩
/-- FM_LUN_VIEW0[31:16], 12_flash_management.md. -/
def Fld.FM_LUN_VIEW0_RETIRED : Fld := ⟨0x600104, 16, 16, .ro, 0, .core⟩

/-- FM_LUN_VIEW1[15:0], 12_flash_management.md. -/
def Fld.FM_LUN_VIEW1_EC_MEAN : Fld := ⟨0x600108, 0, 16, .ro, 0, .core⟩
/-- FM_LUN_VIEW1[31:16], 12_flash_management.md. -/
def Fld.FM_LUN_VIEW1_EC_MAX : Fld := ⟨0x600108, 16, 16, .ro, 0, .core⟩

/-- FM_LUN_VIEW2[15:0], 12_flash_management.md. -/
def Fld.FM_LUN_VIEW2_ERASED : Fld := ⟨0x60010c, 0, 16, .ro, 0, .core⟩

/-- FM_BAND_SEL[19:0], 12_flash_management.md. -/
def Fld.FM_BAND_SEL_INDEX : Fld := ⟨0x600110, 0, 20, .rw, 0, .core⟩
/-- FM_BAND_SEL[31:31], 12_flash_management.md. -/
def Fld.FM_BAND_SEL_READY : Fld := ⟨0x600110, 31, 1, .ro, 0, .core⟩

/-- FM_BAND_VIEW0[3:0], 12_flash_management.md. -/
def Fld.FM_BAND_VIEW0_STATE : Fld := ⟨0x600114, 0, 4, .ro, 0, .core⟩
/-- FM_BAND_VIEW0[4:4], 12_flash_management.md. -/
def Fld.FM_BAND_VIEW0_SLC : Fld := ⟨0x600114, 4, 1, .ro, 0, .core⟩
/-- FM_BAND_VIEW0[9:5], 12_flash_management.md. -/
def Fld.FM_BAND_VIEW0_WIDTH : Fld := ⟨0x600114, 5, 5, .ro, 0, .core⟩
/-- FM_BAND_VIEW0[12:10], 12_flash_management.md. -/
def Fld.FM_BAND_VIEW0_STREAM : Fld := ⟨0x600114, 10, 3, .ro, 0, .core⟩

/-- FM_BAND_VIEW1[31:0], 12_flash_management.md. -/
def Fld.FM_BAND_VIEW1_VALID : Fld := ⟨0x600118, 0, 32, .ro, 0, .core⟩

/-- Registers of the block Identity, mode and interrupt summary, by offset, part 1. -/
def rows_id0 : List (Nat × List Fld) := [
  (0x0, [.ID_CHIP_CHIP]),
  (0x4, [.ID_HBM_GIB, .ID_HBM_HEIGHT]),
  (0x8, [.ID_SERIAL_LO_SERIAL_LO]),
  (0xc, [.ID_SERIAL_HI_SERIAL_HI]),
  (0x20, [.MODE_STATE_MODE, .MODE_STATE_TARGET, .MODE_STATE_PAGE, .MODE_STATE_DEGRADED, .MODE_STATE_TRANSIT, .MODE_STATE_WAIT_TWIN, .MODE_STATE_CAL_RUN, .MODE_STATE_ROLE]),
  (0x24, [.MODE_ENTRY_FROM, .MODE_ENTRY_CAUSE]),
  (0x28, [.MODE_CMD_OP, .MODE_CMD_GUARD]),
  (0x2c, [.MODE_RESULT_CHANGED, .MODE_RESULT_REFUSED, .MODE_RESULT_DEGRADED_SEEN, .MODE_RESULT_REASON, .MODE_RESULT_LAST_OP]),
  (0x40, [.INT_SUMMARY_SUMMARY]),
  (0x44, [.INT_MASK_MASK]),
  (0x48, [.INT_PENDING_PENDING]),
  (0x50, [.INT_DRAM_SRC_UNITS]),
  (0x54, [.INT_NAND_SRC_UNITS]),
  (0x58, [.INT_PORT_SRC_UNITS])]

/-- The fields of the register at an offset of the block Identity, mode and interrupt summary; none where no register is assigned. -/
def flds_id (off : Nat) : List Fld :=
  ((rows_id0).filter (fun e => e.1 == off)).flatMap Prod.snd

/-- Registers of the block Power supervisor, by offset, part 1. -/
def rows_pwr0 : List (Nat × List Fld) := [
  (0x0, [.PWR_STATUS_SEQ, .PWR_STATUS_STEP, .PWR_STATUS_LOCKOUT, .PWR_STATUS_FAULT_OWN, .PWR_STATUS_FAULT_EXT, .PWR_STATUS_HOLDUP_EN, .PWR_STATUS_ESTORE_TEST, .PWR_STATUS_PWRGD_IN, .PWR_STATUS_RAIL_FAULT_SEEN, .PWR_STATUS_EXT_FAULT_SEEN, .PWR_STATUS_ESTORE_FAULT, .PWR_STATUS_MEAS_ABORTED, .PWR_STATUS_RESERVE_HIT, .PWR_STATUS_TABLE_SRC, .PWR_STATUS_RETRIES]),
  (0x4, [.PWR_CTRL_MEASURE, .PWR_CTRL_CLEAR_LOCKOUT, .PWR_CTRL_GUARD]),
  (0x8, [.PWR_ESTORE_V_MV, .PWR_ESTORE_V_FLOOR_MV]),
  (0xc, [.PWR_ESTORE_C_MF]),
  (0x10, [.PWR_ESTORE_ESR_UOHM]),
  (0x14, [.PWR_ESTORE_E_JOULES]),
  (0x18, [.PWR_VIGIL_LAST_MS, .PWR_VIGIL_LAST_RESERVE, .PWR_VIGIL_LAST_SEALED, .PWR_VIGIL_LAST_LIMITED]),
  (0x1c, [.PWR_CYCLES_COUNT]),
  (0x20, [.PWR_ESTORE_AGE_AGE_S])]

/-- The fields of the register at an offset of the block Power supervisor; none where no register is assigned. -/
def flds_pwr (off : Nat) : List Fld :=
  if 0x100 ≤ off ∧ off < 0x1e0 ∧ off % 0x10 = 0x0 then [.PWR_RAIL_STATUS_STATE ((off - 0x100) / 0x10), .PWR_RAIL_STATUS_EN ((off - 0x100) / 0x10), .PWR_RAIL_STATUS_MV ((off - 0x100) / 0x10)] else
  if 0x104 ≤ off ∧ off < 0x1e4 ∧ off % 0x10 = 0x4 then [.PWR_RAIL_CNT_UV ((off - 0x104) / 0x10), .PWR_RAIL_CNT_OV ((off - 0x104) / 0x10), .PWR_RAIL_CNT_UP_TO ((off - 0x104) / 0x10), .PWR_RAIL_CNT_DIS_TO ((off - 0x104) / 0x10)] else
  ((rows_pwr0).filter (fun e => e.1 == off)).flatMap Prod.snd

/-- Registers of the block Clocks and thermal, by offset, part 1. -/
def rows_clk0 : List (Nat × List Fld) := [
  (0x0, [.CLK_RUN_RUN]),
  (0x4, [.CLK_FAULT_FAULT]),
  (0x8, [.CLK_STATE_REF_PRESENT, .CLK_STATE_MASTER_LOCK, .CLK_STATE_HOLDOVER, .CLK_STATE_XTAL_FAIL]),
  (0x10, [.CLK_RATIO_SEL_DOMAIN]),
  (0x14, [.CLK_RATIO_N, .CLK_RATIO_M, .CLK_RATIO_MHZ]),
  (0x20, [.THERM_STATUS_TJ, .THERM_STATUS_CAPPED, .THERM_STATUS_THERMTRIP, .THERM_STATUS_TRIP_SEEN, .THERM_STATUS_SENSOR_FAIL_SEEN, .THERM_STATUS_FAILED, .THERM_STATUS_ASSUMED, .THERM_STATUS_MEM_HOT]),
  (0x24, [.THERM_PEAK_PEAK]),
  (0x30, [.GOV_STATUS_LEVEL, .GOV_STATUS_PEAK_ALLOWED, .GOV_STATUS_CAP_UNMET, .GOV_STATUS_LEVEL_SEEN, .GOV_STATUS_UNMET_SEEN, .GOV_STATUS_EXCESS_S]),
  (0x34, [.GOV_POWER_P_EST, .GOV_POWER_LIMIT]),
  (0x38, [.GOV_CFG_SP_CAP_W]),
  (0x40, [.GOV_LEVEL_PERIODS_PERIODS]),
  (0x44, [.GOV_EXCESS_S_PEAK_S]),
  (0x48, [.THERM_CAP_PERIODS_CAPPED]),
  (0x4c, [.CLK_HOLDOVERS_HOLDOVERS])]

/-- The fields of the register at an offset of the block Clocks and thermal; none where no register is assigned. -/
def flds_clk (off : Nat) : List Fld :=
  ((rows_clk0).filter (fun e => e.1 == off)).flatMap Prod.snd

/-- Registers of the block Event recorder window, by offset, part 1. -/
def rows_evt0 : List (Nat × List Fld) := [
  (0x0, [.EVT_STATUS_RUNNING, .EVT_STATUS_GAP_SEEN, .EVT_STATUS_ARCH_GAP_SEEN, .EVT_STATUS_NOTIFIED, .EVT_STATUS_CLEARED_SEEN, .EVT_STATUS_ARCHIVING, .EVT_STATUS_QUEUE]),
  (0x4, [.EVT_HEAD_HEAD]),
  (0x8, [.EVT_OLDEST_OLDEST]),
  (0xc, [.EVT_ARCH_OLDEST_ARCH_OLDEST]),
  (0x10, [.EVT_ARCH_NEXT_ARCH_NEXT]),
  (0x14, [.EVT_CTRL_CLEAR, .EVT_CTRL_GUARD]),
  (0x18, [.EVT_NOTIFY_AREAS]),
  (0x1c, [.EVT_RATE_COUNT, .EVT_RATE_WINDOW_S]),
  (0x20, [.EVT_CURSOR_SEQ]),
  (0x24, [.EVT_WIN_STATUS_VALID, .EVT_WIN_STATUS_GONE, .EVT_WIN_STATUS_READY, .EVT_WIN_STATUS_ARCHIVE]),
  (0x40, [.EVT_WRITTEN_WRITTEN]),
  (0x44, [.EVT_FOLDED_FOLDED]),
  (0x48, [.EVT_SUPPRESSED_SUPPRESSED]),
  (0x4c, [.EVT_LOST_LOST]),
  (0x50, [.EVT_ARCH_LOST_ARCH_LOST])]

/-- The fields of the register at an offset of the block Event recorder window; none where no register is assigned. -/
def flds_evt (off : Nat) : List Fld :=
  if 0x100 ≤ off ∧ off < 0x200 ∧ off % 0x4 = 0x0 then [.EVT_WINDOW_DATA ((off - 0x100) / 0x4)] else
  ((rows_evt0).filter (fun e => e.1 == off)).flatMap Prod.snd

/-- Registers of the block Mailboxes, doorbells, I3C and sideband, by offset, part 1. -/
def rows_mb0 : List (Nat × List Fld) := [
  (0x80, [.MB_FLAGS_TO_DEV_FULL, .MB_FLAGS_TO_SP_FULL]),
  (0x84, [.MB_STATUS_OVERRUN, .MB_STATUS_CMDWIN_BUSY]),
  (0x90, [.DB_TO_SP_BITS]),
  (0x94, [.DB_MASK_MASK]),
  (0x98, [.DB_PENDING_PENDING]),
  (0xa0, [.I3C_STATUS_BUSMODE, .I3C_STATUS_DYN_ADDR, .I3C_STATUS_STATIC_ADDR, .I3C_STATUS_IBI_EN, .I3C_STATUS_HJ_EN, .I3C_STATUS_SADDR_MISMATCH]),
  (0xa4, [.I3C_SADDR_ADDR]),
  (0xa8, [.I3C_SADDR_CHK_CHECK]),
  (0xac, [.I3C_REFUSED_REFUSED]),
  (0xb0, [.I3C_LAST_REFUSAL_REASON, .I3C_LAST_REFUSAL_ADDR]),
  (0x100, [.SB_STATUS_PRESENT, .SB_STATUS_MISMATCH]),
  (0x104, [.SB_XFER_CTRL_SLOT, .SB_XFER_CTRL_DEV, .SB_XFER_CTRL_WRITE, .SB_XFER_CTRL_GO, .SB_XFER_CTRL_LENGTH, .SB_XFER_CTRL_RESULT, .SB_XFER_CTRL_OFFSET])]

/-- The fields of the register at an offset of the block Mailboxes, doorbells, I3C and sideband; none where no register is assigned. -/
def flds_mb (off : Nat) : List Fld :=
  if 0x0 ≤ off ∧ off < 0x40 ∧ off % 0x4 = 0x0 then [.MB_TO_DEV_WORD ((off - 0x0) / 0x4)] else
  if 0x40 ≤ off ∧ off < 0x80 ∧ off % 0x4 = 0x0 then [.MB_TO_SP_WORD ((off - 0x40) / 0x4)] else
  if 0x108 ≤ off ∧ off < 0x110 ∧ off % 0x4 = 0x0 then [.SB_XFER_DATA_DATA ((off - 0x108) / 0x4)] else
  if 0x200 ≤ off ∧ off < 0x280 ∧ off % 0x8 = 0x0 then [.SB_SLOT_ADDR_SEL ((off - 0x200) / 0x8)] else
  if 0x204 ≤ off ∧ off < 0x284 ∧ off % 0x8 = 0x4 then [.SB_SLOT_CHK_CHECK ((off - 0x204) / 0x8)] else
  if 0x1000 ≤ off ∧ off < 0x2000 ∧ off % 0x4 = 0x0 then [.CMD_WINDOW_DATA ((off - 0x1000) / 0x4)] else
  if 0x2000 ≤ off ∧ off < 0x3000 ∧ off % 0x4 = 0x0 then [.RESP_WINDOW_DATA ((off - 0x2000) / 0x4)] else
  ((rows_mb0).filter (fun e => e.1 == off)).flatMap Prod.snd

/-- Registers of the block Forme loader, calendar control and boot store, by offset, part 1. -/
def rows_cal0 : List (Nat × List Fld) := [
  (0x0, [.FORME_STATUS_ACTIVE_SLOT, .FORME_STATUS_A_REFUSED, .FORME_STATUS_B_REFUSED, .FORME_STATUS_A_REASON, .FORME_STATUS_B_REASON]),
  (0x4, [.FORME_DETAIL_A_DETAIL]),
  (0x8, [.FORME_DETAIL_B_DETAIL]),
  (0x10, [.FORME_CTRL_NEXT_SLOT, .FORME_CTRL_SVN_COMMIT, .FORME_CTRL_KEY_REVOKE, .FORME_CTRL_KEY_INDEX, .FORME_CTRL_GUARD]),
  (0x14, [.FORME_SVN_FUSED, .FORME_SVN_RUNNING, .FORME_SVN_REVOKED, .FORME_SVN_RUNNING_KEY]),
  (0x18, [.FORME_BUILD_LO_VALUE]),
  (0x1c, [.FORME_BUILD_HI_VALUE]),
  (0x100, [.CAL_CTRL_IMPRESS, .CAL_CTRL_DISCARD]),
  (0x104, [.IMPRESS_STATUS_PENDING, .IMPRESS_STATUS_DONE, .IMPRESS_STATUS_REFUSED, .IMPRESS_STATUS_DROPPED, .IMPRESS_STATUS_REASON, .IMPRESS_STATUS_WRITES]),
  (0x108, [.CAL_STATUS_LOADING, .CAL_STATUS_NEXT_PAGE, .CAL_STATUS_SWITCHED, .CAL_STATUS_UNCOVERED, .CAL_STATUS_LOST_UNIT]),
  (0x110, [.CAL_CYCLE_LO_CYCLE_LO]),
  (0x114, [.CAL_CYCLE_HI_CYCLE_HI]),
  (0x800, [.BS_CTRL_OP, .BS_CTRL_GO, .BS_CTRL_LENGTH, .BS_CTRL_GUARD]),
  (0x804, [.BS_ADDR_ADDR]),
  (0x808, [.BS_STATUS_BUSY, .BS_STATUS_DONE, .BS_STATUS_RESULT])]

/-- The fields of the register at an offset of the block Forme loader, calendar control and boot store; none where no register is assigned. -/
def flds_cal (off : Nat) : List Fld :=
  if 0x40 ≤ off ∧ off < 0x70 ∧ off % 0x4 = 0x0 then [.FORME_DIGEST_VALUE ((off - 0x40) / 0x4)] else
  if 0x200 ≤ off ∧ off < 0x430 ∧ off % 0x10 = 0x0 then [.ADMIT_STAT_OCC ((off - 0x200) / 0x10), .ADMIT_STAT_DEPTH ((off - 0x200) / 0x10)] else
  if 0x204 ≤ off ∧ off < 0x434 ∧ off % 0x10 = 0x4 then [.ADMIT_PEAK_PEAK ((off - 0x204) / 0x10)] else
  if 0x208 ≤ off ∧ off < 0x438 ∧ off % 0x10 = 0x8 then [.ADMIT_DROP_DROPS ((off - 0x208) / 0x10)] else
  if 0x20c ≤ off ∧ off < 0x43c ∧ off % 0x10 = 0xc then [.ADMIT_OVER_OVER ((off - 0x20c) / 0x10)] else
  if 0x1000 ≤ off ∧ off < 0x2000 ∧ off % 0x4 = 0x0 then [.BS_WINDOW_DATA ((off - 0x1000) / 0x4)] else
  ((rows_cal0).filter (fun e => e.1 == off)).flatMap Prod.snd

/-- Registers of the block Integrity banks, by offset, part 1. -/
def rows_integ0 : List (Nat × List Fld) := [
  (0x0, [.INTEG_SUMMARY_KIND_SEEN, .INTEG_SUMMARY_RETIRED, .INTEG_SUMMARY_SPARE_USED, .INTEG_SUMMARY_SPARE_NONE, .INTEG_SUMMARY_POISON, .INTEG_SUMMARY_INJ_MISMATCH, .INTEG_SUMMARY_INJ_DONE, .INTEG_SUMMARY_TAP_MISMATCH]),
  (0x4, [.INTEG_SPARES_NET_LANES, .INTEG_SPARES_FLESAL_LANE, .INTEG_SPARES_CIPHER, .INTEG_SPARES_MGMT, .INTEG_SPARES_LC_GROUPS]),
  (0x10, [.INTEG_QUERY_UNIT]),
  (0x14, [.INTEG_QUERY_RESULT_STATE, .INTEG_QUERY_RESULT_LAST_KIND, .INTEG_QUERY_RESULT_COUNT]),
  (0x18, [.INTEG_CLEAR_UNIT, .INTEG_CLEAR_GUARD]),
  (0x200, [.INTEG_LOG_HEAD_NEXT, .INTEG_LOG_HEAD_WRAPS]),
  (0x204, [.INTEG_LOG_CURSOR_INDEX]),
  (0x210, [.INTEG_LOG_DATA0_OSEQ]),
  (0x214, [.INTEG_LOG_DATA1_UNIT, .INTEG_LOG_DATA1_KIND, .INTEG_LOG_DATA1_CORRECTED, .INTEG_LOG_DATA1_POISONED, .INTEG_LOG_DATA1_INJECTED]),
  (0x218, [.INTEG_LOG_DATA2_CYCLE]),
  (0x21c, [.INTEG_LOG_DATA3_TICK]),
  (0x300, [.INTEG_INJECT_A_UNIT, .INTEG_INJECT_A_KIND, .INTEG_INJECT_A_ARM]),
  (0x304, [.INTEG_INJECT_B_CHECK])]

/-- The fields of the register at an offset of the block Integrity banks; none where no register is assigned. -/
def flds_integ (off : Nat) : List Fld :=
  if 0x108 ≤ off ∧ off < 0x180 ∧ off % 0x8 = 0x0 then [.INTEG_TRANS_TRANS ((off - 0x100) / 0x8)] else
  if 0x10c ≤ off ∧ off < 0x184 ∧ off % 0x8 = 0x4 then [.INTEG_FAIL_FAIL ((off - 0x104) / 0x8)] else
  ((rows_integ0).filter (fun e => e.1 == off)).flatMap Prod.snd

/-- Registers of the block Key store and cipher, by offset, part 1. -/
def rows_key0 : List (Nat × List Fld) := [
  (0x0, [.CIPHER_STATUS_CLUSTERS, .CIPHER_STATUS_SPARE_USED, .CIPHER_STATUS_SPARE_FOR, .CIPHER_STATUS_KAT_FAIL, .CIPHER_STATUS_ENTROPY_FAIL, .CIPHER_STATUS_MASK_DEGRADED, .CIPHER_STATUS_USAGE90_SEEN, .CIPHER_STATUS_USAGE100_SEEN, .CIPHER_STATUS_REKEY_ACTIVE, .CIPHER_STATUS_LOST_SEEN]),
  (0x4, [.KEY_CFG_REKEY_MBPS]),
  (0x8, [.KEY_COUNT_USED, .KEY_COUNT_NV_FREE]),
  (0x10, [.KEY_SEL_INDEX, .KEY_SEL_READY]),
  (0x14, [.KEY_VIEW0_STATE, .KEY_VIEW0_KIND, .KEY_VIEW0_NV, .KEY_VIEW0_BOUND, .KEY_VIEW0_AUTO_PCT, .KEY_VIEW0_OWNER]),
  (0x18, [.KEY_VIEW1_USAGE_LO]),
  (0x1c, [.KEY_VIEW2_USAGE_HI, .KEY_VIEW2_LIMIT_HI]),
  (0x20, [.KEY_VIEW3_LIMIT_LO]),
  (0x30, [.KD_SEL_INDEX, .KD_SEL_READY]),
  (0x34, [.KD_VIEW0_STATE, .KD_VIEW0_CUR_SLOT]),
  (0x38, [.KD_VIEW1_CUR_EPOCH]),
  (0x3c, [.KD_VIEW2_PREV_SLOT, .KD_VIEW2_PREV_VALID]),
  (0x40, [.KD_VIEW3_PREV_EPOCH]),
  (0x44, [.KD_VIEW4_LEFT]),
  (0x48, [.KD_VIEW5_EXTENTS]),
  (0x50, [.ENTROPY_STATUS_HEALTHY, .ENTROPY_STATUS_RCT_FAIL, .ENTROPY_STATUS_APT_FAIL]),
  (0x54, [.ENTROPY_RESEEDS_RESEEDS]),
  (0x60, [.KEY_ENC_REFUSED_REFUSED]),
  (0x64, [.KEY_UNWRAP_FAIL_UNWRAP]),
  (0x68, [.KEY_REKEY_FOLIOS_REKEYED]),
  (0x6c, [.KEY_LOADS_LOADS]),
  (0x70, [.KEY_KAT_RUNS_KATS])]

/-- The fields of the register at an offset of the block Key store and cipher; none where no register is assigned. -/
def flds_key (off : Nat) : List Fld :=
  ((rows_key0).filter (fun e => e.1 == off)).flatMap Prod.snd

/-- Registers of the block Daybook controller, by offset, part 1. -/
def rows_db0 : List (Nat × List Fld) := [
  (0x0, [.DB_STATUS_BANKS, .DB_STATUS_JOURNAL_HIGH, .DB_STATUS_JOURNAL_FULL, .DB_STATUS_GAP, .DB_STATUS_UNRECOVERABLE, .DB_STATUS_REMAP_SEEN, .DB_STATUS_SPARES_OUT, .DB_STATUS_UNSEALED, .DB_STATUS_SEAL_STATE]),
  (0x4, [.DB_CFG_ROW_CE_LIMIT, .DB_CFG_SCRUB_HOURS]),
  (0x8, [.DB_BANK_SEL_BANK]),
  (0xc, [.DB_BANK_VIEW_SPARES_LEFT, .DB_BANK_VIEW_RETIRED]),
  (0x10, [.DB_JOURNAL_FILL_RETAINED]),
  (0x14, [.DB_GSEQ_LO_GSEQ_LO]),
  (0x18, [.DB_GSEQ_HI_GSEQ_HI]),
  (0x1c, [.DB_TAIL_TAIL]),
  (0x20, [.DB_CE_CE]),
  (0x24, [.DB_UE_UE]),
  (0x28, [.DB_REBUILT_REBUILT]),
  (0x2c, [.DB_REMAPS_REMAPS]),
  (0x30, [.DB_JOURNAL_WAITS_WAITS]),
  (0x34, [.DB_SCRUBBED_SCRUBBED]),
  (0x40, [.DB_ERR_INFO_VALID, .DB_ERR_INFO_UE, .DB_ERR_INFO_BANK, .DB_ERR_INFO_ROW, .DB_ERR_INFO_GRANULE, .DB_ERR_INFO_BITS])]

/-- The fields of the register at an offset of the block Daybook controller; none where no register is assigned. -/
def flds_db (off : Nat) : List Fld :=
  ((rows_db0).filter (fun e => e.1 == off)).flatMap Prod.snd

/-- Registers of the block Twin and Flesal, by offset, part 1. -/
def rows_twin0 : List (Nat × List Fld) := [
  (0x0, [.TWIN_CFG_LOSS_US, .TWIN_CFG_DEFER_MS, .TWIN_CFG_EGRESS_WARN_DAYS]),
  (0x4, [.TWIN_LEASE_CFG_LEASE_WAIT_MS, .TWIN_LEASE_CFG_WITNESS_SLOT]),
  (0x8, [.TWIN_KEY_CFG_SLOT0, .TWIN_KEY_CFG_SLOT1]),
  (0xc, [.TWIN_RESYNC_CFG_CATCHUP_GROUPS, .TWIN_RESYNC_CFG_MAX_PASSES]),
  (0x10, [.TWIN_STATUS_LINK_UP, .TWIN_STATUS_PAIRED, .TWIN_STATUS_FENCED, .TWIN_STATUS_HOLDING, .TWIN_STATUS_PARTNER_MODE, .TWIN_STATUS_LANES_UP, .TWIN_STATUS_SPARE_IN_USE, .TWIN_STATUS_EGRESS_OLD, .TWIN_STATUS_LINK_LOST_SEEN, .TWIN_STATUS_MISMATCH_SEEN, .TWIN_STATUS_DIVERGED_SEEN, .TWIN_STATUS_TAKEOVER_SEEN, .TWIN_STATUS_PROTOCOL_ERR, .TWIN_STATUS_STRAP_CONFLICT, .TWIN_STATUS_DIGEST_DIFF]),
  (0x14, [.TWIN_TERM_TERM]),
  (0x18, [.TWIN_PAIR_PAIR]),
  (0x1c, [.TWIN_RTT_NS, .TWIN_RTT_MAX_NS]),
  (0x20, [.TWIN_ONUM_LO_ONUM]),
  (0x24, [.TWIN_ONUM_HI_ONUM]),
  (0x28, [.TWIN_REPORTED_LO_REPORTED]),
  (0x2c, [.TWIN_REPORTED_HI_REPORTED]),
  (0x30, [.TWIN_OSEQ_LO_OSEQ]),
  (0x34, [.TWIN_OSEQ_HI_OSEQ]),
  (0x38, [.TWIN_WINDOW_WINDOW]),
  (0x3c, [.TWIN_EGRESS_HOURS]),
  (0x40, [.TWIN_RESYNC_PHASE, .TWIN_RESYNC_FULL, .TWIN_RESYNC_PASS]),
  (0x44, [.TWIN_RESYNC_LEFT_GROUPS]),
  (0x48, [.TWIN_TAKEOVER_LO_TAKEOVER]),
  (0x4c, [.TWIN_TAKEOVER_HI_TAKEOVER]),
  (0x180, [.TWIN_LEASE_CTRL_SUBMIT, .TWIN_LEASE_CTRL_DENY, .TWIN_LEASE_CTRL_GUARD]),
  (0x184, [.TWIN_LEASE_STATUS_PENDING, .TWIN_LEASE_STATUS_GRANTED, .TWIN_LEASE_STATUS_DENIED, .TWIN_LEASE_STATUS_REJECTED, .TWIN_LEASE_STATUS_EXPIRED, .TWIN_LEASE_STATUS_WITHDRAWN, .TWIN_LEASE_STATUS_REASON]),
  (0x240, [.TWIN_MB_FLAGS_OUT_FULL, .TWIN_MB_FLAGS_IN_FULL, .TWIN_MB_FLAGS_OVERRUN, .TWIN_MB_FLAGS_LOST]),
  (0x244, [.TWIN_DB_OUT_RING]),
  (0x248, [.TWIN_DB_IN_BITS]),
  (0x24c, [.TWIN_DB_MASK_MASK]),
  (0x300, [.TWIN_ITEMS_ITEMS]),
  (0x304, [.TWIN_LINK_RETRIES_RETRIES]),
  (0x308, [.TWIN_TAG_FAILS_TAG_FAILS]),
  (0x30c, [.TWIN_WINDOWS_WINDOWS])]

/-- Registers of the block Twin and Flesal, by offset, part 2. -/
def rows_twin1 : List (Nat × List Fld) := [
  (0x310, [.TWIN_MISMATCHES_MISMATCHES]),
  (0x314, [.TWIN_HELD_RESPONSES_HELD])]

/-- The fields of the register at an offset of the block Twin and Flesal; none where no register is assigned. -/
def flds_twin (off : Nat) : List Fld :=
  if 0x100 ≤ off ∧ off < 0x140 ∧ off % 0x4 = 0x0 then [.TWIN_LEASE_REQ_REQ ((off - 0x100) / 0x4)] else
  if 0x140 ≤ off ∧ off < 0x180 ∧ off % 0x4 = 0x0 then [.TWIN_LEASE_GRANT_GRANT ((off - 0x140) / 0x4)] else
  if 0x200 ≤ off ∧ off < 0x220 ∧ off % 0x4 = 0x0 then [.TWIN_MB_OUT_WORD ((off - 0x200) / 0x4)] else
  if 0x220 ≤ off ∧ off < 0x240 ∧ off % 0x4 = 0x0 then [.TWIN_MB_IN_WORD ((off - 0x220) / 0x4)] else
  ((rows_twin0).filter (fun e => e.1 == off)).flatMap Prod.snd ++ ((rows_twin1).filter (fun e => e.1 == off)).flatMap Prod.snd

/-- Registers of the block Tier manager, line cache and galley, by offset, part 1. -/
def rows_tier0 : List (Nat × List Fld) := [
  (0x0, [.TIER_STATUS_THROTTLE, .TIER_STATUS_MAP_WARM, .TIER_STATUS_HOLDUP_SHORT, .TIER_STATUS_OVER_BUDGET, .TIER_STATUS_PAIR_BUDGET, .TIER_STATUS_LIMIT, .TIER_STATUS_BUDGET_CHANGED, .TIER_STATUS_THROTTLE_SEEN, .TIER_STATUS_MOVE_FAILED, .TIER_STATUS_FOLIO_LOST]),
  (0x8, [.TIER_DIRTY_LO_FOLIOS]),
  (0xc, [.TIER_DIRTY_HI_FOLIOS]),
  (0x10, [.TIER_BUDGET_LO_FOLIOS]),
  (0x14, [.TIER_BUDGET_HI_FOLIOS]),
  (0x18, [.TIER_ENERGY_JOULES]),
  (0x1c, [.TIER_RSAVE_MBPS]),
  (0x20, [.TIER_VIGIL_CAP_LO_FOLIOS]),
  (0x24, [.TIER_VIGIL_CAP_HI_FOLIOS]),
  (0x28, [.TIER_STAGE_USED]),
  (0x2c, [.TIER_EVB_USED]),
  (0x30, [.TIER_LATCH_USED]),
  (0x34, [.TIER_MAP_LOAD_PAGES]),
  (0x38, [.TIER_SEASON_SEASON]),
  (0x40, [.TIER_PROMOTIONS_PROMOTIONS]),
  (0x44, [.TIER_DEMOTIONS_DEMOTIONS]),
  (0x48, [.TIER_DESTAGES_DESTAGES]),
  (0x4c, [.TIER_STAGES_STAGES]),
  (0x50, [.TIER_CANCELS_CANCELS]),
  (0x54, [.TIER_DROPS_DROPS]),
  (0x58, [.TIER_MOVE_FAILS_FAILS]),
  (0x5c, [.TIER_THROTTLE_CYCLES_CYCLES]),
  (0x100, [.TIER_FOLIO_SEL_LO_INDEX_LO]),
  (0x104, [.TIER_FOLIO_SEL_HI_INDEX_HI, .TIER_FOLIO_SEL_HI_META, .TIER_FOLIO_SEL_HI_READY]),
  (0x110, [.TIER_FOLIO_VIEW0_ENTRY_LO]),
  (0x114, [.TIER_FOLIO_VIEW1_ENTRY_HI]),
  (0x118, [.TIER_FOLIO_VIEW2_HEAT, .TIER_FOLIO_VIEW2_LATCH, .TIER_FOLIO_VIEW2_REDIRTY, .TIER_FOLIO_VIEW2_MAP_COLD]),
  (0x11c, [.TIER_FOLIO_VIEW3_WSEQ]),
  (0x1000, [.LC_STATUS_BANKS]),
  (0x1004, [.LC_CTRL_INVALIDATE, .LC_CTRL_GUARD])]

/-- Registers of the block Tier manager, line cache and galley, by offset, part 2. -/
def rows_tier1 : List (Nat × List Fld) := [
  (0x1008, [.LC_SPARE_LO_GROUPS]),
  (0x100c, [.LC_SPARE_HI_GROUPS]),
  (0x1010, [.LC_LFSR_SEL_BANK]),
  (0x1014, [.LC_LFSR_VALUE]),
  (0x1020, [.LC_READ_HITS_HITS]),
  (0x1024, [.LC_READ_MISSES_MISSES]),
  (0x1028, [.LC_WRITE_HITS_WRITE_HITS]),
  (0x102c, [.LC_FILLS_FILLS]),
  (0x1030, [.LC_FILL_STALE_STALE]),
  (0x1034, [.LC_INVALIDATES_INVALIDATES]),
  (0x2000, [.GALLEY_CFG_DRAIN_AGE, .GALLEY_CFG_C0_RESERVE, .GALLEY_CFG_HIGH_PCT]),
  (0x2004, [.GALLEY_STATUS_OCC, .GALLEY_STATUS_WAIT_SEEN, .GALLEY_STATUS_EVACUATED]),
  (0x2008, [.GALLEY_BANKS_IN_SERVICE]),
  (0x200c, [.GALLEY_BANK_SEL_BANK]),
  (0x2010, [.GALLEY_BANK_OCC_OCC]),
  (0x2014, [.GALLEY_BANK_PEAK_PEAK]),
  (0x2020, [.GALLEY_MERGES_MERGES]),
  (0x2024, [.GALLEY_ALLOCS_ALLOCS]),
  (0x2028, [.GALLEY_DRAINS_DRAINS]),
  (0x202c, [.GALLEY_REDRAINS_REDRAINS]),
  (0x2030, [.GALLEY_WAITS_WAITS]),
  (0x2034, [.GALLEY_OVERLAYS_OVERLAYS])]

/-- The fields of the register at an offset of the block Tier manager, line cache and galley; none where no register is assigned. -/
def flds_tier (off : Nat) : List Fld :=
  ((rows_tier0).filter (fun e => e.1 == off)).flatMap Prod.snd ++ ((rows_tier1).filter (fun e => e.1 == off)).flatMap Prod.snd

/-- Registers of the block `DDRC[n]` (n = 0 to 7) and `HBMC[n]` (as n = 8 to 23), by offset, part 1. -/
def rows_mem0 (n : Nat) : List (Nat × List Fld) := [
  (0x0, [.MEM_CFG_GEN n, .MEM_CFG_ENABLED n, .MEM_CFG_IN_INTERLEAVE n, .MEM_CFG_SLOT n, .MEM_CFG_DPC n, .MEM_CFG_MT_S n]),
  (0x4, [.MEM_STATUS_TRAINED n, .MEM_STATUS_RETIRED n, .MEM_STATUS_GATED n, .MEM_STATUS_REFRESH_SHORT n, .MEM_STATUS_ALERT_SEEN n, .MEM_STATUS_UE_SEEN n, .MEM_STATUS_REPAIR_PENDING n, .MEM_STATUS_TRAIN_STEP n]),
  (0x8, [.MEM_TEMP_TEMP_MAX n, .MEM_TEMP_PEAK n, .MEM_TEMP_REF_TEMP n]),
  (0xc, [.MEM_ECC_CTRL_ROW_CE_LIMIT n, .MEM_ECC_CTRL_SCRUB_HOURS n]),
  (0x10, [.MEM_ERR_INFO_VALID n, .MEM_ERR_INFO_UE n, .MEM_ERR_INFO_SUB n, .MEM_ERR_INFO_RANK n, .MEM_ERR_INFO_CID n, .MEM_ERR_INFO_BG n, .MEM_ERR_INFO_BA n, .MEM_ERR_INFO_COL n]),
  (0x14, [.MEM_ERR_ROW_ROW n]),
  (0x18, [.MEM_ERR_SYN_POSITION n, .MEM_ERR_SYN_MULTI n, .MEM_ERR_SYN_SYNDROME n]),
  (0x20, [.MEM_CE_CE n]),
  (0x24, [.MEM_UE_UE n]),
  (0x28, [.MEM_POISON_POISON n]),
  (0x2c, [.MEM_ALERTS_ALERTS n]),
  (0x30, [.MEM_DEFERRED_DEFERRED n]),
  (0x34, [.MEM_REF_POSTPONED_REF_POSTPONED n]),
  (0x38, [.MEM_WB_DROPPED_WB_DROPPED n]),
  (0x3c, [.MEM_SCRUBBED_SCRUBBED n]),
  (0x40, [.MEM_DEV_SEL_POSITION n]),
  (0x44, [.MEM_DEV_CE_DEV_CE n]),
  (0x50, [.MEM_REPAIR_PENDING n, .MEM_REPAIR_DONE n, .MEM_REPAIR_EXHAUSTED n]),
  (0x54, [.MEM_LANE_REMAPPED n, .MEM_LANE_SPARES_LEFT n, .MEM_LANE_PENDING n])]

/-- The fields of the register at an offset of the block `DDRC[n]` (n = 0 to 7) and `HBMC[n]` (as n = 8 to 23); none where no register is assigned. -/
def flds_mem (n off : Nat) : List Fld :=
  ((rows_mem0 n).filter (fun e => e.1 == off)).flatMap Prod.snd

/-- Registers of the block `NANDC[n]`, by offset, part 1. -/
def rows_nand0 (n : Nat) : List (Nat × List Fld) := [
  (0x0, [.NANDC_CFG_TABLE n, .NANDC_CFG_IFACE n, .NANDC_CFG_ENABLED n, .NANDC_CFG_TARGETS n, .NANDC_CFG_LUNS n, .NANDC_CFG_MT_S n]),
  (0x4, [.NANDC_STATUS_TRAINED n, .NANDC_STATUS_RETIRED n, .NANDC_STATUS_REFUSED_SEEN n, .NANDC_STATUS_STARVE_SEEN n, .NANDC_STATUS_TIMEOUT_SEEN n, .NANDC_STATUS_UE_SEEN n, .NANDC_STATUS_TRAIN_STEP n]),
  (0x8, [.NANDC_SUSPEND_CFG_RESUME_GRANT_US n, .NANDC_SUSPEND_CFG_STARVE_MS n]),
  (0xc, [.NANDC_CONT_CFG_CONT_MAX_PAGES n]),
  (0x10, [.NANDC_LUN_SEL_INDEX n, .NANDC_LUN_SEL_READY n]),
  (0x14, [.NANDC_LUN_VIEW0_OP n, .NANDC_LUN_VIEW0_SUSP_OP n, .NANDC_LUN_VIEW0_STARVED n, .NANDC_LUN_VIEW0_SUSPENDS n]),
  (0x18, [.NANDC_LUN_VIEW1_ELAPSED_US n]),
  (0x20, [.NANDC_READS_READS n]),
  (0x24, [.NANDC_PROGRAMS_PROGRAMS n]),
  (0x28, [.NANDC_ERASES_ERASES n]),
  (0x2c, [.NANDC_SUSPENDS_SUSPENDS n]),
  (0x30, [.NANDC_RETRY_READS_RETRY_READS n]),
  (0x34, [.NANDC_SOFT_DECODES_SOFT n]),
  (0x38, [.NANDC_UE_UE n]),
  (0x3c, [.NANDC_CODEWORDS_CODEWORDS n]),
  (0x40, [.NANDC_BITS_CORRECTED_BITS n]),
  (0x44, [.NANDC_PROG_REFUSED_REFUSED n]),
  (0x48, [.NANDC_TIMEOUTS_TIMEOUTS n]),
  (0x4c, [.NANDC_CONT_PAGES_CONT_PAGES n]),
  (0x50, [.NANDC_RETRY_HIST_SEL_STEP n, .NANDC_RETRY_HIST_SEL_SLC n]),
  (0x54, [.NANDC_RETRY_HIST_COUNT n]),
  (0x60, [.NANDC_ERR_INFO_VALID n, .NANDC_ERR_INFO_SLC n, .NANDC_ERR_INFO_SLOT n, .NANDC_ERR_INFO_LUN n, .NANDC_ERR_INFO_STEPS n]),
  (0x64, [.NANDC_ERR_ADDR_BLOCK n, .NANDC_ERR_ADDR_PAGE n]),
  (0x68, [.NANDC_ERR_SYN_WEIGHT n, .NANDC_ERR_SYN_ZERO_BITS n]),
  (0x80, [.NANDC_RAW_CTRL_OP n, .NANDC_RAW_CTRL_GO n, .NANDC_RAW_CTRL_GUARD n]),
  (0x84, [.NANDC_RAW_ADDR0_LUN n, .NANDC_RAW_ADDR0_SLC n, .NANDC_RAW_ADDR0_BLOCK n]),
  (0x88, [.NANDC_RAW_ADDR1_PAGE n]),
  (0x8c, [.NANDC_RAW_STATUS_BUSY n, .NANDC_RAW_STATUS_DONE n, .NANDC_RAW_STATUS_RESULT n, .NANDC_RAW_STATUS_STATUS_BYTE n, .NANDC_RAW_STATUS_STEPS n])]

/-- The fields of the register at an offset of the block `NANDC[n]`; none where no register is assigned. -/
def flds_nand (n off : Nat) : List Fld :=
  if 0x1000 ≤ off ∧ off < 0x5800 ∧ off % 0x4 = 0x0 then [.NANDC_RAW_DATA_DATA n ((off - 0x1000) / 0x4)] else
  ((rows_nand0 n).filter (fun e => e.1 == off)).flatMap Prod.snd

/-- Registers of the block `PORT[n]`, by offset, part 1. -/
def rows_port0 (n : Nat) : List (Nat × List Fld) := [
  (0x0, [.PORT_CFG_SPEED n, .PORT_CFG_LANE_BASE n, .PORT_CFG_LANES n, .PORT_CFG_FEC n, .PORT_CFG_ENABLED n, .PORT_CFG_MAX_FRAME n]),
  (0x4, [.PORT_STATUS_LINK_UP n, .PORT_STATUS_ADVERTISED n, .PORT_STATUS_HELD n, .PORT_STATUS_SPARED n, .PORT_STATUS_LINK_CHANGED n, .PORT_STATUS_PAUSE_C0 n]),
  (0x8, [.PORT_MAC_LO_MAC_LO n]),
  (0xc, [.PORT_MAC_HI_MAC_HI n]),
  (0x10, [.PORT_VLAN_VID n, .PORT_VLAN_TAGGED n, .PORT_VLAN_PCP_C0 n, .PORT_VLAN_PCP_C1 n, .PORT_VLAN_PCP_C2 n, .PORT_VLAN_PCP_OTHER n]),
  (0x200, [.PORT_RX_FRAMES_RX_FRAMES n]),
  (0x204, [.PORT_RX_FCS_ERR_RX_FCS_ERR n]),
  (0x208, [.PORT_RX_ICRC_ERR_RX_ICRC_ERR n]),
  (0x20c, [.PORT_RX_DISCARD_RX_DISCARD n]),
  (0x210, [.PORT_RX_ESP_FAIL_RX_ESP_FAIL n]),
  (0x214, [.PORT_RX_CE_RX_CE n]),
  (0x218, [.PORT_TX_FRAMES_TX_FRAMES n]),
  (0x21c, [.PORT_CNP_TX_CNP_TX n]),
  (0x220, [.PORT_CNP_RX_CNP_RX n]),
  (0x224, [.PORT_PAUSE_CYCLES_PAUSE_CYCLES n]),
  (0x228, [.PORT_ICMP_DROP_ICMP_DROP n])]

/-- The fields of the register at an offset of the block `PORT[n]`; none where no register is assigned. -/
def flds_port (n off : Nat) : List Fld :=
  if 0x100 ≤ off ∧ off < 0x180 ∧ off % 0x20 = 0x0 then [.PORT_ADDR_CTRL_VALID n ((off - 0x100) / 0x20), .PORT_ADDR_CTRL_IPV6 n ((off - 0x100) / 0x20)] else
  if 0x104 ≤ off ∧ off < 0x184 ∧ off % 0x20 = 0x4 then [.PORT_ADDR_DATA0_ADDR n ((off - 0x104) / 0x20)] else
  if 0x108 ≤ off ∧ off < 0x188 ∧ off % 0x20 = 0x8 then [.PORT_ADDR_DATA1_ADDR n ((off - 0x108) / 0x20)] else
  if 0x10c ≤ off ∧ off < 0x18c ∧ off % 0x20 = 0xc then [.PORT_ADDR_DATA2_ADDR n ((off - 0x10c) / 0x20)] else
  if 0x110 ≤ off ∧ off < 0x190 ∧ off % 0x20 = 0x10 then [.PORT_ADDR_DATA3_ADDR n ((off - 0x110) / 0x20)] else
  ((rows_port0 n).filter (fun e => e.1 == off)).flatMap Prod.snd

/-- Registers of the block RDMA transport globals, regions, protection domains and device queues, by offset, part 1. -/
def rows_xport0 : List (Nat × List Fld) := [
  (0x0, [.XPORT_CM_PORT_A_DATA_PORT, .XPORT_CM_PORT_A_CONTROL_PORT]),
  (0x4, [.XPORT_CM_PORT_B_DEVQ_PORT]),
  (0x8, [.XPORT_REQ_TIMEOUT, .XPORT_REQ_RETRY, .XPORT_REQ_RNR_RETRY, .XPORT_REQ_MIN_RNR]),
  (0xc, [.XPORT_ACK_COALESCE, .XPORT_ACK_TIMER, .XPORT_ACK_CNP_INTERVAL]),
  (0x10, [.XPORT_STATUS_QPS_OPEN, .XPORT_STATUS_HOSTS]),
  (0x14, [.XPORT_QP_SEL_INDEX, .XPORT_QP_SEL_READY]),
  (0x40, [.XPORT_QP_VIEW0_STATE, .XPORT_QP_VIEW0_KIND, .XPORT_QP_VIEW0_CLASS, .XPORT_QP_VIEW0_ESP, .XPORT_QP_VIEW0_PORT, .XPORT_QP_VIEW0_MTU, .XPORT_QP_VIEW0_IPV6, .XPORT_QP_VIEW0_NAK_SENT, .XPORT_QP_VIEW0_PD]),
  (0x44, [.XPORT_QP_VIEW1_REMOTE_QPN]),
  (0x48, [.XPORT_QP_VIEW2_EPSN]),
  (0x4c, [.XPORT_QP_VIEW3_MSN]),
  (0x50, [.XPORT_QP_VIEW4_SPSN]),
  (0x54, [.XPORT_QP_VIEW5_UNACKED]),
  (0x58, [.XPORT_QP_VIEW6_PKEY, .XPORT_QP_VIEW6_TIMEOUT, .XPORT_QP_VIEW6_RETRY, .XPORT_QP_VIEW6_RNR_RETRY, .XPORT_QP_VIEW6_MIN_RNR]),
  (0x5c, [.XPORT_QP_VIEW7_DSCP, .XPORT_QP_VIEW7_OUTSTANDING, .XPORT_QP_VIEW7_ACACHE, .XPORT_QP_VIEW7_HOST]),
  (0x60, [.XPORT_QP_VIEW8_RATE]),
  (0x64, [.XPORT_QP_VIEW9_RTT_MIN]),
  (0x68, [.XPORT_QP_VIEW10_RTT_LAST]),
  (0x6c, [.XPORT_QP_VIEW11_IMM_LAST]),
  (0x70, [.XPORT_QP_VIEW12_IMM_COUNT]),
  (0x74, [.XPORT_QP_VIEW13_DUPS]),
  (0x78, [.XPORT_QP_VIEW14_KEY_SLOT]),
  (0x7c, [.XPORT_QP_VIEW15_RETRIES]),
  (0x100, [.XPORT_DUP_WRITE_DUP_WRITE]),
  (0x104, [.XPORT_DUP_READ_DUP_READ]),
  (0x108, [.XPORT_DUP_ATOMIC_DUP_ATOMIC]),
  (0x10c, [.XPORT_NAK_SEQ_NAK_SEQ]),
  (0x110, [.XPORT_NAK_INVALID_NAK_INVALID]),
  (0x114, [.XPORT_NAK_ACCESS_NAK_ACCESS]),
  (0x118, [.XPORT_NAK_OPER_NAK_OPER]),
  (0x11c, [.XPORT_RNR_RNR])]

/-- Registers of the block RDMA transport globals, regions, protection domains and device queues, by offset, part 2. -/
def rows_xport1 : List (Nat × List Fld) := [
  (0x120, [.XPORT_RETRY_EXC_RETRY_EXC]),
  (0x124, [.XPORT_PROBES_PROBES]),
  (0x1000, [.REGION_SEL_INDEX, .REGION_SEL_READY]),
  (0x1010, [.REGION_VIEW0_STATE, .REGION_VIEW0_KIND, .REGION_VIEW0_ACCESS, .REGION_VIEW0_ZONE_LOG2, .REGION_VIEW0_PD]),
  (0x1014, [.REGION_VIEW1_GEN, .REGION_VIEW1_KEY_DOMAIN]),
  (0x1018, [.REGION_VIEW2_VA_BASE]),
  (0x101c, [.REGION_VIEW3_VA_BASE]),
  (0x1020, [.REGION_VIEW4_LENGTH]),
  (0x1024, [.REGION_VIEW5_LENGTH]),
  (0x1028, [.REGION_VIEW6_RANGE_BASE]),
  (0x102c, [.REGION_VIEW7_RANGE_BASE]),
  (0x1030, [.REGION_VIEW8_IN_FLIGHT]),
  (0x1034, [.REGION_VIEW9_VIOLATIONS]),
  (0x1040, [.PD_SEL_INDEX, .PD_SEL_READY]),
  (0x1044, [.PD_VIEW0_VALID, .PD_VIEW0_CAPS, .PD_VIEW0_QPS]),
  (0x1048, [.PD_VIEW1_REGIONS]),
  (0x104c, [.PD_VIEW2_EVQ_RKEY]),
  (0x1060, [.REGION_LIVE_LIVE]),
  (0x1064, [.REGION_REVOKING_REVOKING]),
  (0x1068, [.PD_COUNT_PDS]),
  (0x106c, [.REGION_ACCESS_ERR_ACCESS_ERR]),
  (0x1070, [.REGION_REVOKE_FORCED_FORCED]),
  (0x1074, [.REGION_EVQ_OVERFLOW_EVQ_OVERFLOW]),
  (0x2000, [.DQ_SEL_INDEX, .DQ_SEL_READY]),
  (0x2010, [.DQ_VIEW0_STATE, .DQ_VIEW0_CLASS, .DQ_VIEW0_CAUSE, .DQ_VIEW0_PD]),
  (0x2014, [.DQ_VIEW1_DEPTH]),
  (0x2018, [.DQ_VIEW2_RING_BASE]),
  (0x201c, [.DQ_VIEW3_RING_BASE]),
  (0x2020, [.DQ_VIEW4_COMPLETED]),
  (0x2024, [.DQ_VIEW5_COMPLETED])]

/-- Registers of the block RDMA transport globals, regions, protection domains and device queues, by offset, part 3. -/
def rows_xport2 : List (Nat × List Fld) := [
  (0x2028, [.DQ_VIEW6_POSTED]),
  (0x202c, [.DQ_VIEW7_POSTED]),
  (0x2030, [.DQ_VIEW8_DEVQ_QP, .DQ_VIEW8_BOUND]),
  (0x2040, [.DQ_COUNT_QUEUES]),
  (0x2044, [.DQ_ERRORS_ERRORS]),
  (0x2048, [.DQ_TIMEOUTS_TIMEOUTS]),
  (0x204c, [.XPORT_READ_HELD_HELD])]

/-- The fields of the register at an offset of the block RDMA transport globals, regions, protection domains and device queues; none where no register is assigned. -/
def flds_xport (off : Nat) : List Fld :=
  ((rows_xport0).filter (fun e => e.1 == off)).flatMap Prod.snd ++ ((rows_xport1).filter (fun e => e.1 == off)).flatMap Prod.snd ++ ((rows_xport2).filter (fun e => e.1 == off)).flatMap Prod.snd

/-- Registers of the block Flash management globals, by offset, part 1. -/
def rows_fm0 : List (Nat × List Fld) := [
  (0x0, [.FM_STATUS_WIDTH, .FM_STATUS_GC_ACTIVE, .FM_STATUS_GC_URGENT, .FM_STATUS_WEAR_LIMITED, .FM_STATUS_LIFE_SHORT, .FM_STATUS_OP_LOW, .FM_STATUS_REBUILD, .FM_STATUS_PURGE, .FM_STATUS_STRIPE_LOST, .FM_STATUS_BLOCK_RETIRED, .FM_STATUS_HALF_ERASED, .FM_STATUS_LUN_FAILED]),
  (0x4, [.FM_BANDS_FREE_FREE]),
  (0x8, [.FM_BANDS_VIGIL_VIGIL]),
  (0xc, [.FM_BANDS_OPEN_OPEN, .FM_BANDS_OPEN_LOG_OPEN]),
  (0x10, [.FM_BANDS_TOTAL_TOTAL]),
  (0x14, [.FM_EC_MEAN, .FM_EC_MAX]),
  (0x18, [.FM_EC_MIN_MIN]),
  (0x1c, [.FM_ALLOW_MBPS]),
  (0x20, [.FM_CREDIT_MIB]),
  (0x24, [.FM_LIFE_LEFT, .FM_LIFE_WANT]),
  (0x28, [.FM_REBUILD_FOLIOS]),
  (0x30, [.FM_PURGE_DOMAIN, .FM_PURGE_STAGE]),
  (0x34, [.FM_PURGE_TOTAL_TOTAL]),
  (0x38, [.FM_PURGE_DONE_DONE]),
  (0x3c, [.FM_PURGE_UNVERIFIED_BLOCKS]),
  (0x40, [.FM_PROG_FAIL_PROG_FAIL]),
  (0x44, [.FM_ERASE_FAIL_ERASE_FAIL]),
  (0x48, [.FM_BLOCKS_RETIRED_RETIRED]),
  (0x4c, [.FM_STRIPE_REBUILDS_REBUILDS]),
  (0x50, [.FM_GC_FOLIOS_GC]),
  (0x54, [.FM_HOST_FOLIOS_HOST]),
  (0x58, [.FM_VIGIL_FOLIOS_VIGIL]),
  (0x5c, [.FM_PADS_PADS]),
  (0x100, [.FM_LUN_SEL_INDEX, .FM_LUN_SEL_READY]),
  (0x104, [.FM_LUN_VIEW0_ENABLED, .FM_LUN_VIEW0_FAILED, .FM_LUN_VIEW0_RETIRED]),
  (0x108, [.FM_LUN_VIEW1_EC_MEAN, .FM_LUN_VIEW1_EC_MAX]),
  (0x10c, [.FM_LUN_VIEW2_ERASED]),
  (0x110, [.FM_BAND_SEL_INDEX, .FM_BAND_SEL_READY]),
  (0x114, [.FM_BAND_VIEW0_STATE, .FM_BAND_VIEW0_SLC, .FM_BAND_VIEW0_WIDTH, .FM_BAND_VIEW0_STREAM]),
  (0x118, [.FM_BAND_VIEW1_VALID])]

/-- The fields of the register at an offset of the block Flash management globals; none where no register is assigned. -/
def flds_fm (off : Nat) : List Fld :=
  ((rows_fm0).filter (fun e => e.1 == off)).flatMap Prod.snd

/-- The fields of the register at a byte address (21_register_map.md R608); none where the address
decodes no register. -/
def fieldsAt (a : Nat) : List Fld :=
  if a % 4 ≠ 0 then []
  else if a < 0x00010000 then flds_id a
  else if a < 0x00020000 then flds_pwr (a - 0x00010000)
  else if a < 0x00030000 then flds_clk (a - 0x00020000)
  else if a < 0x00040000 then flds_evt (a - 0x00030000)
  else if a < 0x00050000 then flds_mb (a - 0x00040000)
  else if a < 0x00060000 then flds_cal (a - 0x00050000)
  else if a < 0x00070000 then flds_integ (a - 0x00060000)
  else if a < 0x00080000 then flds_key (a - 0x00070000)
  else if a < 0x00090000 then flds_db (a - 0x00080000)
  else if a < 0x000A0000 then flds_twin (a - 0x00090000)
  else if a < 0x000B0000 then flds_tier (a - 0x000A0000)
  else if a < 0x00100000 then []
  else if a < 0x00180000 then flds_mem ((a - 0x00100000) / 0x10000) (a % 0x10000)
  else if a < 0x00200000 then []
  else if a < 0x00240000 then flds_mem (8 + (a - 0x00200000) / 0x4000) (a % 0x4000)
  else if a < 0x00300000 then []
  else if a < 0x00400000 then flds_nand ((a - 0x00300000) / 0x8000) (a % 0x8000)
  else if a < 0x00500000 then flds_port ((a - 0x00400000) / 0x20000) (a % 0x20000)
  else if a < 0x00510000 then flds_xport (a - 0x00500000)
  else if a < 0x00600000 then []
  else if a < 0x00610000 then flds_fm (a - 0x00600000)
  else []

/-- The shadowed (RWS) fields of the whole map, which an Impress commits (00_scope.md R12). -/
def rwsFields : List Fld :=
  [.GOV_CFG_SP_CAP_W] ++
  [.EVT_RATE_COUNT, .EVT_RATE_WINDOW_S] ++
  [.KEY_CFG_REKEY_MBPS] ++
  [.DB_CFG_ROW_CE_LIMIT, .DB_CFG_SCRUB_HOURS] ++
  [.TWIN_CFG_LOSS_US, .TWIN_CFG_DEFER_MS, .TWIN_CFG_EGRESS_WARN_DAYS, .TWIN_LEASE_CFG_LEASE_WAIT_MS, .TWIN_LEASE_CFG_WITNESS_SLOT, .TWIN_KEY_CFG_SLOT0, .TWIN_KEY_CFG_SLOT1, .TWIN_RESYNC_CFG_CATCHUP_GROUPS, .TWIN_RESYNC_CFG_MAX_PASSES] ++
  [.GALLEY_CFG_DRAIN_AGE, .GALLEY_CFG_C0_RESERVE, .GALLEY_CFG_HIGH_PCT] ++
  ((List.range 24).flatMap fun n => [.MEM_ECC_CTRL_ROW_CE_LIMIT n, .MEM_ECC_CTRL_SCRUB_HOURS n]) ++
  ((List.range 32).flatMap fun n => [.NANDC_SUSPEND_CFG_RESUME_GRANT_US n, .NANDC_SUSPEND_CFG_STARVE_MS n, .NANDC_CONT_CFG_CONT_MAX_PAGES n]) ++
  ((List.range 8).flatMap fun n => [.PORT_MAC_LO_MAC_LO n, .PORT_MAC_HI_MAC_HI n, .PORT_VLAN_VID n, .PORT_VLAN_TAGGED n, .PORT_VLAN_PCP_C0 n, .PORT_VLAN_PCP_C1 n, .PORT_VLAN_PCP_C2 n, .PORT_VLAN_PCP_OTHER n, .PORT_ADDR_CTRL_VALID n 0, .PORT_ADDR_CTRL_VALID n 1, .PORT_ADDR_CTRL_VALID n 2, .PORT_ADDR_CTRL_VALID n 3, .PORT_ADDR_CTRL_IPV6 n 0, .PORT_ADDR_CTRL_IPV6 n 1, .PORT_ADDR_CTRL_IPV6 n 2, .PORT_ADDR_CTRL_IPV6 n 3, .PORT_ADDR_DATA0_ADDR n 0, .PORT_ADDR_DATA0_ADDR n 1, .PORT_ADDR_DATA0_ADDR n 2, .PORT_ADDR_DATA0_ADDR n 3, .PORT_ADDR_DATA1_ADDR n 0, .PORT_ADDR_DATA1_ADDR n 1, .PORT_ADDR_DATA1_ADDR n 2, .PORT_ADDR_DATA1_ADDR n 3, .PORT_ADDR_DATA2_ADDR n 0, .PORT_ADDR_DATA2_ADDR n 1, .PORT_ADDR_DATA2_ADDR n 2, .PORT_ADDR_DATA2_ADDR n 3, .PORT_ADDR_DATA3_ADDR n 0, .PORT_ADDR_DATA3_ADDR n 1, .PORT_ADDR_DATA3_ADDR n 2, .PORT_ADDR_DATA3_ADDR n 3]) ++
  [.XPORT_CM_PORT_A_DATA_PORT, .XPORT_CM_PORT_A_CONTROL_PORT, .XPORT_CM_PORT_B_DEVQ_PORT, .XPORT_REQ_TIMEOUT, .XPORT_REQ_RETRY, .XPORT_REQ_RNR_RETRY, .XPORT_REQ_MIN_RNR, .XPORT_ACK_COALESCE, .XPORT_ACK_TIMER, .XPORT_ACK_CNP_INTERVAL]

end Sys2Proof.Machine
end

