-- ==== Sys2Proof/Machine/Types.lean ====
section
/-!
DEFINITION. The plain data that the manual gives the machine, one structure per chapter: what State
holds and what commands carry. Every field's line names the rule of spec/ it holds.
-/

namespace Sys2Proof.Machine

/-! ### The register file (21_register_map.md) -/

/-- The register fields, by `Fld.key`. A field that is not listed holds its reset value, so equal
register files are equal data. -/
structure RegFile where
  /-- Value of each field, the active value of a shadowed one (R9); reset: none listed, every field at the manual's reset value. -/
  val  : Tab Nat
  /-- Shadow value of each shadowed (RWS) field (R9, R87); reset: none listed. -/
  shad : Tab Nat
  deriving DecidableEq, Repr
/-! ### What commands carry -/

/-- Who sent a verb (R226). -/
inductive Caller where
  /-- The SP path, with the sequence number of R576. -/
  | sp (seq : Nat)
  /-- A CONTROL QP and the number of its request, from 0. -/
  | qp (index n : Nat)
  /-- A verb that the active forwarded (R454): its answer is not sent. -/
  | peer
  deriving DecidableEq, Repr

/-- Where a mode operation comes from (R43): `MODE_CMD`, or the MODE_OP verb of a caller with its tag. -/
inductive ModeSrc where
  | reg
  | verb (who : Caller) (tag : Nat)
  deriving DecidableEq, Repr

/-- The ESP header of a packet (R163): SPI, extended sequence number, and whether its ICV is good. -/
structure Esp where
  spi : Nat
  seq : Nat
  icv : Bool
  deriving DecidableEq, Repr

/-- A RoCE v2 packet that a port accepted (R164), as its row executes it at its stamp. -/
structure Pkt where
  port : Nat
  /-- BTH DestQP, opcode, PSN, AckReq, TVer and P_Key. -/
  qpn : Nat
  op : Nat
  psn : Nat
  ackReq : Bool
  tver : Nat
  pkey : Nat
  /-- DSCP of the IP header (R112). -/
  dscp : Nat
  /-- The ICRC is good. -/
  icrc : Bool
  esp : Option Esp
  /-- RETH or AtomicETH: VA, R_Key, DMA length. -/
  va : Nat
  rkey : Nat
  len : Nat
  /-- AtomicETH: swap or add, and compare. -/
  swap : Nat
  cmp : Nat
  imm : Option Nat
  payload : List Byte
  /-- FETH: selectivity "memory region". -/
  whole : Bool
  /-- AETH: syndrome. -/
  synd : Nat
  deriving DecidableEq, Repr

/-- The IP and UDP headers of a received RoCE v2 packet (R162). -/
structure IpHdr where
  ipv6 : Bool
  /-- IPv4: header length in words, a fragment, a good header checksum. -/
  ihl : Nat
  fragment : Bool
  sumGood : Bool
  /-- IPv4 protocol, or IPv6 next header: 17 UDP, 50 ESP; any other value of IPv6 is an extension header or another protocol. -/
  next : Nat
  /-- UDP destination port. -/
  dport : Nat
  /-- UDP checksum received, and whether it is right where it is not zero. -/
  udpSum : Nat
  udpGood : Bool
  dscp : Nat
  /-- ECN codepoint; 3 is CE. -/
  ecn : Nat
  deriving DecidableEq, Repr

/-- What a frame at a port carries (R159 to R162). -/
inductive FrameKind where
  | arp (target : Nat)
  | neighbour (target : Nat)
  | echo (id : Nat)
  /-- RoCE v2: IP and UDP headers, a good ICRC, DestQP, BTH opcode, ESP header if any. -/
  | roce (h : IpHdr) (icrc : Bool) (qpn op : Nat) (esp : Option Esp)
  | pause
  | other
  deriving DecidableEq, Repr

/-- A frame at a port (R159). -/
structure EthFrame where
  port : Nat
  fcs  : Bool
  /-- Destination MAC, 48 bits. -/
  dst  : Nat
  /-- VLAN tag: the VID. -/
  vid  : Option Nat
  /-- Length without FCS. -/
  len  : Nat
  kind : FrameKind
  deriving DecidableEq, Repr

/-- A Communication Manager REQ (R165, R200, R249, R112). -/
structure CmReq where
  port : Nat
  /-- Service ID. -/
  service : Nat
  /-- Host address. -/
  host : List Byte
  qpn : Nat
  psn : Nat
  mtu : Nat
  pkey : Nat
  dscp : Nat
  ipv6 : Bool
  pd : Nat
  token : Nat
  queue : Nat
  deriving DecidableEq, Repr

/-- The arithmetic units whose results the residue rules predict (R130). -/
inductive Predicted where
  | address | interleave | psn | fetchAdd | completion | rate
  deriving DecidableEq, Repr

/-- The units that run in two copies with a comparator (R130). -/
inductive Copied where
  | logical | shift | comparator | moduloLookup | tableLookup
  deriving DecidableEq, Repr

/-- The operations of R129 on an `n`-bit field. -/
inductive ArithOp where
  | add | sub | mulConst | increment
  deriving DecidableEq, Repr

/-- What a check of the device met (R127 to R133). -/
inductive Seen where
  /-- A word with the residue that it carried, 63 for poison: at a station's input, or where data enters or leaves the datapath (R127, R128). -/
  | word (w res : Nat)
  /-- The eight words of a line with the line residue of its colophon (R132). -/
  | line (ws : List Nat) (res : Nat)
  /-- A result of an arithmetic unit on an `n`-bit field, from two operands, with the residues that the operands carried (R129). -/
  | arith (unit : Predicted) (op : ArithOp) (n a b result : Nat)
  /-- The outputs of the two copies of a function (R130). -/
  | copies (fn : Copied) (x y : Nat)
  /-- Errors in a granule of an array: bits, or for memory the devices or symbols they strike (R133). -/
  | errors (n : Nat)
  /-- A check that the manual describes by its outcome alone. -/
  | report
  deriving DecidableEq, Repr

/-- A detected fault (R136): the unit, the kind, whether its transient action succeeded, the tick, and
where it lies. -/
structure FaultOp where
  unit : Nat
  kind : Nat
  recovered : Bool
  tick : Nat
  /-- Memory and Daybook: flattened bank or bank; NAND: LUN index. -/
  bank : Nat
  /-- Row, or block. -/
  row : Nat
  /-- Column, page or granule. -/
  col : Nat
  /-- Device position, symbol, slot or retry step. -/
  pos : Nat
  /-- Syndrome, or bits. -/
  synd : Nat
  /-- Subchannel of a DIMM channel. -/
  sub : Nat
  /-- The line it strikes, as a line address, where it strikes one. -/
  la : Option Nat
  /-- Order stamp of the request whose entry it struck (R137). -/
  req : Option Nat := none
  /-- What the check met. -/
  seen : Seen := .report
  deriving DecidableEq, Repr

/-- A frame of the register window (R571): CMD, register address, data words. -/
structure SpFrame where
  cmd  : Nat
  addr : Nat
  /-- COUNT of READ and WRITE_BURST. -/
  count : Nat
  data : List Nat
  /-- CRC good and length as CMD and COUNT say (R571, R573). -/
  whole : Bool
  deriving DecidableEq, Repr

/-- Input pins and straps as the island last saw them (R524, R581). -/
structure Pins where
  /-- PWRGD_IN. -/
  pwrgd : Bool
  /-- RESET_N, high. -/
  resetN : Bool
  /-- Another party pulls PWR_FAULT_N. -/
  extFault : Bool
  /-- ROLE_STRAP[1:0]. -/
  roleStrap : Nat
  /-- BOOT_SEL. -/
  bootSel : Bool
  /-- TWIN_PRESENT_N, high. -/
  twinPresentN : Bool
  /-- ADDR_STRAP[1:0]. -/
  addrStrap : Nat
  deriving DecidableEq, Repr

/-- Training's findings (R335, R419, R426, R348): what fails, and the media the node has. -/
structure TrainReport where
  /-- Units that do not train good: unit ID, first failing step, and subchannel, stack ID or target. -/
  failed : List (Nat × Nat × Nat)
  /-- What units need by SPD data, training results and NAND command table (R109): unit ID, parameter field index, ticks needed. -/
  short : List (Nat × Nat × Nat)
  /-- FAMILY of the NAND_CMD table that the parts matched (R419). -/
  family : Nat
  /-- Post-package repairs that found no resource: unit, bank, row. -/
  exhausted : List (Nat × Nat × Nat)
  /-- Lanes that the lane test found failed: unit and lane. -/
  lanes : List (Nat × Nat)
  deriving DecidableEq, Repr

/-- What a forwarded item carries (R454). -/
inductive ItemBody where
  | host (p : Pkt)
  /-- A Communication Manager REQ on QP1, and its other messages: 0 RTU, 1 DREQ, 2 the end of a teardown, 3 a DREQ sent; QP index. -/
  | cm (r : CmReq)
  | cmMsg (what qp : Nat)
  | verb (who : Caller) (bytes : List Byte)
  | move (folio kind : Nat) (t0 : Bool)
  /-- A device-requester action: 0 internal request, 1 probe, 2 retransmission, 3 host acknowledgement; QP or queue; PSN. -/
  | requester (what object psn : Nat)
  | timeout (queue : Nat)
  | impress (writes : List (Nat × Nat))
  | budget (folios : Nat)
  | revoked (region : Nat)
  deriving DecidableEq, Repr

/-- A forwarded item (R454). -/
structure TwinItem where
  onum  : Nat
  stamp : Nat
  cls   : Nat
  body  : ItemBody
  deriving DecidableEq, Repr

/-- A status record of a NAND channel (R404): the result (R403), the planes that failed as a mask, the last
status byte, and for a read the retry steps, codewords, corrected bits and bytes. -/
structure NandRes where
  result : Nat
  planes : Nat
  status : Nat
  steps  : Nat
  codewords : Nat
  bits   : Nat
  data   : List Byte
  deriving DecidableEq, Repr

/-- The header of a Flesal frame that passed FEC and tag (R448). -/
structure FlHdr where
  fseq   : Nat
  ack    : Nat
  credit : Nat
  deriving DecidableEq, Repr

/-- One folio of a GROUP frame (R481): its index, map entry without HOME (STATE as R277, TIER, LOC), and
its lines with their poison marks. -/
structure GroupFolio where
  folio : Nat
  state : Nat
  t0    : Bool
  loc   : Nat
  lines : List (Nat × Nat × Bool)
  deriving DecidableEq, Repr


/-! ### Operating modes (02_operating_modes.md) -/

/-- A trigger of a mode transition: its row of R46, the mode it leads to, its cause (R42) and its
place in the order of R58 (1 to 7). -/
structure Trigger where
  /-- Row of R46. -/
  row : Nat
  /-- Target mode, R38. -/
  target : Nat
  /-- Cause, R42. -/
  cause : Nat
  /-- Priority, R58: 1 input loss ... 7 mode operation. -/
  prio : Nat
  /-- Place among twin triggers, R477: 0 FAULT ... 5 the partner's mode. -/
  sub : Nat
  deriving DecidableEq, Repr

/-- Transitions in progress and triggers that wait. -/
structure ModeSt where
  /-- The transition that the next boundary makes (R51, R58); reset none. -/
  due : Option Trigger
  /-- Triggers that wait for the first boundary after the next mode entry (R57); reset none. -/
  waiting : List Trigger
  /-- The mode entered at this boundary has run no whole cycle yet (R51); reset false. -/
  fresh : Bool
  /-- QUIESCE left requests open that the 50 ms deadline ends (R52); reset false. -/
  quiescing : Bool
  /-- The open sanitize record in the Daybook (R50); reset false. -/
  sanitizeOpen : Bool
  /-- An uncovered loss is in effect (R36, R64); reset false. -/
  uncovered : Bool
  /-- A STATE of the partner arrived during a transition and is evaluated in the mode it leads to (R57): the partner's mode before it; reset none. -/
  recheck : Option Nat
  deriving DecidableEq, Repr

/-- No transition. -/
def ModeSt.reset : ModeSt :=
  { due := none, waiting := [], fresh := false, quiescing := false,
    sanitizeOpen := false, uncovered := false, recheck := none }

/-! ### Forme structures: calendar pages and the fallback map (04_calendar.md) -/

/-- A station of a page (R105): its index and type (R99), its runs as (LENGTH, slot entry), and its
parameter record of 32 fields, none for types 0x8 to 0xD. -/
structure Station where
  idx   : Nat
  typ   : Nat
  runs  : List (Nat × Nat)
  param : Option (List Nat)
  deriving DecidableEq, Repr

/-- An admission descriptor (R105). -/
structure AdmitDesc where
  point : Nat
  depth : Nat
  burst : Nat
  deriving DecidableEq, Repr

/-- A calendar page (R105). -/
structure Page where
  stations : List Station
  admits   : List AdmitDesc
  deriving DecidableEq, Repr

/-- An entry of the fallback map (R116). -/
structure FbEntry where
  lost  : Nat
  from_ : Nat
  toPage    : Nat
  pairs : List (Nat × Nat)
  deriving DecidableEq, Repr

/-- A fallback page on its way into the next-table stores (R119). -/
structure PageLoad where
  /-- TO_PAGE. -/
  toPage : Nat
  /-- The station pairs of its entry. -/
  pairs : List (Nat × Nat)
  /-- The lost unit. -/
  lost : Nat
  /-- Boundaries until the load has surely ended, 4 at most. -/
  left : Nat
  deriving DecidableEq, Repr

/-- An arrival at an admission point (R110): its number, whether its head carries a write, atomic, SEND or verb
(R295), the folio it writes (R293), and what the class lookup of R112 reads of a packet. -/
structure Arrival where
  id     : Nat
  writes : Bool
  folio  : Option Nat
  /-- BTH DestQP of a packet; none for an arrival that is no packet. -/
  qpn    : Option Nat
  dscp   : Nat
  /-- It is a request packet. -/
  request : Bool
  deriving DecidableEq, Repr

/-- A request that an admission point stamped, at the input of the station that serves it (R103, R111), or a line access at the input of a
memory station. -/
structure Request where
  /-- Its admission point; 35 for an access that a station itself asks of a memory station. -/
  point   : Nat
  /-- What it was as an arrival: its number, and the DestQP of a packet. -/
  id      : Nat
  qpn     : Option Nat
  cls     : Nat
  /-- Order stamp (R98). -/
  stamp   : Nat
  /-- Index of the station. -/
  station : Nat
  /-- Tick at which it reached the station's input, counted as stamps count. -/
  reached : Nat
  /-- Operation and bank that its entry must carry at a memory station. -/
  op      : Nat
  bank    : Nat
  /-- An entry of its station has served it. -/
  served  : Bool
  deriving DecidableEq, Repr

/-- The Calendar (04_calendar.md) beside its registers. -/
structure CalSt where
  /-- The cycle whose stamps are given or followed, 48 bits (R98): the cycle counter, on a node that follows the active's (R455); reset 0. -/
  cycle : Nat
  /-- The node's own cycle counter, 48 bits (R96); reset 0. -/
  count : Nat
  /-- The last order stamp given, 64 bits (R98); none since CAL start; reset none. -/
  lastStamp : Option Nat
  /-- The stamp of the request that executes now (R24, R98); none between commands; reset none. -/
  now : Option Nat
  /-- Stamped requests that have not executed, at their stations' inputs (R103, R111); reset none. -/
  requests : List Request
  /-- The admission queues: arrivals waiting at each point, head first (R110, R111); reset empty. -/
  queues : Tab (List Arrival)
  /-- Arrivals at points 34 and of device queues that wait for space (R110); reset none. -/
  stalled : List (Nat × Arrival)
  /-- Admission of host requests is stopped: handover (R476), fence (R463) or the Vigil (R539); reset false. -/
  stopped : Bool
  /-- Where admission has stopped, the first stamp after it: requests stamped before may still complete (R52, R234, R476); reset none. -/
  stopStamp : Option Nat
  /-- SAMPLE entries seen at each point, for the fractions of R293 and R560; reset none. -/
  samples : Tab Nat
  /-- The running page, 0 to 15 (R97, R119); MODE_STATE.PAGE shows it; reset 0. -/
  page : Nat
  /-- The running pairs of R117; reset none. -/
  pairs : List (Nat × Nat)
  /-- Stations that execute another's table because a spare replaced a unit: (retired, spare) (R122); reset none. -/
  spared : List (Nat × Nat)
  /-- Spares that take their tables at the next boundary (R122); reset none. -/
  sparing : List (Nat × Nat)
  /-- The page, pairs and units that TRAINING selected, which run from the next boundary (R121); reset none. -/
  chosen : Option (Nat × List (Nat × Nat) × List Nat)
  /-- A fallback page being loaded (R119); reset none. -/
  load : Option PageLoad
  /-- Losses that wait for the load in progress (R120) or the end of a transition (R62); reset none. -/
  losses : List Nat
  /-- Impress due at the next boundary (R87); reset false. -/
  impress : Bool
  /-- It was triggered while TRANSIT was 1 and waits for the target mode (R91); reset false. -/
  impressWaits : Bool
  /-- Registers written in the shadow since the last commit or DISCARD, by address (IMPRESS_STATUS.WRITES, R87, R90); reset none. -/
  written : List Nat
  /-- Snapshots that SEL registers ask of the next boundary, by register address; reset none. -/
  sel : List Nat
  deriving DecidableEq, Repr

/-- The Calendar before its first start. -/
def CalSt.reset : CalSt :=
  { cycle := 0, count := 0, lastStamp := none, now := none, requests := [], sparing := [], chosen := none, queues := [], stalled := [], stopped := false, stopStamp := none, samples := [], page := 0,
    pairs := [], spared := [], load := none, losses := [], impress := false, impressWaits := false, written := [],
    sel := [] }

/-! ### Datapath integrity (05_integrity.md) -/

/-- An entry of the EVENT_POLICY table (R140). -/
structure PolicyEntry where
  cls       : Nat
  kind      : Nat
  threshold : Nat
  winLog2   : Nat
  retire    : Bool
  deriving DecidableEq, Repr

/-- An entry of the integrity log (R148). -/
structure IntegLog where
  oseq      : Nat
  unit      : Nat
  kind      : Nat
  corrected : Bool
  poisoned  : Bool
  injected  : Bool
  cycle     : Nat
  tick      : Nat
  deriving DecidableEq, Repr

/-- A request that a station executes again (R137). -/
structure Replay where
  unit  : Nat
  kind  : Nat
  /-- Replays so far, 0 to 2. -/
  count : Nat
  /-- Tick of the entry, which is held for it in the next cycle. -/
  tick : Nat
  /-- The operands that the station keeps: the request as it reached the station, where a SAMPLE row stamped it. -/
  kept : Option Request
  deriving DecidableEq, Repr

/-- Integrity state beside its registers. -/
structure IntegSt where
  /-- Faults of each kind on each unit in the current window, by unit × 256 + kind (R139); reset none. -/
  counts : Tab Nat
  /-- Last fault kind on each unit, by unit ID (INTEG_QUERY_RESULT); reset none. -/
  lastKind : Tab Nat
  /-- STATE of R149 of each unit that is not HEALTHY or NOT_PRESENT, by unit ID; reset none. -/
  states : Tab Nat
  /-- Retirement records in the Daybook, by unit ID (R144); kept through every reset; reset none. -/
  records : List Nat
  /-- The integrity log by index, 256 entries (R148); reset empty. -/
  log : Tab IntegLog
  /-- OSEQ at each wrap of the integrity log, newest first (R462); reset none. -/
  wraps : List Nat
  /-- Requests in replay, by order stamp (R137); reset none. -/
  replays : Tab Replay
  /-- An injection armed for the next use of its unit: unit and kind (R151); reset none. -/
  armed : Option (Nat × Nat)
  deriving DecidableEq, Repr

/-- No fault yet. -/
def IntegSt.reset : IntegSt :=
  { counts := [], lastKind := [], states := [], records := [], log := [], wraps := [], replays := [],
    armed := none }

/-! ### What the device has sent (the model's own record of its outputs) -/

/-- Kinds of RoCE v2 packet the device sends (06_rdma_transport.md). -/
inductive TxKind where
  | ack | nak | rnrNak | readResponse | atomicAck | flushResponse | atomicWriteResponse
  | write | rep | rej | dreq | drep | cnp
  deriving DecidableEq, Repr

/-- Kinds of other frame a port sends (R160, R475). -/
inductive EthKind where
  | arpReply | neighbourAdvert | echoReply | gratuitousArp
  deriving DecidableEq, Repr

/-- Types of Flesal frame (R448). -/
inductive FlType where
  | state | item | cycle | report | digest | verdict | fault | handover | handoverAck | resync
  | group | tables | mailbox | budget | idle
  deriving DecidableEq, Repr

/-- A RoCE v2 packet that the device sends (R162 to R164). -/
structure TxPkt where
  port : Nat
  /-- Index of its QP. -/
  qp : Nat
  kind : TxKind
  /-- BTH: opcode, PSN, AckReq, DestQP, P_Key. -/
  op : Nat
  psn : Nat
  ackReq : Bool
  destQp : Nat
  pkey : Nat
  /-- AETH: syndrome and MSN; RETH: VA and R_Key. -/
  synd : Nat
  msn : Nat
  va : Nat
  rkey : Nat
  imm : Option Nat
  data : List Byte
  /-- IP: version, DSCP, TTL or hop limit, ECN; and whether the UDP checksum is computed (0 where it is not). -/
  ipv6 : Bool
  dscp : Nat
  ttl : Nat
  ecn : Nat
  udpSum : Bool
  /-- ESP: SPI and sequence number. -/
  esp : Option (Nat × Nat)
  deriving DecidableEq, Repr

/-- One output of the device. -/
inductive Out where
  /-- A RoCE v2 packet of a QP. -/
  | roce (p : TxPkt)
  /-- A Communication Manager message on QP1 (R165): port, QP index, kind, first PSN, REJ reason, R_Key of a response area, responder resources
  and initiator depth (R167). -/
  | cm (port qp : Nat) (kind : TxKind) (psn reason key resources depth : Nat)
  /-- Another frame of a port: port, kind, address index or a copied field. -/
  | eth (port : Nat) (kind : EthKind) (arg : Nat)
  /-- A Flesal frame: type and its words. -/
  | flesal (type : FlType) (words : List Nat)
  /-- Bytes the I3C target returns. -/
  | i3c (bytes : List Byte)
  /-- An in-band interrupt and its DB_PENDING payload (R578). -/
  | ibi (payload : Nat)
  /-- An SP sideband transfer on a DIMM bus (R582, R585): segment, device address, slot, offset, and the bytes of a write. -/
  | sideband (bus addr slot offset : Nat) (write : Option (List Byte))
  /-- A TAP data register shifted out (22_package_and_electrical.md). -/
  | tdo (value : Nat)
  deriving DecidableEq, Repr
/-! ### Queue pairs and ports (06_rdma_transport.md) -/

/-- A response of a QP that has not been sent, in PSN order (R169, R185, R237). -/
structure Resp where
  /-- ACK for writes and SENDs, a NAK, or the response of a READ, atomic, FLUSH or ATOMIC WRITE. -/
  kind : TxKind
  /-- PSN of the next packet of the response, and the last PSN it covers. -/
  first : Nat
  psn : Nat
  /-- AETH syndrome of a NAK (R183). -/
  synd : Nat
  /-- Bytes not yet sent. -/
  data : List Byte
  /-- ONUM of the report awaited in SERVING_ACTIVE (R237); 0 where none is. -/
  onum : Nat
  /-- The acknowledgeable packet carried AckReq (R185). -/
  ackReq : Bool
  /-- The immediate that R173 stores. -/
  imm : Option Nat
  /-- The region that counts the request in IN_FLIGHT (R209). -/
  region : Option Nat
  /-- Record positions of the PD's event queue that a READ covers whole, as a mask (R211). -/
  marks : Nat
  /-- Stamps of writes waiting at the galley that the response reflects or acknowledges (R233, R316). -/
  waits : List Nat
  /-- Order stamp of the request. -/
  stamp : Nat
  /-- MSN that it carries. -/
  msn : Nat
  /-- A packet of it has left: the next is no First packet (R172). -/
  begun : Bool
  /-- It is not sent: R182 or R475 discarded it, and only the effects of its request stand. -/
  mute : Bool
  /-- Journal position up to which records must be journaled before it leaves: an append's pointer (R220, R436); 0 where none. -/
  through : Nat
  deriving DecidableEq, Repr

/-- A multi-packet message that is open (R174). -/
structure OpenMsg where
  /-- It is a SEND. -/
  send : Bool
  /-- Region; none for a SEND. -/
  region : Option Nat
  /-- Range offset of the next byte. -/
  off : Nat
  /-- DMA length, and bytes received so far. -/
  len : Nat
  got : Nat
  /-- Cycle of the First packet's stamp. -/
  cycle : Nat
  /-- Bytes of a SEND so far. -/
  bytes : List Byte
  /-- PSN of its First packet, its opcode and its first VA. -/
  first : Nat
  op : Nat
  va : Nat
  deriving DecidableEq, Repr

/-- A message on which the device is requester (R187). -/
structure ReqMsg where
  first : Nat
  last  : Nat
  /-- Device queue of the descriptor; none for a probe. -/
  queue : Option Nat
  /-- It was sent more than once (R189). -/
  resent : Bool
  /-- Remote VA, R_Key and immediate, with the payload of each packet, for retransmission. -/
  va : Nat
  rkey : Nat
  imm : Option Nat
  packets : List (List Byte)
  /-- Packets sent since its last start. -/
  sent : Nat
  deriving DecidableEq, Repr

/-- The SAs of a QP (R163, R230). -/
structure EspSa where
  spiIn   : Nat
  spiOut  : Nat
  saltIn  : Nat
  saltOut : Nat
  slot    : Nat
  /-- Highest extended sequence number accepted, and a bit for each of the 1,024 at and below it. -/
  top     : Nat
  window  : Nat
  /-- Outbound sequence number. -/
  seqOut  : Nat
  /-- It governs traffic: the boundary after SA_INSTALL has passed. -/
  live    : Bool
  deriving DecidableEq, Repr

/-- A queue pair (R165 to R196). -/
structure Qp where
  /-- 0 RESET, 1 INIT, 2 RTR, 3 RTS, 4 ERROR (R168). -/
  state : Nat
  /-- 0 DATA, 1 CONTROL, 2 DEVQ (R166). -/
  kind : Nat
  cls : Nat
  /-- Its class has been recorded from its first request packet (R112). -/
  fixed : Bool
  port : Nat
  /-- IBTA path MTU code, 1 to 5. -/
  mtu : Nat
  ipv6 : Bool
  nakSent : Bool
  pd : Nat
  remoteQpn : Nat
  epsn : Nat
  msn : Nat
  spsn : Nat
  unacked : Nat
  pkey : Nat
  timeout : Nat
  retry : Nat
  rnrRetry : Nat
  minRnr : Nat
  dscp : Nat
  host : Nat
  /-- Atomic result cache, oldest first: PSN and result, none for ATOMIC WRITE (R180). -/
  acache : List (Nat × Option Nat)
  rate : Nat
  /-- Samples in the RTT window, newest first: island milliseconds and ns (R192). -/
  samples : List (Nat × Nat)
  rttLast : Nat
  /-- Ticks of the stamp at the last decrease, and at the last CNP reduction (R192). -/
  lastDec : Nat
  lastCut : Option Nat
  /-- Ticks of the stamp at which the last CNP was sent (R191). -/
  lastCnp : Option Nat
  /-- Token bucket, in thousandths of a byte (R193). -/
  bucket : Nat
  immLast : Nat
  immCount : Nat
  dups : Nat
  retries : Nat
  /-- Retransmissions and RNR retries of the oldest message so far (R187). -/
  tries : Nat
  rnrTries : Nat
  /-- An RNR NAK's timer runs: the PSN NAKed and the code (R187). -/
  rnrWait : Option (Nat × Nat)
  /-- PSN of the last ACK that was sent. -/
  lastAck : Nat
  /-- Highest acknowledgeable PSN (R179), and messages acknowledgeable since the last ACK (R185). -/
  ackable : Nat
  since : Nat
  /-- Cycle at which the oldest message not yet acknowledged became acknowledgeable (R185); none where there is none. -/
  ackFrom : Option Nat
  /-- An ACK is due (R185). -/
  ackDue : Bool
  /-- An ACK re-sent for a duplicate is due, and the PSN it carries (R179). -/
  reAck : Option Nat
  /-- A NAK that ends the QP is queued: nothing stamped later executes (R184). -/
  halt : Bool
  resps : List Resp
  msg : Option OpenMsg
  reqs : List ReqMsg
  sa : Option EspSa
  /-- The SAs that govern its traffic from the next boundary (R230). -/
  nextSa : Option EspSa
  /-- DEVQ: its queue. CONTROL: its RESPQ region. -/
  queue : Option Nat
  respq : Option Nat
  /-- CONTROL: ring entries in use by request number, with their immediate (R172, R226); requests received, and responses written. -/
  ring : Tab (List Byte × Option Nat)
  asked : Nat
  produced : Nat
  /-- Response area: response n by n mod 16 (R226). -/
  area : Tab (List Byte)
  /-- Cycle from which the teardown of R170 is in effect. -/
  downAt : Option Nat
  /-- Its CM exchange is complete: the host's DREQ was answered (R170). -/
  cmDone : Bool
  /-- It sent a packet in the probe interval, and took a sample in it (R190). -/
  sentSince : Bool
  sampledSince : Bool
  deriving DecidableEq, Repr

/-- A port's record (R156). -/
structure PortRec where
  port : Nat
  speed : Nat
  laneBase : Nat
  lanes : Nat
  fec : Nat
  maxFrame : Nat
  deriving DecidableEq, Repr

/-- The CC_CURVE table (R194). -/
structure CcCurve where
  target : Nat
  ai : Nat
  rateMin : Nat
  rateInit : Nat
  probeUs : Nat
  windowMs : Nat
  cnpMult : Nat
  cnpHold : Nat
  bucketMtu : Nat
  /-- DELAY_NS and MULT, ascending. -/
  entries : List (Nat × Nat)
  deriving DecidableEq, Repr

/-- Ports and transport beside their registers. -/
structure NetSt where
  /-- QPs not in RESET, by index (R167); reset none. -/
  qps : Tab Qp
  /-- QP indexes whose context was lost, not reallocated before TRAINING (R351); reset none. -/
  held : List Nat
  /-- Host nodes by index: the address of each (R165); reset none. -/
  hosts : Tab (List Byte)
  /-- Spare lane in use for each group: the lane it replaces (R157); reset none. -/
  spareFor : Tab Nat
  /-- Lanes retired, bit n (R157); reset 0. -/
  deadLanes : Nat
  /-- Priorities paused on each port, bit n for priority n (R161); reset none. -/
  paused : Tab Nat
  /-- Calendar cycles that the current pause of C0 has lasted, by port (R161); reset none. -/
  pauseFor : Tab Nat
  /-- Echo requests answered in the current second, by port (R160); reset none. -/
  echoes : Tab (Nat × Nat)
  /-- Frames that wait for a paused priority of a port: port, priority, frame, oldest first (R161); reset none. -/
  waitTx : List (Nat × Nat × Out)
  deriving DecidableEq, Repr

/-- No connection. -/
def NetSt.reset : NetSt :=
  { qps := [], held := [], hosts := [], spareFor := [], deadLanes := 0, paused := [], pauseFor := [], echoes := [], waitTx := [] }

/-! ### Protection domains, regions and verbs (07_regions_and_protection.md) -/

/-- A verb whose answer waits (R215, R227): its caller, opcode and tag. -/
structure VerbRef where
  who : Caller
  op  : Nat
  tag : Nat
  deriving DecidableEq, Repr

/-- Region kinds (R203). -/
inductive RKind where
  | ordinary | log | eventq | respq
  deriving DecidableEq, Repr

/-- Region states (R204). -/
inductive RState where
  | free | live | revoking | revoked
  deriving DecidableEq, Repr

/-- A region entry (R203). -/
structure Region where
  state    : RState
  kind     : RKind
  access   : Nat
  zoneLog2 : Nat
  pd       : Nat
  domain   : Nat
  vaBase   : Nat
  length   : Nat
  base     : Nat
  gen      : Nat
  inFlight : Nat
  revokeCycle : Nat
  createCycle : Nat
  violations  : Nat
  /-- LIVE from the next boundary (R213). -/
  coming   : Bool
  /-- Bytes 0x00 to 0x3B that the entry shows until that boundary. -/
  before   : List Byte
  /-- REVOKING from the next boundary (R214). -/
  going    : Bool
  /-- Requests that R216 ended. -/
  forced   : Nat
  /-- Verbs that wait for REVOKED. -/
  waiters  : List VerbRef
  deriving DecidableEq, Repr

/-- An entry never used. -/
def Region.free : Region :=
  { state := .free, kind := .ordinary, access := 0, zoneLog2 := 0, pd := 0, domain := 0, vaBase := 0, length := 0,
    base := 0, gen := 1, inFlight := 0, revokeCycle := 0, createCycle := 0, violations := 0, coming := false, before := [],
    going := false, forced := 0, waiters := [] }

/-- A PD with its event queue (R198 to R200, R211). -/
structure Pd where
  caps : Nat
  /-- Capabilities from the next boundary (R229). -/
  nextCaps : Option Nat
  /-- It is allocated from the next boundary (R213). -/
  coming : Bool
  token : Nat
  /-- Region index of its event queue. -/
  evq : Nat
  producer : Nat
  overflow : Nat
  /-- Records by position, 32 B each. -/
  records : Tab (List Byte)
  /-- Read mark of each position, 64 bits. -/
  marks : Nat
  /-- PD_DESTROY waits for its regions: the verb (R218). -/
  dying : Option VerbRef
  deriving DecidableEq, Repr

/-- Regions and PDs. -/
structure RegionSt where
  /-- PDs by number (R198); persistent; reset none. -/
  pds : Tab Pd
  /-- Region entries by index (R202); persistent; reset none. -/
  regions : Tab Region
  /-- Zone write pointers in folios that are not 0: region × 65,536 + zone (R219, R220); persistent; reset none. -/
  zones : Tab Nat
  /-- Zones that the next boundary empties (R223): region, zone and the verb to answer; reset none. -/
  resets : List (Nat × Nat × VerbRef)
  /-- Extent moves of the next boundary (R207): first, count, domain and the verb; reset none. -/
  assigns : List (Nat × Nat × Nat × VerbRef)
  /-- Verbs of CONTROL QPs not yet executed need no state beside the QP's ring. Answers that wait: caller, response, ONUM of the report awaited
  (R228), and stamps of the writes at the galley that they acknowledge (R233); reset none. -/
  answers : List (Caller × List Byte × Nat × List Nat)
  /-- PD_SET_CAPS verbs that the next boundary journals and answers (R208, R229); reset none. -/
  capsVerbs : List VerbRef
  /-- Cycle from which a zone was last emptied, by zone (R223); reset none. -/
  emptied : Tab Nat
  /-- Appends that a loss of power cut: region, offset, length and bytes written (R221); reset none. -/
  cuts : List (Nat × Nat × Nat × Nat)
  /-- Generation of every entry that the table does not list (R202, R639); persistent; reset 1. -/
  baseGen : Nat
  deriving DecidableEq, Repr

/-- No region. -/
def RegionSt.reset : RegionSt :=
  { pds := [], regions := [], zones := [], resets := [], assigns := [], answers := [], capsVerbs := [], emptied := [], cuts := [], baseGen := 1 }

/-! ### Device queues (08_persistence_and_ordering.md) -/

/-- A descriptor in execution (R252). -/
structure DescRun where
  /-- Posting index. -/
  index : Nat
  /-- Its 64 bytes. -/
  bytes : List Byte
  /-- Start stamp. -/
  start : Nat
  /-- Lines done. -/
  done : Nat
  /-- Regions whose IN_FLIGHT counts it. -/
  regions : List Nat
  /-- Stamp of its last step, at which its last line moved (R252). -/
  last : Nat
  /-- Its own effect is complete; its count has still to advance (R256). -/
  ended : Bool
  /-- ONUM of its last forwarded item; its report is awaited in SERVING_ACTIVE. -/
  onum : Nat
  deriving DecidableEq, Repr

/-- A device queue (R247 to R260). -/
structure DevQ where
  pd : Nat
  depth : Nat
  cls : Nat
  domain : Nat
  base : Nat
  /-- Region of the status line. -/
  region : Nat
  completed : Nat
  posted : Nat
  /-- ERROR is set (R254). -/
  error : Bool
  cause : Nat
  failedTag : Nat
  failedIndex : Nat
  /-- DEVQ QP bound, and the port of the last one (R253). -/
  qp : Option Nat
  port : Nat
  run : Option DescRun
  /-- Immediates of its SENDs, by ring entry (R172). -/
  imms : Tab Nat
  /-- A WAIT is executing and not yet satisfied. -/
  waiting : Bool
  /-- Island milliseconds at the WAIT's start. -/
  waitMs : Nat
  /-- It resumes at the first serving boundary after RECOVERING (R257). -/
  again : Bool
  /-- DQ_DESTROY waits for the status region: the verb (R259). -/
  dying : Option VerbRef
  deriving DecidableEq, Repr

/-- The device-queue table (R247); persistent; reset none. -/
abbrev DevQs := Tab DevQ


/-! ### Tiers, folios and migration (09_tiers_and_migration.md) -/

/-- A line as a tier, the galley or the fabric holds it: 64 bytes and the poison mark (R134). -/
structure LineVal where
  data   : Line
  poison : Bool
  deriving DecidableEq, Repr

/-- The 64 lines of a folio by line index (R268); an unlisted line holds zeros and no poison. -/
abbrev Folio := Tab LineVal

/-- A frame, staging frame or eviction-buffer slot in use: the folio it belongs to, and its lines. -/
structure Frame where
  folio : Nat
  data  : Folio
  deriving DecidableEq, Repr

/-- Folio states (R277). -/
inductive FState where
  | unwritten | home | clean | dirty | staged | lost
  deriving DecidableEq, Repr

/-- A map entry (R272). -/
structure MapEntry where
  state : FState
  /-- TIER: true for T0. -/
  t0 : Bool
  /-- LOC: the way, or the staging frame. -/
  loc : Nat
  /-- HOME: the flash folio address, none where no T2 copy exists. -/
  home : Option Nat
  deriving DecidableEq, Repr

/-- Latch kinds (R278). -/
inductive LatchKind where
  | stage | promote | demote | destage
  deriving DecidableEq, Repr

/-- Where a move leads. -/
inductive Dest where
  | t0 (way : Nat) | t1 (way : Nat) | t2 | stageFrame (frame : Nat)
  deriving DecidableEq, Repr

/-- A folio latch (R278). -/
structure Latch where
  kind : LatchKind
  dest : Dest
  /-- Eviction-buffer slot of a DEMOTE or DESTAGE, or of a promotion from a cancelled demotion (R281, R282). -/
  slot : Option Nat
  /-- Flash folio address being written, for a move into T2. -/
  home : Option Nat
  /-- A drain landed during DESTAGE (R280). -/
  redirty : Bool
  /-- EPOCH under which its image was sealed, for a move into T2 (R510). -/
  epoch : Nat
  /-- Start stamp (R289). -/
  stamp : Nat
  deriving DecidableEq, Repr

/-- A heat-table entry (R285, R286). -/
structure Heat where
  folio  : Nat
  heat   : Nat
  season : Nat
  deriving DecidableEq, Repr

/-- The TIER_POLICY table (R288). -/
structure TierPolicy where
  seasonLog2  : Nat
  decayShift  : Nat
  weightRead  : Nat
  weightWrite : Nat
  promoteT1   : Nat
  promoteT0   : Nat
  lowPct      : Nat
  highPct     : Nat
  c2Pct       : Nat
  c1Pct       : Nat
  stageFrames : Nat
  savePower   : Nat
  vigilFixed  : Nat
  destageBase : Nat
  mapLoad     : Nat
  moveTimeout : Nat
  deriving DecidableEq, Repr

/-- The tier manager beside its registers. -/
structure TierSt where
  /-- Set counts of T0 and T1 (R265); reset 0 until TRAINING. -/
  setsT0 : Nat
  /-- Sets of T1. -/
  setsT1 : Nat
  /-- The folio map by folio index, 64 bits an entry (R272); an unlisted folio is UNWRITTEN; reset empty. -/
  map : Tab MapEntry
  /-- T0 frames by frame number (R264); reset empty. -/
  t0 : Tab Frame
  /-- T1 frames by frame number; reset empty. -/
  t1 : Tab Frame
  /-- Staging frames in use (R266); reset empty. -/
  stage : Tab Frame
  /-- Eviction-buffer slots in use (R281); reset empty. -/
  evb : Tab Frame
  /-- Latches by folio, at most 65,536 (R278); reset none. -/
  latches : Tab Latch
  /-- WSEQ of each folio's last T2 write, 29 bits (R270); reset none. -/
  wseq : Tab Nat
  /-- The dirty-folio index, oldest first (R292); reset empty. -/
  dirty : List Nat
  /-- The heat table by set × 16 + way (R267, R286); reset empty. -/
  heat : Tab Heat
  /-- Admitted host requests, which count seasons (R285); reset 0. -/
  hostReqs : Nat
  /-- Promotions asked for by a touch and not yet started: folio and whether to T0 (R287); reset none. -/
  asks : List (Nat × Bool)
  /-- Promotions that wait for a victim's frame: folio and whether to T0 (R287); reset none. -/
  waits : List (Nat × Bool)
  /-- Memory units lost since the last TRAINING, whose frames are withdrawn (R284); reset none. -/
  lostUnits : List Nat
  /-- T1 frames that hold map pages rebuilt after the loss of a DIMM channel, by map page, as their directory entries record (R350); reset none. -/
  mapFrames : Tab Nat
  /-- The map page that the rebuilding looks at next (R350); reset 0. -/
  rebuildAt : Nat
  /-- Folios whose discard waits for their latch to end (R279, R389); reset none. -/
  discards : List Nat
  /-- The node's own dirty budget B in folios (R290); reset 0. -/
  ownB : Nat
  /-- The partner's B (R294); reset none. -/
  partnerB : Option Nat
  /-- B in force, folios (R291, R294); reset 0. -/
  budget : Nat
  /-- A budget that the next boundary puts in force: B and the term that sets it (R291); reset none. -/
  nextB : Option (Nat × Nat)
  /-- R_save in MB/s (R291); reset 0. -/
  rSave : Nat
  /-- Directory pages LOADED, in ascending order (R298); reset 0. -/
  dirLoaded : Nat
  /-- Map pages LOADED by the stream, in ascending order (R298); reset 0. -/
  mapLoaded : Nat
  /-- Map pages LOADED on demand ahead of the stream (R298); reset none. -/
  demand : List Nat
  /-- On-demand fetches since the root was loaded (R300); reset 0. -/
  fetches : Nat
  /-- Island milliseconds when the directory root was loaded (R298, R300); reset none. -/
  rootMs : Option Nat
  deriving DecidableEq, Repr

/-- The tier manager with nothing in any tier. -/
def TierSt.reset : TierSt :=
  { setsT0 := 0, setsT1 := 0, map := [], t0 := [], t1 := [], stage := [], evb := [], latches := [],
    wseq := [], dirty := [], heat := [], hostReqs := 0, asks := [], waits := [], lostUnits := [], mapFrames := [], rebuildAt := 0, discards := [],
    ownB := 0, partnerB := none, budget := 0, nextB := none, rSave := 0, dirLoaded := 0,
    mapLoaded := 0, demand := [], fetches := 0, rootMs := none }

/-! ### Line cache and galley (10_line_cache_and_galley.md) -/

/-- A line-cache way: its line address and data; never poisoned (R303). -/
structure LcWay where
  la   : Nat
  data : Line
  deriving DecidableEq, Repr

/-- A line fill on its way to the line cache (R308). -/
structure Fill where
  la    : Nat
  data  : Line
  /-- Stamp of the read. -/
  stamp : Nat
  /-- A write stamped after the read has touched the line. -/
  stale : Bool
  deriving DecidableEq, Repr

/-- The line cache beside its registers. -/
structure LcSt where
  /-- Valid ways by set × 17 + way; way 16 is the spare of the set's group (R303); reset empty. -/
  ways : Tab LcWay
  /-- LFSR of each bank, 32 bits (R307); reset none seeded. -/
  lfsr : Tab Nat
  /-- The failed way of each group whose spare is in use (R312); reset none. -/
  failed : Tab Nat
  /-- Banks retired, bit n for bank n (R312); reset 0. -/
  dead : Nat
  /-- Fills that have not installed (R308); reset none. -/
  fills : List Fill
  /-- Guarded LC_CTRL.INVALIDATE waits for the boundary (LC_CTRL); reset false. -/
  invalidate : Bool
  deriving DecidableEq, Repr

/-- An empty line cache. -/
def LcSt.reset : LcSt :=
  { ways := [], lfsr := [], failed := [], dead := 0, fills := [], invalidate := false }

/-- What a write leaves when it is durable: who waits for it. -/
inductive Owner where
  /-- The message of a QP whose last packet has a PSN (R185). -/
  | msg (qp psn : Nat)
  /-- A descriptor of a device queue (R252). -/
  | desc (queue : Nat)
  /-- The device's own write: a status line, response, event record or restored line. -/
  | own
  deriving DecidableEq, Repr

/-- A galley entry (R313). -/
structure GEntry where
  la      : Nat
  data    : Line
  /-- Byte mask, 64 bits. -/
  mask    : Nat
  poison  : Bool
  /-- Stamp of allocation. -/
  stamp   : Nat
  redrain : Bool
  /-- A DRAIN's snapshot is on its way: data, mask and poison (R319). -/
  snap : Option (Line × Nat × Bool)
  /-- First cycle at which the entry may drain again after a drain ended without freeing it (R319, R320). -/
  retryAt : Nat
  deriving DecidableEq, Repr

/-- A write that waits at a galley bank (R316). -/
structure GWait where
  stamp : Nat
  la    : Nat
  data  : Line
  mask  : Nat
  /-- Class of the write, 0 to 3. -/
  cls : Nat
  owner : Owner
  /-- An evacuated entry: it waits ahead of every later request and C0_RESERVE does not hold it (R322). -/
  evac : Bool
  /-- Poison carried by an evacuated entry. -/
  poison : Bool
  deriving DecidableEq, Repr

/-- The galley beside its registers. -/
structure GalleySt where
  /-- Entries by bank × 8,192 + set × 16 + way (R313); reset empty. -/
  entries : Tab GEntry
  /-- Writes that wait, by stamp (R316); reset none. -/
  waiting : List GWait
  /-- BANKMAP entries that differ from v mod 16 (R314); reset none. -/
  bankmap : Tab Nat
  /-- Banks retired, bit b for bank b; reset 0. -/
  dead : Nat
  /-- Banks being evacuated: entries moved and lines poisoned so far (R322); reset none. -/
  evac : Tab (Nat × Nat)
  /-- Highest occupancy of each bank since its PEAK was read; reset none. -/
  peak : Tab Nat
  /-- The galley save image in the Daybook (R323); kept through every reset; reset none. -/
  image : List (Nat × Line × Nat × Bool)
  deriving DecidableEq, Repr

/-- An empty galley. -/
def GalleySt.reset : GalleySt :=
  { entries := [], waiting := [], bankmap := [], dead := 0, evac := [], peak := [], image := [] }
/-! ### DRAM controllers (11_dram_controller.md) -/

/-- A geometry record (R328). -/
structure Geo where
  gen   : Nat
  sel   : Nat
  bg    : Nat
  ba    : Nat
  col   : Nat
  cid   : Nat
  rank  : Nat
  row   : Nat
  sids  : Nat
  ranksPerDimm : Nat
  mtS   : Nat
  dieGbit : Nat
  refTemp : Nat
  /-- Six select masks of 40 bits: SEL, BG[0] to BG[2], BA[0], BA[1]. -/
  masks : List Nat
  deriving DecidableEq, Repr

/-- A row recorded for repair (R347): its place is the unit, the flattened bank and the row. -/
structure RowRec where
  unit : Nat
  /-- Subchannel of a DIMM channel. -/
  sub  : Nat
  bank : Nat
  row  : Nat
  /-- No repair resource remains (R348). -/
  exhausted : Bool
  deriving DecidableEq, Repr

/-- Parity recovery of one memory station (R343 to R345). -/
structure Gate where
  /-- Order stamps of the requests whose commands were lost. -/
  lost : List Nat
  /-- Refreshes lost, which are postponed. -/
  refreshes : Nat
  deriving DecidableEq, Repr

/-- A read that waits for its one re-read (R341): unit, flattened bank, row and the line it serves. -/
structure Reread where
  unit : Nat
  bank : Nat
  row  : Nat
  /-- The line that lies there, as a line address. -/
  line : Option Nat
  /-- A write to the line was issued after the read. -/
  newer : Bool
  /-- It was injected (R151). -/
  injected : Bool
  /-- OSEQ, cycle and tick of its detection (R148). -/
  found : Nat × Nat
  tick : Nat
  /-- Subchannel, and the order stamp of the request that the read serves, where it serves one. -/
  sub : Nat
  req : Option Nat
  deriving DecidableEq, Repr

/-- A corrected line that waits to be written back (R340). -/
structure WriteBack where
  unit  : Nat
  /-- Line address. -/
  line  : Nat
  /-- A write to the line was issued after the read. -/
  newer : Bool
  deriving DecidableEq, Repr

/-- The memory controllers beside their registers; a unit is 0 to 7 for `DDRC[n]`, 8 to 23 for `HBMC`. -/
structure MemSt where
  /-- The DIMM channels in the interleave, ascending (R333, R336); reset none. -/
  chDimm : List Nat
  /-- The HBM2E channels in the interleave, ascending (R336); reset none. -/
  chHbm : List Nat
  /-- Row records in the Daybook (R347, R348); kept through every reset; reset none. -/
  rows : List RowRec
  /-- Failed lanes recorded in the Daybook: unit and lane (R349); kept through every reset; reset none. -/
  lanes : List (Nat × Nat)
  /-- Lanes mapped onto spares: unit and lane (R349); reset none. -/
  remapped : List (Nat × Nat)
  /-- Correctable errors of the rows a station counts, at most 64 each: (station × 1,024 + bank) × 2¹⁸ + row (R347); reset none. -/
  rowCe : Tab Nat
  /-- Corrections by unit × 64 + position since `MEM_DEV_CE` was read (R342); reset none. -/
  devCe : Tab Nat
  /-- Corrections by unit × 64 + symbol since TRAINING, for the lane rule (R349); reset none. -/
  symCe : Tab Nat
  /-- Stations in parity recovery, by station index (R344); reset none. -/
  gates : Tab Gate
  /-- Reads that wait for their re-read (R341); reset none. -/
  rereads : List Reread
  /-- Corrected lines that wait for write-back (R340); reset none. -/
  backs : List WriteBack
  /-- Units whose temperature is above REF_TEMP or stale, bit n for unit n (R337, R584); reset 0. -/
  hot : Nat
  /-- HBM2E units lost whose context lines are still to be handled (R351), at the next boundary; reset none. -/
  lostCtx : List Nat
  deriving DecidableEq, Repr

/-- No memory trained. -/
def MemSt.reset : MemSt :=
  { chDimm := [], chHbm := [], rows := [], lanes := [], remapped := [], rowCe := [], devCe := [],
    symCe := [], gates := [], rereads := [], backs := [], hot := 0, lostCtx := [] }

/-! ### Flash management (12_flash_management.md) -/

/-- The flash policy record (R360). -/
structure FlashPolicy where
  vigilBands  : Nat
  metaBands   : Nat
  gcLow       : Nat
  gcHigh      : Nat
  wlSpread    : Nat
  dwpdX100    : Nat
  peTlc       : Nat
  lifeYears   : Nat
  opMinPct    : Nat
  readRefresh : Nat
  refreshDays : Nat
  logOpen     : Nat
  ckptS       : Nat
  deriving DecidableEq, Repr

/-- A NAND_CMD table's header, with the sequence directory (R398 to R400). -/
structure NandTable where
  family   : Nat
  iface    : Nat
  mtS      : Nat
  idMatch  : Nat
  idMask   : Nat
  planes   : Nat
  bpc      : Nat
  shield   : Nat
  luns     : Nat
  blocks   : Nat
  pagesNative : Nat
  pagesSlc : Nat
  statusMs : Nat
  suspendUs : Nat
  /-- TIMES 1 to 14, ns. -/
  times    : List Nat
  /-- The table holds sequences 13 to 15 (R400). -/
  cont     : Bool
  /-- STEPS_SLC and STEPS_NATIVE of the READ_RETRY table (R416). -/
  retrySlc : Nat
  retryNative : Nat
  /-- Steps flagged SOFT: SLC steps, then native steps (R416). -/
  softSlc : List Bool
  softNative : List Bool
  deriving DecidableEq, Repr

/-- A member (R355): its LUN, channel × 32 + target × 4 + LUN, and its block in each plane. -/
structure Member where
  lun    : Nat
  blocks : List Nat
  deriving DecidableEq, Repr

/-- Band states (R362). -/
inductive BState where
  | erased | free | vigil | open_ | closed | log | degraded | reclaim
  deriving DecidableEq, Repr

/-- Streams (R364). -/
inductive Stream where
  | vigil | meta_ | relocation | destage | log (region : Nat)
  deriving DecidableEq, Repr

/-- A band (R355, R362, R363). -/
structure Band where
  state   : BState
  slc     : Bool
  members : List Member
  stream  : Option Stream
  /-- Data slots placed so far, in the stripe order of R364. -/
  placed  : Nat
  /-- Lowest band page not yet known to be fully programmed (R385). -/
  upto    : Nat
  /-- Pages programmed without failure: (page × 16 + member) × 4 + plane (R366). -/
  done    : List Nat
  /-- Key domains of the slots programmed into it (R363). -/
  domains : List Nat
  /-- Island milliseconds at its close (R363, R377). -/
  closedMs : Nat
  /-- Reads of each member since the band was written (R377), by its place in the band. -/
  reads   : Tab Nat
  /-- Members found erased since the last start-up (R384). -/
  checked : Nat
  /-- A read of it needed the final step of its read-retry table (R377). -/
  finalStep : Bool
  /-- Band page at which it was closed early (R368, R381, R385); none where it was filled. -/
  cut : Option Nat
  /-- Why its folios are moved out (R378): 1 collection, 2 refresh, 3 wear levelling, 4 purge; 0 for no such reason. -/
  why : Nat
  deriving DecidableEq, Repr

/-- A T2 slot that holds a folio image (R268 to R271): what its seal says and its lines. -/
structure T2Slot where
  index  : Nat
  isMeta : Bool
  epoch  : Nat
  wseq   : Nat
  data   : Folio
  /-- Band, band page, member and plane it was placed in. -/
  band   : Nat
  page   : Nat
  member : Nat
  plane  : Nat
  /-- Its slot is committed (R366). -/
  committed : Bool
  /-- A relocation's copy: the HOME it was read from (R376). -/
  source : Option Nat
  /-- It no longer decodes after every retry step, until it is rebuilt (R371, R374). -/
  lost   : Bool
  deriving DecidableEq, Repr

/-- An erase block's entry of the block table (R363) and the engine's erase-state record (R406). -/
structure Blk where
  /-- Erase count. -/
  ec      : Nat
  retired : Bool
  /-- Open erase intent in the Daybook (R383). -/
  intent  : Bool
  /-- ERASED (R406). -/
  erased  : Bool
  /-- MODE of R406: none unset, true SLC. -/
  slcMode : Option Bool
  /-- NEXT of R406. -/
  next    : Nat
  /-- Programmed raw since its last good erase (R421). -/
  raw     : Bool
  deriving DecidableEq, Repr

/-- A block nothing is recorded of. -/
def Blk.new : Blk :=
  { ec := 0, retired := false, intent := false, erased := false, slcMode := none, next := 0, raw := false }

/-- A purge in progress (R390, R392). -/
structure Purge where
  /-- The domain, none in SANITIZING. -/
  domain : Option Nat
  /-- Bands of the set still to be erased. -/
  left : List Nat
  total : Nat
  done : Nat
  unverified : Nat
  /-- The frames and slots of the tiers are still to be zeroed. -/
  zeroing : Bool
  deriving DecidableEq, Repr

/-- Flash management beside its registers. The slots, blocks and bands are media or persistent tables. -/
structure FlashSt where
  /-- W (R356); reset 0 until TRAINING. -/
  width : Nat
  /-- LUNs enabled by the structure, ascending; reset none. -/
  luns : List Nat
  /-- LUNs failed (R372, R373); reset none. -/
  failed : List Nat
  /-- The NAND_CMD table that the node's parts matched (R419); reset none. -/
  table : Option NandTable
  /-- The bands by number (R362); reset none. -/
  bands : Tab Band
  /-- Image slots by HOME (R357, R358); reset none. -/
  slots : Tab T2Slot
  /-- Block entries by LUN × 8,192 + block; an unlisted block was never used; reset none. -/
  blocks : Tab Blk
  /-- Erased members in no band, beside the fresh ones; reset none. -/
  pool : List Member
  /-- By LUN, the first member index never used; an unlisted LUN has used none; reset none. -/
  fresh : Tab Nat
  /-- Single erased blocks by LUN × 8,192 + block that belong to no member (R382); reset none. -/
  loose : List Nat
  /-- HOMEs that wait for rebuild (R371 to R373); reset none. -/
  rebuilds : List Nat
  /-- HOMEs that wait for relocation, most urgent first (R378); reset none. -/
  relocate : List Nat
  /-- Collection runs (R375); reset false. -/
  gc : Bool
  /-- Wear credit in thousandths of a byte (R379); reset 0. -/
  credit : Nat
  /-- Allowed rate A, B/s (R379); reset 0. -/
  rate : Nat
  /-- Erases of the last 24 hours (R379): island milliseconds and count; reset none. -/
  erases : List (Nat × Nat)
  /-- Durations of the last SLC Meta programs, at most 1,024, µs (R388); reset none. -/
  metaUs : List Nat
  /-- Open log bands by region (R369); reset none. -/
  logBand : Tab Nat
  /-- Folios of zones that have been written to T2 since their zone was last emptied (R369); reset none. -/
  logged : List Nat
  /-- Version (0 or 1) of the last complete checkpoint of each kind, with its GSEQ (R274, R363); reset none. -/
  ckpt : Tab (Nat × Nat)
  /-- Island milliseconds at the last table checkpoint (R363); reset 0. -/
  ckptMs : Nat
  /-- The purge in progress (R390); reset none. -/
  purge : Option Purge
  /-- Purges that wait for it; reset none. -/
  purges : List Nat
  deriving DecidableEq, Repr

/-- Flash as it left the factory. -/
def FlashSt.reset : FlashSt :=
  { width := 0, luns := [], failed := [], table := none, bands := [], slots := [], blocks := [], pool := [],
    fresh := [], loose := [], rebuilds := [], relocate := [], gc := false, credit := 0, rate := 0, erases := [],
    metaUs := [], logBand := [], logged := [], ckpt := [], ckptMs := 0, purge := none, purges := [] }

/-! ### NAND channel engines (13_flash_channels.md) -/

/-- What an array operation of a LUN works on. -/
inductive NandJob where
  /-- A page program of a member: band, band page, member. -/
  | program (band page member : Nat)
  /-- The erase of a member: band (none for one of no band) and the member. -/
  | erase (band : Option Nat) (m : Member)
  /-- The check of a member's blocks before it enters a band (R384). -/
  | check (band : Nat) (member : Nat)
  /-- The verification of an erased member: page 0 and the last page in SLC mode (R383, R390). -/
  | verify (band : Option Nat) (m : Member)
  /-- A page read: HOME of its first slot. -/
  | read (home : Nat)
  /-- A run of continuous reads: HOME of the next page and pages taken (R412). -/
  | cont (home : Nat) (pages : Nat)
  /-- A raw operation of the channel (R420): OP, block, page and SLC mode. -/
  | raw (op block page : Nat) (slc : Bool)
  deriving DecidableEq, Repr

/-- An operation of a LUN (R402). Times count ticks of the order stamp, 0.5 ns each. -/
structure NandOp where
  /-- Sequence number of R400. -/
  seq : Nat
  job : NandJob
  /-- Start. -/
  start : Nat
  /-- Start of its current stretch of array time: start or last resume. -/
  since : Nat
  suspends : Nat
  starved : Bool
  deriving DecidableEq, Repr

/-- One LUN's engine state (R402, R408). -/
structure LunSt where
  run  : Option NandOp
  susp : Option NandOp
  /-- Operations that wait, oldest first. -/
  wait : List (Nat × NandJob)
  deriving DecidableEq, Repr

/-- A LUN with nothing to do. -/
def LunSt.idle : LunSt := { run := none, susp := none, wait := [] }

/-- The channel engines beside their registers. -/
structure NandSt where
  /-- LUN states by channel × 32 + target × 4 + LUN; an unlisted LUN is idle; reset none. -/
  luns : Tab LunSt
  /-- Reads that succeeded at each retry step: channel × 256 + (128 where SLC) + step (R417); reset none. -/
  hist : Tab Nat
  /-- Pages as raw programs stored them: (LUN × 8,192 + block) × 2,048 + page (R420); reset none. -/
  rawPages : Tab (List Byte)
  deriving DecidableEq, Repr

/-- Idle engines. -/
def NandSt.reset : NandSt := { luns := [], hist := [], rawPages := [] }

/-! ### Keys and cipher (16_cipher_and_keys.md) -/

/-- Slot states (R499). -/
inductive KState where
  | empty | active | decryptOnly | lost
  deriving DecidableEq, Repr

/-- A key slot (R497). -/
structure KeySlot where
  state   : KState
  /-- KIND, R498. -/
  kind    : Nat
  /-- Key material, 256 bits; no statement reads it. -/
  key     : Nat
  /-- Owner PD; 0 for the device. -/
  owner   : Nat
  usage   : Nat
  limit   : Nat
  autoPct : Nat
  /-- Key domain bound (R502). -/
  domain  : Option Nat
  /-- 0xB003 was logged for the slot (R505). -/
  refusedSeen : Bool
  /-- Writes of its blob (R502). -/
  serial  : Nat
  deriving DecidableEq, Repr

/-- An EMPTY slot. -/
def KeySlot.none : KeySlot :=
  { state := .empty, kind := 0, key := 0, owner := 0, usage := 0, limit := 0, autoPct := 0, domain := Option.none,
    refusedSeen := false, serial := 0 }

/-- Domain states (R508). -/
inductive DState where
  | unkeyed | keyed | rekeying | purging | keyLost
  deriving DecidableEq, Repr

/-- A key-domain entry (R508). -/
structure KeyDomain where
  state    : DState
  curSlot  : Nat
  curEpoch : Nat
  prevSlot : Nat
  prevEpoch : Nat
  deriving DecidableEq, Repr

/-- A domain never keyed. -/
def KeyDomain.none : KeyDomain := { state := .unkeyed, curSlot := 0, curEpoch := 0, prevSlot := 0, prevEpoch := 0 }

/-- The keys that a cipher core holds (R500). -/
structure CoreKeys where
  /-- Slots held, the one used last first; at most four. -/
  held : List Nat
  /-- Slots whose keys the core has still to load, in order, with the KEY_LOAD entries each needs. -/
  wants : List (Nat × Nat)
  deriving DecidableEq, Repr

/-- Keys and cipher beside their registers. -/
structure KeySt where
  /-- The keys of each cipher core, by core (R500); reset none. -/
  cores : Tab CoreKeys
  /-- The core that each engine used last (R491): 0 transport, 1 Flesal, 2 folio images, 3 the key store; reset none. -/
  lastCore : Tab Nat
  /-- TEST entries of each core since its last rotation of known-answer tests ended (R493); reset none. -/
  kats : Tab Nat
  /-- Key slots (R497); an unlisted slot is EMPTY; reset none. -/
  slots : Tab KeySlot
  /-- NV blobs in the Daybook (R502), as the slot they unwrap to; kept through every reset; reset none. -/
  blobs : Tab KeySlot
  /-- The key-domain table (R508); persistent; an unlisted domain is UNKEYED; reset none. -/
  domains : Tab KeyDomain
  /-- Key-domain extents (R207) that are not of domain 0: extent index to domain; persistent; reset none. -/
  extents : Tab Nat
  /-- Scan position of each domain REKEYING: the next folio and folios sealed again (R511); reset none. -/
  scans : Tab (Nat × Nat)
  /-- Rekeys that start at the next boundary: domain and slot (R511); reset none. -/
  starts : List (Nat × Nat)
  /-- Forced rekeys that wait for a free slot or a running rekey (R507); reset none. -/
  waits : List Nat
  /-- Domains that KD_DESTROY takes at the next boundary, with the verb's response (R513); reset none. -/
  destroys : List (Nat × VerbRef)
  /-- Clusters retired, bit c (R493); reset 0. -/
  deadClusters : Nat
  /-- Generate requests since the last reseed (R495, R496); reset 0. -/
  draws : Nat
  deriving DecidableEq, Repr

/-- An empty key store. -/
def KeySt.reset : KeySt :=
  { cores := [], lastCore := [], kats := [], slots := [], blobs := [], domains := [], extents := [], scans := [], starts := [], waits := [], destroys := [],
    deadClusters := 0, draws := 0 }


/-! ### Power sequencing and holdup (17_power_and_holdup.md) -/

/-- A rail record of the POWER_SEQ table (R521). -/
structure RailRec where
  upStep     : Nat
  downStep   : Nat
  div        : Nat
  nom        : Nat
  uv         : Nat
  ov         : Nat
  dis        : Nat
  upTimeout  : Nat
  disTimeout : Nat
  settle     : Nat
  deriving DecidableEq, Repr

/-- The POWER_SEQ table (R520). -/
structure PowerSeq where
  offDwell  : Nat
  retryMax  : Nat
  battery   : Bool
  inLoss    : Nat
  vFull     : Nat
  vCutoff   : Nat
  eff       : Nat
  senseDiv  : Nat
  rTest     : Nat
  testMs    : Nat
  measS     : Nat
  reserveMs : Nat
  esrMax    : Nat
  cMin      : Nat
  eRated    : Nat
  glitch    : Nat
  /-- Rails 0 to 13 in order. -/
  rails     : List RailRec
  deriving DecidableEq, Repr

/-- The boot-ROM default table (R523): the reference table with wider windows on rails 8 and 10.
The header fields that R523 names are those of the reference build; the others are those of the
worked example *A measurement on the reference build*, with ESR_MAX_UOHM and C_MIN_MF at the widest
legal value, which R523 leaves open (assumption 21). -/
def PowerSeq.default : PowerSeq :=
  let rail (u d div nom uv ov dis ut dt : Nat) : RailRec :=
    { upStep := u, downStep := d, div := div, nom := nom, uv := uv, ov := ov, dis := dis,
      upTimeout := ut, disTimeout := dt, settle := 10 }
  { offDwell := 250, retryMax := 2, battery := false, inLoss := 40000, vFull := 54000,
    vCutoff := 30000, eff := 90, senseDiv := 50, rTest := 10000, testMs := 100, measS := 3600,
    reserveMs := 500, esrMax := 1000000, cMin := 1, eRated := 0, glitch := 20,
    rails := [
      rail 0 0 1 800 760 840 80 0 0,
      rail 2 9 1 750 713 788 75 20 50,
      rail 3 8 1 850 808 893 85 20 50,
      rail 4 7 2 1800 1710 1890 180 20 50,
      rail 5 1 1 900 855 945 90 20 50,
      rail 5 1 1 1200 1140 1260 120 20 50,
      rail 6 6 2 2500 2375 2625 250 20 50,
      rail 7 5 1 1200 1140 1260 120 20 50,
      rail 8 4 1 1100 1000 1300 110 20 50,
      rail 9 3 10 12000 11400 12600 1200 100 200,
      rail 10 2 3 3300 2250 3600 330 20 50,
      rail 10 2 1 1200 1140 1260 120 20 50,
      rail 4 7 1 1000 950 1050 100 20 50,
      rail 1 10 1 900 855 945 90 20 50] }

/-- A Vigil in progress (R539). -/
structure Vigil where
  /-- Step in progress, 1 to 6. -/
  step : Nat
  /-- Limited by R542. -/
  limited : Bool
  /-- Mode left at its entry. -/
  from_ : Nat
  /-- Island milliseconds at its entry. -/
  startMs : Nat
  /-- Island milliseconds at which step 4 began; none before it. -/
  foldStart : Option Nat
  /-- Milliseconds spent in step 4. -/
  foldMs : Nat
  /-- No further folio program starts (R540, R541). -/
  noPrograms : Bool
  /-- Folios saved. -/
  saved : Nat
  /-- The seal was written. -/
  sealed : Bool
  /-- Cycle of the stop boundary (R234, R439). -/
  stopCycle : Nat
  /-- Requests stamped before it whose writes still waited (R234). -/
  open_ : Nat
  deriving DecidableEq, Repr

/-- The power supervisor beside its registers. -/
structure PowerSt where
  /-- The island runs (R531); reset true. -/
  on : Bool
  /-- Input pins and straps (R581); reset all low but RESET_N, TWIN_PRESENT_N high. -/
  pins : Pins
  /-- The straps as sampled at leaving DORMANT: ROLE_STRAP, BOOT_SEL, TWIN_PRESENT_N (R46, R77, R467); reset as the pins. -/
  straps : Pins
  /-- The sequencing table in use (R523); reset the boot-ROM default. -/
  table : PowerSeq
  /-- The island's copy of the last accepted POWER_SEQ table (R523); reset none. -/
  copy : Option PowerSeq
  /-- The island's copy of SAVE_POWER_W, 1 to 65,535 W (R537); reset none. -/
  savePower : Option Nat
  /-- An off request met the power-up: its cause (R525); reset none. -/
  offReq : Option Nat
  /-- The island holds a valid power-cycle count (R524, R532); reset false. -/
  cycleValid : Bool
  /-- The power-cycle count's copy in the Daybook records partition, 24 bits (R532); reset 0. -/
  cycleCopy : Nat
  /-- A measurement pulse runs: island milliseconds at its start (R535); reset none. -/
  pulse : Option Nat
  /-- A pulse has ended since the island's power-on (R538); reset false. -/
  measured : Bool
  /-- Milliseconds since the last pulse (PWR_ESTORE_AGE); reset 0. -/
  ageMs : Nat
  /-- E_usable last passed to the budget, J (R538); reset 0. -/
  passedE : Nat
  /-- The Vigil in progress (R539); reset none. -/
  vigil : Option Vigil
  deriving DecidableEq, Repr

/-- The supervisor after the island's power-on. -/
def PowerSt.reset : PowerSt :=
  { on := true,
    pins := { pwrgd := false, resetN := true, extFault := false, roleStrap := 0, bootSel := false,
              twinPresentN := true, addrStrap := 0 },
    straps := { pwrgd := false, resetN := true, extFault := false, roleStrap := 0, bootSel := false,
                twinPresentN := true, addrStrap := 0 },
    table := PowerSeq.default, copy := none, savePower := none, offReq := none,
    cycleValid := false, cycleCopy := 0, pulse := none, measured := false,
    ageMs := 0, passedE := 0, vigil := none }

/-! ### Clocks, governor and temperature (18_clocks_and_thermal.md) -/

/-- The THERMAL_CURVE table (R564). -/
structure ThermalCurve where
  hystW     : Nat
  tempHyst  : Nat
  sustain   : Nat
  peak      : Nat
  peakS     : Nat
  windowS   : Nat
  /-- TEMP_C10 and CAP_W, ascending. -/
  entries   : List (Nat × Nat)
  deriving DecidableEq, Repr

/-- The thermal and power governors beside their registers. -/
structure ThermalSt where
  /-- Failed sensors, bit i for sensor i, 25 bits (R553); reset 0. -/
  failed : Nat
  /-- Tj in 0.1 °C (R553); reset 0. -/
  tj : Int
  /-- THERMTRIP_N is latched (R555); reset false. -/
  trip : Bool
  /-- Index of the THERMAL_CURVE entry whose cap is in force (R558); reset none. -/
  cap : Option Nat
  /-- Whether each earlier second was an excess second, newest first (R557); reset none. -/
  seconds : List Bool
  /-- Sum of P_est over the periods of this second, 0.1 W (R557); reset 0. -/
  sumP : Nat
  /-- Periods of this second so far (R557); reset 0. -/
  periods : Nat
  /-- Consecutive periods with G at its most and P_est above L (R562); reset 0. -/
  unmet : Nat
  /-- The highest valid reading of the last sample, 0.1 °C (R553, R555); reset none. -/
  top : Option Int
  /-- The governor level in action: a new G acts from the next boundary (R559); reset 0. -/
  acting : Nat
  deriving DecidableEq, Repr

/-- The governors after the island's power-on. -/
def ThermalSt.reset : ThermalSt :=
  { failed := 0, tj := 0, trip := false, cap := none, seconds := [], sumP := 0, periods := 0,
    unmet := 0, top := none, acting := 0 }

/-! ### Service-processor interface (19_management_interface.md) -/

/-- The read buffer of the register window (R571, R572). -/
structure ReadBuf where
  /-- STATUS [2:0]: READY, PENDING, REFUSED (R571). -/
  status : Nat
  /-- ADDR of the READ that filled the buffer, 24 bits. -/
  addr : Nat
  /-- The buffered words, at most 64. -/
  words : List Nat
  deriving DecidableEq, Repr

/-- A verb or a response on the SP path: the sequence number of R576 and its bytes. -/
structure SpMsg where
  /-- Sequence number, 8 bits (R576). -/
  seq : Nat
  /-- Header and body. -/
  bytes : List Byte
  deriving DecidableEq, Repr

/-- A boot-store operation in progress (R587). -/
structure BsOp where
  /-- OP of R587. -/
  op : Nat
  /-- BS_ADDR at its start, 27 bits. -/
  addr : Nat
  /-- Bytes of READ and PROGRAM. -/
  len : Nat
  deriving DecidableEq, Repr

/-- The SP interface beside its registers. -/
structure SpIf where
  /-- Read buffer of 256 B (R572); reset empty. -/
  readBuf : ReadBuf
  /-- A frame was refused since the last GETSTATUS (R569); reset false. -/
  frameRefused : Bool
  /-- An IBI is pending (R578); reset false. -/
  ibiPending : Bool
  /-- DB_PENDING as the last IBI payload carried it, 32 bits (R578); reset 0. -/
  lastIbi : Nat
  /-- A Hot-Join request stands (R568); reset false. -/
  hotJoin : Bool
  /-- Write length recorded by SETMWL (R569); reset 261. -/
  mwl : Nat
  /-- Verbs the runtime has copied from the command window, oldest first (R576); reset none. -/
  submitted : List SpMsg
  /-- Responses that wait for MB_TO_SP[0], oldest first (R576); reset none. -/
  verbOut : List SpMsg
  /-- Doorbell bits held back in SWITCHOVER, 32 bits (R579); reset 0. -/
  dbHeld : Nat
  /-- Last agreed I3C address override, 7 bits (R570); reset 0. -/
  saddr : Nat
  /-- ADDR_STRAP as last sampled, 2 bits (R581); reset 0. -/
  addrStrap : Nat
  /-- Last agreed SEL of each sideband slot (R583); a slot not listed has k mod 8; reset none listed. -/
  sbSel : Tab Nat
  /-- The SP sideband transfer that waits for its end (R585): `SB_XFER_CTRL` as its GO wrote it; reset none. -/
  sbXfer : Option Nat
  /-- The boot-store operation in progress (R587); reset none. -/
  bsOp : Option BsOp
  deriving DecidableEq, Repr

/-- The SP interface after the island's power-on. -/
def SpIf.reset : SpIf :=
  { readBuf := { status := 0, addr := 0, words := [] }, frameRefused := false,
    ibiPending := false, lastIbi := 0, hotJoin := false, mwl := 261, submitted := [],
    verbOut := [], dbHeld := 0, saddr := 0,
    addrStrap := 0, sbSel := [], sbXfer := none, bsOp := none }

/-! ### Event recorder (20_event_recorder.md) -/

/-- One event record (R591); every number is unsigned. -/
structure EvRec where
  /-- SEQ, 32 bits (R593). -/
  seq : Nat
  /-- CODE, 16 bits. -/
  code : Nat
  /-- UNIT, 16 bits. -/
  unit : Nat
  /-- TIME in 0.1 s, 32 bits (R594). -/
  time : Nat
  /-- CYCLE, 24 bits (R532). -/
  cycle : Nat
  /-- FLAGS, 8 bits. -/
  flags : Nat
  /-- REPEAT as written to the Daybook, 16 bits (R595). -/
  rep : Nat
  /-- SUPPRESSED, 16 bits (R596). -/
  suppressed : Nat
  /-- P0, 32 bits. -/
  p0 : Nat
  /-- P1, 32 bits. -/
  p1 : Nat
  /-- P2, 32 bits. -/
  p2 : Nat
  deriving DecidableEq, Repr

/-- A posting that waits for its record (R597, R598). -/
structure Posting where
  /-- CODE, 16 bits. -/
  code : Nat
  /-- UNIT, 16 bits. -/
  unit : Nat
  /-- Island time of the posting, in 0.1 s since the island's power-on (R594). -/
  at_ : Nat
  /-- VIGIL: posted in HOLDUP_SAVE (R591). -/
  vigil : Bool
  /-- REPEAT folded so far (R595). -/
  rep : Nat
  /-- SUPPRESSED of a closing record (R596). -/
  suppressed : Nat
  /-- P0 to P2. -/
  p0 : Nat
  /-- P1. -/
  p1 : Nat
  /-- P2. -/
  p2 : Nat
  deriving DecidableEq, Repr

/-- A rate-limit window of one code (R596). -/
structure RateWin where
  /-- Records of the code accepted in the window. -/
  taken : Nat
  /-- Occurrences withheld. -/
  withheld : Nat
  /-- The last occurrence withheld. -/
  last : Option Posting
  deriving DecidableEq, Repr

/-- The recorder. Its ring and archive are media and keep their records through every reset. -/
structure Recorder where
  /-- Next SEQ, 32 bits (R593, R599); reset 0. -/
  head : Nat
  /-- The clear point, 32 bits (R603), as the Daybook records partition holds it; reset 0. -/
  clearPoint : Nat
  /-- ARCH_OLDEST, 32 bits (R601); reset 0. -/
  archOldest : Nat
  /-- ARCH_NEXT, 32 bits (R601); reset 0. -/
  archNext : Nat
  /-- The ring by index, 65,536 slots (R599); reset empty. -/
  ring : Tab EvRec
  /-- The archived segments by m mod 65,536, each of 128 slots (R601); reset empty. -/
  archive : Tab (List (Option EvRec))
  /-- Where each archived segment lies in T2 (R363, R601); reset none. -/
  archAt : Tab Nat
  /-- The segment whose folio is being written (R601): its first SEQ, its T2 slot and its records; reset none. -/
  archBusy : Option (Nat × Nat × List (Option EvRec))
  /-- The staging queue, oldest first, at most 512, or the island's 64 before the Daybook is trained (R597, R598); reset empty. -/
  staging : List Posting
  /-- REPEAT of the newest ring record counting folds not yet written (R595), 16 bits; reset 0. -/
  newestRep : Nat
  /-- The newest record, staged or written, may still be folded into: no clear has followed it (R595); reset false. -/
  foldable : Bool
  /-- Open rate-limit windows by code (R596); reset none. -/
  windows : Tab RateWin
  /-- Postings lost since the last record was written (R597); reset 0. -/
  lostRun : Nat
  /-- SEQ of the first record after the run of losses, once written (R597); reset none. -/
  lostFirst : Option Nat
  /-- GAP is due in the next record (R597, R600); reset false. -/
  gapDue : Bool
  /-- Records the recorder may still write at once, at most 4,096, one more each millisecond (R597); reset 4,096. -/
  burst : Nat
  /-- Milliseconds of island time since its power-on (R594); reset 0. -/
  islandMs : Nat
  /-- Operating time at the island's power-on, 0.1 s (R594); reset 0 until TRAINING reads the copy. -/
  opBase : Nat
  /-- The Daybook's copy of the operating-time count (R594), 32 bits; reset 0. -/
  opCopy : Nat
  /-- The count was resumed from the Daybook copy since the island's power-on (R594); reset false. -/
  timeKnown : Bool
  /-- Segments are being archived: from the first serving mode to HOLDUP_SAVE (R601); reset false. -/
  archOn : Bool
  /-- A cursor snapshot waits to complete (R602); reset none. -/
  cursorPending : Option Nat
  /-- FOLDED counter, 32 bits (R595); reset 0. -/
  folded : Nat
  /-- SUPPRESSED counter, 32 bits (R596); reset 0. -/
  supp : Nat
  /-- LOST counter, 32 bits (R597, R598); reset 0. -/
  lost : Nat
  deriving DecidableEq, Repr

/-- The recorder after the island's power-on with blank media. -/
def Recorder.reset : Recorder :=
  { head := 0, clearPoint := 0, archOldest := 0, archNext := 0, ring := [], archive := [], archAt := [], archBusy := none,
    staging := [], newestRep := 0, foldable := false, windows := [], lostRun := 0,
    lostFirst := none, gapDue := false, burst := 4096, islandMs := 0, opBase := 0, opCopy := 0,
    timeKnown := false, archOn := false, cursorPending := none, folded := 0, supp := 0, lost := 0 }

/-! ### The Forme (03_forme.md) -/

/-- The fixed part of the STRUCTURE section (R73). -/
structure FixedPart where
  exposed   : Nat
  pageCount : Nat
  dimmGen   : Nat
  dpc       : Nat
  dimmMask  : Nat
  portCount : Nat
  targets   : Nat
  luns      : Nat
  grainLog2 : Nat
  nandMask  : Nat
  t0Gib     : Nat
  evbGib    : Nat
  ctxGib    : Nat
  mapdirGib : Nat
  dirtyCap  : Nat
  flags     : Nat
  lfsrSeed  : Nat
  deriving DecidableEq, Repr

/-- An accepted Forme: what the sections of its container hold. -/
structure Forme where
  /-- 1 for slot A, 2 for slot B. -/
  slot : Nat
  /-- SVN of the header. -/
  svn : Nat
  /-- KEY_INDEX of the signature block. -/
  keyIndex : Nat
  /-- BUILD of the header. -/
  build : Nat
  /-- STRUCT_DIGEST, 48 bytes. -/
  digest : List Byte
  /-- HBM_GIB of the header. -/
  hbmGib : Nat
  fixed : FixedPart
  /-- The STRUCTURE records: type and body (R73). -/
  records : List (Nat × List Byte)
  /-- Pages by number (R105). -/
  pages : Tab Page
  /-- The fallback map (R116). -/
  fallback : List FbEntry
  /-- Tables by ID, as the table window shows them (R74). -/
  tables : Tab (List Byte)
  /-- EVENT_POLICY (R140). -/
  policy : List PolicyEntry
  /-- TIER_POLICY (R288). -/
  tiers : TierPolicy
  /-- CC_CURVE (R194). -/
  cc : CcCurve
  /-- DSCP_CLASS: the class of each of the 64 DSCPs (R171). -/
  dscp : List Nat
  /-- The DIMM and the HBM2E geometry (R328). -/
  dimm : Geo
  hbm : Geo
  /-- The flash policy (R360). -/
  flash : FlashPolicy
  /-- NAND_CMD tables with their READ_RETRY tables, by ascending ID (R398, R416). -/
  nands : List NandTable
  /-- Port records (R156). -/
  ports : List PortRec
  /-- POWER_SEQ (R520). -/
  power : PowerSeq
  /-- THERMAL_CURVE (R564). -/
  curve : ThermalCurve
  deriving DecidableEq, Repr

/-- A load in progress (R77, R78). -/
structure FormeLoad where
  /-- Slot being read: 1 A, 2 B. -/
  slot : Nat
  /-- Pass, 1 or 2. -/
  pass : Nat
  /-- The other slot is still to be tried. -/
  other : Bool
  /-- The signed hash of pass 1, once pass 2 runs (R78). -/
  hash : Nat
  deriving DecidableEq, Repr

/-- The loader and the boot store. -/
structure FormeSt where
  /-- The boot store, 128 MiB, sparse; an unlisted byte is erased and reads 0xFF (assumption 5). -/
  store : Tab Byte
  /-- The store answers 8D-8D-8D and holds at least 128 MiB (R586); reset true (assumption 5). -/
  storeGood : Bool
  /-- The load in progress; reset none. -/
  load : Option FormeLoad
  /-- The running Forme; reset none. -/
  run : Option Forme
  /-- The runtime image was started and management cores run it (R79, R580); reset false. -/
  runtime : Bool
  deriving DecidableEq, Repr

/-- The loader with a blank boot store. -/
def FormeSt.reset : FormeSt :=
  { store := [], storeGood := true, load := none, run := none, runtime := false }
/-! ### The Daybook (14_daybook.md) -/

/-- The Daybook die: banks, spares and errors; its partitions are held by the structures that use them. -/
structure DbSt where
  /-- Banks retired, bit n (R430); reset 0. -/
  dead : Nat
  /-- Spare rows used, by bank (R429); media; reset none. -/
  used : Tab Nat
  /-- Rows remapped, bank × 32,768 + row (R429); media; reset none. -/
  remapped : List Nat
  /-- Rows being copied: bank × 32,768 + row, and granules copied (R429); reset none. -/
  copying : List (Nat × Nat)
  /-- Corrections of each row, bank × 32,768 + row (R429); reset none. -/
  rowCe : Tab Nat
  /-- Granules lost, by stripe × 4 + bank (R428, R430); media; reset none. -/
  bad : List Nat
  /-- Banks whose loss has been followed up in the partitions, bit n (R430, R438); reset 0. -/
  swept : Nat
  deriving DecidableEq, Repr

/-- A die without errors. -/
def DbSt.reset : DbSt := { dead := 0, used := [], remapped := [], copying := [], rowCe := [], bad := [], swept := 0 }

/-- The seal record (R439). -/
structure Seal where
  /-- 0 EMPTY, 1 SEALED, 2 CONSUMED. -/
  state : Nat
  powerCycle : Nat
  groups : Nat
  endGseq : Nat
  cycle : Nat
  seq : Nat
  deriving DecidableEq, Repr

/-- A journal record (R434). -/
inductive JBody where
  | map (index : Nat) (isMeta : Bool) (e : MapEntry)
  | homed (page : Nat) (directory : Bool) (home through : Nat)
  /-- Table ID, entry index and the whole entry. -/
  | table (id entry : Nat) (body : List Byte)
  /-- A block- or band-table change, by its length. -/
  | flash (len : Nat)
  | zone (region zone wp : Nat)
  | ckpt (kind gseq : Nat)
  | ledgerMark (at_ : Nat)
  deriving DecidableEq, Repr

/-- The entry that a record in the journal tail replaced: what a loss of the tail brings back (R435). -/
inductive Undo where
  | map (folio : Nat) (old : Option MapEntry)
  | pd (n : Nat) (old : Option Pd)
  | region (n : Nat) (old : Option Region)
  | baseGen (old : Nat)
  | zone (k : Nat) (old : Option Nat)
  | extent (n : Nat) (old : Option Nat)
  | queue (n : Nat) (old : Option DevQ)
  | domain (n : Nat) (old : Option KeyDomain)
  | nothing
  deriving DecidableEq, Repr

/-- A record of the journal with the payload positions of its first byte and of the byte after it; 56
payload bytes make a granule (R433). -/
structure JRec where
  first : Nat
  last  : Nat
  body  : JBody
  undo  : Undo
  deriving DecidableEq, Repr

/-- The map journal, the intent ring and the seal, all media of the Daybook. -/
structure JournalSt where
  /-- Payload bytes placed since format; granule g holds bytes 56g to 56g + 55 (R433); reset 0. -/
  pos : Nat
  /-- Granules written to the ring since format, GSEQ of the next (R433, R435); reset 0. -/
  ring : Nat
  /-- Records still retained, and those of the tail, oldest first (R436); reset none. -/
  recs : List JRec
  /-- T2 home and THROUGH of each page written: map page p, directory page d at 2³¹ + d (R434); reset none. -/
  homed : Tab (Nat × Nat)
  /-- Pages whose Meta write is under way: page, its HOME and the THROUGH it will have (R275, R434); reset none. -/
  writing : List (Nat × Nat × Nat)
  /-- GSEQ of unrecoverable ring granules (R438); reset none. -/
  lost : List Nat
  /-- The seal in use (R439); reset EMPTY. -/
  sealRec : Seal
  /-- ISEQ of the next intent granule (R441); reset 0. -/
  iseq : Nat
  /-- Intent entries due: kind 1 OPEN, 2 CLOSED, 3 MARK, object and page (R441); reset none. -/
  due : List (Nat × Nat × Nat)
  /-- Intent entries in force, each with the ISEQ of its granule (R442); reset none. -/
  force : List (Nat × Nat × Nat × Nat)
  /-- Cycle of the last batch (R441); none before; reset none. -/
  batchAt : Option Nat
  deriving DecidableEq, Repr

/-- A formatted journal. -/
def JournalSt.reset : JournalSt :=
  { pos := 0, ring := 0, recs := [], homed := [], writing := [], lost := [],
    sealRec := { state := 0, powerCycle := 0, groups := 0, endGseq := 0, cycle := 0, seq := 0 },
    iseq := 0, due := [], force := [], batchAt := none}

/-! ### The twin (15_twin_mirroring.md) -/

/-- A ledger granule (R464). -/
structure Ledger where
  role    : Nat
  vigil   : Bool
  suspect : Bool
  pair    : Nat
  term    : Nat
  onum    : Nat
  base    : Option Nat
  oseq    : Nat
  takeover : Nat
  lseq    : Nat
  deriving DecidableEq, Repr

/-- A STATE frame (R451): the sender's mode, straps, digest, ledger end, OSEQ, TERM and PAIR. -/
structure Partner where
  mode   : Nat
  strap  : Nat
  digest : List Byte
  ledger : Option Ledger
  /-- It carries LOSS (R465). -/
  loss   : Bool
  oseq   : Nat
  term   : Nat
  pair   : Nat
  /-- Its ONUM, reported with the ledger end. -/
  onum   : Nat
  deriving DecidableEq, Repr

/-- A lease request (R470). -/
structure Lease where
  pair  : Nat
  node  : Nat
  mode  : Nat
  term  : Nat
  onum  : Nat
  nonce : Nat
  deriving DecidableEq, Repr

/-- A mismatch in arbitration (R462). -/
structure Mismatch where
  window : Nat
  /-- 0 output, 1 journal. -/
  kind   : Nat
  /-- Own verdict: faulty. -/
  own    : Bool
  deriving DecidableEq, Repr

/-- A resynchronisation (R478 to R483). -/
structure Resync where
  /-- 1 SNAPSHOT, 2 BULK, 3 REPLAY, 4 FINAL. -/
  phase : Nat
  full  : Bool
  pass  : Nat
  /-- Groups left in the phase, ascending. -/
  left  : List Nat
  /-- Every group is left (FULL, BULK); `left` then lists none: next group and number of groups. -/
  bulk  : Option (Nat × Nat)
  /-- Changes collected for the next pass. -/
  next  : List Nat
  /-- Sf has passed. -/
  final : Bool
  /-- SNAPSHOT is over on the resyncing node: it has drained and sent its bitmap (R480). -/
  ready : Bool
  groups : Nat
  startMs : Nat
  deriving DecidableEq, Repr

/-- The twin link and the pair, beside their registers. -/
structure TwinSt where
  /-- Session counter of the records partition, 31 bits (R449); media; reset 0. -/
  session : Nat
  /-- Lanes retired, bit n (R447); reset 0. -/
  deadLanes : Nat
  /-- Frames sent in the session, and the highest FSEQ received in order plus 1 (R450); reset 0. -/
  fseq : Nat
  recv : Nat
  /-- Frames sent that are not acknowledged, at most 128: their words (R450); reset none. -/
  kept : List (FlType × List Nat)
  /-- Peer's last ACK plus 1 (R450); reset 0. -/
  acked : Nat
  /-- KEY bit in use (R449); reset false. -/
  key : Bool
  /-- Items that wait for the link, for credit or for a window to be compared (R110, R461): ONUM and the words of the frame; reset none. -/
  unsent : List (Nat × List Nat)
  /-- Item credits the active holds, and those to return (R448, R110); reset 0. -/
  credit : Nat
  give : Nat
  /-- The partner as its last STATE shows it; reset none. -/
  partner : Option Partner
  /-- TERM and PAIR of the records partition and the ledger (R466, R471); media; reset 0. -/
  term : Nat
  pair : Nat
  /-- Last ONUM assigned or executed (R453); reset 0 until the ledger end is read. -/
  onum : Nat
  /-- Highest ONUM reported (R456); reset 0. -/
  reported : Nat
  /-- Next OSEQ (R458); reset 0. -/
  oseq : Nat
  /-- CRC state of the open output window, and the records it holds (R460); reset all ones, 0. -/
  wcrc : Nat
  wcount : Nat
  /-- CRC state, count and number of the open journal window (R460); reset all ones, 0, 0. -/
  jcrc : Nat
  jcount : Nat
  jwin : Nat
  /-- Own digests not yet compared, by window × 2 + kind (R461); reset none. -/
  own : Tab Nat
  /-- Partner's digests not yet compared; reset none. -/
  theirs : Tab Nat
  /-- Last output window compared (TWIN_WINDOW); reset 0. -/
  compared : Nat
  /-- First OSEQ of the digest windows (R482); reset 0. -/
  digestFrom : Nat
  /-- OSEQ at which the open journal window began (R462); reset 0. -/
  jfrom : Nat
  /-- OSEQ span of each closed journal window that is not yet compared, by window (R462); reset none. -/
  jspans : Tab (Nat × Nat)
  /-- Closed windows whose DIGEST has not been sent, as window × 2 + kind; reset none. -/
  jsend : List Nat
  /-- The mismatch in arbitration; reset none. -/
  mismatch : Option Mismatch
  /-- The partner's verdict that arrived: window, kind and whether it declares itself faulty (R462); reset none. -/
  verdict : Option (Nat × Nat × Bool)
  /-- A lease is needed: Flesal was lost in a state of R468; reset false. -/
  leaseDue : Bool
  /-- The lease request that is pending (R470); reset none. -/
  lease : Option Lease
  /-- TERM for which a standby asks no more (R473); reset none. -/
  denied : Option Nat
  /-- A handover runs: final ONUM once sent (R476); reset none. -/
  handover : Option (Option Nat)
  /-- The cause of the switch-over: 0 handover, 1 fault, 2 lease; reset 0. -/
  swCause : Nat
  /-- Announcements still to repeat after the gap (R475); reset 0. -/
  announce : Nat
  /-- ONUM of the last item received whole and not yet executed are executed at once; TAKEOVER (R475); reset 0. -/
  takeover : Nat
  /-- The node took over and no standby has followed it since (R479); kept with the ledger; reset false. -/
  tookOver : Bool
  /-- Ledger granules by LSEQ mod 65,536 (R464); media; reset none. -/
  ledger : Tab Ledger
  /-- LSEQ of the next granule; media; reset 0. -/
  lseq : Nat
  /-- Cycle of the last ledger write; reset 0. -/
  ledgerAt : Nat
  /-- SUSPECT (R464); media; reset false. -/
  suspect : Bool
  /-- LOSS of this recovery (R465); reset false. -/
  loss : Bool
  /-- FULL is forced for the next resynchronisation (R462, R466); reset false. -/
  full : Bool
  /-- Change bitmaps as groups, current and older, with BASE of the older (R478); reset none. -/
  cur : List Nat
  old : List Nat
  base : Option Nat
  /-- Bitmaps are kept: since when, as an ONUM; reset none. -/
  keptFrom : Option Nat
  /-- Bitmaps saved by the last Vigil (R478); media; reset none. -/
  saved : Option (List Nat)
  /-- Resynchronisation under way, as the active or as the resyncing node; reset none. -/
  resync : Option Resync
  /-- Lines written whose report is awaited, by ONUM and line address (R237); reset none. -/
  lines : List (Nat × Nat)
  /-- Items executed whose REPORT awaits writes that wait at the galley (R233, R456): ONUM, stamp and OSEQ; reset none. -/
  reports : List (Nat × Nat × Nat)
  /-- Regions that were REVOKING at Sf and wait for a REVOKED item (R640); reset none. -/
  revokes : List Nat
  /-- 0xA00F was logged (R485); reset false. -/
  egressTold : Bool
  deriving DecidableEq, Repr

/-- A node never paired. -/
def TwinSt.reset : TwinSt :=
  { session := 0, deadLanes := 0, fseq := 0, recv := 0, kept := [], acked := 0, key := false, unsent := [], credit := 0, give := 0,
    partner := none, term := 0, pair := 0, onum := 0, reported := 0, oseq := 0, wcrc := 2 ^ 64 - 1, wcount := 0,
    jcrc := 2 ^ 64 - 1, jcount := 0, jwin := 0, own := [], theirs := [], compared := 0, digestFrom := 0, jfrom := 0, jspans := [], jsend := [],
    mismatch := none, verdict := none, leaseDue := false, lease := none, denied := none, handover := none, swCause := 0,
    announce := 0, takeover := 0, tookOver := false, ledger := [], lseq := 0, ledgerAt := 0, suspect := false, loss := false,
    full := false, cur := [], old := [], base := none, keptFrom := none, saved := none, resync := none, lines := [], reports := [], revokes := [],
    egressTold := false }

/-! ### Test access port (22_package_and_electrical.md) -/

/-- The TAP (R630 to R632). -/
structure TapSt where
  /-- Instruction register, 8 bits (R630); reset 0x01, IDCODE. -/
  ir : Nat
  /-- TEST_MODE, 32 bits (R630); reset 0. -/
  mode : Nat
  /-- TEST_MODE_CHK, 32 bits (R630); reset 0xFFFF_FFFF. -/
  chk : Nat
  /-- The boundary register as preloaded (R630, R632); reset 0. -/
  boundary : Nat
  /-- The boundary register drives the balls (R632); reset false. -/
  driving : Bool
  deriving DecidableEq, Repr

/-- The TAP after the island's power-on. -/
def TapSt.reset : TapSt := { ir := 1, mode := 0, chk := 0xFFFFFFFF, boundary := 0, driving := false }

/-- What TABLES carries as of Sf (R482). -/
structure Snapshot where
  qps : Tab Qp
  pds : Tab Pd
  regions : Tab Region
  zones : Tab Nat
  extents : Tab Nat
  queues : Tab DevQ
  heat : Tab Heat
  galley : Tab GEntry
  oseq : Nat
  term : Nat
  pair : Nat
  /-- The active's ONUM, which its STATE frames carry too. -/
  onum : Nat
  deriving DecidableEq, Repr


end Sys2Proof.Machine
end

