-- ==== Sys2Proof/Syntax.lean ====
section
/-!
DEFINITION. The commands of the KYP6040, one constructor per row of the opcode table, with what each carries: the registers' words
and addresses, frames and packets as they arrive, and the results that the outside world or the media give an operation.
-/

namespace Sys2Proof

open Sys2Proof.Machine

/-- A command of the block (spec/opcode_table.json); each constructor's docstring names its row and rule. -/
inductive Instr where
  /-- `NOP` (R43): Mode operation NOP, from MODE_CMD or the MODE_OP verb, sets LAST_OP to 0 and changes nothing else. -/
  | nop (src : ModeSrc) (guard : Nat)
  /-- `QUIESCE` (R46): Mode operation QUIESCE moves a SERVING_SOLO, STANDBY or RESYNC node to QUIESCED under row 18. -/
  | quiesce (src : ModeSrc) (guard : Nat)
  /-- `RESUME` (R46): Mode operation RESUME leaves QUIESCED through RECOVERING under row 19. -/
  | resume (src : ModeSrc) (guard : Nat)
  /-- `SANITIZE` (R46): Mode operation SANITIZE enters SANITIZING from QUIESCED and records the open sanitize record. -/
  | sanitize (src : ModeSrc) (guard : Nat)
  /-- `HANDOVER` (R476): Mode operation HANDOVER stops admission, drains every stamped request and sends HANDOVER with the final ONUM. -/
  | handover (src : ModeSrc) (guard : Nat)
  /-- `POWER_OFF` (R46): Mode operation POWER_OFF is a row-22 trigger that runs the Vigil with input present and then enters DORMANT. -/
  | powerOff (src : ModeSrc) (guard : Nat)
  /-- `SOLO_OVERRIDE` (R48): Mode operation SOLO_OVERRIDE moves a RECOVERING node that waits for its twin to SERVING_SOLO without a lease. -/
  | soloOverride (src : ModeSrc) (guard : Nat)
  /-- `RELOAD` (R47): Mode operation RELOAD retries the Forme slots after both slots were refused. -/
  | reload (src : ModeSrc) (guard : Nat)
  /-- `POWER_UP` (R524): An on request in DORMANT, after the off dwell, starts the up steps of the sequencing table. -/
  | powerUp (pins : Pins)
  /-- `UP_STEP_SETTLED` (R524): When every rail of an up step is good and the settle time has passed, the next step starts, and after the last step the device enters CONFIGURING. -/
  | upStepSettled (mvs : List Nat)
  /-- `RAIL_UP_TIMEOUT` (R526): A rail that is not good within UP_TIMEOUT_MS fails the power-up, which shuts down and then retries or locks out. -/
  | railUpTimeout (rail mv : Nat)
  /-- `OFF_DURING_UP` (R525): An off request during power-up finishes the current step, runs the shutdown order and returns to DORMANT. -/
  | offDuringUp (cause : Nat)
  /-- `DOWN_STEP_DONE` (R527): When the rails of a down step discharge or their DIS_TIMEOUT_MS expires, the step ends, with a stuck rail marked, and the next step starts. -/
  | downStepDone (mvs : List Nat)
  /-- `OFF_DWELL_EXPIRY` (R528): At the end of the off dwell the device releases its own fault pull and powers up again if an on request still holds. -/
  | offDwellExpiry (pins : Pins)
  /-- `RAIL_FAULT` (R529): A rail that leaves its window for GLITCH_US is counted and logged and pulls PWR_FAULT_N low. -/
  | railFault (rail mv : Nat)
  /-- `EXT_FAULT` (R530): A pull of PWR_FAULT_N by another party is an off request during power-up, withholds power-up in DORMANT, and is only recorded in other modes. -/
  | extFault
  /-- `INPUT_LOSS` (R533): PWRGD_IN low for 1 µs, or the store-side sense below threshold, is a row-22 trigger. -/
  | inputLoss (source mv : Nat)
  /-- `RESET_ASSERTED` (R46): RESET_N asserted is a row-22 trigger and withholds power-up while it stays low. -/
  | resetAsserted
  /-- `CLEAR_LOCKOUT` (R526): A guarded write of PWR_CTRL.CLEAR_LOCKOUT clears LOCKOUT and RETRIES. -/
  | clearLockout (guard : Nat)
  /-- `MEASURE` (R535): A guarded write of PWR_CTRL.MEASURE starts an energy-store measurement pulse. -/
  | measure (guard : Nat)
  /-- `MEASURE_PERIODIC` (R535): MEAS_S seconds after the previous measurement, or on entry to TRAINING, the device starts a measurement pulse. -/
  | measurePeriodic
  /-- `PULSE_END` (R536): At the end of the TEST_MS pulse the device computes esr, c and E_usable and checks them against their limits. -/
  | pulseEnd (v0 v1 slope mean mv : Nat)
  /-- `ENERGY_RECOMPUTE` (R538): Every 100 ms the device recomputes E_usable from the live store voltage and passes a changed value to the dirty budget. -/
  | energyRecompute (mv : Nat)
  /-- `AON_COLLAPSE` (R531): VDD_AON below 0.70 V stops the island and releases every output. -/
  | aonCollapse
  /-- `AON_POWER_ON` (R531): The island starts once VDD_AON rises above 0.74 V, takes reset values and logs 0x1010. -/
  | aonPowerOn
  /-- `VIGIL_CARRY_DONE` (R234): Requests stamped before the stop boundary reach the galley or end after 1 ms, and the Vigil moves on to save the bitmaps and the galley image. -/
  | vigilCarryDone
  /-- `VIGIL_IMAGE_WRITTEN` (R539): When the galley image and the header mirror are written, the Vigil starts writing dirty folios to vigil blocks. -/
  | vigilImageWritten
  /-- `VIGIL_RESERVE` (R540): The store reaching the reserve voltage during the folio writes stops new programs and moves the Vigil to writing the seal. -/
  | vigilReserve (mv : Nat)
  /-- `VIGIL_SEALED` (R539): When the folio writes end, the journal tail, the ledger granule and the seal are written and the shutdown order continues. -/
  | vigilSealed
  /-- `VIGIL_DONE` (R46): When the save is complete and the rails are down, the device enters DORMANT through row 23. -/
  | vigilDone
  /-- `THERMTRIP` (R555): A 110 °C comparator that stays high for 100 µs latches THERMTRIP_N, which is a row-22 trigger. -/
  | thermtrip (sensor : Nat)
  /-- `THERMTRIP_RELEASE` (R555): In DORMANT with every valid sensor below 95 °C, THERMTRIP_N is released. -/
  | thermtripRelease
  /-- `SENSOR_SAMPLE` (R553): Each millisecond the island samples every sensor, marks failed sensors and sets Tj. -/
  | sensorSample (readings : List Int)
  /-- `GOV_PERIOD` (R559): At the end of each 1,024-cycle control period the governor compares P_est with the limit and raises, lowers or keeps G. -/
  | govPeriod (pEst : Nat)
  /-- `POWER_SECOND` (R557): At each second boundary the power limit is set to PEAK_W or SUSTAIN_W from the count of excess seconds. -/
  | powerSecond
  /-- `REF_LOSS` (R551): REF missing or out of tolerance puts the master PLL in holdover and pulls PWR_FAULT_N. -/
  | refLoss (missing : Bool) (ppm : Int)
  /-- `PLL_UNLOCK` (R551): An unlock of the master PLL with REF present is handled as reference loss. -/
  | pllUnlock
  /-- `LOCK_FAIL` (R549): A missing REF, or a PLL or divider that does not lock within its timeout, fails the power-up or the units clocked. -/
  | lockFail (domain : Nat) (absent : Bool)
  /-- `XTAL_FAIL` (R552): A stopped 32.768 kHz crystal makes AON-LF run from AON-HF. -/
  | xtalFail
  /-- `FORME_PASS1_DONE` (R78): At the end of pass 1 the signature-block magic, key, signature and SVN are checked, and pass 2 starts or the slot is refused. -/
  | formePass1Done (err : Option Nat)
  /-- `FORME_PASS2_DONE` (R78): At the end of pass 2 the hash is compared and the Proofreader, table and digest results are judged; the slot is accepted, with image and runtime applied and CAL started, or refused. -/
  | formePass2Done (err : Option Nat) (changed : Bool)
  /-- `SVN_COMMIT` (R84): A guarded FORME_CTRL.SVN_COMMIT raises FUSED to the running SVN. -/
  | svnCommit (guard : Nat)
  /-- `KEY_REVOKE` (R85): A guarded FORME_CTRL.KEY_REVOKE permanently revokes key-hash entry KEY_INDEX. -/
  | keyRevoke (index guard : Nat)
  /-- `IMPRESS_TRIGGER` (R87): A write of CAL_CTRL.IMPRESS, or the IMPRESS verb, triggers an Impress at the next boundary. -/
  | impressTrigger (src : ModeSrc)
  /-- `IMPRESS_COMMIT` (R89): At the boundary, the pending shadow fields are checked and either all commit together or the Impress is refused. -/
  | impressCommit
  /-- `DISCARD` (R90): A write of CAL_CTRL.DISCARD copies every active RWS value into its shadow. -/
  | discard
  /-- `LIVE_PAIR_WRITE` (R13): A write to a live-paired field holds its unit quiescent while the set disagrees, and resumes the unit when it agrees. -/
  | livePairWrite (addr word : Nat)
  /-- `REGISTER_WRITE` (R9): A write to a register without a row of its own acts by its field types, RWS fields going to the shadow. -/
  | registerWrite (addr word : Nat)
  /-- `CYCLE_BOUNDARY` (R96): At each calendar-cycle boundary the counter advances and deferred mode, page, table, snapshot and verb effects take effect. -/
  | cycleBoundary
  /-- `ADMIT_ARRIVAL` (R111): An asynchronous arrival passes the synchroniser and joins its admission queue, or is discarded or stalls when the queue is full. -/
  | admitArrival (point : Nat) (a : Arrival) (internal : Bool)
  /-- `SAMPLE` (R111): A SAMPLE entry stamps the head of its queue and releases it to its station. -/
  | sample (point tick : Nat)
  /-- `FAULT_DETECTED` (R136): A detected fault is classified by kind, its transient action taken, logged and counted toward retirement. -/
  | faultDetected (f : FaultOp)
  /-- `SLOT_REPLAY` (R137): A RESIDUE or DUAL fault re-executes the request in the same entry of the next cycle, at most twice, before it ends in error. -/
  | slotReplay (stamp tick : Nat) (pass : Bool)
  /-- `PAGE_SWITCH` (R119): When the fallback page is loaded, it takes effect at the next boundary, with SWITCHED set and 0x3030 logged. -/
  | pageSwitch
  /-- `FAULT_WINDOW_START` (R139): At the start of each 2^WINDOW_LOG2 window the per-unit fault counts return to 0. -/
  | faultWindowStart (log2 : Nat)
  /-- `INTEG_CLEAR` (R144): A guarded write of INTEG_CLEAR in QUIESCED removes a unit's retirement record. -/
  | integClear (unit guard : Nat)
  /-- `INTEG_QUERY` (R149): A write of INTEG_QUERY selects the unit that INTEG_QUERY_RESULT reports. -/
  | integQuery (unit : Nat)
  /-- `INJECT` (R151): When the injection pair comes to agree with ARM set, one fault of KIND is injected at the next use of UNIT. -/
  | inject (f : FaultOp)
  /-- `FRAME_RECEIVED` (R159): A frame at a port is checked for FCS, address, VLAN and length and then accepted or discarded. -/
  | frameReceived (f : EthFrame)
  /-- `ARP_REQUEST` (R160): The port engine answers an ARP request for one of the port's IPv4 addresses. -/
  | arpRequest (port target : Nat)
  /-- `NEIGHBOUR_SOLICITATION` (R160): The port engine answers an IPv6 neighbour solicitation for one of the port's IPv6 addresses. -/
  | neighbourSolicitation (port target : Nat)
  /-- `ECHO_REQUEST` (R160): The port engine answers an ICMP echo request within the rate limit, and discards and counts the excess. -/
  | echoRequest (port id : Nat)
  /-- `PAUSE_FRAME` (R161): A PFC or PAUSE frame stops transmission on the paused priorities for its quanta. -/
  | pauseFrame (port mask : Nat)
  /-- `LINK_DOWN` (R158): Loss of link clears LINK_UP and logs 0x8005, and every QP keeps its state. -/
  | linkDown (port locked : Nat)
  /-- `LINK_UP` (R158): A link that returns is logged with 0x8006 and resumes. -/
  | linkUp (port : Nat)
  /-- `CM_REQ` (R165): The runtime answers a CM REQ on QP1 with a REP or a REJ and allocates the QP. -/
  | cmReq (r : CmReq)
  /-- `CM_RTU` (R168): An RTU moves a QP from RTR to RTS. -/
  | cmRtu (qp : Nat)
  /-- `CM_DREQ` (R170): A DREQ tears the QP down at a stamped cycle. -/
  | cmDreq (qp : Nat)
  /-- `QP_RESET_TIMEOUT` (R170): One second after a teardown, a QP that has not finished its CM exchange returns to RESET. -/
  | qpResetTimeout (qp : Nat)
  /-- `QP_ERROR_DREQ` (R184): Within 1 ms of a QP entering ERROR the runtime sends a DREQ. -/
  | qpErrorDreq (qp : Nat)
  /-- `SEND` (R249): A SEND on a CONTROL or DEVQ QP posts one ring entry, or draws an RNR NAK when the ring is full. -/
  | send (p : Pkt)
  /-- `RDMA_WRITE` (R28): An RDMA WRITE packet on a DATA QP is checked and merged into the galley, and is acknowledged once durable. -/
  | rdmaWrite (p : Pkt)
  /-- `RDMA_READ_REQUEST` (R25): A READ request is served line by line from the first source that holds each line, and its response is segmented at the path MTU. -/
  | rdmaReadRequest (p : Pkt)
  /-- `CMP_SWAP` (R237): A CmpSwap executes at its stamp and its write half enters the galley. -/
  | cmpSwap (p : Pkt)
  /-- `FETCH_ADD` (R237): A FetchAdd executes with residue prediction, and its result enters the galley. -/
  | fetchAdd (p : Pkt)
  /-- `RDMA_FLUSH` (R240): An RDMA FLUSH is answered once every earlier write to its span is durable. -/
  | rdmaFlush (p : Pkt)
  /-- `ATOMIC_WRITE` (R242): An ATOMIC WRITE writes 8 B as one unit into the galley. -/
  | atomicWrite (p : Pkt)
  /-- `ACKNOWLEDGE` (R187): An acknowledgement received on a QP with device-requester traffic outstanding retires messages and yields an RTT sample. -/
  | acknowledge (p : Pkt) (ns : Nat)
  /-- `CNP` (R191): A received CNP reduces the QP's rate by CNP_MULT, at most once per hold time. -/
  | cnp (p : Pkt)
  /-- `INVALID_OPCODE` (R172): An unlisted opcode, or one not allowed on the QP's kind, is answered with NAK Invalid Request. -/
  | invalidOpcode (p : Pkt)
  /-- `ACK_TIMER` (R185): An ACK is sent when XPORT_ACK.TIMER cycles pass since the oldest unacknowledged message became acknowledgeable. -/
  | ackTimer (qp : Nat)
  /-- `REQUESTER_TIMEOUT` (R187): A device-requester ack timeout retransmits from the oldest unacknowledged PSN, or ends the QP when retries run out. -/
  | requesterTimeout (qp : Nat)
  /-- `RNR_TIMER` (R187): After an RNR NAK's timer elapses, the device retransmits from the NAKed PSN. -/
  | rnrTimer (qp : Nat)
  /-- `PROBE` (R190): Every PROBE_US, an eligible DATA QP without a sample is sent a zero-length WRITE probe. -/
  | probe (qp : Nat)
  /-- `PD_CREATE` (R198): Verb PD_CREATE allocates the lowest free PD, with a token and an event queue. -/
  | pdCreate (who : Caller) (tag : Nat) (body : List Byte)
  /-- `PD_DESTROY` (R218): Verb PD_DESTROY frees a PD that has no open QP or region, revoking its event queue. -/
  | pdDestroy (who : Caller) (tag : Nat) (body : List Byte)
  /-- `PD_SET_CAPS` (R229): Verb PD_SET_CAPS changes a PD's capabilities from the next boundary. -/
  | pdSetCaps (who : Caller) (tag : Nat) (body : List Byte)
  /-- `REG_CREATE` (R213): Verb REG_CREATE allocates a region entry, LIVE from the next boundary, and returns an R_Key. -/
  | regCreate (who : Caller) (tag : Nat) (body : List Byte)
  /-- `LOG_CREATE` (R219): Verb LOG_CREATE creates a LOG region of empty zones. -/
  | logCreate (who : Caller) (tag : Nat) (body : List Byte)
  /-- `REG_REVOKE` (R214): Verb REG_REVOKE makes a region REVOKING from the next cycle. -/
  | regRevoke (who : Caller) (tag : Nat) (body : List Byte)
  /-- `REGION_REVOKED` (R215): At the first boundary after IN_FLIGHT reaches 0, the region becomes REVOKED, its generation advances and the revoke is answered. -/
  | regionRevoked (region : Nat)
  /-- `REVOKE_FORCED` (R216): One second after REVOKE_CYCLE, requests still counted are ended and the revocation completes. -/
  | revokeForced (region : Nat)
  /-- `REG_QUERY` (R229): Verb REG_QUERY returns the bytes of a region entry. -/
  | regQuery (who : Caller) (tag : Nat) (body : List Byte)
  /-- `ZONE_RESET` (R223): Verb ZONE_RESET empties a zone from the next cycle and discards its contents. -/
  | zoneReset (who : Caller) (tag : Nat) (body : List Byte)
  /-- `ZONE_QUERY` (R229): Verb ZONE_QUERY returns the write pointers of a range of zones. -/
  | zoneQuery (who : Caller) (tag : Nat) (body : List Byte)
  /-- `KD_ASSIGN` (R207): Verb KD_ASSIGN moves extents to another key domain and discards their contents. -/
  | kdAssign (who : Caller) (tag : Nat) (body : List Byte)
  /-- `SA_INSTALL` (R230): Verb SA_INSTALL installs the inbound and outbound ESP SAs of a QP. -/
  | saInstall (who : Caller) (tag : Nat) (body : List Byte)
  /-- `QP_TEARDOWN` (R229): Verb QP_TEARDOWN tears a QP down under R170. -/
  | qpTeardown (who : Caller) (tag : Nat) (body : List Byte)
  /-- `DQ_CREATE` (R259): Verb DQ_CREATE allocates a device queue and its status-line region. -/
  | dqCreate (who : Caller) (tag : Nat) (body : List Byte)
  /-- `DQ_DESTROY` (R259): Verb DQ_DESTROY frees an idle device queue and revokes its status region. -/
  | dqDestroy (who : Caller) (tag : Nat) (body : List Byte)
  /-- `DQ_RESET` (R259): Verb DQ_RESET drops the failed descriptor and every later one and makes the queue IDLE. -/
  | dqReset (who : Caller) (tag : Nat) (body : List Byte)
  /-- `DQ_QUERY` (R259): Verb DQ_QUERY returns the queue's status line and parameters. -/
  | dqQuery (who : Caller) (tag : Nat) (body : List Byte)
  /-- `DESC_NOP` (R251): A NOP descriptor completes at once. -/
  | descNop (queue : Nat)
  /-- `DESC_COPY` (R251): A COPY descriptor copies LENGTH bytes line by line from source to destination. -/
  | descCopy (queue lines : Nat)
  /-- `DESC_PUSH` (R251): A PUSH descriptor sends LENGTH bytes as an RDMA WRITE on a DATA QP and completes when the host acknowledges. -/
  | descPush (queue : Nat)
  /-- `DESC_FLUSH` (R251): A FLUSH descriptor waits until its span is durable, and at LEVEL 1 until it is home in T2. -/
  | descFlush (queue : Nat)
  /-- `DESC_DISCARD` (R251): A DISCARD descriptor discards the whole folios of its span and zeroes the partial ones. -/
  | descDiscard (queue : Nat)
  /-- `DESC_WAIT` (R255): A WAIT descriptor completes once the watched queue's COMPLETED reaches WAIT_VALUE. -/
  | descWait (queue : Nat)
  /-- `COMPLETION_ADVANCE` (R256): Once a descriptor's writes are durable, COMPLETED advances in one status-line write and watching WAITs re-read it. -/
  | completionAdvance (queue : Nat)
  /-- `WAIT_TIMEOUT` (R255): When TIMEOUT_MS expires on the active, the WAIT fails at a forwarded stamp. -/
  | waitTimeout (queue : Nat)
  /-- `DQ_RESTART` (R257): At the first serving boundary after RECOVERING, each pending queue restarts its begun descriptor. -/
  | dqRestart
  /-- `STANDBY_REPORT` (R456): A REPORT from the standby makes the writes it covers acknowledgeable on the active. -/
  | standbyReport (h : FlHdr) (onum : Nat)
  /-- `GALLEY_WAIT_PLACE` (R316): A write waiting at a galley bank is placed once its set has a free way and the reserve allows it. -/
  | galleyWaitPlace
  /-- `DRAIN` (R318): An eligible galley entry is read in a DRAIN entry and written toward its folio's tier. -/
  | drain (bank : Nat)
  /-- `DRAIN_DONE` (R319): A drain write that lands frees the entry, or keeps it for redrain when REDRAIN is set. -/
  | drainDone (la : Nat)
  /-- `DRAIN_FAIL` (R320): A drain write that fails leaves its entry valid and eligible again. -/
  | drainFail (la : Nat)
  /-- `LINE_FILL` (R308): A line fill installs into the line cache, or is discarded if a later write overtook it. -/
  | lineFill (la : Nat)
  /-- `LC_INVALIDATE` (R310): A guarded LC_CTRL.INVALIDATE invalidates every line at the next boundary. -/
  | lcInvalidate (invalidate : Bool) (guard : Nat)
  /-- `MOVE_START` (R279): A tier move takes a latch, and a slot where needed, and starts a promote, demote, stage or destage. -/
  | moveStart (folio kind : Nat) (up : Bool)
  /-- `MOVE_COMMIT` (R279): At commit the map entry changes and the latch is released. -/
  | moveCommit (folio : Nat)
  /-- `MOVE_FAILED` (R283): A move whose destination fails or that exceeds MOVE_TIMEOUT_US is released with the map unchanged. -/
  | moveFailed (folio unit : Nat)
  /-- `MAP_PAGE_LOAD` (R298): The background stream loads directory and map pages in order, and sets MAP_WARM when it ends. -/
  | mapPageLoad (n : Nat)
  /-- `PARITY_ALERT` (R343): A command/address parity alert gates the station and marks lost commands for replay. -/
  | parityAlert (station : Nat) (lost : List Nat) (refreshes commands : Nat) (held : Bool)
  /-- `REPLAY_ENTRY` (R344): The next REPLAY entry clears the parity-error state and ungates the station. -/
  | replayEntry (station : Nat)
  /-- `DRAM_UE_REREAD` (R341): An uncorrectable DRAM read is re-read in the next cycle, and poisoned if it fails again. -/
  | dramUeReread (unit bank row : Nat) (good : Bool)
  /-- `MEM_TEMP_READ` (R337): A memory temperature read above REF_TEMP sets REFRESH_SHORT and signals the governor. -/
  | memTempRead (n temp : Nat)
  /-- `TRAIN_RUN` (R338): A TRAIN run advances periodic retraining, and drift beyond range fails the unit. -/
  | trainRun (n sub : Nat) (drift : Bool)
  /-- `SLOT_COMMIT` (R366): A flash slot commits once its shield and parity pages have programmed. -/
  | slotCommit (home : Nat)
  /-- `PAD_TIMEOUT` (R367): A band page that waited 500 µs is filled with pad slots and programmed. -/
  | padTimeout (band : Nat)
  /-- `PROGRAM_REFUSED` (R368): A program refused for a non-erased page closes the band DEGRADED and re-places its folios. -/
  | programRefused (lun : Nat)
  /-- `PROGRAM_FAIL` (R381): A program failure retires the block, degrades the band and re-places the affected folios. -/
  | programFail (lun planes : Nat)
  /-- `ERASE_FAIL` (R382): An erase failure retires the block. -/
  | eraseFail (lun planes : Nat)
  /-- `STRIPE_REBUILD` (R371): A FLASH_UE read is rebuilt from stripe parity and relocated. -/
  | stripeRebuild (home : Nat) (opens : Bool)
  /-- `LUN_FAILED` (R372): A LUN that times out or exceeds 2 % retired blocks is failed and rebuilt. -/
  | lunFailed (lun : Nat)
  /-- `GC_START` (R375): Free bands below GC_LOW start collection of the emptiest closed band. -/
  | gcStart
  /-- `RELOCATION_COMMIT` (R376): A relocated slot commits and updates HOME only where HOME still names the source. -/
  | relocationCommit (home : Nat)
  /-- `BAND_REFRESH` (R377): A read count, age, final retry step or wear spread triggers relocation of a whole band. -/
  | bandRefresh (band : Nat)
  /-- `WEAR_CREDIT_EMPTY` (R379): Exhausted wear credit caps the destage rate at A and sets WEAR_LIMITED. -/
  | wearCreditEmpty
  /-- `TABLE_CHECKPOINT` (R363): Every CKPT_S seconds the block and band tables are written to the META bands. -/
  | tableCheckpoint
  /-- `PURGE` (R390): A destroyed key domain's bands are relocated, erased and verified, and freed memory is zeroed. -/
  | purge
  /-- `PURGE_COMPLETE` (R392): Completion of the sanitize purge takes SANITIZING to QUIESCED. -/
  | purgeComplete
  /-- `NAND_STATUS` (R404): An array operation's result enters at admission point 33 and is acted on at its stamp. -/
  | nandStatus (lun : Nat) (r : NandRes)
  /-- `STATUS_TIMEOUT` (R405): Status not ready within STATUS_TIMEOUT_MS ends the operation TIMEOUT and resets the LUN. -/
  | statusTimeout (lun : Nat)
  /-- `SUSPEND` (R409): A read on a busy LUN suspends the program or erase when its class and grant allow. -/
  | suspend (home cls : Nat)
  /-- `RESUME_OPERATION` (R410): When no read of the LUN is ready, the suspended operation is resumed. -/
  | resumeOperation (lun : Nat)
  /-- `STARVED` (R411): An operation not ended within STARVE_MS is marked starved. -/
  | starved (lun : Nat)
  /-- `CONT_READ` (R412): A run of C3 consecutive-page reads uses continuous read until it ends or is broken. -/
  | contRead (home pages : Nat) (failed : Bool)
  /-- `READ_RETRY` (R417): A page that fails hard decode is re-read through the retry steps, ending UE after the last. -/
  | readRetry (home step weight zeros bits : Nat) (opens : Bool)
  /-- `READ_RAW` (R420): Raw operation READ_RAW reads a page as stored into the window. -/
  | readRaw (ch guard : Nat)
  /-- `READ_DECODED` (R420): Raw operation READ_DECODED reads a page with each slot corrected. -/
  | readDecoded (ch guard : Nat)
  /-- `PROGRAM_RAW` (R421): Raw operation PROGRAM_RAW programs the window as stored, under the erase-state rule. -/
  | programRaw (ch guard : Nat)
  /-- `RAW_ERASE` (R421): Raw operation ERASE erases one block after an erase-intent record. -/
  | rawErase (ch guard : Nat)
  /-- `RAW_READ_ID` (R420): Raw operation READ_ID returns 8 B of ID. -/
  | rawReadId (ch guard : Nat)
  /-- `GET_FEATURE` (R420): Raw operation GET_FEATURE returns 4 B of a feature. -/
  | getFeature (ch guard : Nat)
  /-- `ERASE_CHECK` (R420): Raw operation ERASE_CHECK runs the erase check of R406. -/
  | eraseCheck (ch guard : Nat)
  /-- `DAYBOOK_UE` (R428): A Daybook granule that fails its re-read is rebuilt from parity or its copy and its row remapped. -/
  | daybookUe (bank row granule : Nat)
  /-- `ROW_REMAP` (R429): A failing Daybook row is copied to a spare row in SCRUB entries. -/
  | rowRemap (bank row n : Nat)
  /-- `JOURNAL_WAIT` (R436): A request that needs a journal record waits while the ring or tail is full. -/
  | journalWait (cls : Nat)
  /-- `INTENT_BATCH` (R441): At most every 16 cycles a batch of intent entries is written to the intent ring. -/
  | intentBatch
  /-- `LEDGER_WRITE` (R464): Every 1,024 cycles an order-ledger granule is written, and the change bitmaps swap. -/
  | ledgerWrite
  /-- `TRAINING_COMPLETE` (R121): Training complete selects a page and enters RECOVERING, or QUIESCED when no page covers the failures. -/
  | trainingComplete (r : TrainReport)
  /-- `RECOVERY_COMPLETE` (R297): Galley image load, journal replay and root load complete, and roles settle or the node waits for its twin. -/
  | recoveryComplete
  /-- `STATE` (R466): A received STATE frame updates the partner's mode and settles roles in RECOVERING. -/
  | state (h : FlHdr) (p : Partner)
  /-- `ITEM` (R453): A received ITEM is executed by the standby in ONUM order. -/
  | item (h : FlHdr) (item : TwinItem)
  /-- `CYCLE` (R455): A received CYCLE places the active's boundary and its actions on the standby. -/
  | cycle (h : FlHdr) (cycle : Nat)
  /-- `DIGEST` (R461): A received DIGEST is compared with the local window, and a difference is a mismatch. -/
  | digest (h : FlHdr) (window kind digest : Nat)
  /-- `VERDICT` (R462): Both verdicts decide whether the standby diverges or the active is fenced. -/
  | verdict (h : FlHdr) (window kind : Nat) (faulty : Bool)
  /-- `VERDICT_TIMEOUT` (R462): A standby verdict missing after 10 ms makes the active treat the standby as diverged. -/
  | verdictTimeout
  /-- `FAULT` (R462): A FAULT frame from the active lets the standby take over. -/
  | fault (h : FlHdr)
  /-- `HANDOVER_FRAME` (R476): A received HANDOVER takes the standby into SWITCHOVER through the final ONUM. -/
  | handoverFrame (h : FlHdr) (final : Nat)
  /-- `HANDOVER_ACK` (R476): A received HANDOVER_ACK takes the old active to STANDBY. -/
  | handoverAck (h : FlHdr)
  /-- `RESYNC` (R480): A RESYNC frame carries phase control and change bitmaps. -/
  | resync (h : FlHdr) (phase : Nat) (full : Bool) (pass : Nat) (groups : List Nat)
  /-- `GROUP` (R481): A GROUP installs the copy of one map-page group on the resyncing node. -/
  | group (h : FlHdr) (group : Nat) (folios : List GroupFolio)
  /-- `TABLES` (R482): TABLES carry the snapshot taken at Sf to the resyncing node. -/
  | tables (h : FlHdr) (n : Snapshot)
  /-- `MAILBOX` (R486): A MAILBOX frame delivers a twin mailbox word or doorbell bits. -/
  | mailbox (h : FlHdr) (what i word : Nat)
  /-- `BUDGET` (R294): A BUDGET frame delivers the partner's dirty budget for the active to stamp the lesser. -/
  | budget (h : FlHdr) (folios : Nat)
  /-- `IDLE` (R452): An IDLE frame keeps the link alive and carries acknowledgements. -/
  | idle (h : FlHdr)
  /-- `FLESAL_BAD_FRAME` (R450): A frame failing FEC or tag, or of unknown TYPE, is discarded. -/
  | flesalBadFrame (why lane type fseq : Nat)
  /-- `FLESAL_RETRANSMIT` (R450): An ACK that does not advance within 4 µs resends frames from ACK + 1. -/
  | flesalRetransmit
  /-- `FLESAL_LOST` (R452): No good frame for LOSS_US declares Flesal lost and starts the lease path. -/
  | flesalLost
  /-- `FLESAL_RTT` (R446): Every 1,024 cycles the link round trip is measured and checked against 2 µs. -/
  | flesalRtt (ns : Nat)
  /-- `LEASE_REQUEST` (R470): A lease request is posted for the SP to carry to the witness, after DEFER_MS on a standby. -/
  | leaseRequest
  /-- `SUBMIT` (R471): A guarded SUBMIT of a grant is checked, and an accepted grant raises TERM and triggers the takeover row. -/
  | submit (guard : Nat)
  /-- `DENY` (R473): A guarded DENY ends the pending request, fencing an active. -/
  | deny (guard : Nat)
  /-- `LEASE_EXPIRED` (R473): LEASE_WAIT_MS without an accepted grant ends the request as EXPIRED. -/
  | leaseExpired
  /-- `SWITCHOVER` (R475): The new active executes received items, announces addresses and enters its target mode. -/
  | switchover
  /-- `SWITCHOVER_ANNOUNCE_REPEAT` (R475): Gratuitous ARP and neighbour advertisements are re-sent 100 ms and 200 ms after the gap. -/
  | switchoverAnnounceRepeat
  /-- `RESYNC_PHASE` (R480): The resynchronisation moves from SNAPSHOT through BULK and REPLAY to FINAL. -/
  | resyncPhase (n : Nat)
  /-- `RESYNC_DONE` (R482): When the last group is installed, the node takes row 17 and the active row 10. -/
  | resyncDone
  /-- `RESYNC_ABANDONED` (R483): Flesal loss or a mode change abandons the resynchronisation. -/
  | resyncAbandoned
  /-- `EGRESS_HOUR` (R485): Each hour out of serving advances TWIN_EGRESS and warns past EGRESS_WARN_DAYS. -/
  | egressHour
  /-- `TWIN_MB_OUT` (R486): A write of TWIN_MB_OUT sends a word to the partner, or is discarded as an overrun. -/
  | twinMbOut (i word : Nat)
  /-- `TWIN_DB_OUT` (R486): A write of TWIN_DB_OUT sets doorbell bits at the partner. -/
  | twinDbOut (bits : Nat)
  /-- `TWIN_MB_IN_READ` (R486): A read of TWIN_MB_IN consumes the word and clears the full flags. -/
  | twinMbInRead (i : Nat)
  /-- `KAT_FAIL` (R493): A failed known-answer vector retires the core's cluster. -/
  | katFail (core mode : Nat)
  /-- `ENTROPY_HEALTH_FAIL` (R496): A failed entropy health test stops reseeding and refuses key generation. -/
  | entropyHealthFail (test : Nat)
  /-- `ENTROPY_RETEST` (R496): Once per second the source is retested and ENTROPY_FAIL cleared at a pass. -/
  | entropyRetest (pass : Bool)
  /-- `MASK_DEGRADE` (R496): 2^32 generates without reseed switch masks to an LFSR. -/
  | maskDegrade
  /-- `USAGE_THRESHOLD` (R505): A slot's usage crossing 90 % or LIMIT logs it, and at LIMIT makes the slot DECRYPT_ONLY. -/
  | usageThreshold (slot blocks : Nat)
  /-- `FORCED_REKEY` (R507): An AT_REST slot reaching AUTO_PCT starts a rekey of its domain. -/
  | forcedRekey (domain : Nat)
  /-- `REKEY_SCAN_DONE` (R511): When the rekey scan ends, the old slot is destroyed and the domain becomes KEYED. -/
  | rekeyScanDone (domain : Nat)
  /-- `KEY_GENERATE` (R515): Verb KEY_GENERATE generates a key into a slot. -/
  | keyGenerate (who : Caller) (tag : Nat) (body : List Byte)
  /-- `KEY_IMPORT` (R515): Verb KEY_IMPORT unwraps and installs a key. -/
  | keyImport (who : Caller) (tag : Nat) (body : List Byte)
  /-- `KEY_DESTROY` (R512): Verb KEY_DESTROY zeroes an unbound slot and its blob. -/
  | keyDestroy (who : Caller) (tag : Nat) (body : List Byte)
  /-- `KEY_QUERY` (R515): Verb KEY_QUERY returns a slot's state without key material. -/
  | keyQuery (who : Caller) (tag : Nat) (body : List Byte)
  /-- `KD_KEY` (R515): Verb KD_KEY keys an UNKEYED domain. -/
  | kdKey (who : Caller) (tag : Nat) (body : List Byte)
  /-- `KD_REKEY` (R511): Verb KD_REKEY starts a rekey of a KEYED domain. -/
  | kdRekey (who : Caller) (tag : Nat) (body : List Byte)
  /-- `KD_DESTROY` (R513): Verb KD_DESTROY destroys a domain's keys and starts its purge. -/
  | kdDestroy (who : Caller) (tag : Nat) (body : List Byte)
  /-- `KD_QUERY` (R515): Verb KD_QUERY returns a domain entry and its scan position. -/
  | kdQuery (who : Caller) (tag : Nat) (body : List Byte)
  /-- `WRITE` (R571): Register-window frame WRITE writes one word. -/
  | write (f : SpFrame)
  /-- `READ` (R572): Register-window frame READ reads COUNT words into the read buffer within 2 µs. -/
  | read (f : SpFrame)
  /-- `WRITE_BURST` (R571): Register-window frame WRITE_BURST writes COUNT words in ascending order. -/
  | writeBurst (f : SpFrame)
  /-- `PRIVATE_READ` (R571): A private read returns STATUS and the buffered words without side effect. -/
  | privateRead
  /-- `ENEC` (R569): CCC ENEC enables target interrupts and Hot-Join. -/
  | enec (int hj : Bool)
  /-- `DISEC` (R569): CCC DISEC disables target interrupts and Hot-Join. -/
  | disec (int hj : Bool)
  /-- `RSTDAA` (R568): CCC RSTDAA removes the dynamic address and returns to I2C mode. -/
  | rstdaa
  /-- `ENTDAA` (R568): CCC ENTDAA assigns a dynamic address and moves to SDR. -/
  | entdaa (addr : Nat)
  /-- `SETDASA` (R568): CCC SETDASA assigns a dynamic address from the static one. -/
  | setdasa (static addr : Nat)
  /-- `SETNEWDA` (R568): CCC SETNEWDA changes the dynamic address. -/
  | setnewda (addr : Nat)
  /-- `GETPID` (R569): CCC GETPID returns the provisional ID. -/
  | getpid
  /-- `GETBCR` (R569): CCC GETBCR returns BCR 0x26. -/
  | getbcr
  /-- `GETDCR` (R569): CCC GETDCR returns DCR 0x00. -/
  | getdcr
  /-- `GETSTATUS` (R569): CCC GETSTATUS returns IBI-pending and frame-refused bits. -/
  | getstatus
  /-- `GETMWL` (R569): CCC GETMWL returns the maximum write length of 261 B. -/
  | getmwl
  /-- `SETMWL` (R569): CCC SETMWL records a write length without shortening accepted frames. -/
  | setmwl (len : Nat)
  /-- `GETMRL` (R569): CCC GETMRL returns the maximum read length and IBI payload size. -/
  | getmrl
  /-- `GETMXDS` (R569): CCC GETMXDS reports no read turnaround limit. -/
  | getmxds
  /-- `ENTHDR0` (R569): CCC ENTHDR0 enters HDR-DDR mode. -/
  | enthdr0
  /-- `HDR_EXIT` (R567): The HDR exit pattern leaves HDR-DDR mode. -/
  | hdrExit
  /-- `IBI` (R578): After 1 µs of bus-free time a pending IBI carrying DB_PENDING is raised, and raised again if NACKed. -/
  | ibi (ack : Bool)
  /-- `MB_TO_DEV` (R575): A write of MB_TO_DEV delivers a word to the runtime, or overruns, and mailbox 0 submits a verb. -/
  | mbToDev (i word : Nat)
  /-- `MB_TO_SP_READ` (R575): A read of MB_TO_SP consumes the word and clears its full flag. -/
  | mbToSpRead (i : Nat)
  /-- `VERB_RESPONSE` (R576): The runtime writes a verb response to RESP_WINDOW and MB_TO_SP[0] and rings doorbell bit 0. -/
  | verbResponse
  /-- `CMD_WINDOW_WRITE` (R576): A CMD_WINDOW write is stored, or discarded while the mailbox is full. -/
  | cmdWindowWrite (i word : Nat)
  /-- `WATCHDOG` (R580): A management core that misses its 100 ms kick counts a WATCHDOG fault. -/
  | watchdog (core : Nat)
  /-- `SIDEBAND_POLL` (R584): A device sideband transfer is retried twice on NACK or timeout, then failed. -/
  | sidebandPoll (slot dev : Nat) (write : Bool) (nacks : Nat)
  /-- `SIDEBAND_XFER` (R585): SB_XFER_CTRL.GO queues an SP sideband transfer and rings doorbell 7 at its end. -/
  | sidebandXfer (ctrl : Nat) (ack : Bool) (data : List Byte)
  /-- `BS_READ` (R587): Boot-store operation READ reads bytes into BS_WINDOW. -/
  | bsRead (addr len guard : Nat)
  /-- `BS_PROGRAM` (R587): Boot-store operation PROGRAM programs bytes from the window. -/
  | bsProgram (addr len guard : Nat)
  /-- `BS_ERASE` (R587): Boot-store operation ERASE erases one 64 KiB sector. -/
  | bsErase (addr guard : Nat)
  /-- `ERASE_SLOT` (R587): Boot-store operation ERASE_SLOT erases every sector of a slot. -/
  | eraseSlot (addr guard : Nat)
  /-- `BS_OP_DONE` (R587): A boot-store operation ends, sets DONE and rings doorbell 6. -/
  | bsOpDone (result : Nat)
  /-- `EVENT_POSTING` (R595): A posting folds into the newest record, is withheld, or enters the staging queue. -/
  | eventPosting (code unit p0 p1 p2 : Nat)
  /-- `RECORD_WRITE` (R597): The recorder moves a staged record into the Daybook ring with a new SEQ. -/
  | recordWrite
  /-- `RATE_WINDOW_CLOSE` (R596): A rate-limit window closes and writes one closing record when occurrences were withheld. -/
  | rateWindowClose (code : Nat)
  /-- `REPEAT_FLUSH` (R595): A folded REPEAT is written to the Daybook within 1 s. -/
  | repeatFlush
  /-- `ARCHIVE_SEGMENT` (R601): A completed 128-record segment is written to flash as an archive folio. -/
  | archiveSegment
  /-- `EVT_CURSOR` (R602): A write of EVT_CURSOR snapshots 8 records into EVT_WINDOW from the ring or archive. -/
  | evtCursor (seq : Nat)
  /-- `CLEAR` (R603): A guarded EVT_CTRL.CLEAR in QUIESCED moves the clear point to HEAD. -/
  | clear (guard : Nat)
  /-- `OPERATING_TIME_COPY` (R594): Every 60 s the operating-time count is copied to the Daybook. -/
  | operatingTimeCopy
  /-- `VIEW_SELECT` (R209): A write to a SEL register for QPs, regions, PDs, queues, folios, LUNs, bands, keys or domains snapshots the object at the next boundary. -/
  | viewSelect (addr word : Nat)
  /-- `BYPASS` (R630): TAP instruction BYPASS selects the bypass register. -/
  | bypass
  /-- `IDCODE` (R630): TAP instruction IDCODE returns 0x1604_0A5F. -/
  | idcode
  /-- `SAMPLE_PRELOAD` (R630): TAP instruction SAMPLE/PRELOAD samples and preloads the boundary register. -/
  | samplePreload (pins value : Nat)
  /-- `EXTEST` (R632): TAP instruction EXTEST drives the boundary register when BOUNDARY is in effect, and otherwise acts as BYPASS. -/
  | extest (pins value : Nat)
  /-- `TEST_MODE` (R631): TAP instruction TEST_MODE shifts the TEST_MODE register, the first of a live-paired pair. -/
  | testMode (value : Nat)
  /-- `TEST_MODE_CHK` (R631): TAP instruction TEST_MODE_CHK shifts the complement register of the pair. -/
  | testModeChk (value : Nat)
  /-- `QUIESCE_DEADLINE` (R52): 50 ms after QUIESCE stops admission, requests still open end in error. -/
  | quiesceDeadline
  /-- `FLESAL_UP` (R446): Flesal lanes lock at the end of bring-up; the device increments and stores the session counter before the first frame, logs 0xA002 and starts the STATE exchange. -/
  | flesalUp (lanes : Nat)
  /-- `SCRUB` (R339): The scrubber issues the next C3 read of a DRAM line or Daybook granule so that every line is read once in each SCRUB_HOURS, and rewrites corrected words. -/
  | scrub (daybook : Bool) (n row granule : Nat) (err : Option FaultOp)
  /-- `PAUSE_QUANTA_EXPIRY` (R161): When the quanta of a received PFC or PAUSE frame run out, transmission on the paused priorities resumes. -/
  | pauseQuantaExpiry (port mask : Nat)
  /-- `WEAR_CREDIT_RESTORED` (R379): Wear credit accruing at rate A becomes positive again, lifting the destage cap and clearing WEAR_LIMITED with 0x6009. -/
  | wearCreditRestored
  /-- `TEMPERATURE_STALE` (R584): A DIMM temperature reading left stale for 32 ms after a failed read or a disagreeing sideband pair is treated as above REF_TEMP under R337. -/
  | temperatureStale (n : Nat)
  deriving DecidableEq, Repr

end Sys2Proof
end

