-- ==== Sys2Proof/Decode.lean ====
section
/-!
DEFINITION. The command that a word spells. No row of the opcode table gives bits: the block takes its commands as they are, so no word
spells one.
-/

namespace Sys2Proof

/-- The command that an instruction word of the opcode table spells: none, as the table gives no row any bits. -/
def decodeTableWord (_nbits _w : Nat) : Option Instr := none

end Sys2Proof
end

