-- ==== Sys2Proof/Config.lean ====
section
/-!
DEFINITION. What the manual leaves open or to mathematics outside it: opaque constants without a
body, so that no proof can rest on a value of theirs.
-/

namespace Sys2Proof.Config

open Sys2Proof

/-- A value the manual leaves open, fresh for every draw (assumption 2). -/
opaque freeValue : Nat → Nat

/-- SHA-384 as a number (03_forme.md R72, R76). -/
opaque sha384 : List Byte → Nat

/-- ECDSA on P-384 with SHA-384 verifies: public key, r, s, digest (R71, R72). -/
opaque ecdsaVerify : List Byte → List Byte → List Byte → Nat → Bool

/-- The one-time-programmable key-hash entries 0 to 3 (R72). -/
opaque keyHash : Nat → Nat

/-- The part is the one of 24 GiB of HBM, fused at manufacture; the other has 16 (00_scope.md R2). -/
opaque hbm24 : Bool

/-- HBM capacity, `ID_HBM.GIB` (00_scope.md R2). -/
def hbmGib : Nat := if hbm24 then 24 else 16

/-- What makes the serial number of a device its own (21_register_map.md R613). -/
opaque serialSeed : Nat

/-- Serial number of the device, 64 bits and never 0 (21_register_map.md R613). -/
def serial : Nat := serialSeed % (2 ^ 64 - 1) + 1

/-- AES-256-CMAC (16_cipher_and_keys.md R492): key and message. -/
opaque cmac : Nat → List Byte → Nat

/-- TEST entries that a core's rotation of known-answer tests takes, which the manual leaves open (16_cipher_and_keys.md R493, assumption 104). -/
opaque katTicks : Nat

/-- The granule of the records partition, after the two of the seal, that holds a record, which the manual leaves open (14_daybook.md R432,
assumption 136): kind 0 the retirement record of a unit, 1 a row record by its place in the list, 2 a lane record by its place, 3 the sanitize
record, 4 the copies of the operating time and of the power-cycle count. -/
opaque recordGranule : Nat → Nat → Nat

/-- AES-KW unwrap (16_cipher_and_keys.md R492): KEK and wrapped bytes; none where the integrity check fails. -/
opaque unwrap : Nat → List Byte → Option Nat

/-- Usable energy of a battery whose v_floor is not below V_FULL_MV, where the linear form of R537 has no value:
V_FULL_MV and the store voltage, mV (assumption 2). -/
opaque batteryCorner : Nat → Nat → Nat

/-- Nominal frequency in MHz of a recovered receive clock, domains 14 to 21 and 23, which the manual does not give (R546). -/
opaque rxMhz : Nat → Nat

end Sys2Proof.Config
end

