-- ==== Sys2Proof/Machine/State.lean ====
section
/-!
DEFINITION. The state of the whole machine, and the state after the island's power-on with blank media.
-/

namespace Sys2Proof.Machine

/-- Why the machine would stop. No command of the manual stops this block, so the type has no constructor: no meaning can
answer a fault. -/
inductive Fault where
  deriving DecidableEq, Repr

/-- Why a command has no meaning here. -/
inductive Refusal where
  /-- The command has no meaning yet; raised by the arms of Dispatch.lean alone (safe). -/
  | notModelled (mnemonic : String)
  deriving DecidableEq, Repr


/-! ### The whole machine -/

/-- The KYP6040 within its package, but for the test access port. -/
structure Dev where
  /-- Registers (21_register_map.md). -/
  regs : RegFile
  /-- Event recorder. -/
  evt : Recorder
  /-- Service-processor interface. -/
  sp : SpIf
  /-- Operating modes. -/
  mode : ModeSt
  /-- Power supervisor and holdup. -/
  pwr : PowerSt
  /-- Temperature and governors. -/
  therm : ThermalSt
  /-- The Calendar. -/
  cal : CalSt
  /-- Datapath integrity. -/
  integ : IntegSt
  /-- Tiers, folio map and migration. -/
  tier : TierSt
  /-- The line cache. -/
  lc : LcSt
  /-- The galley. -/
  gal : GalleySt
  /-- Ports and queue pairs. -/
  net : NetSt
  /-- Regions and protection domains. -/
  rgn : RegionSt
  /-- Device queues (R247); persistent. -/
  dq : DevQs
  /-- Keys and cipher. -/
  keys : KeySt
  /-- DRAM controllers. -/
  mem : MemSt
  /-- Flash management. -/
  fm : FlashSt
  /-- NAND channel engines. -/
  nand : NandSt
  /-- The Daybook die. -/
  db : DbSt
  /-- The journal, the intents and the seal. -/
  jrn : JournalSt
  /-- The twin. -/
  twin : TwinSt
  /-- The Forme loader and the boot store. -/
  forme : FormeSt
  /-- What the device has sent, newest first; the model's own record (assumption 3). -/
  sent : List Out
  /-- How many free values the model has drawn; the model's own counter (assumption 2). -/
  free : Nat
  deriving DecidableEq, Repr

/-- The device right after the island's power-on with blank media. -/
def Dev.reset : Dev :=
  { regs := { val := [], shad := [] }, evt := Recorder.reset, sp := SpIf.reset,
    mode := ModeSt.reset, pwr := PowerSt.reset, therm := ThermalSt.reset, cal := CalSt.reset,
    integ := IntegSt.reset, tier := TierSt.reset, lc := LcSt.reset, gal := GalleySt.reset, net := NetSt.reset, rgn := RegionSt.reset,
    dq := [], keys := KeySt.reset, mem := MemSt.reset, fm := FlashSt.reset, nand := NandSt.reset, db := DbSt.reset,
    jrn := JournalSt.reset, twin := TwinSt.reset,
     forme := FormeSt.reset, sent := [], free := 0 }

/-- The machine: the device, its test access port (22_package_and_electrical.md R630), and the queue of commands that wait. -/
structure State where
  /-- Everything the manual gives the device, but for the test access port. -/
  dev : Dev
  /-- The test access port. -/
  tap : TapSt
  /-- Commands that wait, first in, first out. -/
  pending : List Instr
  deriving DecidableEq, Repr

/-- The machine right after the island's power-on with blank media, and no command waiting. -/
def State.reset : State := { dev := Dev.reset, tap := TapSt.reset, pending := [] }

end Sys2Proof.Machine
end

