-- ==== Sys2Proof/Machine/Ops.lean ====
section
/-!
DEFINITION. The named operations every family is written over: register fields, event postings,
doorbells, triggers of mode transitions, stamps and outputs. Each changes one part of Dev.
-/

namespace Sys2Proof.Machine

open Sys2Proof

/-! ### Changes of one part of the state -/

/-- Changes `evt` alone. -/
def Dev.modEvt (s : Dev) (f : Recorder → Recorder) : Dev := { s with evt := f s.evt }

/-- Changes `sp` alone. -/
def Dev.modSp (s : Dev) (f : SpIf → SpIf) : Dev := { s with sp := f s.sp }

/-- Changes `mode` alone. -/
def Dev.modMode (s : Dev) (f : ModeSt → ModeSt) : Dev := { s with mode := f s.mode }

/-- Changes `pwr` alone. -/
def Dev.modPwr (s : Dev) (f : PowerSt → PowerSt) : Dev := { s with pwr := f s.pwr }

/-- Changes `therm` alone. -/
def Dev.modTherm (s : Dev) (f : ThermalSt → ThermalSt) : Dev := { s with therm := f s.therm }

/-- Changes `cal` alone. -/
def Dev.modCal (s : Dev) (f : CalSt → CalSt) : Dev := { s with cal := f s.cal }

/-- Changes `integ` alone. -/
def Dev.modInteg (s : Dev) (f : IntegSt → IntegSt) : Dev := { s with integ := f s.integ }

/-- Changes `tier` alone. -/
def Dev.modTier (s : Dev) (f : TierSt → TierSt) : Dev := { s with tier := f s.tier }

/-- Changes `lc` alone. -/
def Dev.modLc (s : Dev) (f : LcSt → LcSt) : Dev := { s with lc := f s.lc }

/-- Changes `gal` alone. -/
def Dev.modGal (s : Dev) (f : GalleySt → GalleySt) : Dev := { s with gal := f s.gal }

/-- Changes `net` alone. -/
def Dev.modNet (s : Dev) (f : NetSt → NetSt) : Dev := { s with net := f s.net }

/-- Changes `rgn` alone. -/
def Dev.modRgn (s : Dev) (f : RegionSt → RegionSt) : Dev := { s with rgn := f s.rgn }

/-- Changes `dq` alone. -/
def Dev.modDq (s : Dev) (f : DevQs → DevQs) : Dev := { s with dq := f s.dq }

/-- Changes `keys` alone. -/
def Dev.modKeys (s : Dev) (f : KeySt → KeySt) : Dev := { s with keys := f s.keys }

/-- Changes `mem` alone. -/
def Dev.modMem (s : Dev) (f : MemSt → MemSt) : Dev := { s with mem := f s.mem }

/-- Changes `fm` alone. -/
def Dev.modFm (s : Dev) (f : FlashSt → FlashSt) : Dev := { s with fm := f s.fm }

/-- Changes `nand` alone. -/
def Dev.modNand (s : Dev) (f : NandSt → NandSt) : Dev := { s with nand := f s.nand }

/-- Changes `db` alone. -/
def Dev.modDb (s : Dev) (f : DbSt → DbSt) : Dev := { s with db := f s.db }

/-- Changes `jrn` alone. -/
def Dev.modJrn (s : Dev) (f : JournalSt → JournalSt) : Dev := { s with jrn := f s.jrn }

/-- Changes `twin` alone. -/
def Dev.modTwin (s : Dev) (f : TwinSt → TwinSt) : Dev := { s with twin := f s.twin }

/-- Changes `forme` alone. -/
def Dev.modForme (s : Dev) (f : FormeSt → FormeSt) : Dev := { s with forme := f s.forme }

/-! ### Register fields -/

/-- The value of a field: the active copy of a shadowed one (R9). -/
def Dev.get (s : Dev) (f : Fld) : Nat := s.regs.val.getD f.key f.reset % 2 ^ f.width

/-- A one-bit field as a truth value. -/
def Dev.bit (s : Dev) (f : Fld) : Bool := s.get f != 0

/-- The shadow copy of a shadowed field (R9). -/
def Dev.shadow (s : Dev) (f : Fld) : Nat := s.regs.shad.getD f.key f.reset % 2 ^ f.width

/-- A table of fields with one field changed; a field at its reset value is not listed. -/
def putField (t : Tab Nat) (f : Fld) (v : Nat) : Tab Nat :=
  if v % 2 ^ f.width = f.reset then t.del f.key else t.put f.key (v % 2 ^ f.width)

/-- Sets a field; a value too wide is cut to the field. -/
def Dev.set (s : Dev) (f : Fld) (v : Nat) : Dev :=
  { s with regs := { s.regs with val := putField s.regs.val f v } }

/-- Sets the shadow copy of a field. -/
def Dev.setShadow (s : Dev) (f : Fld) (v : Nat) : Dev :=
  { s with regs := { s.regs with shad := putField s.regs.shad f v } }

/-- Sets a one-bit field. -/
def Dev.setB (s : Dev) (f : Fld) (b : Bool) : Dev := s.set f (b2n b)

/-- Sets a list of fields. -/
def Dev.setL (s : Dev) (l : List (Fld × Nat)) : Dev := l.foldl (fun t e => t.set e.1 e.2) s

/-- Advances a counter field, which saturates at its width (R9, the register tables). -/
def Dev.inc (s : Dev) (f : Fld) (n : Nat := 1) : Dev :=
  s.set f (min (s.get f + n) (2 ^ f.width - 1))

/-- Sets bits of a field, leaving its other bits. -/
def Dev.orF (s : Dev) (f : Fld) (m : Nat) : Dev := s.set f (s.get f ||| m)

/-- Raises a field to a value it has not yet reached. -/
def Dev.maxF (s : Dev) (f : Fld) (v : Nat) : Dev := s.set f (max (s.get f) v)

/-- Applies a list of updates in turn. -/
def Dev.each {α : Type} (s : Dev) (l : List α) (f : Dev → α → Dev) : Dev := l.foldl f s

/-- What happens only while the island runs (R531). -/
def Dev.onIsland (s : Dev) (f : Dev → Dev) : Dev := if s.pwr.on then f s else s

/-- A register write reaches an address now (R39, R573, R612): the island runs; HOLDUP_SAVE and SANITIZING are read
only, but for `MODE_CMD` in the latter; DORMANT knows the always-on blocks alone. -/
def Dev.reaches (s : Dev) (a : Nat) : Bool :=
  let m := s.get .MODE_STATE_MODE
  s.pwr.on && !(m == 9) && (m != 10 || a == 0x28) && (m != 0 || decide (a < 0x30000))

/-- Applies an update where a condition holds. -/
def Dev.when (s : Dev) (c : Bool) (f : Dev → Dev) : Dev := if c then f s else s

/-! ### Modes (02_operating_modes.md) -/

/-- The modes of R38. -/
def mDORMANT : Nat := 0
def mCONFIGURING : Nat := 1
def mTRAINING : Nat := 2
def mRECOVERING : Nat := 3
def mSOLO : Nat := 4
def mACTIVE : Nat := 5
def mSTANDBY : Nat := 6
def mRESYNC : Nat := 7
def mSWITCHOVER : Nat := 8
def mHOLDUP : Nat := 9
def mSANITIZING : Nat := 10
def mQUIESCED : Nat := 11

/-- The current mode (R38). -/
def Dev.modeOf (s : Dev) : Nat := s.get .MODE_STATE_MODE

/-- The mode is one of a list. -/
def Dev.inMode (s : Dev) (l : List Nat) : Bool := l.contains s.modeOf

/-- A mode that serves hosts. -/
def Dev.serving (s : Dev) : Bool := s.inMode [mSOLO, mACTIVE]

/-- STANDBY or RESYNC (R93, R115). -/
def Dev.follower (s : Dev) : Bool := s.inMode [mSTANDBY, mRESYNC]

/-- CAL runs (R96). -/
def Dev.calRuns (s : Dev) : Bool := s.bit .MODE_STATE_CAL_RUN

/-- The low 32 bits of the cycle counter, 0 where CAL is stopped (R45). -/
def Dev.cycleLow (s : Dev) : Nat := if s.calRuns then s.cal.count % 2 ^ 32 else 0

/-- The stamp at which the current request executes (R24, R98); for work that is no request, the last stamp given. -/
def Dev.stamp (s : Dev) : Nat := s.cal.now.getD (s.cal.lastStamp.getD (s.cal.cycle * 4096))

/-! ### Free values -/

/-- The next value the manual leaves open, of `w` bits (assumption 2). -/
def Dev.freeVal (s : Dev) (w : Nat) : Nat := Config.freeValue s.free % 2 ^ w

/-- Draws a free value. -/
def Dev.drawn (s : Dev) : Dev := { s with free := s.free + 1 }

/-! ### Outputs -/

/-- Records an output of the device. -/
def Dev.emit (s : Dev) (o : Out) : Dev := { s with sent := o :: s.sent }

/-! ### Event postings (20_event_recorder.md) -/

/-- The codes of R605. -/
def eventDefined (c : Nat) : Bool :=
  let rng := fun (a b : Nat) => decide (a ≤ c ∧ c ≤ b)
  rng 0x1001 0x1011 || rng 0x2001 0x2005 || rng 0x2007 0x200A ||
  c == 0x3001 || rng 0x3003 0x3004 || rng 0x3010 0x3012 || c == 0x3020 || rng 0x3030 0x3034 ||
  rng 0x4001 0x4006 || rng 0x4010 0x4014 || c == 0x4021 || rng 0x5001 0x500C ||
  rng 0x6001 0x600D || rng 0x6010 0x6011 || rng 0x6020 0x6027 ||
  rng 0x7001 0x7007 || rng 0x7010 0x7011 || rng 0x8001 0x8007 || c == 0x8009 ||
  rng 0x8020 0x8022 || c == 0x8024 || rng 0x9001 0x9010 || rng 0xA001 0xA015 ||
  rng 0xB001 0xB00C || rng 0xC001 0xC003 || rng 0xC005 0xC008 || rng 0xC010 0xC013 ||
  rng 0xD001 0xD008 || rng 0xE000 0xE00B || c == 0xE010 || c == 0xE020

/-- The code is rate-limited, not folded (R595, R596). -/
def rateLimited (code : Nat) : Bool := [1, 9, 0xA, 0xB].contains (code / 4096)

/-- Postings the staging queue holds: 512, or the island's 64 before the Daybook is trained (R597,
R598). -/
def stagingLimit (running : Bool) : Nat := if running then 512 else 64

/-- A posting enters the staging queue, or is lost where it is full (R597, R598). -/
def Recorder.stage (r : Recorder) (running : Bool) (p : Posting) : Recorder :=
  if r.staging.length < stagingLimit running then { r with staging := r.staging ++ [p], foldable := true }
  else { r with lost := sat32 (r.lost + 1), lostRun := r.lostRun + 1, gapDue := true }

/-- The newest record of the ring (R595). -/
def Recorder.newest (r : Recorder) : Option EvRec :=
  match r.ring.get? ((r.head + 2 ^ 32 - 1) % 65536) with
  | some e => if e.seq = (r.head + 2 ^ 32 - 1) % 2 ^ 32 then some e else none
  | none => none

/-- Folds a posting into the newest record accepted, where R595 allows it: the last one staged, or
where none is staged the newest of the ring in use (assumption 10). -/
def Recorder.fold (r : Recorder) (running : Bool) (code unit : Nat) : Option Recorder :=
  match r.staging.getLast? with
  | some q =>
    if r.foldable = true ∧ q.code = code ∧ q.unit = unit ∧ q.rep < 65535 then
      some { r with staging := r.staging.dropLast ++ [{ q with rep := q.rep + 1 }],
                    folded := sat32 (r.folded + 1) }
    else none
  | none =>
    match r.newest with
    | some e =>
      if running = true ∧ r.foldable = true ∧ e.code = code ∧ e.unit = unit ∧ r.newestRep < 65535 then
        some { r with newestRep := r.newestRep + 1, folded := sat32 (r.folded + 1) }
      else none
    | none => none

/-- Sets the rate-limit window of a code (R596). -/
def Recorder.setWindow (r : Recorder) (code : Nat) (w : RateWin) : Recorder :=
  { r with windows := r.windows.put code w }

/-- A posting of a rate-limited code (R596): accepted while the window has room, else withheld. One that the full queue loses is no record, and
neither opens a window nor takes of its count. -/
def Recorder.limit (r : Recorder) (running : Bool) (count : Nat) (p : Posting) : Recorder :=
  let full := decide (r.staging.length ≥ stagingLimit running)
  match r.windows.get? p.code with
  | none => (if full then r else r.setWindow p.code ⟨1, 0, none⟩).stage running p
  | some w =>
    if w.taken < count then (if full then r else r.setWindow p.code ⟨w.taken + 1, w.withheld, w.last⟩).stage running p
    else { r.setWindow p.code ⟨w.taken, w.withheld + 1, some p⟩ with supp := sat32 (r.supp + 1) }

/-- What a posting does to the recorder (R595 to R598). -/
def Recorder.post (r : Recorder) (running : Bool) (count : Nat) (p : Posting) : Recorder :=
  if !eventDefined p.code then r
  else if rateLimited p.code then r.limit running count p
  else match r.fold running p.code p.unit with
    | some r' => r'
    | none => r.stage running p

/-- A posting as it is made now. -/
def Dev.posting (s : Dev) (code unit p0 p1 p2 : Nat) : Posting :=
  { code := code, unit := unit % 65536, at_ := s.evt.islandMs / 100, vigil := s.modeOf == mHOLDUP,
    rep := 0, suppressed := 0, p0 := p0 % 2 ^ 32, p1 := p1 % 2 ^ 32, p2 := p2 % 2 ^ 32 }

/-- Posts an event (R591). -/
def Dev.post (s : Dev) (code unit p0 p1 p2 : Nat) : Dev :=
  let p := s.posting code unit p0 p1 p2
  { s with evt := s.evt.post (s.bit .EVT_STATUS_RUNNING) (s.get .EVT_RATE_COUNT) p }

/-- Posts an event of which the manual states only the first parameters: each other one is a free value (assumption 2). -/
def Dev.postOpen (s : Dev) (code unit : Nat) (known : List Nat) : Dev :=
  let p := fun (i : Nat) => known.getD i (Config.freeValue (s.free + i) % 2 ^ 32)
  { s.post code unit (p 0) (p 1) (p 2) with free := s.free + 3 }

/-! ### Doorbells toward the SP (19_management_interface.md R577 to R579) -/

/-- `DB_PENDING`: the doorbell bits that are not masked (R578). -/
def Dev.dbPending (s : Dev) : Nat := maskOff (s.get .DB_TO_SP_BITS) (s.get .DB_MASK_MASK)

/-- An IBI is raised where DB_PENDING leaves 0 or gains a bit the last payload did not carry (R578);
only outside I2C mode with target interrupts enabled. -/
def Dev.raiseIbi (s : Dev) (before : Nat) : Dev :=
  let now := s.dbPending
  if s.get .I3C_STATUS_BUSMODE ≠ 0 ∧ s.bit .I3C_STATUS_IBI_EN = true ∧
     ((before = 0 ∧ now ≠ 0) ∨ maskOff (maskOff now before) s.sp.lastIbi ≠ 0)
  then { s with sp := { s.sp with ibiPending := true } } else s

/-- Sets doorbell bits; in SWITCHOVER they wait for the next mode entry (R577, R579). -/
def Dev.ring (s : Dev) (bits : Nat) : Dev :=
  if s.modeOf = mSWITCHOVER then { s with sp := { s.sp with dbHeld := s.sp.dbHeld ||| bits } }
  else (s.orF .DB_TO_SP_BITS bits).raiseIbi s.dbPending

/-- ALERT_N is low (R579). -/
def Dev.alert (s : Dev) : Bool := s.modeOf != mDORMANT && s.dbPending != 0

/-! ### The interrupt summary (21_register_map.md R615 to R617) -/

/-- A field as the interrupt summary and the register window see it: in DORMANT a core field reads 0 (R611). -/
def Dev.see (s : Dev) (f : Fld) : Nat := if f.dom = .core ∧ s.modeOf = mDORMANT then 0 else s.get f

/-- One of some fields is not 0. -/
def Dev.anySet (s : Dev) (l : List Fld) : Bool := l.any fun f => s.see f != 0

/-- `INT_DRAM_SRC`, `INT_NAND_SRC` and `INT_PORT_SRC` (R616). -/
def Dev.intDram (s : Dev) : Nat :=
  (List.range 24).foldl (fun a n => a + b2n (s.anySet [.MEM_STATUS_REFRESH_SHORT n, .MEM_STATUS_ALERT_SEEN n, .MEM_STATUS_UE_SEEN n,
    .MEM_ERR_INFO_VALID n]) * 2 ^ n) 0

/-- `INT_NAND_SRC` (R616). -/
def Dev.intNand (s : Dev) : Nat :=
  (List.range 32).foldl (fun a n => a + b2n (s.anySet [.NANDC_STATUS_REFUSED_SEEN n, .NANDC_STATUS_STARVE_SEEN n, .NANDC_STATUS_TIMEOUT_SEEN n,
    .NANDC_STATUS_UE_SEEN n, .NANDC_ERR_INFO_VALID n, .NANDC_RAW_STATUS_DONE n]) * 2 ^ n) 0

/-- `INT_PORT_SRC` (R616). -/
def Dev.intPort (s : Dev) : Nat :=
  (List.range 8).foldl (fun a n => a + b2n (s.anySet [.PORT_STATUS_LINK_CHANGED n, .PORT_STATUS_PAUSE_C0 n]) * 2 ^ n) 0

/-- The sources of bits 0 to 9 and 13 of `INT_SUMMARY` by bit; those of 10 to 12 are in the second level (R615). -/
def intSources : List (Nat × List Fld) := [
  (0, [.MODE_RESULT_CHANGED, .MODE_RESULT_REFUSED, .MODE_RESULT_DEGRADED_SEEN]),
  (1, [.PWR_STATUS_RAIL_FAULT_SEEN, .PWR_STATUS_EXT_FAULT_SEEN, .PWR_STATUS_ESTORE_FAULT, .PWR_STATUS_MEAS_ABORTED, .PWR_STATUS_RESERVE_HIT]),
  (2, [.CLK_FAULT_FAULT, .THERM_STATUS_TRIP_SEEN, .THERM_STATUS_SENSOR_FAIL_SEEN, .GOV_STATUS_LEVEL_SEEN, .GOV_STATUS_UNMET_SEEN]),
  (3, [.EVT_STATUS_GAP_SEEN, .EVT_STATUS_ARCH_GAP_SEEN, .EVT_STATUS_NOTIFIED, .EVT_STATUS_CLEARED_SEEN]),
  (4, [.FORME_STATUS_A_REFUSED, .FORME_STATUS_B_REFUSED, .IMPRESS_STATUS_REFUSED, .IMPRESS_STATUS_DROPPED, .CAL_STATUS_SWITCHED,
       .CAL_STATUS_UNCOVERED]),
  (5, [.INTEG_SUMMARY_KIND_SEEN, .INTEG_SUMMARY_RETIRED, .INTEG_SUMMARY_SPARE_USED, .INTEG_SUMMARY_SPARE_NONE, .INTEG_SUMMARY_POISON,
       .INTEG_SUMMARY_INJ_MISMATCH, .INTEG_SUMMARY_INJ_DONE, .INTEG_SUMMARY_TAP_MISMATCH]),
  (6, [.CIPHER_STATUS_KAT_FAIL, .CIPHER_STATUS_USAGE90_SEEN, .CIPHER_STATUS_USAGE100_SEEN, .CIPHER_STATUS_LOST_SEEN,
       .ENTROPY_STATUS_RCT_FAIL, .ENTROPY_STATUS_APT_FAIL]),
  (7, [.DB_STATUS_GAP, .DB_STATUS_UNRECOVERABLE, .DB_STATUS_REMAP_SEEN, .DB_STATUS_SPARES_OUT, .DB_STATUS_UNSEALED, .DB_ERR_INFO_VALID]),
  (8, [.TWIN_STATUS_LINK_LOST_SEEN, .TWIN_STATUS_MISMATCH_SEEN, .TWIN_STATUS_DIVERGED_SEEN, .TWIN_STATUS_TAKEOVER_SEEN,
       .TWIN_STATUS_PROTOCOL_ERR, .TWIN_STATUS_STRAP_CONFLICT, .TWIN_STATUS_DIGEST_DIFF, .TWIN_LEASE_STATUS_GRANTED,
       .TWIN_LEASE_STATUS_DENIED, .TWIN_LEASE_STATUS_REJECTED, .TWIN_LEASE_STATUS_EXPIRED, .TWIN_LEASE_STATUS_WITHDRAWN,
       .TWIN_MB_FLAGS_OVERRUN, .TWIN_MB_FLAGS_LOST]),
  (9, [.TIER_STATUS_BUDGET_CHANGED, .TIER_STATUS_THROTTLE_SEEN, .TIER_STATUS_MOVE_FAILED, .TIER_STATUS_FOLIO_LOST,
       .GALLEY_STATUS_WAIT_SEEN, .GALLEY_STATUS_EVACUATED]),
  (11, [.FM_STATUS_STRIPE_LOST, .FM_STATUS_BLOCK_RETIRED, .FM_STATUS_HALF_ERASED, .FM_STATUS_LUN_FAILED]),
  (13, [.MB_STATUS_OVERRUN, .MB_STATUS_CMDWIN_BUSY, .I3C_STATUS_SADDR_MISMATCH, .SB_STATUS_MISMATCH, .BS_STATUS_DONE])]

/-- `INT_SUMMARY` (R615). -/
def Dev.intSummary (s : Dev) : Nat :=
  (List.range 14).foldl (fun a i =>
    let second := (i == 10 && s.intDram != 0) || (i == 11 && s.intNand != 0) || (i == 12 && s.intPort != 0) ||
      (i == 8 && maskOff (s.see .TWIN_DB_IN_BITS) (s.see .TWIN_DB_MASK_MASK) != 0)
    a + b2n (second || intSources.any (fun e => e.1 == i && s.anySet e.2)) * 2 ^ i) 0

/-- `INT_PENDING` (R617). -/
def Dev.intPending (s : Dev) : Nat := maskOff s.intSummary (s.get .INT_MASK_MASK)

/-- The summary's doorbell (R617): bit 2 rings where a bit of `INT_PENDING` is 1 that was 0 before. -/
def Dev.summaryRing (s : Dev) (before : Nat) : Dev := s.when (maskOff s.intPending before != 0) (·.ring 4)

/-- VDD_IO is good (R521, R630): rail 3 is in its window. -/
def Dev.vddIo (s : Dev) : Bool := s.get (.PWR_RAIL_STATUS_STATE 3) == 2

/-- The TAP pair returns to its reset values and EXTEST ends (R632). -/
def TapSt.pairReset (t : TapSt) : TapSt := { t with mode := 0, chk := 0xFFFFFFFF, driving := false }

/-- The test access port after a command (R630, R632): it works only while VDD_IO is good, and what it drives ends where the device
leaves QUIESCED. -/
def TapSt.after (t : TapSt) (before now : Dev) : TapSt :=
  if now.vddIo = false then TapSt.reset
  else if before.modeOf = mQUIESCED ∧ now.modeOf ≠ mQUIESCED then t.pairReset
  else t

/-- A command's outcome: what it makes of the device, with the summary's doorbell and the test access port following. The queue is no
command's. -/
def finish (w : State) (f : Dev → Dev) : Host.Outcome State Fault Refusal :=
  let d := (f w.dev).summaryRing w.dev.intPending
  .next { w with dev := d, tap := w.tap.after w.dev d }

/-! ### Triggers (02_operating_modes.md R55 to R58) -/

/-- Marks a transition as under way toward a mode (`MODE_STATE.TRANSIT`, TARGET). -/
def Dev.beginTransit (s : Dev) (t : Trigger) : Dev :=
  { (s.setL [(.MODE_STATE_TRANSIT, 1), (.MODE_STATE_TARGET, t.target)]) with
    mode := { s.mode with due := some t } }

/-- The modes row 22 leaves (R46). -/
def row22From : List Nat := [1, 2, 3, 4, 5, 6, 7, 8, 10, 11]

/-- A trigger that is not row 22 waits where R57 lets it: twin triggers and completions of the
device's own work; any other is discarded (R58). -/
def Dev.waitTrigger (s : Dev) (t : Trigger) : Dev :=
  if t.prio = 5 ∨ t.prio = 6 then
    { s with mode := { s.mode with waiting := s.mode.waiting ++ [t] } } else s

/-- Reasons of R44. -/
def rBUSY : Nat := 1
def rNOT_PERMITTED : Nat := 2
def rGUARD : Nat := 3
def rTWIN : Nat := 4
def rLOCKED : Nat := 5

/-- A mode operation is refused (R44, R45); doorbell bit 3 rings where REFUSED became set (R577). -/
def Dev.refuseOp (s : Dev) (op reason : Nat) : Dev :=
  let t := (s.setL [(.MODE_RESULT_REFUSED, 1), (.MODE_RESULT_REASON, reason), (.MODE_RESULT_LAST_OP, op % 16)]).post 0xE010 0 (op % 16) reason s.modeOf
  t.when (!s.bit .MODE_RESULT_REFUSED) (·.ring 8)

/-- The mode operation that a trigger came from (R43), where it came from one. -/
def Trigger.op (t : Trigger) : Option Nat :=
  if t.prio = 4 then some 5
  else if t.prio = 7 then (if t.row = 18 then some 1 else if t.row = 19 then some 2 else if t.row = 20 then some 3 else some 6)
  else none

/-- A trigger arrives. With no transition under way it starts one; a trigger of higher rank takes
the place of the one under way before its boundary (R56, R58), and the loser waits or is dropped; a mode operation
that loses its boundary is refused with BUSY. -/
def Dev.trigger (s : Dev) (t : Trigger) : Dev :=
  match s.mode.due with
  | none => s.beginTransit t
  | some d =>
    if t.prio * 8 + t.sub < d.prio * 8 + d.sub then
      let u := match d.op with
        | some o => s.refuseOp o rBUSY
        | none => s.waitTrigger d
      u.beginTransit t
    else s.waitTrigger t

end Sys2Proof.Machine
end

