-- ==== Sys2Proof/Machine/Lines.lean ====
section
/-!
DEFINITION. The line cache of 10_line_cache_and_galley.md: placement, replacement, fills, merges and
invalidations. Its contents decide which source serves a read and never what the read returns (R304).
-/

namespace Sys2Proof.Machine

open Sys2Proof

/-- The set of a line address (R302). -/
def lcSet (la : Nat) : Nat := bitsOf la 0 16 ^^^ bitsOf la 16 16 ^^^ (bitsOf la 32 8 * 256)

/-- The bank of a set (R302). -/
def lcBank (set : Nat) : Nat := set / 2048

/-- The spare-way group of a set (R302). -/
def lcGroup (set : Nat) : Nat := set / 1024

/-- Where way `w` of a set is held: the group's spare, way 16, where `w` is its failed way (R312). -/
def LcSt.key (c : LcSt) (set w : Nat) : Nat :=
  set * 17 + (if c.failed.get? (lcGroup set) = some w then 16 else w)

/-- The bank of a set looks up and allocates: it is not retired (R312). -/
def LcSt.live (c : LcSt) (set : Nat) : Bool := !c.dead.testBit (lcBank set)

/-- The way of a set that holds a line (R303). -/
def LcSt.wayOf (c : LcSt) (la : Nat) : Option Nat :=
  if c.live (lcSet la) then
    (List.range 16).find? (fun w => (c.ways.get? (c.key (lcSet la) w)).any (fun v => v.la == la))
  else none

/-- The cached content of a line (R304). -/
def LcSt.hit (c : LcSt) (la : Nat) : Option Line :=
  (c.wayOf la).bind (fun w => (c.ways.get? (c.key (lcSet la) w)).map LcWay.data)

/-- The LFSR seed of a bank (R307). -/
def lfsrSeed (seed bank : Nat) : Nat :=
  let v := bitsOf seed 0 32 ^^^ bitsOf seed 32 32 ^^^ (bank * 0x9E3779B9 % 2 ^ 32)
  if v = 0 then 1 else v

/-- One advance of an LFSR (R307). -/
def lfsrNext (v : Nat) : Nat := if v % 2 = 1 then (v / 2) ^^^ 0x80200003 else v / 2

/-- The line cache at a CAL start: every bank's LFSR is seeded (R307). -/
def LcSt.seeded (c : LcSt) (seed : Nat) : LcSt :=
  { c with lfsr := (List.range 32).map (fun n => (n, lfsrSeed seed n)) }

/-- The lowest-numbered invalid way of a set (R306). -/
def LcSt.freeWay (c : LcSt) (set : Nat) : Option Nat :=
  (List.range 16).find? (fun w => (c.ways.get? (c.key set w)).isNone)

/-- Installs a line in its set (R306); the LFSR advances only where no way is free. -/
def LcSt.install (c : LcSt) (la : Nat) (d : Line) : LcSt :=
  let set := lcSet la
  match c.freeWay set with
  | some w => { c with ways := c.ways.put (c.key set w) ⟨la, d⟩ }
  | none =>
    let v := lfsrNext (c.lfsr.getD (lcBank set) 1)
    { c with ways := c.ways.put (c.key set (v % 16)) ⟨la, d⟩, lfsr := c.lfsr.put (lcBank set) v }

/-- The content of a line a read assembled, on its way to the cache (R305). -/
def Dev.lcFill (s : Dev) (la : Nat) (d : Line) : Dev :=
  { s with lc := { s.lc with fills := s.lc.fills ++ [⟨la, d, s.stamp, false⟩] } }

/-- LINE_FILL: the oldest fill of a line installs, or is discarded and counted where a later write
overtook it (R308); a bank that is out of service allocates nothing (R312). -/
def Dev.lineFill (s : Dev) (la : Nat) : Dev :=
  match s.lc.fills.find? (fun f => f.la == la) with
  | none => s
  | some f =>
    let c := { s.lc with fills := s.lc.fills.erase f }
    let t := { s with lc := c }
    if f.stale then t.inc .LC_FILL_STALE_STALE
    else if c.live (lcSet la) ∧ (c.hit la).isNone then
      ({ t with lc := c.install la f.data }).inc .LC_FILLS_FILLS
    else t

/-- A stamped write meets the line cache: a cached line takes its bytes (R309), and fills of the line
that have not installed become stale (R308). -/
def Dev.lcWrite (s : Dev) (la : Nat) (d : Line) (mask : Nat) : Dev :=
  let c := { s.lc with fills := s.lc.fills.map (fun f => if f.la = la then { f with stale := true } else f) }
  match c.wayOf la with
  | none => { s with lc := c }
  | some w =>
    ({ s with lc := { c with ways := c.ways.upd (c.key (lcSet la) w) (fun v => { v with data := v.data.merge d mask }) } }).inc
      .LC_WRITE_HITS_WRITE_HITS

/-- Invalidates the cached lines that satisfy a test (R310, R312); their fills become stale. -/
def Dev.lcInvalidate (s : Dev) (p : Nat → Bool) : Dev :=
  let n := s.lc.ways.count (fun _ v => p v.la)
  let c := { s.lc with
    ways := s.lc.ways.keep (fun _ v => !p v.la),
    fills := s.lc.fills.map (fun f => if p f.la then { f with stale := true } else f) }
  ({ s with lc := c }).inc .LC_INVALIDATES_INVALIDATES n

/-- Guarded `LC_CTRL.INVALIDATE`, which acts only in SERVING_SOLO and QUIESCED (LC_CTRL): every line
is invalidated at the next boundary. -/
def Dev.askInvalidate (s : Dev) (invalidate : Bool) (guard : Nat) : Dev :=
  if invalidate = true ∧ guard = 0x1C ∧ s.inMode [mSOLO, mQUIESCED] = true then
    { s with lc := { s.lc with invalidate := true } } else s

/-- The boundary makes an invalidation that was asked for. -/
def Dev.finishInvalidate (s : Dev) : Dev :=
  if s.lc.invalidate then
    let t := s.lcInvalidate (fun _ => true)
    { t with lc := { t.lc with invalidate := false } }
  else s

/-- `LC_STATUS.BANKS` and `LC_SPARE_LO`, `LC_SPARE_HI` (core domain). -/
def Dev.showLc (s : Dev) : Dev :=
  let groups := s.lc.failed.foldl (fun a e => setBit a e.1) 0
  s.setL [(.LC_STATUS_BANKS, maskOff (2 ^ 32 - 1) s.lc.dead), (.LC_SPARE_LO_GROUPS, groups % 2 ^ 32),
    (.LC_SPARE_HI_GROUPS, groups / 2 ^ 32)]

/-- A CAL start (R307): the LFSRs take their seeds; the cache starts empty (R324). -/
def Dev.startLc (s : Dev) (seed : Nat) : Dev :=
  ({ s with lc := { (s.lc.seeded seed) with ways := [], fills := [], invalidate := false } }).showLc

/-- A failed way of a group takes the group's spare (R312, R145): its lines and the spare's are
invalidated. Answers whether the group had a spare left. -/
def Dev.lcSpareWay (s : Dev) (group way : Nat) : Dev × Bool :=
  if (s.lc.failed.get? group).isSome then (s, false)
  else
    let hitKey := fun (k : Nat) => lcGroup (k / 17) == group && (k % 17 == way || k % 17 == 16)
    let n := s.lc.ways.count (fun k _ => hitKey k)
    let c := { s.lc with ways := s.lc.ways.keep (fun k _ => !hitKey k), failed := s.lc.failed.put group way }
    ((({ s with lc := c }).inc .LC_INVALIDATES_INVALIDATES n).showLc, true)

/-- A line-cache bank is retired: its lookups miss and it allocates nothing (R312). -/
def Dev.lcRetire (s : Dev) (bank : Nat) : Dev :=
  let c := { s.lc with ways := s.lc.ways.keep (fun k _ => lcBank (k / 17) != bank), dead := setBit s.lc.dead bank }
  ({ s with lc := c }).showLc

/-! ### Commands -/

/-- LINE_FILL (R308). -/
def execLineFill (la : Nat) (w : State) : Host.Outcome State Fault Refusal := finish w fun s => (s.lineFill la)

end Sys2Proof.Machine
end

