-- ==== Sys2Proof/Machine/Galley.lean ====
section
/-!
DEFINITION. The galley of 10_line_cache_and_galley.md: placement, merges, waits, drain eligibility,
evacuation of a bank, discards and the save image.
-/

namespace Sys2Proof.Machine

open Sys2Proof

/-- The BANKMAP index of a line (R313). -/
def galleyV (la : Nat) : Nat :=
  bitsOf la 0 8 ^^^ bitsOf la 8 8 ^^^ bitsOf la 16 8 ^^^ bitsOf la 24 8 ^^^ bitsOf la 32 8

/-- The galley bank of a line (R313). -/
def GalleySt.bank (g : GalleySt) (la : Nat) : Nat := g.bankmap.getD (galleyV la) (galleyV la % 16)

/-- The set of a line within its bank (R313). -/
def galleySet (la : Nat) : Nat := bitsOf la 4 9 ^^^ bitsOf la 13 9 ^^^ bitsOf la 22 9

/-- The key of way 0 of a line's set. -/
def GalleySt.base (g : GalleySt) (la : Nat) : Nat := g.bank la * 8192 + galleySet la * 16

/-- The entry of a line: in its place, or in a bank that is still being evacuated (R322). -/
def GalleySt.find (g : GalleySt) (la : Nat) : Option (Nat × GEntry) :=
  match g.entries.find? (fun e => e.2.la == la && e.1 / 16 == g.base la / 16) with
  | some e => some e
  | none => g.entries.find? (fun e => e.2.la == la)

/-- The lowest free way of a line's set, by its key (R315). -/
def GalleySt.freeKey (g : GalleySt) (la : Nat) : Option Nat :=
  ((List.range 16).map (g.base la + ·)).find? (fun k => (g.entries.get? k).isNone)

/-- Valid entries of a bank. -/
def GalleySt.occ (g : GalleySt) (b : Nat) : Nat := g.entries.count (fun k _ => k / 8192 == b)

/-- Free entries of a bank, over all its sets (R316). -/
def GalleySt.free (g : GalleySt) (b : Nat) : Nat := 8192 - g.occ b

/-- The byte mask of a whole line. -/
def fullMask : Nat := 2 ^ 64 - 1

/-- A write merges into an entry (R315); after a drain's snapshot it sets REDRAIN (R319). -/
def GEntry.merge (e : GEntry) (d : Line) (mask : Nat) (poison : Bool) : GEntry :=
  { e with data := e.data.merge d mask, mask := e.mask ||| mask,
           poison := poison || (e.poison && mask != fullMask), redrain := e.redrain || e.snap.isSome }

/-- A write has a way it may take (R316). -/
def GalleySt.room (g : GalleySt) (reserve : Nat) (w : GWait) : Bool :=
  (g.freeKey w.la).isSome && (w.cls == 0 || w.evac || decide (g.free (g.bank w.la) > reserve))

/-- A write can be placed now: its line has an entry in place, or there is room (R315, R316). -/
def GalleySt.fits (g : GalleySt) (reserve : Nat) (w : GWait) : Bool :=
  (g.find w.la).isSome || g.room reserve w

/-- A new entry for a write (R315). -/
def GWait.entry (w : GWait) (stamp : Nat) : GEntry :=
  { la := w.la, data := (0 : Line).merge w.data w.mask, mask := w.mask, poison := w.poison, stamp := stamp,
    redrain := false, snap := none, retryAt := 0 }

/-- The highest occupancy of a bank since its PEAK was read. -/
def GalleySt.raise (g : GalleySt) (b : Nat) : GalleySt :=
  { g with peak := g.peak.put b (max (g.peak.getD b 0) (g.occ b)) }

/-- Places a write that fits (R315). -/
def Dev.galleyPut (s : Dev) (w : GWait) : Dev :=
  match s.gal.find w.la with
  | some (k, _) =>
    ({ s with gal := { s.gal with entries := s.gal.entries.upd k (fun e => e.merge w.data w.mask w.poison) } }).inc
      .GALLEY_MERGES_MERGES
  | none =>
    match s.gal.freeKey w.la with
    | none => s
    | some k =>
      ({ s with gal := ({ s.gal with entries := s.gal.entries.put k (w.entry s.stamp) }).raise (s.gal.bank w.la) }).inc
        .GALLEY_ALLOCS_ALLOCS

/-- A write waits at its bank's input (R316). -/
def Dev.galleyWait (s : Dev) (w : GWait) : Dev :=
  let t := ({ s with gal := { s.gal with waiting := s.gal.waiting ++ [w] } }).inc .GALLEY_WAITS_WAITS
  (t.set .GALLEY_STATUS_WAIT_SEEN 1).post 0x7010 (0x0A00 + s.gal.bank w.la) (s.gal.bank w.la) (galleySet w.la) w.cls

/-- A line has a write that waits (R316). -/
def GalleySt.held (g : GalleySt) (la : Nat) : Bool := g.waiting.any (fun w => w.la == la)

/-- A write enters the galley at its stamp, or waits (R315, R316). -/
def Dev.galleyEnter (s : Dev) (w : GWait) : Dev :=
  if s.gal.held w.la then { s with gal := { s.gal with waiting := s.gal.waiting ++ [w] } }
  else if s.gal.fits (s.get .GALLEY_CFG_C0_RESERVE) w then s.galleyPut w
  else s.galleyWait w

/-- No earlier waiting write touches the same line. -/
def firstOfLine (ws : List GWait) (w : GWait) : Bool :=
  (ws.find? (fun x => x.la == w.la)) == some w

/-- The waiting writes in the order of R316: evacuated entries ahead, then earlier stamps. -/
def GalleySt.order (g : GalleySt) : List GWait :=
  (g.waiting.filter GWait.evac) ++ sortBy (fun x y => decide (x.stamp ≤ y.stamp)) (g.waiting.filter (fun w => !w.evac))

/-- The first waiting write that can be placed (R316). -/
def Dev.galleyNext (s : Dev) : Option GWait :=
  s.gal.order.find? (fun w => firstOfLine s.gal.order w && s.gal.fits (s.get .GALLEY_CFG_C0_RESERVE) w)

/-- GALLEY_WAIT_PLACE: the first waiting write that can be placed takes its way (R316). -/
def Dev.galleyPlace (s : Dev) : Dev :=
  match s.galleyNext with
  | none => s
  | some w => ({ s with gal := { s.gal with waiting := s.gal.waiting.erase w } }).galleyPut w

/-- A write of the owner still waits, so that what it belongs to is not durable (R28, R316). -/
def GalleySt.owes (g : GalleySt) (o : Owner) : Bool := g.waiting.any (fun w => w.owner == o)

/-- What the galley and its waiting writes lay over a line read from elsewhere (R317); a request
behind a waiting write sees that write (R316). -/
def GalleySt.overlay (g : GalleySt) (la : Nat) (v : LineVal) : LineVal :=
  let base := match g.find la with
    | some (_, e) => { data := v.data.merge e.data e.mask, poison := e.poison || (v.poison && e.mask != fullMask) }
    | none => v
  g.waiting.foldl (fun a w =>
    if w.la = la then { data := a.data.merge w.data w.mask, poison := w.poison || (a.poison && w.mask != fullMask) } else a) base

/-! ### Drain eligibility (R318) -/

/-- The bank's occupancy has reached HIGH_PCT of its entries (R318). -/
def GalleySt.high (g : GalleySt) (pct b : Nat) : Bool := decide (g.occ b * 100 ≥ pct * 8192)

/-- An entry may drain at cycle `now` (R318 to R320). -/
def GEntry.eligible (e : GEntry) (age now : Nat) (high : Bool) : Bool :=
  e.snap.isNone && decide (e.retryAt ≤ now) &&
  (high || decide (e.stamp / 4096 + max 1 age ≤ now))

/-- The entries of a bank that may drain, oldest first (R318). -/
def Dev.drainable (s : Dev) (b : Nat) : List (Nat × GEntry) :=
  let es := s.gal.entries.keep (fun k e => k / 8192 == b &&
    e.eligible (s.get .GALLEY_CFG_DRAIN_AGE) s.cal.cycle (s.gal.high (s.get .GALLEY_CFG_HIGH_PCT) b))
  sortBy (fun x y => decide (x.2.stamp ≤ y.2.stamp)) es

/-- A DRAIN reads its snapshot (R319). -/
def Dev.galleySnap (s : Dev) (k : Nat) : Dev :=
  { s with gal := { s.gal with entries := s.gal.entries.upd k (fun e => { e with snap := some (e.data, e.mask, e.poison) }) } }

/-- A drain's write has landed: the entry is freed, or kept for another drain (R319). -/
def Dev.galleyLanded (s : Dev) (k : Nat) : Dev :=
  match s.gal.entries.get? k with
  | none => s
  | some e =>
    let t := s.inc .GALLEY_DRAINS_DRAINS
    let kept := { e with redrain := false, snap := none, retryAt := s.cal.cycle + 1 }
    if e.redrain then
      ({ t with gal := { t.gal with entries := t.gal.entries.put k kept } }).inc .GALLEY_REDRAINS_REDRAINS
    else { t with gal := { t.gal with entries := t.gal.entries.del k } }

/-- A drain's write failed: the entry stays valid and may drain again at the next boundary (R320). -/
def Dev.galleyFailed (s : Dev) (k : Nat) : Dev :=
  { s with gal := { s.gal with entries := s.gal.entries.upd k (fun e => { e with
      snap := none, retryAt := s.cal.cycle + 1 }) } }

/-! ### Discards (R310, R320, R637) -/

/-- A discard drops the entries of the lines that satisfy a test, and the waiting writes stamped
before the boundary (R320, R637). -/
def Dev.galleyDrop (s : Dev) (p : Nat → Bool) : Dev :=
  { s with gal := { s.gal with entries := s.gal.entries.keep (fun _ e => !p e.la),
                               waiting := s.gal.waiting.filter (fun w => !p w.la) } }

/-! ### Loss of a bank (R314, R322) -/

/-- Banks in service, in ascending order. -/
def GalleySt.banks (g : GalleySt) : List Nat := (List.range 16).filter (fun b => !g.dead.testBit b)

/-- BANKMAP after a bank is retired: its values go to the banks in service (R314). -/
def GalleySt.remap (g : GalleySt) (b : Nat) : GalleySt :=
  let h := { g with dead := setBit g.dead b }
  let hs := h.banks
  if hs = [] then h
  else { h with bankmap := (List.range 256).foldl (fun m v =>
      if g.bankmap.getD v (v % 16) = b then m.put v (hs.getD ((v / 16) % hs.length) 0) else m) g.bankmap }

/-- `GALLEY_BANKS` (core domain). -/
def Dev.showGalley (s : Dev) : Dev :=
  s.set .GALLEY_BANKS_IN_SERVICE (maskOff (2 ^ 16 - 1) s.gal.dead)

/-- A galley bank is retired: it allocates nothing more, and its evacuation starts (R322). -/
def Dev.galleyRetire (s : Dev) (b : Nat) : Dev :=
  if s.gal.dead.testBit b then s
  else
    let g := s.gal.remap b
    ({ s with gal := { g with evac := g.evac.put b (0, 0) } }).showGalley

/-- One entry is read out of a retired bank and merges into its new bank, or waits there (R322). -/
def Dev.evacuateOne (s : Dev) (b k : Nat) (poison : Bool) : Dev :=
  match s.gal.entries.get? k with
  | none => s
  | some e =>
    let w : GWait :=
      { stamp := e.stamp, la := e.la, data := e.data, mask := if poison then fullMask else e.mask,
        cls := 0, owner := .own, evac := true, poison := e.poison || poison }
    let t := s.modGal fun g =>
      { g with entries := g.entries.del k,
               evac := g.evac.upd b (fun c => if poison then (c.1, c.2 + 1) else (c.1 + 1, c.2)) }
    if t.gal.fits 0 w then t.galleyPut w else t.galleyWait w

/-- The valid entries of a bank, in order of set and way. -/
def GalleySt.keysOf (g : GalleySt) (b : Nat) : List Nat := (g.entries.filter (fun e => e.1 / 8192 == b)).map Prod.fst

/-- A retired bank's READ and DRAIN entries evacuate `n` of its entries, in order of set and way (R322). -/
def Dev.evacuate (s : Dev) (b n : Nat) : Dev :=
  s.each ((s.gal.keysOf b).take n) (fun t k => t.evacuateOne b k false)

/-- A later write to a line that a retired bank still holds waits for its evacuation (R322), so the
line is evacuated first. -/
def Dev.evacuateLine (s : Dev) (la : Nat) : Dev :=
  match s.gal.find la with
  | some (k, _) => if s.gal.dead.testBit (k / 8192) then s.evacuateOne (k / 8192) k false else s
  | none => s

/-- A line of a retired bank fails its check during evacuation: it is poisoned (R322). -/
def Dev.evacuateBad (s : Dev) (la : Nat) : Dev :=
  match s.gal.find la with
  | some (k, _) => if s.gal.dead.testBit (k / 8192) then s.evacuateOne (k / 8192) k true else s
  | none => s

/-- A line becomes poisoned: it is logged once (R134). -/
def Dev.poisonLogged (s : Dev) (la unit : Nat) : Dev :=
  (s.post 0x4005 unit unit (la % 2 ^ 32) (la / 2 ^ 32)).set .INTEG_SUMMARY_POISON 1

/-- The fallback page takes effect: what a bank still holds is poisoned, each line logged that was not poisoned before (R134), and 0x7011 is
logged (R322). -/
def Dev.evacuateEnd (s : Dev) (b : Nat) : Dev :=
  let t := s.each (s.gal.keysOf b) fun u k =>
    match u.gal.entries.get? k with
    | some e => (u.evacuateOne b k true).when (!e.poison) (·.poisonLogged e.la (0x0A00 + b))
    | none => u
  let c := t.gal.evac.getD b (0, 0)
  (({ t with gal := { t.gal with evac := t.gal.evac.del b } }).set .GALLEY_STATUS_EVACUATED 1).post 0x7011
    (0x0A00 + b) b c.1 c.2

/-! ### Save and restore (R323, R324) -/

/-- The galley save image: the entries in order of bank, set and way (R323). -/
def GalleySt.toImage (g : GalleySt) : List (Nat × Line × Nat × Bool) :=
  g.entries.map (fun e => (e.2.la, e.2.data, e.2.mask, e.2.poison))

/-- Puts a saved entry back into its place with its stamp at cycle 0 (R324); where banks retired since leave it no free way, it waits for one as an
evacuated entry does (DEDUCED from R322). -/
def GalleySt.restore (g : GalleySt) (e : Nat × Line × Nat × Bool) : GalleySt :=
  match g.freeKey e.1 with
  | none =>
    let w : GWait := { stamp := 0, la := e.1, data := e.2.1, mask := e.2.2.1, cls := 0, owner := .own, evac := true, poison := e.2.2.2 }
    { g with waiting := g.waiting ++ [w] }
  | some k =>
    let n : GEntry :=
      { la := e.1, data := e.2.1, mask := e.2.2.1, poison := e.2.2.2, stamp := 0, redrain := false, snap := none,
        retryAt := 0 }
    { g with entries := g.entries.put k n }

/-- RECOVERING loads the image (R324). -/
def Dev.loadImage (s : Dev) : Dev :=
  { s with gal := s.gal.image.foldl GalleySt.restore { s.gal with entries := [], waiting := [] } }

end Sys2Proof.Machine
end

