-- ==== Sys2Proof/Machine/Journal.lean ====
section
/-!
DEFINITION. The map journal, its digest windows and the intent ring of 14_daybook.md and
15_twin_mirroring.md R460.
-/

namespace Sys2Proof.Machine

open Sys2Proof

/-- Granules of the map journal ring: 256 MiB (R432). -/
def ringGranules : Nat := 4194304

/-- Payload bytes of a granule (R433). -/
def granuleBytes : Nat := 56

/-- LEN of a record (R434). -/
def JBody.len : JBody → Nat
  | .map _ _ _ => 12
  | .homed _ _ _ _ => 15
  | .table _ _ b => 5 + b.length
  | .flash n => n
  | .zone _ _ _ => 12
  | .ckpt _ _ => 7
  | .ledgerMark _ => 4

/-- STATE as R277 encodes it. -/
def FState.code : FState → Nat
  | .unwritten => 0
  | .home => 1
  | .clean => 2
  | .dirty => 3
  | .staged => 4
  | .lost => 5

/-- HOME as the map holds it: all ones where none exists (R272). -/
def homeBits (h : Option Nat) : Nat := h.getD 0xFFFFFFFFF

/-- LOC as R272 holds it in bits [27:4], counted from bit 4. -/
def MapEntry.locBits (e : MapEntry) : Nat := match e.state with
  | .clean | .dirty => e.loc % 32
  | .staged => e.loc % 2 ^ 21
  | _ => 0

/-- A map entry's 64 bits (R272). -/
def MapEntry.bits (e : MapEntry) : Nat :=
  e.state.code + (if e.t0 then 8 else 0) + e.locBits * 16 + homeBits e.home * 2 ^ 28

/-- The body of a MAP record as a number (R434). -/
def mapBody (index : Nat) (isMeta : Bool) (e : MapEntry) : Nat :=
  index % 2 ^ 34 + b2n isMeta * 2 ^ 34 + e.state.code * 2 ^ 35 + b2n e.t0 * 2 ^ 38 + e.locBits * 2 ^ 39 +
    homeBits e.home * 2 ^ 60

/-- What a record adds to the journal digest; none for records that are not digested (R460). A MAP
record enters as bits [59:0] of its body, in 8 bytes (assumption 30). -/
def JBody.digest : JBody → Option (List Byte)
  | .map i m e => some (leBytes 8 (mapBody i m e % 2 ^ 60))
  | .table id n b => some (leBytes 1 id ++ leBytes 4 n ++ b)
  | .zone r z w => some (leBytes 4 r ++ leBytes 4 z ++ leBytes 4 w)
  | _ => none

/-- Granules placed, the last perhaps in part. -/
def JournalSt.granules (j : JournalSt) : Nat := ceilDiv j.pos granuleBytes

/-- Granules in the tail (R435). -/
def JournalSt.tail (j : JournalSt) : Nat := j.granules - j.ring

/-- The first granule that the retained records need (R436). -/
def JournalSt.oldest (j : JournalSt) : Nat := match j.recs with
  | [] => j.ring
  | r :: _ => min (r.first / granuleBytes) j.ring

/-- Retained ring granules (R436). -/
def JournalSt.retained (j : JournalSt) : Nat :=
  (j.recs.foldl (fun (a : Nat × Nat) r =>
    let lo := max (r.first / granuleBytes) a.2
    let hi := min ((r.last - 1) / granuleBytes + 1) j.ring
    (a.1 + (hi - lo), max a.2 hi)) (0, 0)).1

/-- Whole stripes of the tail that the ring has room for (R435, R436). -/
def JournalSt.flushable (j : JournalSt) : Nat :=
  min ((j.pos / granuleBytes - j.ring) / 3) ((j.oldest + ringGranules - j.ring) / 3) * 3

/-- The tail writes its full stripes to the ring (R435). -/
def JournalSt.flush (j : JournalSt) : JournalSt := { j with ring := j.ring + j.flushable }

/-- A record that ends at a position lies whole in the tail or the ring (R435). -/
def JournalSt.journaled (j : JournalSt) (last : Nat) : Bool :=
  decide ((last - 1) / granuleBytes < j.ring + 64)

/-- Appends a record (R433). -/
def JournalSt.append (j : JournalSt) (b : JBody) (u : Undo) : JournalSt :=
  let r : JRec := { first := j.pos, last := j.pos + 2 + b.len, body := b, undo := u }
  ({ j with pos := r.last, recs := j.recs ++ [r] }).flush

/-- One byte into the CRC state of a window. -/
def crcFeed (c : Nat) (bs : List Byte) : Nat := bs.foldl (crcByte 0xC96C5795D7870F42) c

/-- A digest from a CRC state (R460). -/
def crcClose (c : Nat) : Nat := c ^^^ (2 ^ 64 - 1)

/-- A record enters the journal digest, from the OSEQ at which the windows start; at 4,096 records the window closes (R460, R461, R482). -/
def Dev.digestRec (s : Dev) (b : JBody) : Dev := match b.digest with
  | none => s
  | some bs =>
    if s.twin.oseq < s.twin.digestFrom then s else
    let c := crcFeed s.twin.jcrc bs
    if s.twin.jcount + 1 < 4096 then s.modTwin fun w => { w with jcrc := c, jcount := w.jcount + 1 }
    else
      let pair := s.bit .TWIN_STATUS_PAIRED
      s.modTwin fun w =>
        { w with jcrc := 2 ^ 64 - 1, jcount := 0, jwin := w.jwin + 1, jfrom := w.oseq,
                 own := if pair then w.own.put (w.jwin * 2 + 1) (crcClose c) else w.own,
                 jspans := if pair then w.jspans.put w.jwin (w.jfrom, w.oseq) else w.jspans,
                 jsend := if pair then w.jsend ++ [w.jwin * 2 + 1] else w.jsend }

/-- Journals a record (R435). One that finds ring and tail full waits for a granule: the wait is
counted and logged (R436). -/
def Dev.journal (s : Dev) (b : JBody) (u : Undo := .nothing) (cls : Nat := 3) : Dev :=
  let t := (s.modJrn (·.append b u)).digestRec b
  if t.jrn.journaled t.jrn.pos then t
  else (t.inc .DB_JOURNAL_WAITS_WAITS).post 0xD003 0 t.jrn.retained t.jrn.tail cls

/-- Every record so far is journaled: a verb's answer may go (R208, R436). -/
def Dev.journalClear (s : Dev) : Bool := s.jrn.journaled s.jrn.pos

/-- The record is retained no longer once a map or directory page is home through its granule (R275). -/
def JRec.coveredBy (r : JRec) (page through : Nat) : Bool := match r.body with
  | .map i false _ => i / 512 == page && decide ((r.last - 1) / granuleBytes ≤ through)
  | _ => false

/-- A page is home in T2: HOMED is journaled and the records it covers are released (R275, R434). -/
def Dev.journalHomed (s : Dev) (page home through : Nat) : Dev :=
  let t := s.modJrn fun j =>
    { j with homed := j.homed.put page (home, through), recs := j.recs.filter (fun r => !r.coveredBy page through) }
  t.journal (.homed page (decide (page ≥ 2 ^ 31)) home through)

/-- Records that a complete checkpoint of a kind covers (R274, R363). -/
def JRec.checkpointed (r : JRec) (kind gseq : Nat) : Bool :=
  decide ((r.last - 1) / granuleBytes ≤ gseq) && match r.body with
    | .table _ _ _ | .zone _ _ _ => kind == 2
    | .flash _ => kind == 1
    | .ckpt _ _ | .ledgerMark _ | .homed _ _ _ _ => true
    | .map _ _ _ => false

/-- A checkpoint or root version is complete: CKPT is journaled and the records it covers are released. -/
def Dev.journalCkpt (s : Dev) (kind : Nat) : Dev :=
  let g := s.jrn.granules
  (s.modJrn fun j => { j with recs := j.recs.filter (fun r => !r.checkpointed kind g) }).journal (.ckpt kind g)

/-- `DB_STATUS.JOURNAL_HIGH`: retained granules reach 75 % of the ring (R436). -/
def JournalSt.high (j : JournalSt) : Bool := decide (j.retained * 4 ≥ ringGranules * 3)

/-- `DB_STATUS.JOURNAL_FULL`: no free granule in the ring or the tail (R436). -/
def JournalSt.full (j : JournalSt) : Bool :=
  decide (j.tail ≥ 64) || decide (j.ring - j.oldest ≥ ringGranules)

/-- The Vigil writes out the tail and pads its last granule (R435). -/
def Dev.journalSeal (s : Dev) : Dev :=
  s.modJrn fun j => { j with pos := j.granules * granuleBytes, ring := j.granules }

/-! ### Loss of the tail (R233, R435, R437) -/

/-- Brings back what a record of the tail replaced. -/
def Dev.undo (s : Dev) : Undo → Dev
  | .map f old => s.modTier fun t => { t with map := match old with | some e => t.map.put f e | none => t.map.del f }
  | .pd n old => s.modRgn fun t => { t with pds := match old with | some e => t.pds.put n e | none => t.pds.del n }
  | .region n old => s.modRgn fun t => { t with regions := match old with | some e => t.regions.put n e | none => t.regions.del n }
  | .baseGen old => s.modRgn fun t => { t with baseGen := old }
  | .zone k old => s.modRgn fun t => { t with zones := match old with | some e => t.zones.put k e | none => t.zones.del k }
  | .extent n old => s.modKeys fun t => { t with extents := match old with | some e => t.extents.put n e | none => t.extents.del n }
  | .queue n old => s.modDq fun t => match old with | some e => t.put n e | none => t.del n
  | .domain n old => s.modKeys fun t => { t with domains := match old with | some e => t.domains.put n e | none => t.domains.del n }
  | .nothing => s

/-- The tail is lost: the records that do not lie whole in the ring never were (R435, R437). -/
def Dev.journalCut (s : Dev) : Dev :=
  let gone := s.jrn.recs.filter (fun r => decide (r.last > s.jrn.ring * granuleBytes))
  let t := s.each gone.reverse (fun u r => u.undo r.undo)
  t.modJrn fun j =>
    { j with recs := j.recs.filter (fun r => decide (r.last ≤ j.ring * granuleBytes)), pos := j.ring * granuleBytes }

/-! ### Intents (R441, R442) -/

/-- Granules of the intent ring, in whole stripes (R441, R443). -/
def intentRing : Nat := 3 * 349525

/-- Puts an intent entry into the batch to come: 1 OPEN, 2 CLOSED, 3 MARK; object; page. -/
def Dev.intent (s : Dev) (kind obj page : Nat) : Dev :=
  s.modJrn fun j => { j with due := j.due ++ [(kind, obj, page)] }

/-- The entries in force after one more entry, which granule `g` holds (R442): an OPEN until its CLOSED, and the newest MARK of a band until its
close. -/
def intentForce (fs : List (Nat × Nat × Nat × Nat)) (e : Nat × Nat × Nat) (g : Nat) : List (Nat × Nat × Nat × Nat) :=
  let kind := if e.1 = 3 then 3 else 1
  let rest := fs.filter (fun x => !(x.1 == kind && x.2.1 == e.2.1))
  if e.1 = 2 ∨ (e.1 = 3 ∧ e.2.2 = 0xFFFF) then rest else rest ++ [(e.1, e.2.1, e.2.2, g)]

/-- Entries in force that a stripe holds, which the batch that overwrites it copies first (R442); `n`: the ISEQ of the stripe's first granule when
it was last written. -/
def JournalSt.inStripe (j : JournalSt) (n : Nat) : List (Nat × Nat × Nat) :=
  (j.force.filter fun e => decide (n ≤ e.2.2.2 ∧ e.2.2.2 < n + 3)).map fun e => (e.1, e.2.1, e.2.2.1)

/-- Entries due that a batch may take, in order: a CLOSED entry waits until the erase count is journaled (R383, R441). -/
def JournalSt.ready (j : JournalSt) : List (Nat × Nat × Nat) := j.due.takeWhile fun e => e.1 != 2 || j.journaled j.pos

/-- The batch to come: its stripes, 1 or 2, the copies that go ahead, and the new entries, 42 entries at most (R441, R442). -/
def JournalSt.batch (j : JournalSt) : Nat × List (Nat × Nat × Nat) × List (Nat × Nat × Nat) :=
  let old (n : Nat) := if n < intentRing then [] else j.inStripe (n - intentRing)
  let one := old j.iseq
  let two := one ++ old (j.iseq + 3)
  if one.length + j.ready.length ≤ 21 then (1, one, j.ready) else (2, two, j.ready.take (42 - two.length))

/-- A batch is written: entry k lies in granule k / 7 of it. -/
def JournalSt.writeBatch (j : JournalSt) (cycle : Nat) : JournalSt :=
  let (n, copies, new) := j.batch
  { j with due := j.due.drop new.length,
           force := ((copies ++ new).foldl (fun (a : List (Nat × Nat × Nat × Nat) × Nat) e => (intentForce a.1 e (j.iseq + a.2 / 7), a.2 + 1)) (j.force, 0)).1,
           batchAt := some cycle, iseq := j.iseq + 3 * n }

/-- INTENT_BATCH: at most one batch of at most 42 entries in any 16 cycles (R441). -/
def Dev.intentBatch (s : Dev) : Dev :=
  let free := match s.jrn.batchAt with
    | none => true
    | some c => decide (s.cal.cycle ≥ c + 16)
  if free = true ∧ s.jrn.ready ≠ [] then s.modJrn (·.writeBatch s.cal.cycle) else s

/-- The OPEN entry of a member has been written, for the erase at hand (R441). -/
def JournalSt.opened (j : JournalSt) (obj : Nat) : Bool :=
  j.force.any (fun e => e.1 == 1 && e.2.1 == obj) && !j.due.any (fun e => e.1 != 3 && e.2.1 == obj)

/-- JOURNAL_WAIT: a request of a class needs a record while ring or tail has no free granule (R436). -/
def Dev.journalWait (s : Dev) (cls : Nat) : Dev :=
  if s.jrn.full then (s.inc .DB_JOURNAL_WAITS_WAITS).post 0xD003 0 s.jrn.retained s.jrn.tail cls else s

/-! ### Commands -/

/-- JOURNAL_WAIT (R436). -/
def execJournalWait (cls : Nat) (w : State) : Host.Outcome State Fault Refusal := finish w fun s => (s.journalWait cls)

/-- INTENT_BATCH (R441). -/
def execIntentBatch (w : State) : Host.Outcome State Fault Refusal := finish w fun s => s.intentBatch

end Sys2Proof.Machine
end

