-- ==== Sys2Proof/Machine/KeyOps.lean ====
section
/-!
DEFINITION. The key store's shared operations of 16_cipher_and_keys.md: slots, blobs, usage, domains,
destruction and the start of a rekey.
-/

namespace Sys2Proof.Machine

open Sys2Proof

/-- A key slot (R497). -/
def KeySt.slot (k : KeySt) (n : Nat) : KeySlot := k.slots.getD n KeySlot.none

/-- A key domain (R508). -/
def KeySt.dom (k : KeySt) (d : Nat) : KeyDomain := k.domains.getD d KeyDomain.none

/-- The key domain of a folio (R206): 64 MiB extents of 16,384 folios. -/
def KeySt.domainOf (k : KeySt) (folio : Nat) : Nat := k.extents.getD (folio / 16384) 0

/-- Slots 0 to 5,460 are non-volatile (R497). -/
def nvSlots : Nat := 5461

/-- Slots of the key store (R497). -/
def allSlots : Nat := 8192

/-- Changes a slot; an EMPTY slot is not listed. -/
def KeySt.putSlot (k : KeySt) (n : Nat) (v : KeySlot) : KeySt :=
  { k with slots := if v.state = .empty then k.slots.del n else k.slots.put n v }

/-- Writes the blob of an NV slot, with its usage as the checkpoint (R502, R503). -/
def KeySt.putBlob (k : KeySt) (n : Nat) : KeySt :=
  if n < nvSlots then
    let v := k.slot n
    if v.state = .empty then { k with blobs := k.blobs.del n }
    else
      let w := { v with serial := v.serial + 1 }
      { k with slots := k.slots.put n w, blobs := k.blobs.put n w }
  else k

/-- The lowest EMPTY slot of a class (R507, R515). -/
def KeySt.lowestEmpty (k : KeySt) (nv : Bool) : Option Nat :=
  if nv then k.slots.firstGap 0 nvSlots else (k.slots.keep (fun n _ => decide (n ≥ nvSlots))).firstGap nvSlots allSlots

/-- STATE of a domain as R508 encodes it. -/
def DState.code : DState → Nat
  | .unkeyed => 0
  | .keyed => 1
  | .rekeying => 2
  | .purging => 3
  | .keyLost => 4

/-- STATE of a slot as R499 encodes it. -/
def KState.code : KState → Nat
  | .empty => 0
  | .active => 1
  | .decryptOnly => 2
  | .lost => 3

/-- A domain that seals (R508, R509). -/
def KeyDomain.serves (d : KeyDomain) : Bool := d.state == .keyed || d.state == .rekeying

/-- The entry of a domain in a TABLE record: STATE, slots and epochs in order (R508, assumption 31). -/
def KeyDomain.bytes (d : KeyDomain) : List Byte :=
  leBytes 1 d.state.code ++ leBytes 2 d.curSlot ++ leBytes 4 d.curEpoch ++ leBytes 2 d.prevSlot ++ leBytes 4 d.prevEpoch

/-- Changes a domain's entry and journals it (R508). -/
def Dev.setDomain (s : Dev) (d : Nat) (v : KeyDomain) : Dev :=
  let old := s.keys.domains.get? d
  (s.modKeys fun k => { k with domains := k.domains.put d v }).journal (.table 0xB0 d v.bytes) (.domain d old)

/-- `n` draws from the DRBG (R495): it reseeds after 2²⁰ generate requests while the source is good. -/
def Dev.draw (s : Dev) : Dev :=
  let t := s.modKeys fun k => { k with draws := k.draws + 1 }
  if t.keys.draws ≥ 2 ^ 20 ∧ s.bit .CIPHER_STATUS_ENTROPY_FAIL = false then
    (t.modKeys fun k => { k with draws := 0 }).inc .ENTROPY_RESEEDS_RESEEDS
  else t

/-- A value of `w` bits from the DRBG (R495): a free value (assumption 2). -/
def Dev.random (s : Dev) (w : Nat) : Nat × Dev := (s.freeVal w, s.drawn.draw)

/-! ### Keys in the cores (R500) -/

/-- The KDF in counter mode of NIST SP 800-108r1 with AES-256-CMAC (R500): 256 bits under a key and a label. The counter, the 0 byte and the length
field have the widths of that publication's example (assumption 133). -/
def kdf (key : Nat) (label : List Byte) : Nat :=
  [1, 2].foldl (fun a i => a * 2 ^ 128 + Config.cmac key ([0, 0, 0, BitVec.ofNat 8 i] ++ label ++ [0, 0, 0, 1, 0]) % 2 ^ 128) 0

/-- The keys that a core takes of a slot: the XTS data key, the XTS tweak key and the CMAC key of an AT_REST slot (labels KYXD, KYXT, KYMC), or the
slot's own key (R500). -/
def KeySlot.loaded (v : KeySlot) : List Nat :=
  if v.kind = 1 then [kdf v.key [0x4B, 0x59, 0x58, 0x44], kdf v.key [0x4B, 0x59, 0x58, 0x54], kdf v.key [0x4B, 0x59, 0x4D, 0x43]] else [v.key]

/-- KEY_LOAD entries that loading a slot takes: 8 B an entry, 32 B a key (R500). -/
def KeySlot.entries (v : KeySlot) : Nat := 4 * v.loaded.length

/-- Cluster 6 serves for a retired one (R122, R493). -/
def Dev.spareClusterFor (s : Dev) : Option Nat :=
  if s.keys.deadClusters.testBit 6 then none else (s.cal.spared.find? fun e => decide (0x58 ≤ e.2 ∧ e.2 < 0x5C)).map fun e => (e.1 - 0x40) / 4

/-- Cores in service, ascending (R489, R491). -/
def Dev.coresUp (s : Dev) : List Nat :=
  (List.range 28).filter fun c => if c / 4 = 6 then s.spareClusterFor.isSome else !s.keys.deadClusters.testBit (c / 4)

/-- The core that takes an engine's next stream: the core in service after the one it used last (R491); the first is core 0 (assumption 133). -/
def Dev.nextCore (s : Dev) (engine : Nat) : Option Nat :=
  let up := s.coresUp
  match s.keys.lastCore.get? engine with
  | none => up.head?
  | some l => (up.find? fun c => decide (c > l)).or up.head?

/-- The keys of a core. -/
def KeySt.core (k : KeySt) (c : Nat) : CoreKeys := k.cores.getD c ⟨[], []⟩

/-- A stream of an engine uses a slot (R491, R500): the core that it is assigned to has the key ready, as the one used last, or waits to load it. -/
def Dev.useKey (s : Dev) (engine n : Nat) : Dev :=
  match s.nextCore engine with
  | none => s
  | some c =>
    let k := s.keys.core c
    let next : CoreKeys :=
      if k.held.contains n then { k with held := n :: k.held.erase n }
      else if k.wants.any (fun e => e.1 == n) then k
      else { k with wants := k.wants ++ [(n, (s.keys.slot n).entries)] }
    s.modKeys fun x => { x with cores := x.cores.put c next, lastCore := x.lastCore.put engine c }

/-- A core takes `ticks` KEY_LOAD entries (R500): each slot loaded takes the place of the one used least recently. Answers the core and the keys loaded
whole. -/
def CoreKeys.load (k : CoreKeys) (ticks : Nat) : List (Nat × Nat) → CoreKeys × List Nat
  | [] => (k, [])
  | (n, need) :: rest =>
    if need ≤ ticks then
      let (x, l) := CoreKeys.load { held := (n :: k.held).take 4, wants := rest } (ticks - need) rest
      (x, n :: l)
    else ({ k with wants := (n, need - ticks) :: rest }, [])

/-- Streams queued on a retired core start again on the spare that takes its place (R493). -/
def KeySt.moveStreams (k : KeySt) (a b : Nat) : KeySt :=
  let again := (k.core a).wants.map fun e => (e.1, (k.slot e.1).entries)
  { k with cores := (k.cores.del a).put b { k.core b with wants := (k.core b).wants ++ again } }

/-- A slot's keys leave every core. -/
def KeySt.forget (k : KeySt) (n : Nat) : KeySt :=
  { k with cores := k.cores.map fun e => (e.1, { held := e.2.held.erase n, wants := e.2.wants.filter fun w => w.1 != n }) }

/-- Zeroes a slot in the store, the cores and both copies of its blob (R512). -/
def Dev.destroySlot (s : Dev) (n : Nat) : Dev :=
  let v := s.keys.slot n
  if v.state = .empty then s
  else
    let t := s.modKeys fun k => { ((k.forget n).putSlot n KeySlot.none) with blobs := k.blobs.del n }
    t.post 0xB006 0 n v.kind (b2n (decide (n < nvSlots)))

/-- Puts a key into a slot with its usage at 0 (R506, R515). -/
def Dev.installKey (s : Dev) (n : Nat) (v : KeySlot) (how : Nat) : Dev :=
  (s.modKeys fun k => (k.putSlot n v).putBlob n).post 0xB00C 0 n v.kind how

/-- A rekey of a domain into a slot waits for the next boundary (R511). -/
def Dev.queueRekey (s : Dev) (d slot : Nat) : Dev :=
  s.modKeys fun k =>
    { (k.putSlot slot { k.slot slot with domain := some d }).putBlob slot with starts := k.starts ++ [(d, slot)] }

/-- A domain has a rekey that has not completed, or one due. -/
def KeySt.busy (k : KeySt) (d : Nat) : Bool := (k.dom d).state == .rekeying || k.starts.any (fun e => e.1 == d)

/-- FORCED_REKEY: a rekey of a domain by the device itself (R507, R511): a generated key in the lowest
EMPTY NV slot; where there is none, or a rekey runs, it waits. The new slot takes LIMIT and AUTO_PCT of
the old one (assumption 32). -/
def Dev.forceRekey (s : Dev) (d : Nat) : Dev :=
  let e := s.keys.dom d
  let wait (t : Dev) : Dev := t.modKeys fun k => { k with waits := if k.waits.contains d then k.waits else k.waits ++ [d] }
  if e.serves = false then s
  else if e.curEpoch = 0xFFFFFFFF then (if s.keys.waits.contains d then s else wait (s.post 0xB003 0 e.curSlot 1 d))
  else if s.keys.busy d then wait s
  else match s.keys.lowestEmpty true with
    | none => wait s
    | some n =>
      let old := s.keys.slot e.curSlot
      let (key, t) := s.random 256
      let v : KeySlot :=
        { KeySlot.none with state := .active, kind := 1, key := key, limit := old.limit, autoPct := old.autoPct }
      ((t.installKey n v 0).queueRekey d n).modKeys fun k => { k with waits := k.waits.erase d }

/-- Forced rekeys that wait are tried again (R507). -/
def Dev.retryRekeys (s : Dev) : Dev := s.each s.keys.waits (fun t d => t.forceRekey d)

/-- The boundary starts the rekeys that are due (R511 step 2); a domain that KD_KEY named is KEYED (R515). -/
def Dev.startRekeys (s : Dev) : Dev :=
  let go := s.keys.starts
  s.each go fun t e =>
    let d := t.keys.dom e.1
    let u := t.modKeys fun k => { k with starts := k.starts.erase e }
    if d.state = .unkeyed then
      u.setDomain e.1 { state := .keyed, curSlot := e.2, curEpoch := d.curEpoch + 1, prevSlot := 0, prevEpoch := 0 }
    else
      let v : KeyDomain :=
        { state := .rekeying, curSlot := e.2, curEpoch := d.curEpoch + 1, prevSlot := d.curSlot, prevEpoch := d.curEpoch }
      ((u.setDomain e.1 v).modKeys fun k => { k with scans := k.scans.put e.1 (0, 0) }).post 0xB004 0 e.1 v.curEpoch e.2

/-- A slot's usage has reached a percentage of LIMIT. -/
def KeySlot.reached (v : KeySlot) (pct : Nat) : Bool := decide (v.usage * 100 ≥ v.limit * pct)

/-- USAGE_THRESHOLD: what crossing 90 %, AUTO_PCT or LIMIT does to a slot (R503, R505, R507). `before`
is the slot before it was used. -/
def Dev.usageCrossed (s : Dev) (n : Nat) (before : KeySlot) : Dev :=
  let v := s.keys.slot n
  let cross (p : Nat) : Bool := v.reached p && !before.reached p
  let auto := if v.autoPct = 0 then 100 else v.autoPct
  let s1 := s.when (cross 90) fun t => (t.post 0xB001 0 n v.kind (v.usage / 65536)).set .CIPHER_STATUS_USAGE90_SEEN 1
  let s2 := s1.when (cross 100) fun t =>
    ((t.modKeys fun k => k.putSlot n { v with state := .decryptOnly }).post 0xB002 0 n v.kind 0).set .CIPHER_STATUS_USAGE100_SEEN 1
  let s3 := s2.when (cross auto || cross 100 || v.usage / 2 ^ 36 != before.usage / 2 ^ 36) fun t => t.modKeys fun k => k.putBlob n
  match v.domain with
  | some d => if cross auto ∧ v.kind = 1 then s3.forceRekey d else s3
  | none => s3

/-- An encrypting stream of `blocks` blocks on a slot, from an engine (R503, R505): refused, and counted, unless the
slot is ACTIVE. -/
def Dev.encrypt (s : Dev) (n blocks : Nat) (engine : Nat := 2) : Dev × Bool :=
  let v := s.keys.slot n
  if v.state = .active then
    let t := (s.useKey engine n).modKeys fun k => k.putSlot n { v with usage := min (v.usage + blocks) v.limit }
    (t.usageCrossed n v, true)
  else
    let t := s.inc .KEY_ENC_REFUSED_REFUSED
    if v.refusedSeen ∨ v.state = .empty then (t, false)
    else ((t.modKeys fun k => k.putSlot n { v with refusedSeen := true }).post 0xB003 0 n v.kind (v.domain.getD 0xFFFF), false)

/-- Blocks that sealing one folio counts (R503). -/
def sealBlocks : Nat := 516

/-- Seals a folio of a domain (R510): the state after, and its EPOCH; none where the stream is refused. -/
def Dev.sealFolio (s : Dev) (folio : Nat) : Dev × Option Nat :=
  let d := s.keys.dom (s.keys.domainOf folio)
  if d.serves then
    let (t, ok) := s.encrypt d.curSlot sealBlocks
    (t, if ok then some d.curEpoch else none)
  else (s, none)

/-- An image of an EPOCH opens now under its domain (R510). -/
def KeySt.opens (k : KeySt) (folio epoch : Nat) : Bool :=
  let d := k.dom (k.domainOf folio)
  let good (n : Nat) : Bool := let st := (k.slot n).state; st == .active || st == .decryptOnly
  match d.state with
  | .keyed => epoch == d.curEpoch && good d.curSlot
  | .rekeying => (epoch == d.curEpoch && good d.curSlot) || (epoch == d.prevEpoch && good d.prevSlot)
  | _ => false

/-- An image of an EPOCH is opened: its slot's keys are used (R500, R510). -/
def Dev.useImageKey (s : Dev) (folio epoch : Nat) : Dev :=
  let d := s.keys.dom (s.keys.domainOf folio)
  if d.serves then s.useKey 2 (if epoch = d.curEpoch then d.curSlot else d.prevSlot) else s

/-- `CIPHER_STATUS.REKEY_ACTIVE`. -/
def KeySt.rekeyActive (k : KeySt) : Bool := k.domains.any (fun e => e.2.state == .rekeying)

end Sys2Proof.Machine
end

