-- ==== Sys2Proof/Machine/Recorder.lean ====
section
/-!
DEFINITION. The event recorder of 20_event_recorder.md: staging to ring, archive, cursor and clear.
-/

namespace Sys2Proof.Machine

open Sys2Proof

/-- OLDEST: the later of HEAD − 65,536 and the clear point (R599, R603). -/
def Recorder.oldest (r : Recorder) : Nat :=
  if serialDist 32 r.clearPoint r.head > 65536 then (r.head + 2 ^ 32 - 65536) % 2 ^ 32 else r.clearPoint

/-- Operating time now, 0.1 s, saturating (R594). -/
def Recorder.opTime (r : Recorder) : Nat := sat32 (r.opBase + r.islandMs / 100)

/-- The eight words of a record in the layout of R591. -/
def EvRec.words (e : EvRec) : List Nat :=
  [e.seq, e.code + e.unit * 65536, e.time, e.cycle + e.flags * 2 ^ 24,
   e.rep + e.suppressed * 65536, e.p0, e.p1, e.p2]

/-- The record at a SEQ of the ring; none where the slot does not hold it (R599). -/
def Recorder.ringAt (r : Recorder) (seq : Nat) : Option EvRec :=
  (r.ring.get? (seq % 65536)).filter (fun e => e.seq == seq % 2 ^ 32)

/-- The record at a SEQ of the archive (R601). -/
def Recorder.archiveAt (r : Recorder) (seq : Nat) : Option EvRec :=
  match r.archive.get? (seq / 128 % 65536) with
  | some seg => ((seg[seq % 128]?).join).filter (fun e => e.seq == seq % 2 ^ 32)
  | none => none

/-- Writes the pending REPEAT of the newest record to the ring (R595). -/
def Recorder.flushRepeat (r : Recorder) : Recorder :=
  match r.newest with
  | some e =>
    if e.rep = r.newestRep then r else { r with ring := r.ring.put (e.seq % 65536) { e with rep := r.newestRep } }
  | none => r

/-- FLAGS of the record of a posting written now (R591). -/
def recFlags (gap timeEst vigil : Bool) : Nat := 0x80 + b2n gap + 2 * b2n timeEst + 4 * b2n vigil

/-- The record that a posting becomes (R591 to R594). -/
def Dev.recordOf (s : Dev) (p : Posting) : EvRec :=
  { seq := s.evt.head, code := p.code, unit := p.unit, time := sat32 (s.evt.opBase + p.at_),
    cycle := s.get .PWR_CYCLES_COUNT,
    flags := recFlags s.evt.gapDue (s.bit .CLK_STATE_XTAL_FAIL) (p.vigil || s.modeOf == mHOLDUP),
    rep := p.rep, suppressed := p.suppressed, p0 := p.p0, p1 := p.p1, p2 := p.p2 }

/-- The recorder after a record is written from the head of the queue. -/
def Recorder.wrote (r : Recorder) (e : EvRec) (rest : List Posting) : Recorder :=
  let f := r.flushRepeat
  { f with ring := f.ring.put (e.seq % 65536) e, head := (e.seq + 1) % 2 ^ 32, staging := rest,
           newestRep := e.rep, gapDue := false, burst := r.burst - 1,
           lostFirst := if r.gapDue then some e.seq else r.lostFirst }

/-- ARCH_NEXT passes a segment; the archive holds the latest 65,536 (R601). -/
def Recorder.pastSegment (r : Recorder) : Recorder :=
  let next := (r.archNext + 128) % 2 ^ 32
  { r with archNext := next, archBusy := none,
           archOldest := if serialDist 32 r.archOldest next > 8388608 ∧ serialLt 32 r.archOldest next then (next + 2 ^ 32 - 8388608) % 2 ^ 32 else r.archOldest }

/-- A segment of which a record has been overwritten before it was archived is lost (R601). -/
def Dev.archiveOverrun (s : Dev) : Dev :=
  if serialDist 32 s.evt.archNext s.evt.head > 65536 then
    ((({ s with evt := s.evt.pastSegment }).inc .EVT_ARCH_LOST_ARCH_LOST 128).set
      .EVT_STATUS_ARCH_GAP_SEEN 1).post 0xC012 0 s.evt.archNext 128 0
  else s

/-- Once the queue has drained after losses, 0xC011 is posted (R597). -/
def Dev.reportLost (s : Dev) : Dev :=
  if s.evt.staging = [] ∧ s.evt.lostRun ≠ 0 then
    ({ s with evt := { s.evt with lostRun := 0, lostFirst := none } }).post 0xC011 0 s.evt.lostRun
      (s.evt.lostFirst.getD s.evt.head) 0
  else s

/-- RECORD_WRITE: moves the head of the staging queue to the ring with the next SEQ, at the rate of
R597; before the ring is in use nothing moves (R597 to R600, R604). -/
def Dev.recordWrite (s : Dev) : Dev :=
  match s.evt.staging with
  | [] => s
  | p :: rest =>
    if s.bit .EVT_STATUS_RUNNING = false ∨ s.evt.burst = 0 then s
    else
      let e := s.recordOf p
      let s1 := ({ s with evt := s.evt.wrote e rest }).inc .EVT_WRITTEN_WRITTEN
      let s2 := s1.when s.evt.gapDue (·.set .EVT_STATUS_GAP_SEEN 1)
      let s3 := s2.when ((s.get .EVT_NOTIFY_AREAS).testBit (p.code / 4096)) (·.set .EVT_STATUS_NOTIFIED 1)
      s3.archiveOverrun.reportLost

/-- RATE_WINDOW_CLOSE: the window of a code ends, and one closing record follows where anything was
withheld (R596). -/
def Dev.closeWindow (s : Dev) (code : Nat) : Dev :=
  match s.evt.windows.get? code with
  | none => s
  | some w =>
    let r := { s.evt with windows := s.evt.windows.del code }
    match w.last with
    | some p => { s with evt := r.stage (s.bit .EVT_STATUS_RUNNING) { p with suppressed := min w.withheld 65535 } }
    | none => { s with evt := r }

/-- REPEAT_FLUSH: the REPEAT folded so far is written (R595). -/
def Dev.repeatFlush (s : Dev) : Dev := { s with evt := s.evt.flushRepeat }

/-- The 128 slots of the segment that starts at a SEQ (R601). -/
def Recorder.segment (r : Recorder) (first : Nat) : List (Option EvRec) :=
  (List.range 128).map (fun j => r.ringAt ((first + j) % 2 ^ 32))

/-- A segment is complete and waits to be archived (R601). -/
def Recorder.archiveDue (r : Recorder) : Bool := r.archOn && r.archBusy.isNone && decide (serialDist 32 r.archNext r.head ≥ 128)

/-- The folio of the segment being written is committed at a T2 slot (R601): the segment is archived. -/
def Recorder.archived (r : Recorder) (h : Nat) : Recorder :=
  match r.archBusy with
  | some (first, x, seg) =>
    if x = h then
      ({ r with archive := r.archive.put (first / 128 % 65536) seg, archAt := r.archAt.put (first / 128 % 65536) h } : Recorder).pastSegment
    else r
  | none => r

/-- An archived segment, or the one being written, is found at another T2 slot from now on (R363, R381). -/
def Recorder.archiveMoves (r : Recorder) (h h2 : Nat) : Recorder :=
  { r with archAt := r.archAt.map fun e => if e.2 = h then (e.1, h2) else e,
           archBusy := r.archBusy.map fun b => if b.2.1 = h then (b.1, h2, b.2.2) else b }

/-- An archived segment whose folio is gone. -/
def Recorder.archiveGone (r : Recorder) (m : Nat) : Recorder := { r with archive := r.archive.del m, archAt := r.archAt.del m }

/-- The queue of the power-protected domain is lost with rail 12 (R600): the next record written says so. -/
def Recorder.dropQueue (r : Recorder) : Recorder := { r with staging := [], gapDue := r.gapDue || !r.staging.isEmpty }

/-- EVT_CURSOR: a snapshot is asked for; READY falls and the window keeps its contents (R602). -/
def Dev.cursor (s : Dev) (seq : Nat) : Dev :=
  let t := s.setL [(.EVT_CURSOR_SEQ, seq), (.EVT_WIN_STATUS_READY, 0)]
  { t with evt := { t.evt with cursorPending := some (seq % 2 ^ 32) } }

/-- Where a SEQ is looked up for a snapshot (R602): the ring, the archive, or nowhere. -/
def Recorder.lookup (r : Recorder) (seq : Nat) : Option EvRec :=
  if serialDist 32 r.oldest seq < serialDist 32 r.oldest r.head then r.ringAt seq
  else if serialDist 32 r.archOldest seq < serialDist 32 r.archOldest r.oldest then r.archiveAt seq
  else none

/-- A SEQ lies in the archived range and no longer in the ring. -/
def Recorder.inArchive (r : Recorder) (seq : Nat) : Bool :=
  decide (¬ serialDist 32 r.oldest seq < serialDist 32 r.oldest r.head ∧
          serialDist 32 r.archOldest seq < serialDist 32 r.archOldest r.oldest)

/-- Completes a cursor snapshot that waits (R602): the window, VALID, GONE, ARCHIVE and READY. -/
def Dev.finishCursor (s : Dev) : Dev :=
  match s.evt.cursorPending with
  | none => s
  | some seq =>
    let seqs := (List.range 8).map (fun j => (seq + j) % 2 ^ 32)
    let found := seqs.map s.evt.lookup
    let words := found.flatMap (fun o => (o.map EvRec.words).getD (List.replicate 8 0))
    let t := s.each (words.zipIdx) (fun a w => a.set (.EVT_WINDOW_DATA w.2) w.1)
    let u := t.setL [(.EVT_WIN_STATUS_VALID, (found.filter Option.isSome).length),
      (.EVT_WIN_STATUS_GONE, (seqs.filter (fun q => serialLt 32 q s.evt.archOldest)).length),
      (.EVT_WIN_STATUS_ARCHIVE, b2n ((seqs.zip found).any (fun e => e.2.isSome && s.evt.inArchive e.1))),
      (.EVT_WIN_STATUS_READY, 1)]
    { u with evt := { u.evt with cursorPending := none } }

/-- A write of `EVT_CURSOR`: the snapshot completes at the next boundary, or at once where CAL is stopped, which is within the
10 µs of R602. -/
def Dev.cursorWrite (s : Dev) (seq : Nat) : Dev :=
  let t := s.cursor seq
  if t.calRuns then t else t.finishCursor

/-- Records that wait are written, as far as the rate of R597 lets them. -/
def Dev.writeStaged (s : Dev) : Nat → Dev
  | 0 => s
  | n + 1 => s.recordWrite.writeStaged n

/-- CLEAR: in QUIESCED with GUARD 0xE7 the clear point moves to HEAD (R603); ignored otherwise. What waits in the queue is written before it, so
that 0xC010 is the first record that stays visible (assumption 138). -/
def Dev.clearRing (s0 : Dev) (guard : Nat) : Dev :=
  if guard = 0xE7 ∧ s0.modeOf = mQUIESCED then
    let s := s0.writeStaged s0.evt.staging.length
    let old := s.evt.oldest
    (({ s with evt := { s.evt with clearPoint := s.evt.head, archOldest := s.evt.head, foldable := false } }).set
      .EVT_STATUS_CLEARED_SEEN 1).post 0xC010 0 s.evt.head old 0
  else s0

/-- OPERATING_TIME_COPY: outside DORMANT the Daybook's copy takes the count, once the count has been resumed from it (R594). -/
def Dev.copyTime (s : Dev) : Dev :=
  if s.modeOf = mDORMANT ∨ s.evt.timeKnown = false then s else { s with evt := { s.evt with opCopy := s.evt.opTime } }

/-- The highest SEQ in the ring by serial arithmetic (R599). -/
def Recorder.highest (r : Recorder) : Option Nat :=
  r.ring.vals.foldl (fun a e => match a with
    | none => some e.seq
    | some q => if serialLt 32 q e.seq then some e.seq else some q) none

/-- Slots in [OLDEST, HEAD), by ring index, among some (R599). -/
def Recorder.inRange (r : Recorder) (slots : List Nat) : List Nat :=
  slots.filter fun i => decide ((i + 65536 - r.oldest % 65536) % 65536 < serialDist 32 r.oldest r.head)

/-- The whole ring is read at RECOVERING (R599): HEAD follows the highest SEQ, the ring is in use,
and 0xC013 counts the slots of its range that unrecoverable granules lost. -/
def Dev.recoverRing (s0 : Dev) (damaged : List Nat) : Dev :=
  let s := s0.repeatFlush
  let head := match s.evt.highest with | some q => (q + 1) % 2 ^ 32 | none => s.evt.head
  let newest := (s.evt.ring.get? ((head + 2 ^ 32 - 1) % 65536)).map EvRec.rep
  let t := ({ s with evt := { s.evt with
    head := head, newestRep := newest.getD 0, foldable := if s.evt.staging.isEmpty then head != s.evt.clearPoint else s.evt.foldable } }).set .EVT_STATUS_RUNNING 1
  let n := (t.evt.inRange damaged).length
  if n = 0 then t else t.post 0xC013 0 n t.evt.head t.evt.oldest

/-- In TRAINING the count of operating time resumes from the Daybook's copy (R594). -/
def Dev.resumeTime (s : Dev) : Dev :=
  if s.evt.timeKnown then s
  else { s with evt := { s.evt with opBase := s.evt.opCopy, timeKnown := true } }

/-! ### Commands -/

/-- EVENT_POSTING (R595 to R598). -/
def execEventPosting (code unit p0 p1 p2 : Nat) (w : State) : Host.Outcome State Fault Refusal :=
  finish w fun s => (s.onIsland (·.post code unit p0 p1 p2))

/-- RECORD_WRITE (R597). -/
def execRecordWrite (w : State) : Host.Outcome State Fault Refusal := finish w fun s => s.recordWrite

/-- RATE_WINDOW_CLOSE (R596). -/
def execRateWindowClose (code : Nat) (w : State) : Host.Outcome State Fault Refusal :=
  finish w fun s => (s.closeWindow code)

/-- REPEAT_FLUSH (R595). -/
def execRepeatFlush (w : State) : Host.Outcome State Fault Refusal := finish w fun s => s.repeatFlush

/-- OPERATING_TIME_COPY (R594). -/
def execOperatingTimeCopy (w : State) : Host.Outcome State Fault Refusal := finish w fun s => s.copyTime

end Sys2Proof.Machine
end

