-- ==== Sys2Proof/Machine/Flash.lean ====
section
/-!
DEFINITION. Flash management below the map, 12_flash_management.md, and the engines' hand-over of array
operations, 13_flash_channels.md: bands, streams, placement, programs, erases and blocks.
-/

namespace Sys2Proof.Machine

open Sys2Proof

/-! ### Geometry and addresses -/

/-- Planes per LUN. -/
def FlashSt.planes (f : FlashSt) : Nat := (f.table.map NandTable.planes).getD 1

/-- Pages of a block in a mode (R398). -/
def FlashSt.pages (f : FlashSt) (slc : Bool) : Nat :=
  (f.table.map (fun t => if slc then t.pagesSlc else t.pagesNative)).getD 0

/-- Blocks of each plane. -/
def FlashSt.perPlane (f : FlashSt) : Nat := (f.table.map NandTable.blocks).getD 0

/-- The NAND channel of a LUN index. -/
def lunChannel (lun : Nat) : Nat := lun / 32

/-- The unit ID of a LUN's channel (R614). -/
def lunUnit (lun : Nat) : Nat := 0x0300 + lunChannel lun

/-- HOME from its parts (R358): a LUN index is channel × 32 + target × 4 + LUN, bits [35:26] of HOME. -/
def homeOf (lun block page slot : Nat) : Nat := slot + page * 4 + block * 2 ^ 13 + lun * 2 ^ 26

/-- LUN, block, page and slot of a HOME (R358). -/
def homeLun (h : Nat) : Nat := bitsOf h 26 10
def homeBlock (h : Nat) : Nat := bitsOf h 13 13
def homePage (h : Nat) : Nat := bitsOf h 2 11
def homeSlot (h : Nat) : Nat := bitsOf h 0 2

/-- A block's key in the block table. -/
def blkKey (lun block : Nat) : Nat := lun * 8192 + block

/-- A block's entry (R363, R406). -/
def FlashSt.blk (f : FlashSt) (lun block : Nat) : Blk := f.blocks.getD (blkKey lun block) Blk.new

/-- Changes a block's entry. -/
def FlashSt.setBlk (f : FlashSt) (lun block : Nat) (b : Blk) : FlashSt :=
  { f with blocks := f.blocks.put (blkKey lun block) b }

/-- W of a band: its members (R355). -/
def Band.width (b : Band) : Nat := b.members.length

/-- Data slots of one band page (R355). -/
def FlashSt.pageSlots (f : FlashSt) (b : Band) : Nat := f.planes * 4 * (b.width - 1)

/-- Data slots of a band (R355). -/
def FlashSt.capacity (f : FlashSt) (b : Band) : Nat := f.pages b.slc * f.pageSlots b

/-- Page, member, plane and slot of the n-th data slot of a band: stripe order, skipping the parity
member (R355, R364). -/
def FlashSt.position (f : FlashSt) (b : Band) (n : Nat) : Nat × Nat × Nat × Nat :=
  let stripe := n / (b.width - 1)
  let page := stripe / (f.planes * 4)
  let i := n % (b.width - 1)
  (page, if i < page % b.width then i else i + 1, stripe / 4 % f.planes, stripe % 4)

/-- HOME of a place in a band. -/
def Band.home (b : Band) (page member plane slot : Nat) : Nat :=
  let m := b.members.getD member ⟨0, []⟩
  homeOf m.lun (m.blocks.getD plane 0) page slot

/-- The shield page of a page of a band (R366, R399). -/
def FlashSt.shieldPage (f : FlashSt) (b : Band) (page : Nat) : Nat :=
  if b.slc then page
  else match f.table with
    | none => page
    | some t => t.bpc * (page / t.bpc) + t.bpc - 1 + (if t.shield = 1 then t.bpc else 0)

/-- The key of a page program of one plane of a member. -/
def doneKey (page member plane : Nat) : Nat := (page * 16 + member) * 4 + plane

/-- A slot's shield and its stripe's parity have programmed (R366). -/
def FlashSt.slotReady (f : FlashSt) (b : Band) (v : T2Slot) : Bool :=
  b.done.contains (doneKey v.page v.member v.plane) &&
  b.done.contains (doneKey (f.shieldPage b v.page) v.member v.plane) &&
  b.done.contains (doneKey v.page (v.page % b.width) v.plane)

/-! ### Members, pool and bands (R365) -/

/-- The blocks of fresh member `i`: the same index within each plane (R355); BLOCK mod planes is the
plane (R358). -/
def FlashSt.freshMember (f : FlashSt) (lun i : Nat) : Member :=
  { lun := lun, blocks := (List.range f.planes).map (fun q => i * f.planes + q) }

/-- A block that bands may use: neither retired nor programmed raw since its last good erase (R421). -/
def Blk.usable (b : Blk) : Bool := !b.retired && !b.raw

/-- A member all of whose blocks may be used. -/
def FlashSt.sound (f : FlashSt) (m : Member) : Bool := m.blocks.all (fun b => (f.blk m.lun b).usable)

/-- Erased members of a LUN: fresh ones and those of the pool. -/
def FlashSt.erasedOf (f : FlashSt) (lun : Nat) : Nat :=
  (f.perPlane - f.fresh.getD lun 0) + (f.pool.filter (fun m => m.lun == lun)).length

/-- LUNs that new bands may use, the one with most erased members first, lower numbers on a tie. -/
def FlashSt.preferred (f : FlashSt) : List Nat :=
  let ls := f.luns.filter (fun l => !f.failed.contains l && decide (f.erasedOf l > 0))
  sortBy (fun a b => decide (f.erasedOf a > f.erasedOf b ∨ (f.erasedOf a = f.erasedOf b ∧ a ≤ b))) ls

/-- Takes LUNs on distinct channels, in order. -/
def distinctChannels : List Nat → List Nat → Nat → List Nat
  | [], acc, _ => acc.reverse
  | l :: ls, acc, n =>
    if n = 0 then acc.reverse
    else if acc.any (fun a => lunChannel a == lunChannel l) then distinctChannels ls acc n
    else distinctChannels ls (l :: acc) (n - 1)

/-- Takes one erased member of a LUN: one of the pool, else the next fresh one. A fresh member that
holds a retired block is passed over and its other blocks become loose. -/
def FlashSt.takeMember (f : FlashSt) (lun : Nat) : FlashSt × Option Member :=
  match f.pool.find? (fun m => m.lun == lun) with
  | some m => ({ f with pool := f.pool.erase m }, some m)
  | none =>
    let i := f.fresh.getD lun 0
    let m := f.freshMember lun i
    let g := { f with fresh := f.fresh.put lun (i + 1) }
    if i ≥ f.perPlane then (f, none)
    else if f.sound m then (g, some m)
    else ({ g with loose := g.loose ++ (m.blocks.filter (fun b => (f.blk lun b).usable)).map (blkKey lun) }, none)

/-- The numbers of bands: the lowest free one (assumption 33). -/
def FlashSt.nextBand (f : FlashSt) : Nat := (f.bands.firstGap 0 (2 ^ 20)).getD 0

/-- Checked VIGIL bands (R387). -/
def FlashSt.vigilCount (f : FlashSt) : Nat := f.bands.count (fun _ b => b.state == .vigil)

/-- FREE bands. -/
def FlashSt.freeCount (f : FlashSt) : Nat := f.bands.count (fun _ b => b.state == .free)

/-- Forms one band of erased members on W distinct channels (R365); its state ERASED until its blocks
are checked (R384). -/
def FlashSt.formBand (f : FlashSt) : Option FlashSt :=
  let ls := distinctChannels f.preferred [] f.width
  if f.width < 3 ∨ ls.length < f.width then none
  else
    let (g, ms) := ls.foldl (fun (a : FlashSt × List Member) l =>
      match a.1.takeMember l with
      | (h, some m) => (h, a.2 ++ [m])
      | (h, none) => (h, a.2)) (f, [])
    if ms.length < f.width then some { g with pool := g.pool ++ ms }
    else
      let b : Band :=
        { state := .erased, slc := false, members := ms, stream := none, placed := 0, upto := 0, done := [],
          domains := [], closedMs := 0, reads := [], checked := 0, finalStep := false, cut := none, why := 0 }
      some { g with bands := g.bands.put g.nextBand b }

/-- Forms bands while erased members allow, at most `n`. -/
def FlashSt.formBands (f : FlashSt) : Nat → FlashSt
  | 0 => f
  | n + 1 => match f.formBand with
    | some g => g.formBands n
    | none => f

/-- Mean erase count of a band's blocks. -/
def FlashSt.meanEc (f : FlashSt) (b : Band) : Nat :=
  let es := b.members.flatMap (fun m => m.blocks.map (fun x => (f.blk m.lun x).ec))
  if es.length = 0 then 0 else es.sum * 1000 / es.length

/-- The number and the band of the least value of `w` among those that satisfy a test. -/
def FlashSt.best (f : FlashSt) (p : Nat → Band → Bool) (w : Nat → Band → Nat) : Option (Nat × Band) :=
  (f.bands.keep p).foldl (fun a e => match a with
    | none => some e
    | some x => if w e.1 e.2 < w x.1 x.2 then some e else some x) none

/-- Bands of a stream that are open. -/
def Band.openFor (b : Band) (st : Stream) : Bool :=
  b.stream == some st && (b.state == .open_ || (b.state == .log && b.cut.isNone))

/-- Open bands, and open log bands (FM_BANDS_OPEN). -/
def FlashSt.openCount (f : FlashSt) : Nat :=
  f.bands.count (fun _ b => b.state == .open_ || (b.state == .log && b.cut.isNone))
def FlashSt.logOpen (f : FlashSt) : Nat := f.bands.count (fun _ b => b.state == .log && b.cut.isNone)

/-- Meta bands in use (R364: within META_BANDS). -/
def FlashSt.metaCount (f : FlashSt) : Nat := f.bands.count (fun _ b => b.stream == some .meta_)

/-- A stream's mode (R364). -/
def Stream.slc : Stream → Bool
  | .vigil | .meta_ => true
  | _ => false

/-- Opens a band for a stream (R364, R365): the lowest mean erase count, or the highest where collection or wear levelling refills a Relocation
band; a VIGIL band for the Vigil. -/
def FlashSt.openBand (f : FlashSt) (st : Stream) (metaBands : Nat) (worn : Bool) : FlashSt × Option Nat :=
  let want : Nat → Band → Bool := fun _ b => match st with
    | .vigil => b.state == .vigil
    | _ => b.state == .free
  let cost : Nat → Band → Nat := fun _ b => if st = .relocation ∧ worn = true then 2 ^ 32 - f.meanEc b else f.meanEc b
  let full : Bool := match st with
    | .meta_ => decide (f.metaCount ≥ metaBands)
    | _ => false
  match if full then none else f.best want cost with
  | none => (f, none)
  | some (n, b) =>
    let v := { b with state := (match st with | .log _ => BState.log | _ => BState.open_), slc := st.slc, stream := some st }
    ({ f with bands := f.bands.put n v,
              logBand := (match st with | .log r => f.logBand.put r n | _ => f.logBand) }, some n)

/-- The open band of a stream, opening one where none is. -/
def FlashSt.streamBand (f : FlashSt) (st : Stream) (metaBands : Nat) (worn : Bool) : FlashSt × Option Nat :=
  match (f.bands.keep (fun _ b => b.openFor st && decide (b.placed < f.capacity b))).head? with
  | some e => (f, some e.1)
  | none => f.openBand st metaBands worn

/-! ### Engines: what a LUN runs (R402, R407, R408) -/

/-- Ticks now, at the start of the cycle. -/
def Dev.nowTicks (s : Dev) : Nat := s.cal.cycle * 4096

/-- A LUN's engine state. -/
def NandSt.lun (n : NandSt) (l : Nat) : LunSt := n.luns.getD l LunSt.idle

/-- Changes a LUN's engine state; an idle LUN is not listed. -/
def NandSt.setLun (n : NandSt) (l : Nat) (v : LunSt) : NandSt :=
  { n with luns := if v = LunSt.idle then n.luns.del l else n.luns.put l v }

/-- The block of plane `q` of a member accepts a program of a page (R407). -/
def FlashSt.accepts (f : FlashSt) (lun block page : Nat) (slc : Bool) : Bool :=
  let b := f.blk lun block
  b.erased && decide (page ≥ b.next) && (b.slcMode.isNone || b.slcMode == some slc)

/-- On acceptance NEXT and MODE take the program's (R407). -/
def FlashSt.accept (f : FlashSt) (m : Member) (page : Nat) (slc : Bool) : FlashSt :=
  m.blocks.foldl (fun g b => g.setBlk m.lun b { g.blk m.lun b with next := page + 1, slcMode := some slc }) f

/-- The LUN that a job runs on. -/
def FlashSt.jobLun (f : FlashSt) : NandJob → Option Nat
  | .program b _ m | .check b m => (f.bands.get? b).bind (fun x => (x.members[m]?).map Member.lun)
  | .erase _ m | .verify _ m => some m.lun
  | .read h | .cont h _ => some (homeLun h)
  | .raw _ _ _ _ => none

/-- Sequence numbers of R400. -/
def FlashSt.jobSeq (f : FlashSt) : NandJob → Nat
  | .program b _ _ => if ((f.bands.get? b).map Band.slc).getD false then 6 else 5
  | .erase _ _ => 7
  | .check _ _ | .read _ => 3
  | .verify _ _ => 4
  | .cont _ _ => 13
  | .raw _ _ _ _ => 15

/-- A job starts on its LUN; programs, erases and reads are counted by the channel. -/
def Dev.startJob (s : Dev) (lun seq : Nat) (j : NandJob) : Dev :=
  let op : NandOp := { seq := seq, job := j, start := s.nowTicks, since := s.nowTicks, suspends := 0, starved := false }
  let ch := lunChannel lun
  let t := s.modNand fun n => n.setLun lun { n.lun lun with run := some op }
  match j with
  | .program _ _ _ => t.inc (.NANDC_PROGRAMS_PROGRAMS ch)
  | .erase _ _ => t.inc (.NANDC_ERASES_ERASES ch)
  | .read _ | .check _ _ => t.inc (.NANDC_READS_READS ch)
  | .verify _ _ => t.inc (.NANDC_READS_READS ch) 2
  | _ => t

/-- The erase of a member may start: its OPEN entry has been written (R441). -/
def JournalSt.mayErase (j : JournalSt) (m : Member) : Bool := j.opened (blkKey m.lun (m.blocks.headD 0))

/-- A job of a LUN may start now: an erase waits for its intent (R441), and in HOLDUP_SAVE only programs
start (R418). -/
def Dev.mayStart (s : Dev) (lun : Nat) (e : Nat × NandJob) : Bool := match e.2 with
  | .erase _ m => s.modeOf != mHOLDUP && s.jrn.mayErase m
  | .raw op block _ _ => s.modeOf != mHOLDUP && (op != 4 || s.jrn.opened (blkKey lun block))
  | .program _ _ _ => true
  | _ => s.modeOf != mHOLDUP

/-- A program that the engine refuses (R407). -/
def Dev.refusedJob (s : Dev) (e : Nat × NandJob) : Bool := match e.2 with
  | .program b p m => match s.fm.bands.get? b with
    | some x => match x.members[m]? with
      | some v => v.blocks.any (fun q => !s.fm.accepts v.lun q p x.slc)
      | none => false
    | none => false
  | _ => false

/-- A program that was accepted marks its blocks (R407). -/
def Dev.acceptJob (s : Dev) (j : NandJob) : Dev := match j with
  | .program b p m => match s.fm.bands.get? b with
    | some x => match x.members[m]? with
      | some v => s.modFm (·.accept v p x.slc)
      | none => s
    | none => s
  | _ => s

/-- An idle LUN starts its oldest waiting job (R402), once, unless the engine refuses it, which the
channel counts (R407); the refused program's band and page are answered. -/
def Dev.pumpLun (s : Dev) (lun : Nat) : Dev × Option (Nat × Nat) :=
  let l := s.nand.lun lun
  if l.run.isSome ∨ l.susp.isSome then (s, none)
  else match l.wait.find? (s.mayStart lun ·) with
    | none => (s, none)
    | some e =>
      let t := s.modNand fun n => n.setLun lun { l with wait := l.wait.erase e }
      if s.refusedJob e then
        let u := (t.inc (.NANDC_PROG_REFUSED_REFUSED (lunChannel lun))).set (.NANDC_STATUS_REFUSED_SEEN (lunChannel lun)) 1
        (u, match e.2 with | .program b p _ => some (b, p) | _ => none)
      else ((t.acceptJob e.2).startJob lun e.1 e.2, none)

/-- A job joins its LUN's queue. -/
def Dev.queueJob (s : Dev) (j : NandJob) : Dev :=
  match s.fm.jobLun j with
  | none => s
  | some lun => s.modNand fun n => n.setLun lun { n.lun lun with wait := (n.lun lun).wait ++ [(s.fm.jobSeq j, j)] }

/-- A page's programs on every member join their LUNs' queues (R364). -/
def Dev.queuePage (s : Dev) (band page : Nat) : Dev :=
  match s.fm.bands.get? band with
  | none => s
  | some b => s.each (List.range b.width) (fun t m => t.queueJob (.program band page m))

/-- A read of a slot counts on its channel and on its member's reads (R377, R415). -/
def Dev.countRead (s : Dev) (home : Nat) (n : Nat := 1) : Dev :=
  let ch := lunChannel (homeLun home)
  let t := (s.inc (.NANDC_READS_READS ch) n).inc (.NANDC_CODEWORDS_CODEWORDS ch) n
  match s.fm.slots.get? home with
  | some v => t.modFm fun f => { f with bands := f.bands.upd v.band fun b => { b with reads := b.reads.put v.member (b.reads.getD v.member 0 + n) } }
  | none => t

/-! ### Placement (R364 to R367) -/

/-- META_BANDS of the running Forme (R360). -/
def Dev.metaBands (s : Dev) : Nat := (s.forme.run.map (fun f => f.flash.metaBands)).getD 0

/-- Places an image at the next position of a stream: its HOME, or none where no band can be opened. A
page whose data slots are all placed is programmed. `worn`: collection or wear levelling moves it (R365). -/
def Dev.placeSlot (s : Dev) (st : Stream) (img : T2Slot) (domain : Option Nat) (worn : Bool := false) : Dev × Option Nat :=
  let (f, o) := s.fm.streamBand st s.metaBands worn
  match o with
  | none => ({ s with fm := f }, none)
  | some n =>
    match f.bands.get? n with
    | none => ({ s with fm := f }, none)
    | some b =>
      let (page, member, plane, slot) := f.position b b.placed
      let h := b.home page member plane slot
      let v := { img with band := n, page := page, member := member, plane := plane, committed := false, lost := false }
      let ds := match domain with
        | some d => if b.domains.contains d then b.domains else b.domains ++ [d]
        | none => b.domains
      let b2 := { b with placed := b.placed + 1, domains := ds }
      let t := { s with fm := { f with bands := f.bands.put n b2, slots := f.slots.put h v } }
      let u := if (b.placed + 1) % f.pageSlots b = 0 then t.queuePage n page else t
      (u, some h)

/-- PAD_TIMEOUT: a band page that waited 500 µs is filled with pad slots and programmed (R367). -/
def Dev.padBand (s : Dev) (n : Nat) : Dev :=
  match s.fm.bands.get? n with
  | none => s
  | some b =>
    let per := s.fm.pageSlots b
    let open_ := b.state == .open_ || (b.state == .log && b.cut.isNone)
    if open_ = true ∧ per ≠ 0 ∧ b.placed % per ≠ 0 then
      let pads := per - b.placed % per
      let t := (s.modFm fun f => { f with bands := f.bands.put n { b with placed := b.placed + pads } }).inc .FM_PADS_PADS pads
      t.queuePage n (b.placed / per)
    else s

/-! ### Programs and erases that end (R381 to R385) -/

/-- A change of the block or band table is journaled (R363): its record holds the entry's number and
8 B of it (assumption 34). -/
def Dev.journalFlash (s : Dev) : Dev := s.journal (.flash 12)

/-- Blocks retired on a LUN. -/
def FlashSt.retiredOf (f : FlashSt) (lun : Nat) : Nat := f.blocks.count (fun k b => b.retired && k / 8192 == lun)

/-- A band's page is fully programmed. -/
def FlashSt.pageDone (f : FlashSt) (b : Band) (page : Nat) : Bool :=
  (List.range b.width).all (fun m => (List.range f.planes).all (fun q => b.done.contains (doneKey page m q)))

/-- The code of a stream in FM_BAND_VIEW0. -/
def Stream.code : Stream → Nat
  | .vigil => 0
  | .meta_ => 1
  | .relocation => 2
  | .destage => 3
  | .log _ => 4

/-- The lowest page not yet fully programmed, looking from the recorded one. -/
def FlashSt.advance (f : FlashSt) (b : Band) : Nat → Nat
  | 0 => b.upto
  | n + 1 => if f.pageDone b b.upto then f.advance { b with upto := b.upto + 1 } n else b.upto

/-- A band whose last page has programmed closes (R362); a LOG band stays LOG. -/
def Dev.closeIfFull (s : Dev) (n : Nat) : Dev :=
  match s.fm.bands.get? n with
  | none => s
  | some b =>
    let pages := s.fm.pages b.slc
    if b.upto ≥ pages ∧ pages ≠ 0 ∧ b.cut.isNone = true ∧ (b.state = .open_ ∨ b.state = .log) then
      let v := { b with state := (if b.state = .log then BState.log else .closed), closedMs := s.evt.islandMs, cut := some pages }
      ((s.modFm fun f => { f with bands := f.bands.put n v }).intent 3 n 0xFFFF).journalFlash
    else s

/-- A page program of a member ended PASS on the planes given (R366, R385). -/
def Dev.programDone (s : Dev) (n page member : Nat) (planes : List Nat) : Dev :=
  match s.fm.bands.get? n with
  | none => s
  | some b =>
    let b1 := { b with done := b.done ++ (planes.map (doneKey page member)) }
    let upto := s.fm.advance b1 (s.fm.pages b.slc)
    let t := s.modFm fun f => { f with bands := f.bands.put n { b1 with upto := upto } }
    let u := if upto / 64 ≠ b.upto / 64 then t.intent 3 n upto else t
    u.closeIfFull n

/-- A block is retired: marked, counted and logged (R381, R382). -/
def Dev.retireBlock (s : Dev) (lun block : Nat) : Dev :=
  let b := s.fm.blk lun block
  if b.retired then s
  else
    let t := s.modFm fun f => f.setBlk lun block { b with retired := true, intent := false }
    ((t.inc .FM_BLOCKS_RETIRED_RETIRED).set .FM_STATUS_BLOCK_RETIRED 1).journalFlash.post 0x6003 (lunUnit lun) (lunUnit lun)
      (lun * 8192 + block) (t.fm.retiredOf lun)

/-- Blocks that an erase of a member works on: a retired block is never erased again (R381). -/
def FlashSt.erasable (f : FlashSt) (m : Member) : List Nat := m.blocks.filter (fun b => !(f.blk m.lun b).retired)

/-- A member's blocks are erased: counts rise, intents close, records are reset, with the mode of the
sequence used (R383, R406). -/
def Dev.memberErased (s : Dev) (m : Member) : Dev :=
  let t := s.modFm fun f => (f.erasable m).foldl (fun g b =>
      g.setBlk m.lun b { g.blk m.lun b with ec := (g.blk m.lun b).ec + 1, intent := false, erased := true, slcMode := some false, next := 0, raw := false })
    { f with erases := f.erases ++ [(s.evt.islandMs, (f.erasable m).length)],
             slots := f.slots.keep (fun h _ => !(homeLun h == m.lun && m.blocks.contains (homeBlock h))) }
  (t.intent 2 (blkKey m.lun (m.blocks.headD 0)) 0).journalFlash

/-- Loose blocks of a LUN form a member with one block of each plane (R382). -/
def FlashSt.joinLoose (f : FlashSt) (lun : Nat) : FlashSt :=
  let mine (q : Nat) : Option Nat := f.loose.find? (fun k => k / 8192 == lun && (k % 8192) % f.planes == q)
  let ks := (List.range f.planes).map mine
  if f.planes ≠ 0 ∧ ks.all Option.isSome then
    let bs := ks.filterMap id
    { f with loose := f.loose.filter (fun k => !bs.contains k), pool := f.pool ++ [⟨lun, bs.map (· % 8192)⟩] }
  else f

/-- A member goes back to the erased pool, or where a block of it is retired its other blocks do (R381, R382). -/
def FlashSt.toPool (f : FlashSt) (m : Member) : FlashSt :=
  if f.sound m then { f with pool := f.pool ++ [m] }
  else ({ f with loose := f.loose ++ (m.blocks.filter (fun b => (f.blk m.lun b).usable)).map (blkKey m.lun) }).joinLoose m.lun

/-- A member of a band has been erased; with its last member the band is gone and new bands may form. -/
def Dev.eraseDone (s : Dev) (band : Option Nat) (m : Member) : Dev :=
  let t := s.modFm (·.toPool m)
  match band with
  | none => t
  | some n => match t.fm.bands.get? n with
    | none => t
    | some b =>
      let ms := b.members.erase m
      if ms = [] then t.modFm fun f => ({ f with bands := f.bands.del n }).formBands 1
      else t.modFm fun f => { f with bands := f.bands.put n { b with members := ms } }

/-- A band is erased: each member's intent is written first (R383, R441). -/
def Dev.eraseBand (s : Dev) (n : Nat) : Dev :=
  match s.fm.bands.get? n with
  | none => s
  | some b => s.each b.members fun t m =>
      let u := (t.intent 1 (blkKey m.lun (m.blocks.headD 0)) 0).modFm fun f =>
        m.blocks.foldl (fun g x => g.setBlk m.lun x { g.blk m.lun x with intent := true }) f
      u.queueJob (.erase (some n) m)

/-- An erase check that passed: the block is ERASED with no mode yet (R406). -/
def Blk.checked (b : Blk) : Blk := { b with erased := true, slcMode := none, next := 0 }

/-- A band's blocks have been found erased: it becomes VIGIL until VIGIL_BANDS are held, then FREE
(R365, R384, R406). -/
def Dev.bandChecked (s : Dev) (n member : Nat) : Dev :=
  match s.fm.bands.get? n with
  | none => s
  | some b =>
    let want := (s.forme.run.map (fun f => f.flash.vigilBands)).getD 0
    let c := setBit b.checked member
    let all := decide (c = 2 ^ b.width - 1)
    let st := if all = true ∧ b.state = .erased then
        (if s.fm.vigilCount < want then BState.vigil else .free) else b.state
    let m := b.members.getD member ⟨0, []⟩
    s.modFm fun f => m.blocks.foldl (fun g x => g.setBlk m.lun x (g.blk m.lun x).checked)
      { f with bands := f.bands.put n { b with checked := c, state := st } }

/-- Programs of a band that are still on their way: page and member. -/
def NandSt.programsOf (n : NandSt) (band : Nat) : List (Nat × Nat) :=
  n.luns.flatMap fun e =>
    let of (j : NandJob) : List (Nat × Nat) := match j with
      | .program b p m => if b = band then [(p, m)] else []
      | _ => []
    ((e.2.run.map (fun o => of o.job)).getD []) ++ ((e.2.susp.map (fun o => of o.job)).getD []) ++
      e.2.wait.flatMap (fun w => of w.2)

/-- A slot of a band closed at a page can still commit (R381). -/
def Dev.canCommit (s : Dev) (b : Band) (v : T2Slot) : Bool :=
  let ps := s.nand.programsOf v.band
  let ok (page member : Nat) : Bool := b.done.contains (doneKey page member v.plane) || ps.contains (page, member)
  ok v.page v.member && ok (s.fm.shieldPage b v.page) v.member && ok v.page (v.page % b.width)

/-- Programs of a band from a page on that have not started are dropped. -/
def Dev.dropPrograms (s : Dev) (band page : Nat) : Dev :=
  s.modNand fun n => { n with luns := n.luns.map fun e =>
    (e.1, { e.2 with wait := e.2.wait.filter fun w => match w.2 with
      | .program b p _ => !(b == band && decide (p ≥ page))
      | _ => true }) }

/-- A band closes early, before a page, and becomes DEGRADED (R368, R381). -/
def Dev.degrade (s : Dev) (n page : Nat) : Dev :=
  match s.fm.bands.get? n with
  | none => s
  | some b =>
    let v := { b with state := .degraded, cut := some page, closedMs := s.evt.islandMs }
    (((s.modFm fun f => { f with bands := f.bands.put n v }).dropPrograms n page).intent 3 n 0xFFFF).journalFlash

/-- Erase cycles left to the blocks in service, and erases of the last 24 hours: `left` of R379 is their quotient, in days. -/
def Dev.wearLeft (s : Dev) (f : Forme) : Nat × Nat :=
  let n := s.fm.luns.length * s.fm.planes * s.fm.perPlane - s.fm.blocks.count (fun _ b => b.retired)
  let ecs := (s.fm.blocks.vals.filter (fun b => !b.retired)).map Blk.ec |>.sum
  (f.flash.peTlc * n - ecs, (s.fm.erases.filter (fun e => decide (e.1 + 86400000 > s.evt.islandMs))).map Prod.snd |>.sum)

/-- `want` of R379 in days, 0 where it is not positive. -/
def Dev.wearWant (s : Dev) (f : Forme) : Nat := f.flash.lifeYears * 365 - s.evt.opTime / 864000

/-- The wear governor's rate A in B/s (R379). -/
def Dev.wearRate (s : Dev) : Nat :=
  match s.forme.run with
  | none => 0
  | some f =>
    let a0 := f.flash.dwpdX100 * f.fixed.exposed * 4096 / (100 * 86400)
    let (left, day) := s.wearLeft f
    let want := s.wearWant f
    if day = 0 ∨ want = 0 ∨ left ≥ want * day then a0 else a0 * left / (want * day)

/-- `left` and `want` of R379, in whole days. -/
def Dev.wearLife (s : Dev) : Nat × Nat :=
  match s.forme.run with
  | none => (0, 0)
  | some f =>
    let (left, day) := s.wearLeft f
    (if day = 0 then 65535 else min 65535 (left / day), s.wearWant f)

/-- A host write of one folio spends credit (R379). -/
def Dev.spendCredit (s : Dev) : Dev := s.modFm fun f => { f with credit := f.credit - 4096000 }

/-- Credit accrues for a millisecond, and A is computed again (R379); LIFE_SHORT follows `left`. -/
def Dev.accrueCredit (s : Dev) : Dev :=
  let a := s.wearRate
  let (left, want) := s.wearLife
  let t := s.modFm fun f => { f with rate := a, credit := min (f.credit + a) (86400000 * a) }
  let short := decide (left < want)
  let u := t.setB .FM_STATUS_LIFE_SHORT short
  if short = true ∧ s.bit .FM_STATUS_LIFE_SHORT = false then u.post 0x600A 0 left want (a / 1000000) else u

/-- Deferrable C3 work may take an entry of a cycle (R560): one in two at level 1, none from level 2 on. -/
def Dev.deferrable (s : Dev) : Bool :=
  let g := s.therm.acting
  g == 0 || (g == 1 && s.cal.count % 2 == 0)

/-- WEAR_CREDIT_EMPTY: with no credit left the destage rate is capped at A (R379). -/
def Dev.creditEmpty (s : Dev) : Dev :=
  if s.fm.credit = 0 ∧ s.bit .FM_STATUS_WEAR_LIMITED = false then
    (s.set .FM_STATUS_WEAR_LIMITED 1).post 0x6009 0 1 (s.fm.rate / 1000000) 0
  else s

/-- WEAR_CREDIT_RESTORED: credit is positive again (R379). -/
def Dev.creditBack (s : Dev) : Dev :=
  if s.fm.credit > 0 ∧ s.bit .FM_STATUS_WEAR_LIMITED = true then
    (s.set .FM_STATUS_WEAR_LIMITED 0).post 0x6009 0 0 (s.fm.rate / 1000000) (s.fm.credit / 1048576000)
  else s

/-- R_save in B/s from the SLC rate of the LUNs and of the running page's buses (R388). -/
def Dev.rSaveOf (s : Dev) (busTicks : Nat) : Nat :=
  match s.fm.table with
  | none => 0
  | some t =>
    let us := if s.fm.metaUs = [] then (t.times.getD 2 0) / 1000 else s.fm.metaUs.sum / s.fm.metaUs.length
    let rLun := if us = 0 then 0 else 16384 * t.planes * 1000000 / us
    let rBus := t.mtS * 1000000 * busTicks / 4096 * 16384 / 18432
    let l := s.fm.luns.length - s.fm.failed.length
    if s.fm.width = 0 then 0 else min (l * rLun) rBus * (s.fm.width - 1) / s.fm.width

/-- C_vigil in folios: the data folios of the checked VIGIL bands in SLC mode (R388). -/
def Dev.cVigil (s : Dev) : Nat :=
  (s.fm.bands.keep (fun _ b => b.state == .vigil)).foldl (fun a e =>
    a + s.fm.pages true * s.fm.planes * 4 * (e.2.width - 1)) 0

/-! ### Commands -/

/-- PAD_TIMEOUT (R367). -/
def execPadTimeout (band : Nat) (w : State) : Host.Outcome State Fault Refusal := finish w fun s => (s.padBand band)

/-- WEAR_CREDIT_EMPTY (R379). -/
def execWearCreditEmpty (w : State) : Host.Outcome State Fault Refusal := finish w fun s => s.creditEmpty

/-- WEAR_CREDIT_RESTORED (R379). -/
def execWearCreditRestored (w : State) : Host.Outcome State Fault Refusal := finish w fun s => s.creditBack

end Sys2Proof.Machine
end

