-- ==== Sys2Proof/Machine/AddrMap.lean ====
section
/-!
DEFINITION. The address map of 11_dram_controller.md: where a frame, staging frame, slot or map page
lies, and which memory unit holds each of its lines.
-/

namespace Sys2Proof.Machine

open Sys2Proof

/-- Bytes of a frame: payload and colophon (R264). -/
def frameBytes : Nat := 4160

/-- One place of a memory (R333, R334): channel, SEL, stack ID, bank group, bank, column, chip, rank, row. -/
structure MemLoc where
  ch  : Nat
  sel : Nat
  sid : Nat
  bg  : Nat
  ba  : Nat
  col : Nat
  cid : Nat
  rank : Nat
  row : Nat
  deriving DecidableEq, Repr

/-- Parity of the bits of a number. -/
def parity (x w : Nat) : Nat := popCount x w % 2

/-- The select bits of a kind: each is the parity of the line address under its mask (R333). -/
def selectBits (l : Nat) (masks : List Nat) (n : Nat) : Nat :=
  (List.range n).foldl (fun a i => a + parity (l &&& masks.getD i 0) 40 * 2 ^ i) 0

/-- The channel of an address, and the local line address in it (R333). -/
def channelOf (grainLog2 : Nat) (chs : List Nat) (a : Nat) : Nat × Nat :=
  let g := a >>> grainLog2
  let n := max chs.length 1
  (chs.getD (g % n) 0, (((g / n) <<< grainLog2) ||| (a % 2 ^ grainLog2)) / 64)

/-- Decodes a local line address of a channel (R333). -/
def Geo.decode (g : Geo) (ch l : Nat) : MemLoc :=
  let w := g.sel + g.bg + g.ba + g.col + g.row + (if g.gen = 2 then 0 else g.cid + g.rank)
  let m := if g.gen = 2 then l % 2 ^ w else l
  let o1 := g.sel + g.bg + g.ba
  { ch := ch, sel := selectBits m g.masks g.sel, sid := (if g.gen = 2 then l / 2 ^ w else 0),
    bg := selectBits m (g.masks.drop 1) g.bg, ba := selectBits m (g.masks.drop 4) g.ba,
    col := bitsOf m o1 g.col, cid := bitsOf m (o1 + g.col) g.cid,
    rank := bitsOf m (o1 + g.col + g.cid) g.rank, row := bitsOf m (o1 + g.col + g.cid + g.rank) g.row }

/-- The unit ID of a place (R333, R614). -/
def Geo.unit (g : Geo) (x : MemLoc) : Nat := if g.gen = 2 then 0x0200 + 2 * x.ch + x.sel else 0x0100 + x.ch

/-- The flattened bank count (R329). -/
def Geo.banks (g : Geo) : Nat := 2 ^ (g.rank + g.cid + g.bg + g.ba) * g.sids

/-- Bytes of one DIMM channel or HBM2E channel (R336). -/
def Geo.channelBytes (g : Geo) : Nat :=
  2 ^ (g.sel + g.bg + g.ba + g.col + g.cid + g.rank + g.row + 6) * (if g.gen = 2 then g.sids else 1)

/-- The map area of T1 (R22, R332): 4,096 B for each map page of the exposed range. -/
def mapArea (exposed : Nat) : Nat := ceilDiv exposed 512 * 4096

/-- Where a structure lies: HBM space (true) or DIMM space, and the address (R332). -/
def frameAddr (f : FixedPart) (p : TierPolicy) : Dest → Bool × Nat
  | .t0 k => (true, k * frameBytes)
  | .t1 k => (false, mapArea f.exposed + p.stageFrames * frameBytes + k * frameBytes)
  | .stageFrame k => (false, mapArea f.exposed + k * frameBytes)
  | .t2 => (true, f.t0Gib * 2 ^ 30)

/-- The address of an eviction-buffer slot (R332). -/
def evbAddr (f : FixedPart) (k : Nat) : Nat := f.t0Gib * 2 ^ 30 + k * frameBytes

/-- The place of an address of a space. -/
def Dev.memLoc (s : Dev) (hbm : Bool) (a : Nat) : Option (Geo × MemLoc) :=
  s.forme.run.map fun f =>
    let g := if hbm then f.hbm else f.dimm
    let (ch, l) := channelOf f.fixed.grainLog2 (if hbm then s.mem.chHbm else s.mem.chDimm) a
    (g, g.decode ch l)

/-- The flattened number of the bank of a place (R329, R334). -/
def Geo.flat (g : Geo) (x : MemLoc) : Nat :=
  ((if g.gen = 2 then x.sid else x.rank * 2 ^ g.cid + x.cid) * 2 ^ g.bg + x.bg) * 2 ^ g.ba + x.ba

/-- The memory station of a place (R99, R333). -/
def Geo.station (g : Geo) (x : MemLoc) : Nat := if g.gen = 2 then 2 * x.ch + x.sel else 16 + 2 * x.ch + x.sel

/-- An access that a station asks of a memory station, 1 a read and 2 a write (R102, R103): a request of its class for that bank. -/
def Dev.askMemory (s : Dev) (hbm : Bool) (a op cls : Nat) : Dev :=
  match s.memLoc hbm a with
  | some (g, x) =>
    if s.calRuns then
      s.modCal fun c => { c with requests := c.requests ++
        [{ point := 35, id := 0, qpn := none, cls := cls, stamp := s.stamp, station := g.station x, reached := s.stamp, op := op, bank := g.flat x, served := false }] }
    else s
  | none => s

/-- Some line of `n` lines from an address lies on one of the units (R284). -/
def Dev.touchesUnit (s : Dev) (hbm : Bool) (a n : Nat) (units : List Nat) : Bool :=
  !units.isEmpty && (List.range n).any (fun i => match s.memLoc hbm (a + 64 * i) with
    | some (g, x) => units.contains (g.unit x)
    | none => false)

/-- A frame or staging frame is withdrawn: it holds a byte on a lost unit (R284). -/
def Dev.withdrawn (s : Dev) (d : Dest) : Bool := match s.forme.run with
  | some f => let (hbm, a) := frameAddr f.fixed f.tiers d; s.touchesUnit hbm a 65 s.tier.lostUnits
  | none => false

/-- An eviction-buffer slot is withdrawn (R284). -/
def Dev.slotWithdrawn (s : Dev) (k : Nat) : Bool := match s.forme.run with
  | some f => s.touchesUnit true (evbAddr f.fixed k) 65 s.tier.lostUnits
  | none => false

end Sys2Proof.Machine
end

