-- ==== Sys2Proof/Machine/Tiers.lean ====
section
/-!
DEFINITION. Tiers, folios and migration, 09_tiers_and_migration.md: the map, the content of the range,
drains, moves, heat, the dirty budget and the throttle.
-/

namespace Sys2Proof.Machine

open Sys2Proof

/-! ### The map and what it names -/

/-- An UNWRITTEN folio's entry (R277). -/
def MapEntry.none : MapEntry := { state := .unwritten, t0 := false, loc := 0, home := Option.none }

/-- A folio's map entry (R272). -/
def TierSt.entry (t : TierSt) (folio : Nat) : MapEntry := t.map.getD folio MapEntry.none

/-- The folio counts in D: DIRTY or STAGED (R290). -/
def MapEntry.dirty (e : MapEntry) : Bool := e.state == .dirty || e.state == .staged

/-- A frame of T0 or T1 (R264): set × 32 + way. -/
def TierSt.frameOf (t : TierSt) (t0 : Bool) (folio way : Nat) : Nat :=
  folio % max 1 (if t0 then t.setsT0 else t.setsT1) * 32 + way

/-- A line of a folio's lines; an unlisted one holds zeros. -/
def Folio.line (f : Folio) (i : Nat) : LineVal := f.getD i { data := 0, poison := false }

/-- Puts a line; a line of zeros without poison is not listed. -/
def Folio.put (f : Folio) (i : Nat) (v : LineVal) : Folio :=
  if v.data = 0 ∧ v.poison = false then Tab.del f i else Tab.put f i v

/-- 64 poisoned lines (R277, R279). -/
def Folio.lost : Folio := (List.range 64).map (fun i => (i, { data := 0, poison := true }))

/-- The lines of the resident copy that a map entry names. -/
def TierSt.resident (t : TierSt) (folio : Nat) (e : MapEntry) : Option Folio := match e.state with
  | .clean | .dirty =>
    ((if e.t0 then t.t0 else t.t1).get? (t.frameOf e.t0 folio e.loc)).map Frame.data
  | .staged => (t.stage.get? e.loc).map Frame.data
  | _ => none

/-- The lines of a T2 copy: none where it does not open under R271 or does not decode (FLASH_UE). -/
def Dev.t2Read (s : Dev) (folio home : Nat) : Option Folio :=
  match s.fm.slots.get? home with
  | some v => if v.index = folio ∧ v.isMeta = false ∧ v.lost = false ∧ s.keys.opens folio v.epoch = true then some v.data else none
  | none => none

/-- The eviction-buffer slot that serves a folio's reads: that of a DEMOTE, and of the promotion that a cancelled DEMOTE became (R21, R281, R282). -/
def TierSt.inTransit (t : TierSt) (folio : Nat) : Option Folio :=
  match t.latches.get? folio with
  | some l => if l.kind = .destage then none else (l.slot.bind t.evb.get?).map Frame.data
  | none => none

/-- Where the resident copy of a line lies, or its eviction-buffer slot: HBM space or DIMM space, and the address (R25, R332). -/
def Dev.lineAddr (s : Dev) (la : Nat) : Option (Bool × Nat) :=
  match s.forme.run with
  | none => none
  | some f =>
    let folio := la / 64
    let e := s.tier.entry folio
    let at_ (p : Bool × Nat) : Bool × Nat := (p.1, p.2 + 64 * (la % 64))
    match (s.tier.latches.get? folio).bind fun l => if l.kind = .destage then none else l.slot with
    | some k => some (at_ (true, evbAddr f.fixed k))
    | none =>
      match e.state with
      | .clean | .dirty =>
        let k := s.tier.frameOf e.t0 folio e.loc
        some (at_ (frameAddr f.fixed f.tiers (if e.t0 then .t0 k else .t1 k)))
      | .staged => some (at_ (frameAddr f.fixed f.tiers (.stageFrame e.loc)))
      | _ => none

/-- The access of a line's copy is asked of its memory station (R103); nothing where none is resident. -/
def Dev.askLine (s : Dev) (la op cls : Nat) : Dev :=
  match s.lineAddr la with
  | some (hbm, a) => s.askMemory hbm a op cls
  | none => s

/-- The lines of a folio from the eviction buffer where it is in transit there, else from its tier (R25): none where its T2 read ends FLASH_UE.
A discarded folio reads as zeros also while its latch is held (R389). -/
def Dev.folioData (s : Dev) (folio : Nat) : Option Folio :=
  if s.tier.discards.contains folio then some []
  else match s.tier.inTransit folio with
  | some d => some d
  | none =>
    let e := s.tier.entry folio
    match e.state with
    | .unwritten => some []
    | .lost => some Folio.lost
    | .home => e.home.bind (s.t2Read folio)
    | _ => s.tier.resident folio e

/-- A read from T2 counts where a folio's content lies there alone (R377), and its image is opened (R500, R510). -/
def Dev.countT2 (s : Dev) (folio : Nat) : Dev :=
  let e := s.tier.entry folio
  match e.state, (if s.tier.discards.contains folio then none else e.home) with
  | .home, some h => (s.countRead h).useImageKey folio (((s.fm.slots.get? h).map T2Slot.epoch).getD 0)
  | _, _ => s

/-- A line as its tier holds it. -/
def Dev.tierLine (s : Dev) (la : Nat) : Option LineVal := (s.folioData (la / 64)).map (fun f => f.line (la % 64))

/-- The current content of a line (R25): the line cache, the galley, the tier, with the galley's bytes
over it; none where the sources end uncorrectable. -/
def Dev.readLine (s : Dev) (la : Nat) : Option LineVal :=
  match s.lc.hit la with
  | some d => some (s.gal.overlay la { data := d, poison := false })
  | none =>
    match s.gal.find la with
    | some (_, e) =>
      if e.mask = fullMask then some (s.gal.overlay la { data := e.data, poison := e.poison })
      else (s.tierLine la).map (s.gal.overlay la)
    | none => (s.tierLine la).map (s.gal.overlay la)

/-- The line of an UNWRITTEN folio, which is not allocated in the line cache (R305). -/
def Dev.unwrittenLine (s : Dev) (la : Nat) : Bool :=
  ((s.tier.entry (la / 64)).state == .unwritten || s.tier.discards.contains (la / 64)) && (s.gal.find la).isNone && !s.gal.held la

/-- A read of a line reaches its tier: neither the line cache nor the galley holds all of it (R25). -/
def Dev.readsTier (s : Dev) (la : Nat) : Bool :=
  (s.lc.hit la).isNone && (match s.gal.find la with | some (_, e) => e.mask != fullMask | none => true)

/-- A read of one line on behalf of a request, with the line cache's counters, fills and overlays (R304,
R305, R317). -/
def Dev.fetchLine (s : Dev) (la : Nat) : Dev × Option LineVal :=
  let v := s.readLine la
  match s.lc.hit la with
  | some _ => (s.inc .LC_READ_HITS_HITS, v)
  | none =>
    let t := s.inc .LC_READ_MISSES_MISSES
    let part := match s.gal.find la with
      | some (_, e) => e.mask != fullMask
      | none => false
    let t2 := match s.gal.find la with
      | some (_, e) => if e.mask = fullMask then t else t.countT2 (la / 64)
      | none => t.countT2 (la / 64)
    let u := t2.when part (·.inc .GALLEY_OVERLAYS_OVERLAYS)
    match v with
    | some x => if x.poison || s.unwrittenLine la then (u, v) else (u.lcFill la x.data, v)
    | none => (u, v)

/-! ### Changes of the map (R275, R292, R478) -/

/-- A group of 512 folios changed: its bit in the current change bitmap is set (R478), in the modes and
while the bitmaps are kept. -/
def Dev.groupChanged (s : Dev) (folio : Nat) : Dev :=
  let g := folio / 512
  let add (l : List Nat) : List Nat := if l.contains g then l else g :: l
  let t := if s.serving then s.modTwin fun w => { w with cur := add w.cur } else s
  t.modTwin fun w => { w with resync := w.resync.map fun r => if r.phase ≥ 2 then { r with next := add r.next } else r }

/-- The dirty-folio index after a folio's entry changes (R292): it keeps its place while it stays dirty. -/
def dirtyIndex (l : List Nat) (folio : Nat) (e : MapEntry) : List Nat :=
  if e.dirty then (if l.contains folio then l else l ++ [folio]) else l.erase folio

/-- Changes a map entry: journaled before it takes effect (R275). -/
def Dev.setMap (s : Dev) (folio : Nat) (e : MapEntry) : Dev :=
  let old := s.tier.map.get? folio
  let o := old.getD MapEntry.none
  let t := s.modTier fun r =>
    { r with map := if e = MapEntry.none then r.map.del folio else r.map.put folio e, dirty := dirtyIndex r.dirty folio e }
  let u := t.journal (.map folio false e) (.map folio old)
  if o.state = e.state ∧ o.t0 = e.t0 ∧ o.loc = e.loc then u else u.groupChanged folio

/-- Changes the lines of the resident copy that a folio's entry names. -/
def TierSt.modResident (t : TierSt) (folio : Nat) (e : MapEntry) (f : Folio → Folio) : TierSt :=
  let g (x : Frame) : Frame := { x with data := f x.data }
  match e.state with
  | .clean | .dirty =>
    let k := t.frameOf e.t0 folio e.loc
    if e.t0 then { t with t0 := t.t0.upd k g } else { t with t1 := t.t1.upd k g }
  | .staged => { t with stage := t.stage.upd e.loc g }
  | _ => t

/-- Frees the resident copy that an entry names. -/
def TierSt.freeResident (t : TierSt) (folio : Nat) (e : MapEntry) : TierSt := match e.state with
  | .clean | .dirty =>
    let k := t.frameOf e.t0 folio e.loc
    if e.t0 then { t with t0 := t.t0.del k } else { t with t1 := t.t1.del k }
  | .staged => { t with stage := t.stage.del e.loc }
  | _ => t

/-- Frees a destination. -/
def TierSt.freeDest (t : TierSt) (folio : Nat) : Dest → TierSt
  | .t0 way => { t with t0 := t.t0.del (t.frameOf true folio way) }
  | .t1 way => { t with t1 := t.t1.del (t.frameOf false folio way) }
  | .stageFrame k => { t with stage := t.stage.del k }
  | .t2 => t

/-- Fills a destination with a folio's lines. -/
def TierSt.fillDest (t : TierSt) (folio : Nat) (d : Folio) : Dest → TierSt
  | .t0 way => { t with t0 := t.t0.put (t.frameOf true folio way) ⟨folio, d⟩ }
  | .t1 way => { t with t1 := t.t1.put (t.frameOf false folio way) ⟨folio, d⟩ }
  | .stageFrame k => { t with stage := t.stage.put k ⟨folio, d⟩ }
  | .t2 => t

/-- A folio becomes UNWRITTEN: its frame is freed, its HOME is stale (R279, R389), and a latch that it still holds ends with its destination. -/
def Dev.discardNow (s : Dev) (folio : Nat) : Dev :=
  let e := s.tier.entry folio
  let t := s.modTier fun r =>
    let x := { r with discards := r.discards.erase folio }
    match r.latches.get? folio with
    | none => x
    | some l => { (x.freeDest folio l.dest) with evb := (match l.slot with | some k => x.evb.del k | none => x.evb), latches := x.latches.del folio }
  if e.state = .unwritten then t
  else (t.modTier (·.freeResident folio e)).setMap folio MapEntry.none

/-- A discard that waited for a latch takes effect where the latch has ended (R279). -/
def Dev.settleDiscard (s : Dev) (folio : Nat) : Dev :=
  if s.tier.discards.contains folio = true ∧ (s.tier.latches.get? folio).isNone = true then s.discardNow folio else s

/-- A folio becomes LOST (R277, R284, R239): its lines are poisoned and those not poisoned before are logged (R134), its cached lines are
invalidated (R310), its latch is released. `why`: 0 unit loss, 1 found at recovery. -/
def Dev.loseFolio (s : Dev) (folio why unit : Nat) : Dev :=
  if s.tier.discards.contains folio then s.discardNow folio else
  let e := s.tier.entry folio
  let t := s.modTier fun r => { (r.freeResident folio e) with latches := r.latches.del folio }
  let u := t.setMap folio { state := .lost, t0 := false, loc := 0, home := e.home }
  let v := (u.post 0x7002 unit (folio % 2 ^ 32) (folio / 2 ^ 32) why).set .TIER_STATUS_FOLIO_LOST 1
  let d := (s.folioData folio).getD []
  (v.each ((List.range 64).filter fun i => !(d.line i).poison) fun w i => w.poisonLogged (folio * 64 + i) unit).lcInvalidate (fun la => la / 64 == folio)

/-! ### Frames, latches and slots -/

/-- The running TIER_POLICY (R288). -/
def Dev.policy (s : Dev) : Option TierPolicy := s.forme.run.map Forme.tiers

/-- A frame of a set is free: not in use, by a folio or by a rebuilt map page (R350), and not withdrawn (R284). -/
def Dev.frameFree (s : Dev) (t0 : Bool) (folio way : Nat) : Bool :=
  let k := s.tier.frameOf t0 folio way
  ((if t0 then s.tier.t0 else s.tier.t1).get? k).isNone && !s.withdrawn (if t0 then .t0 k else .t1 k) && (t0 || !s.tier.mapFrames.any fun e => e.2 == k)

/-- The lowest free way of a folio's set. -/
def Dev.freeWay (s : Dev) (t0 : Bool) (folio : Nat) : Option Nat :=
  if (if t0 then s.tier.setsT0 else s.tier.setsT1) = 0 then none
  else (List.range 32).find? (s.frameFree t0 folio)

/-- The lowest free staging frame (R266). -/
def Dev.freeStage (s : Dev) : Option Nat :=
  match s.policy with
  | none => none
  | some p =>
    let used := s.tier.stage
    match used.firstGap 0 p.stageFrames with
    | none => none
    | some k => if s.withdrawn (.stageFrame k) then
        (List.range p.stageFrames).find? (fun i => (used.get? i).isNone && !s.withdrawn (.stageFrame i))
      else some k

/-- Eviction-buffer slots (R281). -/
def Dev.evbSlots (s : Dev) : Nat := (s.forme.run.map (fun f => f.fixed.evbGib * 2 ^ 30 / frameBytes)).getD 0

/-- The lowest free eviction-buffer slot. -/
def Dev.freeSlot (s : Dev) : Option Nat :=
  match s.tier.evb.firstGap 0 s.evbSlots with
  | none => none
  | some k => if s.slotWithdrawn k then
      (List.range s.evbSlots).find? (fun i => (s.tier.evb.get? i).isNone && !s.slotWithdrawn i)
    else some k

/-- A latch is free (R278). -/
def TierSt.latchFree (t : TierSt) : Bool := decide (t.latches.length < 65536)

/-- Kinds of R278 as numbers. -/
def LatchKind.code : LatchKind → Nat
  | .stage => 1
  | .promote => 2
  | .demote => 3
  | .destage => 4

/-! ### Heat (R285 to R287) -/

/-- The season now (R285). -/
def Dev.season (s : Dev) : Nat := match s.policy with
  | some p => s.tier.hostReqs / 2 ^ p.seasonLog2
  | none => 0

/-- Heat after the shifts of the seasons that have passed (R285). -/
def Heat.now (h : Heat) (season shift : Nat) : Nat :=
  if season - h.season ≥ 8192 then 0 else h.heat >>> (shift * (season - h.season))

/-- The heat set of a folio (assumption 35). -/
def heatSet (folio : Nat) : Nat := folio % 1048576

/-- The heat-table entry of a folio: its key. -/
def TierSt.heatKey (t : TierSt) (folio : Nat) : Option Nat :=
  ((List.range 16).map (heatSet folio * 16 + ·)).find? (fun k => (t.heat.get? k).any (fun h => h.folio == folio))

/-- A folio's heat now (R285, R286). -/
def Dev.heatOf (s : Dev) (folio : Nat) : Nat :=
  match s.policy, s.tier.heatKey folio with
  | some p, some k => ((s.tier.heat.get? k).map (fun h => h.now s.season p.decayShift)).getD 0
  | _, _ => 0

/-- The way that a folio without an entry takes: the lowest decayed heat, the lowest way on a tie (R286). -/
def Dev.coldestKey (s : Dev) (folio : Nat) (p : TierPolicy) : Nat :=
  let base := heatSet folio * 16
  let h (w : Nat) : Nat := ((s.tier.heat.get? (base + w)).map (fun x => x.now s.season p.decayShift)).getD 0
  base + (List.range 16).foldl (fun b w => if h w < h b then w else b) 0

/-- The promotion that a folio's heat asks for: none, or whether to T0 (R287). -/
def promotionFor (p : TierPolicy) (e : MapEntry) (heat : Nat) : Option Bool :=
  if (e.state = .home ∨ e.state = .staged) ∧ heat ≥ p.promoteT0 then some (e.state == .home)
  else if e.state = .home ∧ heat ≥ p.promoteT1 then some false
  else if (e.state = .clean ∨ e.state = .dirty) ∧ e.t0 = false ∧ heat ≥ p.promoteT0 then some true
  else if e.state = .staged ∧ heat ≥ p.promoteT1 then some false
  else none

/-- A host request touches a folio: heat, then the test of R287, which asks for a promotion unless a
latch drops it (R282). -/
def Dev.touch (s : Dev) (write : Bool) (folio : Nat) : Dev :=
  match s.policy with
  | none => s
  | some p =>
    let w := if write then p.weightWrite else p.weightRead
    let k := (s.tier.heatKey folio).getD (s.coldestKey folio p)
    let h := min 65535 (s.heatOf folio + w)
    let t := s.modTier fun r => { r with heat := r.heat.put k ⟨folio, h, s.season⟩ }
    let blocked := match s.tier.latches.get? folio with
      | some l => l.kind != .demote || t.tier.discards.contains folio
      | none => false
    match promotionFor p (s.tier.entry folio) h with
    | some up => if blocked || t.tier.asks.contains (folio, up) then t
                 else t.modTier fun r => { r with asks := r.asks ++ [(folio, up)] }
    | none => t

/-- One admitted host request counts toward the season and touches its folios (R285). -/
def Dev.hostTouch (s : Dev) (write : Bool) (folios : List Nat) : Dev :=
  (s.modTier fun r => { r with hostReqs := r.hostReqs + 1 }).each folios (fun t f => t.touch write f)

/-! ### Moves (R278 to R283) -/

/-- The modes in which a node starts moves of its own (R638); an active in FINAL starts none (R482). -/
def Dev.startsMoves (s : Dev) : Bool := s.inMode [mSOLO, mACTIVE, mQUIESCED] && !s.twin.resync.any (fun r => r.phase == 4)

/-- The ways of a set that may be a victim, as the entry of each and its way (R287). -/
def Dev.victims (s : Dev) (t0 : Bool) (folio : Nat) : List (Nat × Nat × MapEntry) :=
  (List.range 32).filterMap fun w =>
    match (if t0 then s.tier.t0 else s.tier.t1).get? (s.tier.frameOf t0 folio w) with
    | none => none
    | some fr =>
      let e := s.tier.entry fr.folio
      if (s.tier.latches.get? fr.folio).isSome ∨ e.t0 ≠ t0 ∨ e.loc ≠ w then none
      else if e.state = .clean ∨ e.state = .dirty then some (w, fr.folio, e) else none

/-- The victim of a set: the CLEAN frame of lowest heat, else the DIRTY one; the lowest way on a tie. -/
def Dev.victim (s : Dev) (t0 : Bool) (folio : Nat) : Option (Nat × MapEntry) :=
  let vs := s.victims t0 folio
  let clean := vs.filter (fun v => v.2.2.state == .clean)
  (((if clean = [] then vs else clean).foldl (fun (a : Option (Nat × Nat × MapEntry)) v => match a with
    | none => some v
    | some b => if s.heatOf v.2.1 < s.heatOf b.2.1 then some v else some b) none)).map (fun v => (v.2.1, v.2.2))

/-- A CLEAN copy is released: HOME, and its frame is free (R279). -/
def Dev.releaseClean (s : Dev) (folio : Nat) : Dev :=
  let e := s.tier.entry folio
  ((s.modTier (·.freeResident folio e)).setMap folio { state := .home, t0 := false, loc := 0, home := e.home }).inc
    .TIER_DEMOTIONS_DEMOTIONS

/-- Places a folio's image in T2 for a move (R271, R364): its HOME and EPOCH; none where the seal is
refused or no band is open. -/
def Dev.sealTo (s : Dev) (st : Stream) (folio : Nat) (d : Folio) : Dev × Option (Nat × Nat) :=
  let (t, ep) := s.sealFolio folio
  match ep with
  | none => (t, none)
  | some epoch =>
    let ws := (t.tier.wseq.getD folio 0 + 1) % 2 ^ 29
    let v : T2Slot :=
      { index := folio, isMeta := false, epoch := epoch, wseq := ws, data := d, band := 0, page := 0, member := 0, plane := 0,
        committed := false, source := none, lost := false }
    let (u, h) := t.placeSlot st v (some (t.keys.domainOf folio))
    (u, h.map (fun x => (x, epoch)))

/-- A folio of a LIVE LOG region's zone that has not been written to T2 since the zone was emptied goes
to the region's log band (R369). -/
def Dev.logRegionOf (s : Dev) (folio : Nat) : Option Nat :=
  (s.rgn.regions.find? (fun e => e.2.state == .live && e.2.kind == .log &&
    decide (e.2.base / 4096 ≤ folio) && decide (folio < (e.2.base + e.2.length) / 4096))).map Prod.fst

/-- The stream of a host write to T2 (R364, R369). -/
def Dev.hostStream (s : Dev) (folio : Nat) : Stream :=
  match s.logRegionOf folio with
  | some r =>
    let lo := (s.forme.run.map (fun f => f.flash.logOpen)).getD 0
    let first := !s.fm.logged.contains folio
    if first && (s.fm.bands.any (fun e => e.2.openFor (.log r)) || decide (s.fm.logOpen < lo)) then .log r else .destage
  | none => .destage

/-- A folio of a zone has been written to T2 since the zone was last emptied (R369). -/
def Dev.noteLogged (s : Dev) (folio : Nat) : Dev :=
  if (s.logRegionOf folio).isSome = true ∧ s.fm.logged.contains folio = false then s.modFm fun f => { f with logged := folio :: f.logged } else s

/-- Starts a DESTAGE or a DEMOTE to T2 through an eviction-buffer slot (R281). -/
def Dev.startToT2 (s : Dev) (folio : Nat) (kind : LatchKind) : Dev :=
  match s.freeSlot, s.tier.resident folio (s.tier.entry folio) with
  | some k, some d =>
    let (t, h) := s.sealTo (s.hostStream folio) folio d
    match h with
    | none => t
    | some (home, epoch) =>
      let l : Latch := { kind := kind, dest := .t2, slot := some k, home := some home, redirty := false, epoch := epoch, stamp := s.stamp }
      ((t.modTier fun r => { r with evb := r.evb.put k ⟨folio, d⟩, latches := r.latches.put folio l }).spendCredit).inc .FM_HOST_FOLIOS_HOST
  | _, _ => s

/-- Starts a DEMOTE from T0 to a way of T1 (R279, R281). -/
def Dev.startToT1 (s : Dev) (folio way : Nat) : Dev :=
  match s.freeSlot, s.tier.resident folio (s.tier.entry folio) with
  | some k, some d =>
    let l : Latch := { kind := .demote, dest := .t1 way, slot := some k, home := none, redirty := false, epoch := 0, stamp := s.stamp }
    s.modTier fun r => { (r.fillDest folio d (.t1 way)) with evb := r.evb.put k ⟨folio, d⟩, latches := r.latches.put folio l }
  | _, _ => s

/-- A victim leaves its frame (R279): a CLEAN one in T1 is released, a DIRTY one in T1 is demoted to T2;
one in T0 goes to T1 where its set there has a free way or a clean victim, else to T2 or is released. -/
def Dev.evict (s : Dev) (folio : Nat) : Dev :=
  let e := s.tier.entry folio
  if s.tier.latchFree = false then s
  else if e.t0 then
    match s.freeWay false folio with
    | some w => s.startToT1 folio w
    | none =>
      match s.victim false folio with
      | some (v, ve) =>
        if ve.state = .clean then
          let t := s.releaseClean v
          match t.freeWay false folio with
          | some w => t.startToT1 folio w
          | none => t
        else if e.state = .clean then s.releaseClean folio else s.startToT2 folio .demote
      | none => if e.state = .clean then s.releaseClean folio else s.startToT2 folio .demote
  else if e.state = .clean then s.releaseClean folio
  else s.startToT2 folio .demote

/-- Starts a promotion into a way, from its source or from the eviction-buffer slot of a demotion that it cancels, which is freed at the commit
(R282). -/
def Dev.startPromote (s : Dev) (folio way : Nat) (up : Bool) (d : Folio) (slot : Option Nat) : Dev :=
  let dest : Dest := if up then .t0 way else .t1 way
  let l : Latch := { kind := .promote, dest := dest, slot := slot, home := none, redirty := false, epoch := 0, stamp := s.stamp }
  s.modTier fun r => { (r.fillDest folio d dest) with latches := r.latches.put folio l }

/-- A demotion under way is cancelled: its destination is freed, and its slot where the folio stays in its source frame (R282). -/
def Dev.cancelDemotion (s : Dev) (folio : Nat) (l : Latch) (stays : Bool) : Dev :=
  let t := s.modTier fun r =>
    { (r.freeDest folio l.dest) with evb := (match l.slot with | some k => if stays then r.evb.del k else r.evb | none => r.evb), latches := r.latches.del folio }
  let u := match l.home with
    | some h => t.modFm fun f => { f with slots := f.slots.del h }
    | none => t
  u.inc .TIER_CANCELS_CANCELS

/-- A promotion request waits for a victim's frame (R287). -/
def TierSt.wait (t : TierSt) (e : Nat × Bool) : TierSt :=
  { t with asks := t.asks.erase e, waits := if t.waits.contains e then t.waits else t.waits ++ [e] }

/-- A promotion request is dropped, or served (R282, R287). -/
def TierSt.drop (t : TierSt) (e : Nat × Bool) : TierSt := { t with asks := t.asks.erase e, waits := t.waits.erase e }

/-- A promotion gets a frame of its set: a free one, or a victim's, for which it waits while the victim moves; where neither can be had the request
is dropped (R287). -/
def Dev.withFrame (s : Dev) (folio : Nat) (up : Bool) (go : Dev → Nat → Dev) : Dev :=
  match s.freeWay up folio, s.victim up folio with
  | some w, _ => go s w
  | none, some (v, _) =>
    let t := s.evict v
    (match t.freeWay up folio with
     | some w => go t w
     | none => t.modTier (·.wait (folio, up)))
  | none, none => s.modTier (·.drop (folio, up))

/-- A promotion of a folio to T0 or T1 (R279, R282, R287). -/
def Dev.promote (s : Dev) (folio : Nat) (up : Bool) : Dev :=
  let e := s.tier.entry folio
  let gone := fun (t : Dev) => t.modTier (·.drop (folio, up))
  let resident : Bool := (e.state == .clean || e.state == .dirty) && e.t0 == up
  match s.tier.latches.get? folio with
  | some l =>
    if l.kind ≠ .demote ∨ s.tier.discards.contains folio = true then gone s
    else if resident then gone (s.cancelDemotion folio l true)
    else s.withFrame folio up fun t w =>
      let d := ((l.slot.bind (fun k => t.tier.evb.get? k)).map Frame.data).getD []
      gone ((t.cancelDemotion folio l false).startPromote folio w up d l.slot)
  | none =>
    if resident ∨ e.state = .unwritten ∨ e.state = .lost ∨ (e.state = .staged ∧ up = true) then gone s
    else if s.tier.latchFree = false then s
    else match s.folioData folio with
      | some d => s.withFrame folio up fun t w => gone ((t.countT2 folio).startPromote folio w up d none)
      | none => gone s

/-- The galley holds every byte of a folio, so that its STAGE reads nothing from T2 (R279). -/
def Dev.galleyCovers (s : Dev) (folio : Nat) : Bool :=
  (List.range 64).all fun i => (s.gal.find (folio * 64 + i)).any fun e => e.2.mask == fullMask

/-- A STAGE starts for a folio that a drain needs (R279): its frame is filled from T2, with zeros or with
poison; without a free frame or latch it waits (R266). -/
def Dev.startStage (s : Dev) (folio : Nat) : Dev :=
  let e := s.tier.entry folio
  if (s.tier.latches.get? folio).isSome ∨ e.state = .clean ∨ e.state = .dirty ∨ e.state = .staged then s
  else
    let covered := e.state == .home && s.galleyCovers folio
    match s.freeStage, (if covered then some [] else s.folioData folio) with
    | some k, some d =>
      if s.tier.latchFree then
        let l : Latch := { kind := .stage, dest := .stageFrame k, slot := none, home := none, redirty := false, epoch := 0, stamp := s.stamp }
        (if covered then s else s.countT2 folio).modTier fun r => { (r.fillDest folio d (.stageFrame k)) with latches := r.latches.put folio l }
      else s
    | _, _ => s

/-- The folio that destage takes next (R292): the oldest of the index that is not latched; below LOW_PCT of
B written-hot folios are skipped. -/
def Dev.destageNext (s : Dev) : Option Nat :=
  match s.policy with
  | none => none
  | some p =>
    let d := s.tier.dirty.length
    let skip := decide (d * 100 < p.lowPct * s.tier.budget)
    s.tier.dirty.find? fun f =>
      (s.tier.latches.get? f).isNone && !(skip && decide (s.heatOf f ≥ p.promoteT0))

/-- A DESTAGE of a folio starts (R279, R292); one for a latched folio is dropped (R282). -/
def Dev.destage (s : Dev) (folio : Nat) : Dev :=
  if (s.tier.entry folio).dirty then
    if (s.tier.latches.get? folio).isSome then s.inc .TIER_DROPS_DROPS
    else if s.tier.latchFree then s.startToT2 folio .destage else s
  else s

/-- A DEMOTE of a folio is asked for (R279); one for a latched folio is dropped (R282). -/
def Dev.demote (s : Dev) (folio : Nat) : Dev :=
  if (s.tier.latches.get? folio).isSome then s.inc .TIER_DROPS_DROPS
  else if (s.tier.entry folio).state = .clean ∨ (s.tier.entry folio).state = .dirty then s.evict folio else s

/-- A move's start by its kind (R278, R279). -/
def Dev.startMove (s : Dev) (folio kind : Nat) (up : Bool) : Dev := match kind with
  | 1 => s.startStage folio
  | 2 => s.promote folio up
  | 3 => s.demote folio
  | 4 => s.destage folio
  | _ => s

/-- The latch of a move is the next to commit: where starts are stamped for the pair, moves commit in the
order of their start stamps (R289). -/
def Dev.mayCommit (s : Dev) (l : Latch) : Bool :=
  !s.inMode [mACTIVE, mSTANDBY, mRESYNC] || s.tier.latches.all (fun e => decide (l.stamp ≤ e.2.stamp))

/-- The T2 slot of a move is committed (R366). -/
def Dev.homeReady (s : Dev) (l : Latch) : Bool := match l.home with
  | some h => (s.fm.slots.get? h).any (fun v => v.committed)
  | none => true

/-- What a commit leaves in the map (R279). -/
def Latch.result (l : Latch) (e : MapEntry) : MapEntry := match l.kind with
  | .stage => match l.dest with
    | .stageFrame k => { state := .staged, t0 := false, loc := k, home := e.home }
    | _ => e
  | .promote | .demote => match l.dest with
    | .t0 w => { state := if e.state = .home then .clean else e.state, t0 := true, loc := w, home := e.home }
    | .t1 w => { state := (if e.state = .home then .clean else if e.state = .staged then .dirty else e.state), t0 := false, loc := w, home := e.home }
    | _ => { state := .home, t0 := false, loc := 0, home := l.home }
  | .destage =>
    if e.state = .staged then
      (if l.redirty then { e with home := l.home } else { state := .home, t0 := false, loc := 0, home := l.home })
    else { e with state := if l.redirty then .dirty else .clean, home := l.home }

/-- The counter of a kind's commits. -/
def LatchKind.counter : LatchKind → Fld
  | .stage => .TIER_STAGES_STAGES
  | .promote => .TIER_PROMOTIONS_PROMOTIONS
  | .demote => .TIER_DEMOTIONS_DEMOTIONS
  | .destage => .TIER_DESTAGES_DESTAGES

/-- MOVE_COMMIT: the map entry changes and the latch is released (R279); a commit into T2 records WSEQ
and HOME. -/
def Dev.commitMove (s : Dev) (folio : Nat) : Dev :=
  match s.tier.latches.get? folio with
  | none => s
  | some l =>
    if s.mayCommit l = false ∨ s.homeReady l = false then s
    else
      let e := s.tier.entry folio
      let r := l.result e
      let keeps : Bool := l.kind == .destage && (r.state != .home)
      let t := s.modTier fun x =>
        let y := if keeps || l.kind == .stage then x else x.freeResident folio e
        { y with evb := (match l.slot with | some k => y.evb.del k | none => y.evb), latches := y.latches.del folio,
                 wseq := (match l.home.bind (fun h => s.fm.slots.get? h) with | some v => y.wseq.put folio v.wseq | none => y.wseq) }
      (((t.setMap folio r).when l.home.isSome (·.noteLogged folio)).inc l.kind.counter).settleDiscard folio

/-- MOVE_FAILED: the latch, the destination frame and the slot are released, the map is unchanged (R283). -/
def Dev.failMove (s : Dev) (folio unit : Nat) : Dev :=
  match s.tier.latches.get? folio with
  | none => s
  | some l =>
    let t := s.modTier fun r =>
      { (r.freeDest folio l.dest) with evb := (match l.slot with | some k => r.evb.del k | none => r.evb), latches := r.latches.del folio }
    let u := match l.home with
      | some h => t.modFm fun f => { f with slots := f.slots.del h }
      | none => t
    (((u.inc .TIER_MOVE_FAILS_FAILS).set .TIER_STATUS_MOVE_FAILED 1).post 0x7001 unit (folio % 2 ^ 32) l.kind.code unit).settleDiscard folio

/-- A folio leaves a frame of a set by a DEMOTE. -/
def Dev.leavesSet (s : Dev) (t0 : Bool) (folio : Nat) : Bool :=
  let n := max 1 (if t0 then s.tier.setsT0 else s.tier.setsT1)
  s.tier.latches.any fun l => l.2.kind == .demote && (s.tier.entry l.1).t0 == t0 && l.1 % n == folio % n

/-- Promotions that wait take a frame that is free now; where no victim of their set is on its way out they choose again, or are dropped (R287). -/
def Dev.retryWaits (s : Dev) : Dev :=
  s.each s.tier.waits fun t e => if (t.freeWay e.2 e.1).isNone = true ∧ t.leavesSet e.2 e.1 = true then t else t.promote e.1 e.2

/-! ### Drains (R279, R280, R318 to R320) -/

/-- A drain of a line may be read now: its folio has a resident copy and is not latched for STAGE, PROMOTE
or DEMOTE (R280). -/
def Dev.drainable1 (s : Dev) (la : Nat) : Bool :=
  let e := s.tier.entry (la / 64)
  let free := match s.tier.latches.get? (la / 64) with
    | some l => l.kind == .destage && !s.tier.discards.contains (la / 64)
    | none => true
  free && (e.state == .clean || e.state == .dirty || e.state == .staged)

/-- The groups of the final pass hold drains and move starts until they are installed (R482). -/
def Dev.groupHeld (s : Dev) (folio : Nat) : Bool :=
  s.twin.resync.any (fun r => r.final && r.left.contains (folio / 512))

/-- The group of a folio is the next that the active sends: no move starts on it until it has been sent (R481). -/
def Dev.groupNext (s : Dev) (folio : Nat) : Bool :=
  s.modeOf == mSOLO && s.twin.resync.any (fun r => decide (2 ≤ r.phase) && (match r.bulk with
    | some (a, k) => decide (a < k) && a == folio / 512
    | none => r.left.head? == some (folio / 512)))

/-- DRAIN: a bank's oldest eligible entry that need not wait is read; where its folio has no copy in T0 or
T1 the STAGE starts instead (R279, R318). -/
def Dev.drain (s : Dev) (bank : Nat) : Dev :=
  let es := (s.drainable bank).filter (fun e => !s.groupHeld (e.2.la / 64))
  match es.find? (fun e => s.drainable1 e.2.la) with
  | some e => (s.galleySnap e.1).askLine e.2.la 2 3
  | none =>
    match es.find? (fun e => (s.tier.latches.get? (e.2.la / 64)).isNone) with
    | some e => s.startStage (e.2.la / 64)
    | none => s

/-- What a landed drain writes over a line (R315, R319). -/
def drainLine (v : LineVal) (snap : Line × Nat × Bool) : LineVal :=
  { data := v.data.merge snap.1 snap.2.1, poison := snap.2.2 || (v.poison && snap.2.1 != fullMask) }

/-- DRAIN_DONE: the snapshot lands in the folio's copy, a CLEAN folio becomes DIRTY, a DESTAGE under way is
marked (R279, R280), and the entry is freed or kept (R319). -/
def Dev.drainDone (s : Dev) (la : Nat) : Dev :=
  match s.gal.find la with
  | none => s
  | some (k, e) =>
    match e.snap with
    | none => s
    | some sn =>
      if s.drainable1 la = false then s.galleyFailed k
      else
        let folio := la / 64
        let m := s.tier.entry folio
        let t := s.modTier fun r =>
          { (r.modResident folio m (fun f => f.put (la % 64) (drainLine (f.line (la % 64)) sn))) with
            latches := r.latches.upd folio (fun l => { l with redirty := true }) }
        let u := if m.state = .clean then t.setMap folio { m with state := .dirty } else t.groupChanged folio
        (u.galleyLanded k).modMem fun x => { x with
          rereads := x.rereads.map fun r => if r.line = some la then { r with newer := true } else r,
          backs := x.backs.map fun r => if r.line = la then { r with newer := true } else r }

/-- DRAIN_FAIL (R320). -/
def Dev.drainFail (s : Dev) (la : Nat) : Dev :=
  match s.gal.find la with
  | some (k, e) => if e.snap.isSome then s.galleyFailed k else s
  | none => s

/-! ### Discards (R279, R310, R320, R389) -/

/-- A discard of one folio (R279, R389): it reads as zeros from now on, and is UNWRITTEN at once, or once its latch ends. -/
def Dev.discardFolio (s : Dev) (folio : Nat) : Dev :=
  if (s.tier.latches.get? folio).isSome then s.modTier fun r => { r with discards := if r.discards.contains folio then r.discards else r.discards ++ [folio] }
  else s.discardNow folio

/-- Discards the folios that satisfy a test, among those that hold anything, with their cached lines,
galley entries and waiting writes (R310, R320, R637). -/
def Dev.discardBy (s : Dev) (one : Dev → Nat → Dev) (p : Nat → Bool) : Dev :=
  let fs := (s.tier.map.filter (fun e => p e.1)).map Prod.fst
  let ls := (s.tier.latches.filter (fun e => p e.1 && !fs.contains e.1)).map Prod.fst
  ((s.each (fs ++ ls) one).lcInvalidate (fun la => p (la / 64))).galleyDrop (fun la => p (la / 64))

/-- A discard that a request or a purge asks for: a latched folio's waits for its latch (R279, R389). -/
def Dev.discard (s : Dev) (p : Nat → Bool) : Dev := s.discardBy Dev.discardFolio p

/-! ### Loss of a memory unit (R284) -/

/-- The place of a resident copy. -/
def TierSt.place (t : TierSt) (folio : Nat) (e : MapEntry) : Dest := match e.state with
  | .staged => .stageFrame e.loc
  | _ => if e.t0 then .t0 (t.frameOf true folio e.loc) else .t1 (t.frameOf false folio e.loc)

/-- A destination as a frame number. -/
def TierSt.absolute (t : TierSt) (folio : Nat) : Dest → Dest
  | .t0 w => .t0 (t.frameOf true folio w)
  | .t1 w => .t1 (t.frameOf false folio w)
  | d => d

/-- A memory unit is lost: moves through withdrawn places fail, CLEAN folios there become HOME, DIRTY and
STAGED ones LOST (R284); the rebuilding of map pages starts over (R350). -/
def Dev.loseMemUnit (s : Dev) (unit : Nat) : Dev :=
  let s0 := s.modTier fun r => { r with lostUnits := if r.lostUnits.contains unit then r.lostUnits else r.lostUnits ++ [unit], rebuildAt := 0 }
  let s00 := s0.modTier fun r => { r with mapFrames := r.mapFrames.keep fun _ k => !s0.withdrawn (.t1 k) }
  let s1 := s00.each s00.tier.latches fun t e =>
    let bad := (match e.2.slot with | some k => t.slotWithdrawn k | none => false) ||
      (match e.2.dest with | .t2 => false | d => t.withdrawn (t.tier.absolute e.1 d))
    if bad then t.failMove e.1 unit else t
  s1.each s1.tier.map fun t e =>
    if (e.2.state == .clean || e.2.dirty) && t.withdrawn (t.tier.place e.1 e.2) then
      (if e.2.state = .clean then
        (t.modTier (·.freeResident e.1 e.2)).setMap e.1 { state := .home, t0 := false, loc := 0, home := e.2.home }
      else t.loseFolio e.1 0 unit)
    else t

/-! ### The dirty budget and the throttle (R290 to R296) -/

/-- D in folios (R290). -/
def Dev.dirtyD (s : Dev) : Nat := s.tier.dirty.length

/-- `t_energy` times SAVE_POWER_W in W·ms, as an integer (R290). -/
def energyMs (p : TierPolicy) (joules : Nat) : Int := (800 * joules : Int) - (p.vigilFixed * p.savePower : Nat)

/-- The budget B in folios and the term that sets it: 0 cap, 1 energy, 2 vigil, 3 none (R290, TIER_STATUS). -/
def budgetOf (p : TierPolicy) (capMib joules rSave cVigil : Nat) : Nat × Nat :=
  let ms := energyMs p joules
  let energy := if ms ≤ 0 then 0 else ms.toNat * rSave / (p.savePower * 1000) / 4096
  let cap := capMib * 256
  if ms ≤ 0 then (0, 3)
  else if cap ≤ energy ∧ cap ≤ cVigil then (cap, 0)
  else if energy ≤ cVigil then (energy, 1)
  else (cVigil, 2)

/-- The throttle level for D against B (R293, R380). -/
def levelOf (p : TierPolicy) (d b : Nat) (wearLimited : Bool) : Nat :=
  let c2 := if wearLimited then p.highPct else p.c2Pct
  if d ≥ b then 3
  else if d * 100 ≥ p.c1Pct * b then 2
  else if d * 100 ≥ c2 * b then 1
  else 0

/-- The throttle level follows D; each change is logged (R293), and OVER_BUDGET ends once D < B (R296). -/
def Dev.relevel (s : Dev) : Dev :=
  match s.policy with
  | none => s
  | some p =>
    let d := s.dirtyD
    let n := levelOf p d s.tier.budget (s.bit .FM_STATUS_WEAR_LIMITED)
    let o := s.get .TIER_STATUS_THROTTLE
    let t := if n = o then s else
      ((s.set .TIER_STATUS_THROTTLE n).post 0x7004 0 o n (d / 256)).when (o == 0) (·.set .TIER_STATUS_THROTTLE_SEEN 1)
    if d < s.tier.budget then t.set .TIER_STATUS_OVER_BUDGET 0 else t

/-- B takes effect: logged, and OVER_BUDGET where it is below D (R291, R296). -/
def Dev.applyBudget (s : Dev) (b limit joules : Nat) (pair : Bool) : Dev :=
  if b = s.tier.budget ∧ limit = s.get .TIER_STATUS_LIMIT then s.relevel
  else
    let t := ((s.modTier fun r => { r with budget := b }).setL [(.TIER_STATUS_LIMIT, limit), (.TIER_STATUS_BUDGET_CHANGED, 1),
        (.TIER_STATUS_PAIR_BUDGET, b2n pair)]).post 0x7003 0 (b / 256) limit joules
    let u := if b < t.dirtyD ∧ s.bit .TIER_STATUS_OVER_BUDGET = false then
        (t.set .TIER_STATUS_OVER_BUDGET 1).post 0x7007 0 (t.dirtyD / 256) (b / 256) 0
      else t
    u.relevel

/-- HOLDUP_SHORT follows the sign of `t_energy` (R295). -/
def Dev.checkShort (s : Dev) (p : TierPolicy) (joules : Nat) : Dev :=
  let short := decide (energyMs p joules ≤ 0)
  if short = s.bit .TIER_STATUS_HOLDUP_SHORT then s
  else (s.setB .TIER_STATUS_HOLDUP_SHORT short).post 0x7005 0 joules (800 * joules / max 1 p.savePower) (b2n short)

/-! ### Map loading (R298) -/

/-- Map pages of the exposed range. -/
def Dev.mapPages (s : Dev) : Nat := (s.forme.run.map (fun f => ceilDiv f.fixed.exposed 512)).getD 0

/-- Directory pages of the exposed range: 512 map pages each (R273). -/
def Dev.dirPages (s : Dev) : Nat := ceilDiv s.mapPages 512

/-- A map page is LOADED (R276, R298). -/
def Dev.mapLoaded1 (s : Dev) (page : Nat) : Bool :=
  s.bit .TIER_STATUS_MAP_WARM || decide (page < s.tier.mapLoaded) || s.tier.demand.contains page

/-- A map page's working copy had a byte on a DIMM channel that is retired, and it has not been rebuilt (R350). -/
def Dev.mapPageLost (s : Dev) (p : Nat) : Bool :=
  decide (p < s.mapPages) && (s.tier.mapFrames.get? p).isNone && s.touchesUnit false (p * 4096) 64 s.tier.lostUnits

/-- A lost map page is rebuilt from its T2 home and the journal, so with the entries it had, into a T1 frame taken as a victim is taken (R287, R350): a
free way of its set, else that of a CLEAN victim; a DIRTY one is demoted first, and the page waits. Its set is that of its INDEX (assumption 134). -/
def Dev.rebuildPage (s : Dev) (p : Nat) : Dev :=
  let take (t : Dev) : Dev := match t.freeWay false p with
    | some w => t.modTier fun r => { r with mapFrames := r.mapFrames.put p (r.frameOf false p w) }
    | none => t
  if s.mapPageLost p = false then s
  else if (s.freeWay false p).isSome then take s
  else match s.victim false p with
    | some (v, e) => if e.state = .clean then take (s.releaseClean v) else s.evict v
    | none => s

/-- The next `n` map pages are looked at and rebuilt, in ascending order; one that waits for its frame holds the rest (R350). -/
def Dev.rebuildPages (s : Dev) : Nat → Dev
  | 0 => s
  | n + 1 =>
    if s.tier.lostUnits = [] ∨ s.tier.rebuildAt ≥ s.mapPages then s
    else
      let t := s.rebuildPage s.tier.rebuildAt
      if t.mapPageLost t.tier.rebuildAt then t else (t.modTier fun r => { r with rebuildAt := r.rebuildAt + 1 }).rebuildPages n

/-- MAP_PAGE_LOAD: the stream loads its next pages, directory pages first (R298); when the last is LOADED
MAP_WARM is set and logged. -/
def Dev.loadPages (s : Dev) (n : Nat) : Dev :=
  if s.tier.rootMs.isNone ∨ s.bit .TIER_STATUS_MAP_WARM = true then s
  else
    let d := min n (s.dirPages - s.tier.dirLoaded)
    let m := min (n - d) (s.mapPages - s.tier.mapLoaded)
    let t := s.modTier fun r => { r with dirLoaded := r.dirLoaded + d, mapLoaded := r.mapLoaded + m,
                                         demand := r.demand.filter (fun p => decide (p ≥ r.mapLoaded + m)) }
    if t.tier.mapLoaded ≥ s.mapPages then
      (t.set .TIER_STATUS_MAP_WARM 1).post 0x7006 0 (s.evt.islandMs - s.tier.rootMs.getD 0) s.tier.fetches 0
    else t

/-- A request that needs a page not yet loaded, or not yet rebuilt, fetches it first (R298, R350). -/
def Dev.demandPage (s : Dev) (folio : Nat) : Dev :=
  let p := folio / 512
  let t := s.rebuildPage p
  if t.tier.rootMs.isNone ∨ t.mapLoaded1 p then t
  else t.modTier fun r => { r with demand := r.demand ++ [p], fetches := r.fetches + 1 }

/-- Pages of a load that the stream of R298 does not take. -/
def Dev.spareLoads (s : Dev) (n : Nat) : Nat :=
  if s.tier.rootMs.isNone ∨ s.bit .TIER_STATUS_MAP_WARM = true then n
  else n - ((s.dirPages - s.tier.dirLoaded) + (s.mapPages - s.tier.mapLoaded))

/-! ### Commands -/

/-- DRAIN (R318). -/
def execDrain (bank : Nat) (w : State) : Host.Outcome State Fault Refusal := finish w fun s => (s.drain bank)

/-- DRAIN_DONE (R319). -/
def execDrainDone (la : Nat) (w : State) : Host.Outcome State Fault Refusal := finish w fun s => (s.drainDone la).relevel

/-- DRAIN_FAIL (R320). -/
def execDrainFail (la : Nat) (w : State) : Host.Outcome State Fault Refusal := finish w fun s => (s.drainFail la)

/-- MOVE_COMMIT (R279). -/
def execMoveCommit (folio : Nat) (w : State) : Host.Outcome State Fault Refusal :=
  finish w fun s => ((s.commitMove folio).retryWaits).relevel

/-- MOVE_FAILED (R283). -/
def execMoveFailed (folio unit : Nat) (w : State) : Host.Outcome State Fault Refusal :=
  finish w fun s => ((s.failMove folio unit).retryWaits).relevel

/-- MAP_PAGE_LOAD (R298): what the stream leaves of MAP_LOAD_MBPS rebuilds map pages (R350). -/
def execMapPageLoad (n : Nat) (w : State) : Host.Outcome State Fault Refusal :=
  finish w fun s => (s.loadPages n).rebuildPages (s.spareLoads n)

end Sys2Proof.Machine
end

