-- ==== Sys2Proof/Machine/FlashOps.lean ====
section
/-!
DEFINITION. What flash management does with the media of 12_flash_management.md: re-placement after a failure,
relocation, rebuild, collection, refresh, purge, checkpoints and the start after a power cut.
-/

namespace Sys2Proof.Machine

open Sys2Proof

/-! ### Slots, validity and re-placement (R368, R376, R381) -/

/-- The key of a device-internal page in the map and the journal: map page p, directory page d at
2³¹ + d (R274, R434). -/
def metaPage (index : Nat) : Nat := if index < 2 ^ 32 then index else 2 ^ 31 + (index - 2 ^ 32)

/-- An INDEX of the CHECKPOINT range (R274). -/
def ckptIndex (kind version j : Nat) : Nat := 0x200000000 + 2 ^ 30 * kind + 2 ^ 29 * version + j

/-- An image slot is valid: the map entry of its folio names it; a map or directory page is home there; a
checkpoint page belongs to the last complete version (R274, R376). -/
def Dev.slotValid (s : Dev) (h : Nat) (v : T2Slot) : Bool :=
  if v.isMeta = false then (s.tier.entry v.index).home == some h
  else if v.index ≥ 0x300000000 then s.evt.archAt.get? (v.index - 0x300000000) == some h
  else if v.index ≥ 0x200000000 then
    let k := (v.index - 0x200000000) / 2 ^ 30
    ((s.fm.ckpt.get? k).map Prod.fst) == some ((v.index - 0x200000000) / 2 ^ 29 % 2)
  else ((s.jrn.homed.get? (metaPage v.index)).map Prod.fst) == some h

/-- The committed valid slots of a band. -/
def Dev.validSlots (s : Dev) (n : Nat) : List Nat :=
  (s.fm.slots.filter (fun e => e.2.band == n && e.2.committed && s.slotValid e.1 e.2)).map Prod.fst

/-- FM_BAND_VIEW1: valid folios of a band. -/
def Dev.validCount (s : Dev) (n : Nat) : Nat := (s.validSlots n).length

/-- The key domain that a slot counts toward in the band's summary (R363). -/
def Dev.slotDomain (s : Dev) (v : T2Slot) : Option Nat :=
  if v.isMeta then none else some (s.keys.domainOf v.index)

/-- What waits for a HOME follows it to another one: the latch of a move, and a Meta write. -/
def Dev.rehome (s : Dev) (h h2 : Nat) : Dev :=
  ((s.modTier fun r => { r with latches := r.latches.map fun e =>
      (e.1, if e.2.home = some h then { e.2 with home := some h2 } else e.2) }).modJrn fun j =>
    { j with writing := j.writing.map fun e => if e.2.1 = h then (e.1, h2, e.2.2) else e }).modEvt (·.archiveMoves h h2)

/-- An uncommitted image takes the next position of its band's stream (R368, R381); where no band can be
opened it keeps its place and its move waits. -/
def Dev.replaceSlot (s : Dev) (st : Stream) (h : Nat) : Dev :=
  match s.fm.slots.get? h with
  | none => s
  | some v =>
    match s.placeSlot st v (s.slotDomain v) with
    | (t, none) => t
    | (t, some h2) => (t.modFm fun f => { f with slots := f.slots.del h }).rehome h h2

/-- The images of a band that can no longer commit are placed again (R368, R381). -/
def Dev.replaceLost (s : Dev) (n : Nat) : Dev :=
  match s.fm.bands.get? n with
  | none => s
  | some b =>
    let hs := (s.fm.slots.filter (fun e => e.2.band == n && !e.2.committed && !s.canCommit b e.2)).map Prod.fst
    s.each hs (fun t h => t.replaceSlot (b.stream.getD .relocation) h)

/-- Puts the valid slots of a band into the relocation queue, ahead of others where `urgent` (R378). -/
def Dev.queueBand (s : Dev) (n : Nat) (urgent : Bool) : Dev :=
  let hs := (s.validSlots n).filter (fun h => !s.fm.relocate.contains h)
  s.modFm fun f => { f with relocate := if urgent then hs ++ f.relocate else f.relocate ++ hs }

/-- A band closes early, before a page: its images that cannot commit are placed again and its valid slots relocated
(R368, R381). -/
def Dev.degradeBand (s : Dev) (n page : Nat) : Dev := ((s.degrade n page).replaceLost n).queueBand n true

/-- PROGRAM_REFUSED: a page that is not erased (R368). -/
def Dev.programRefused (s : Dev) (n page : Nat) : Dev :=
  let lun := (s.fm.bands.get? n).bind (fun b => (b.members[0]?).map Member.lun)
  let t := s.post 0x6005 (lunUnit (lun.getD 0)) (lunUnit (lun.getD 0)) n page
  t.degradeBand n page

/-- An idle LUN starts its oldest waiting job that may start; a refused program is treated as R368 says. -/
def Dev.pump (s : Dev) (lun : Nat) : Dev :=
  match s.pumpLun lun with
  | (t, none) => t
  | (t, some (n, page)) => t.programRefused n page

/-- Every LUN with work starts what it can. -/
def Dev.pumpAll (s : Dev) : Dev := s.each (s.nand.luns.map Prod.fst) (fun t l => t.pump l)

/-! ### Capacity (R361) -/

/-- Bands that the usable members of the LUNs in service make. -/
def FlashSt.bandsTotal (f : FlashSt) : Nat :=
  let bad := (((f.blocks.filter (fun e => e.2.retired)).map (fun e => (e.1 / 8192, (e.1 % 8192) / max 1 f.planes))).eraseDups).length
  ((f.luns.length - f.failed.length) * f.perPlane - bad) / max 1 f.width

/-- Data folios of the TLC capacity, and the folios required (R361). -/
def Dev.tlcCapacity (s : Dev) : Nat × Nat :=
  match s.forme.run with
  | none => (0, 0)
  | some f =>
    let bands := s.fm.bandsTotal - f.flash.vigilBands - f.flash.metaBands
    (bands * s.fm.pages false * s.fm.planes * 4 * (s.fm.width - 1), f.fixed.exposed * (100 + f.flash.opMinPct) / 100)

/-- Retirements that bring the capacity below the limit set OP_LOW (R361). -/
def Dev.checkOp (s : Dev) : Dev :=
  let (have_, need) := s.tlcCapacity
  if have_ < need ∧ s.bit .FM_STATUS_OP_LOW = false then (s.set .FM_STATUS_OP_LOW 1).post 0x6011 0 have_ need 0 else s

/-! ### LUN loss and rebuild (R371 to R374) -/

/-- The valid slots on a LUN. -/
def Dev.lunSlots (s : Dev) (lun : Nat) : List Nat :=
  (s.fm.slots.filter (fun e => homeLun e.1 == lun && e.2.committed && s.slotValid e.1 e.2)).map Prod.fst

/-- `FM_REBUILD` and FM_STATUS.REBUILD. -/
def Dev.showRebuild (s : Dev) : Dev :=
  s.setL [(.FM_REBUILD_FOLIOS, s.fm.rebuilds.length), (.FM_STATUS_REBUILD, b2n (s.fm.rebuilds != []))]

/-- A LUN is out of use: its work ends, its open bands close, its valid slots are rebuilt (R372, R373). -/
def Dev.dropLun (s : Dev) (lun : Nat) : Dev :=
  let hs := (s.lunSlots lun).filter (fun h => !s.fm.rebuilds.contains h)
  let t := (s.modFm fun f => { f with failed := f.failed ++ [lun], rebuilds := f.rebuilds ++ hs }).modNand (·.setLun lun LunSt.idle)
  let open_ := (s.fm.bands.filter (fun e => (e.2.state == .open_ || (e.2.state == .log && e.2.cut.isNone)) &&
    e.2.members.any (fun m => m.lun == lun))).map Prod.fst
  (t.each open_ (fun u n => u.degradeBand n ((u.fm.bands.get? n).map Band.upto |>.getD 0))).showRebuild

/-- LUN_FAILED (R372). -/
def Dev.failLun (s : Dev) (lun : Nat) : Dev :=
  if s.fm.failed.contains lun ∨ s.fm.luns.contains lun = false then s
  else
    let n := (s.lunSlots lun).length
    (((s.dropLun lun).set .FM_STATUS_LUN_FAILED 1).post 0x6008 (lunUnit lun) (lunUnit lun) lun n).checkOp

/-- A LUN with more than 2 % of its blocks retired fails (R372). -/
def Dev.checkLun (s : Dev) (lun : Nat) : Dev :=
  if s.fm.retiredOf lun * 50 > s.fm.planes * s.fm.perPlane then s.failLun lun else s.checkOp

/-- A NAND channel is retired: every slot on its LUNs is rebuilt (R373). -/
def Dev.retireNand (s : Dev) (ch : Nat) : Dev :=
  s.each (s.fm.luns.filter (fun l => lunChannel l == ch && !s.fm.failed.contains l)) (fun t l => t.dropLun l)

/-- The other data slots of a slot's stripe (R355). -/
def FlashSt.stripe (f : FlashSt) (h : Nat) (v : T2Slot) : List (Nat × T2Slot) :=
  f.slots.filter (fun e => e.2.band == v.band && e.2.page == v.page && e.2.plane == v.plane && homeSlot e.1 == homeSlot h && e.1 != h)

/-- The rest of a slot's stripe reads: no other slot is lost or on a failed LUN, and the parity programmed (R371). -/
def FlashSt.rebuildable (f : FlashSt) (h : Nat) (v : T2Slot) : Bool :=
  match f.bands.get? v.band with
  | none => false
  | some b =>
    let parity := v.page % max 1 b.width
    (f.stripe h v).all (fun e => !e.2.lost && !f.failed.contains (homeLun e.1)) &&
      b.done.contains (doneKey v.page parity v.plane) && !(b.members[parity]?).any (fun m => f.failed.contains m.lun)

/-- A folio whose T2 slot is lost for good (R374); answers whether it became LOST. -/
def Dev.slotGone (s : Dev) (unit h : Nat) (v : T2Slot) : Dev × Nat :=
  let drop := fun (t : Dev) => t.modFm fun f => { f with slots := f.slots.del h, rebuilds := f.rebuilds.erase h }
  if v.isMeta = true ∧ v.index ≥ 0x300000000 then (drop (s.modEvt (·.archiveGone (v.index - 0x300000000))), 0)
  else if v.isMeta then
    let page := metaPage v.index
    let t := drop (s.modJrn fun j => { j with homed := j.homed.del page })
    if v.index ≥ 2 ^ 32 ∨ s.mapLoaded1 v.index ∨ s.jrn.recs.any (fun r => match r.body with | .map i false _ => i / 512 == v.index | _ => false) then (t, 0)
    else
      let fs := (List.range 512).map (v.index * 512 + ·)
      (t.each fs (fun u f => u.loseFolio f 0 unit), 512)
  else
    let e := s.tier.entry v.index
    if e.home ≠ some h then (drop s, 0)
    else match e.state with
      | .home => (drop ((s.loseFolio v.index 0 unit).setMap v.index { state := .lost, t0 := false, loc := 0, home := none }), 1)
      | .clean => (drop (s.setMap v.index { e with state := .dirty, home := none }), 0)
      | _ => (drop (s.setMap v.index { e with home := none }), 0)

/-- A stripe that lost two slots (R374). -/
def Dev.loseStripe (s : Dev) (h : Nat) (v : T2Slot) : Dev :=
  let gone := (h, v) :: (s.fm.stripe h v).filter (fun e => e.2.lost || s.fm.failed.contains (homeLun e.1))
  let (t, n) := gone.foldl (fun (a : Dev × Nat) e =>
    let (u, k) := a.1.slotGone (lunUnit (homeLun h)) e.1 e.2
    (u, a.2 + k)) (s, 0)
  ((t.set .FM_STATUS_STRIPE_LOST 1).post 0x6007 (lunUnit (homeLun h)) v.band v.page n).showRebuild

/-- Why a slot's band is moved out; 0 where it is not. -/
def Dev.slotWhy (s : Dev) (h : Nat) : Nat := (((s.fm.slots.get? h).bind fun v => s.fm.bands.get? v.band).map Band.why).getD 0

/-- A copy of a committed image goes to the Relocation stream unchanged (R371, R376); collection and wear levelling refill worn bands (R365). -/
def Dev.copySlot (s : Dev) (h : Nat) (v : T2Slot) : Dev × Bool :=
  let (t, o) := s.placeSlot .relocation { v with source := some h } (s.slotDomain v) (s.slotWhy h == 1 || s.slotWhy h == 3)
  (t, o.isSome)

/-- STRIPE_REBUILD: a slot that no longer decodes is rebuilt from its stripe and relocated, and the valid
folios of its page follow it; where that fails the stripe is lost (R371, R374). `opens`: the rebuilt image
opens and verifies. -/
def Dev.rebuildSlot (s : Dev) (h : Nat) (opens : Bool) : Dev :=
  match s.fm.slots.get? h with
  | none => s
  | some v =>
    let s1 := s.modFm fun f => { f with slots := f.slots.put h { v with lost := true } }
    if opens = true ∧ s1.fm.rebuildable h v = true then
      let s2 := (((s1.modFm fun f => { f with slots := f.slots.put h { v with lost := false } }).each (s1.fm.stripe h v) fun t e => t.countRead e.1).inc
          .FM_STRIPE_REBUILDS_REBUILDS).post
        0x6006 (lunUnit (homeLun h)) (lunUnit (homeLun h)) (v.index % 2 ^ 32) v.band
      let (s3, _) := s2.copySlot h v
      let page := (s3.validSlots v.band).filter (fun x => x / 4 == h / 4 && x != h && !s3.fm.relocate.contains x)
      (s3.modFm fun f => { f with relocate := page ++ f.relocate, rebuilds := f.rebuilds.erase h }).showRebuild
    else s1.loseStripe h v

/-! ### Relocation (R376 to R378) -/

/-- The place of a waiting slot in the order of R378: 0 a DEGRADED band or what follows a rebuild, then urgent collection, collection, refresh and
wear levelling, purge. -/
def Dev.moveRank (s : Dev) (h : Nat) : Nat :=
  match s.slotWhy h with
  | 0 => 0
  | 1 => if s.bit .FM_STATUS_GC_URGENT then 1 else 2
  | 4 => 4
  | _ => 3

/-- The next slot of the relocation queue: the first of those that come first in the order of R378. -/
def Dev.nextMove (s : Dev) : Option Nat :=
  (s.fm.relocate.foldl (fun (b : Option (Nat × Nat)) h => match b with
    | none => some (s.moveRank h, h)
    | some x => if s.moveRank h < x.1 then some (s.moveRank h, h) else some x) none).map Prod.snd

/-- One image of the relocation queue is copied; one that is valid no longer leaves the queue (R376). Rebuilds
of failed LUNs come first (R378). -/
def Dev.relocateOne (s : Dev) : Dev :=
  match s.fm.rebuilds with
  | h :: _ => s.rebuildSlot h true
  | [] =>
    match s.nextMove with
    | none => s
    | some h =>
      let gone (t : Dev) : Dev := t.modFm fun f => { f with relocate := f.relocate.erase h }
      match s.fm.slots.get? h with
      | some v => if s.slotValid h v then (match s.copySlot h v with | (u, true) => gone u | (_, false) => s) else gone s
      | none => gone s

/-- RELOCATION_COMMIT: the copy is committed, and HOME takes it only where HOME still names the source
(R376). -/
def Dev.commitRelocation (s : Dev) (h : Nat) : Dev :=
  match s.fm.slots.get? h with
  | none => s
  | some v =>
    match v.source, s.fm.bands.get? v.band with
    | some src, some b =>
      if s.fm.slotReady b v = false ∨ v.committed then s
      else
        let t := (s.modFm fun f => { f with slots := f.slots.put h { v with committed := true, source := none } }).inc .FM_GC_FOLIOS_GC
        if v.isMeta = true ∧ v.index ≥ 0x300000000 then
          if s.evt.archAt.get? (v.index - 0x300000000) = some src then t.modEvt (·.archiveMoves src h) else t
        else if v.isMeta then
          match s.jrn.homed.get? (metaPage v.index) with
          | some (x, through) => if x = src then t.journalHomed (metaPage v.index) h through else t
          | none => t
        else
          let e := s.tier.entry v.index
          if e.home = some src then t.setMap v.index { e with home := some h } else t
    | _, _ => s

/-- A Vigil program has completed: a folio that is still dirty becomes HOME at its vigil slot (R386, R297). -/
def Dev.vigilCommit (s : Dev) (h : Nat) (v : T2Slot) : Dev :=
  let e := s.tier.entry v.index
  if e.dirty then
    ((((s.noteLogged v.index).modTier fun r => { r.freeResident v.index e with wseq := r.wseq.put v.index v.wseq }).setMap v.index
      { state := .home, t0 := false, loc := 0, home := some h }).inc .FM_VIGIL_FOLIOS_VIGIL).modPwr fun p => { p with vigil := p.vigil.map (fun g => { g with saved := g.saved + 1 }) }
  else s

/-- SLOT_COMMIT: an image whose shield and parity pages have programmed is committed (R366); a map or
directory page is home from then on (R275), and a checkpoint whose pages are all committed is complete (R274). -/
def Dev.commitSlot (s : Dev) (h : Nat) : Dev :=
  match s.fm.slots.get? h with
  | none => s
  | some v =>
    match s.fm.bands.get? v.band with
    | none => s
    | some b =>
      if s.fm.slotReady b v = false ∨ v.committed ∨ v.source.isSome then s
      else
        let t := s.modFm fun f => { f with slots := f.slots.put h { v with committed := true } }
        if v.isMeta = false then (if b.stream = some .vigil then t.vigilCommit h v else t)
        else if v.index ≥ 0x300000000 then t.modEvt (·.archived h)
        else if v.index ≥ 0x200000000 then
          let k := (v.index - 0x200000000) / 2 ^ 30
          let ver := (v.index - 0x200000000) / 2 ^ 29 % 2
          let open_ := t.fm.slots.any (fun e => e.2.isMeta && !e.2.committed && decide (e.2.index / 2 ^ 29 = v.index / 2 ^ 29))
          if open_ then t
          else (t.modFm fun f => { f with
              ckpt := f.ckpt.put k (ver, t.jrn.granules),
              slots := f.slots.keep (fun _ x => !(x.isMeta && decide (x.index / 2 ^ 29 = ckptIndex k (1 - ver) 0 / 2 ^ 29))) }).journalCkpt k
        else match t.jrn.writing.find? (fun e => e.2.1 == h) with
          | some (page, _, through) => (t.modJrn fun j => { j with writing := j.writing.filter (fun e => e.2.1 != h) }).journalHomed page h through
          | none => t

/-! ### Reclaim, collection and refresh (R370, R375, R377) -/

/-- A band holds nothing that is needed: no valid slot, no image on its way. -/
def Dev.bandEmpty (s : Dev) (n : Nat) : Bool :=
  s.fm.slots.all (fun e => e.2.band != n || (e.2.committed && !s.slotValid e.1 e.2)) && (s.nand.programsOf n).isEmpty

/-- Its members' erases have begun. -/
def Dev.bandErasing (s : Dev) (b : Band) : Bool :=
  b.members.any (fun m => (s.fm.erasable m).any (fun x => (s.fm.blk m.lun x).intent))

/-- A band that is to be erased once it is empty: RECLAIM, DEGRADED, or LOG that is no longer written (R362,
R370). -/
def Band.leaving (b : Band) : Bool :=
  b.state == .reclaim || b.state == .degraded || (b.state == .log && b.cut.isSome)

/-- Bands without valid folios that are to go are erased (R370, R375). -/
def Dev.reclaimBands (s : Dev) : Dev :=
  s.each s.fm.bands fun t e =>
    if e.2.leaving && !t.bandErasing e.2 && t.bandEmpty e.1 then
      (t.modFm fun f => { f with bands := f.bands.upd e.1 (fun b => { b with state := .reclaim }) }).eraseBand e.1
    else t

/-- The policy record of the running Forme (R360). -/
def Dev.flashPolicy (s : Dev) : Option FlashPolicy := s.forme.run.map Forme.flash

/-- The victim of collection: the CLOSED band with the fewest valid folios, the earliest closed on a tie. -/
def Dev.gcVictim (s : Dev) : Option Nat :=
  (s.fm.best (fun _ b => b.state == .closed) (fun n b => s.validCount n * 2 ^ 48 + b.closedMs)).map Prod.fst

/-- Collection takes its next victim (R375). -/
def Dev.gcTake (s : Dev) : Dev :=
  match s.gcVictim with
  | none => s
  | some n =>
    let t := (s.modFm fun f => { f with bands := f.bands.upd n (fun b => { b with state := .reclaim, why := 1 }) }).journalFlash
    t.queueBand n (t.bit .FM_STATUS_GC_URGENT)

/-- FREE bands against GC_LOW and GC_HIGH (R375): collection starts, becomes urgent, or ends. -/
def Dev.gcCheck (s : Dev) : Dev :=
  match s.flashPolicy with
  | none => s
  | some p =>
    let n := s.fm.freeCount
    let urgent := decide (n < p.gcLow / 2)
    let on := decide (n < p.gcLow) || (s.fm.gc && decide (n < p.gcHigh))
    let t := ((s.modFm fun f => { f with gc := on }).setB .FM_STATUS_GC_ACTIVE on).setB .FM_STATUS_GC_URGENT urgent
    if urgent = true ∧ s.bit .FM_STATUS_GC_URGENT = false then t.post 0x600B 0 n p.gcLow 0 else t

/-- GC_START: with FREE bands below GC_LOW, or until they reach GC_HIGH, the emptiest closed band is taken
(R375). -/
def Dev.gcStart (s : Dev) : Dev :=
  let t := s.gcCheck
  if t.fm.gc then t.gcTake.reclaimBands else t

/-- Collection goes on: the next victim once the last has been moved out (R375). -/
def Dev.gcStep (s : Dev) : Dev :=
  let t := s.gcCheck
  if t.fm.gc && t.fm.relocate.isEmpty && !(t.fm.bands.any (fun e => e.2.state == .reclaim)) then t.gcTake else t

/-- The lowest and the highest erase count of blocks in service (R377). -/
def FlashSt.ecRange (f : FlashSt) : Nat × Nat :=
  let es := (f.blocks.vals.filter (fun b => !b.retired)).map Blk.ec
  let all := f.luns.length * f.planes * f.perPlane
  let lo := if f.blocks.length < all then 0 else es.foldl min (es.headD 0)
  (lo, es.foldl max 0)

/-- A band holds a block of the lowest count. -/
def FlashSt.holdsLowest (f : FlashSt) (b : Band) : Bool :=
  b.members.any (fun m => m.blocks.any (fun x => (f.blk m.lun x).ec == f.ecRange.1))

/-- A band holds the block of the lowest erase count while the spread of the counts exceeds WL_SPREAD (R377). -/
def Dev.levelDue (s : Dev) (p : FlashPolicy) (b : Band) : Bool :=
  decide (s.fm.ecRange.2 - s.fm.ecRange.1 > p.wlSpread) && s.fm.holdsLowest b

/-- A band is due for relocation as a whole (R377). -/
def Dev.refreshDue (s : Dev) (p : FlashPolicy) (b : Band) : Bool :=
  b.reads.any (fun e => decide (e.2 ≥ p.readRefresh)) || b.finalStep || decide (s.evt.islandMs > b.closedMs + p.refreshDays * 86400000) ||
    s.levelDue p b

/-- BAND_REFRESH: a band that is due is relocated; a LOG band stays LOG (R377). -/
def Dev.refreshBand (s : Dev) (n : Nat) : Dev :=
  match s.flashPolicy, s.fm.bands.get? n with
  | some p, some b =>
    if (b.state = .closed ∨ (b.state = .log ∧ b.cut.isSome)) ∧ s.refreshDue p b = true then
      let v : Band :=
        { b with state := (if b.state = .log then BState.log else .reclaim), reads := [], finalStep := false, closedMs := s.evt.islandMs,
                 why := if s.levelDue p b then 3 else 2 }
      (s.modFm fun f => { f with bands := f.bands.put n v }).queueBand n false
    else s
  | _, _ => s

/-- Bands in state ERASED have their blocks checked, candidates for VIGIL first (R384). -/
def Dev.startChecks (s : Dev) : Dev :=
  s.each (s.fm.bands.filter (fun e => e.2.state == .erased)) fun t e =>
    t.each (List.range e.2.width) fun u m =>
      let lun := (e.2.members.getD m ⟨0, []⟩).lun
      let l := u.nand.lun lun
      let same (j : NandJob) : Bool := j == .check e.1 m
      if e.2.checked.testBit m || l.wait.any (fun w => same w.2) || l.run.any (fun o => same o.job) then u
      else u.queueJob (.check e.1 m)

/-! ### Ends of operations (R381 to R384) -/

/-- A program that reported failure on some planes (R381). -/
def Dev.programFail (s : Dev) (n page member planes : Nat) : Dev :=
  match s.fm.bands.get? n with
  | none => s
  | some b =>
    let m := b.members.getD member ⟨0, []⟩
    let bad := (List.range s.fm.planes).filter (fun q => planes.testBit q)
    let good := (List.range s.fm.planes).filter (fun q => !planes.testBit q)
    let s1 := (s.programDone n page member good).inc .FM_PROG_FAIL_PROG_FAIL
    let s2 := s1.each bad fun t q =>
      let x := m.blocks.getD q 0
      (t.post 0x6001 (lunUnit m.lun) (lunUnit m.lun) (blkKey m.lun x) page).retireBlock m.lun x
    (s2.degradeBand n (page + 1)).checkLun m.lun

/-- An erase that reported failure on some planes (R382). -/
def Dev.eraseFail (s : Dev) (band : Option Nat) (m : Member) (planes : Nat) : Dev :=
  let bad := (List.range m.blocks.length).filter (fun q => planes.testBit q)
  let s1 := (s.memberErased m).inc .FM_ERASE_FAIL_ERASE_FAIL
  let s2 := s1.each bad fun t q =>
    let x := m.blocks.getD q 0
    let u := (t.modFm fun f => f.setBlk m.lun x { f.blk m.lun x with erased := false }).post 0x6002 (lunUnit m.lun) (lunUnit m.lun) (blkKey m.lun x) 0
    u.retireBlock m.lun x
  (s2.eraseDone band m).checkLun m.lun

/-- A half-erased block's member is erased again before it enters a band (R383, R384). -/
def Dev.halfErased (s : Dev) (m : Member) (withIntent : Bool) : Dev :=
  let t := s.each (s.fm.erasable m) fun u x =>
    ((u.modFm fun f => f.setBlk m.lun x { f.blk m.lun x with intent := true, erased := false }).set .FM_STATUS_HALF_ERASED 1).post
      0x6004 (lunUnit m.lun) (lunUnit m.lun) (blkKey m.lun x) (b2n withIntent)
  (t.intent 1 (blkKey m.lun (m.blocks.headD 0)) 0).queueJob (.erase none m)

/-- A member of an ERASED band whose pages neither read as erased nor decode: the band is broken up, its
other members return to the pool (R384). -/
def Dev.checkFailed (s : Dev) (n member : Nat) : Dev :=
  match s.fm.bands.get? n with
  | none => s
  | some b =>
    let m := b.members.getD member ⟨0, []⟩
    let t := s.modFm fun f => { f with bands := f.bands.del n, pool := f.pool ++ b.members.erase m }
    t.halfErased m false

/-- SLC Meta program times, the last 1,024, µs (R388). -/
def Dev.metaTime (s : Dev) (n : Nat) (o : NandOp) : Dev :=
  match s.fm.bands.get? n with
  | some b =>
    if b.stream = some .meta_ then
      s.modFm fun f => { f with metaUs := (((s.nowTicks - o.start) / 2000) :: f.metaUs).take 1024 }
    else s
  | none => s

/-! ### Table checkpoints (R274, R363) -/

/-- Pages of a checkpoint: one folio for each table, whose page count the manual does not give (assumption 37). -/
def Dev.placeMeta (s : Dev) (index : Nat) : Dev × Option Nat :=
  let v : T2Slot :=
    { index := index, isMeta := true, epoch := 0, wseq := 0, data := [], band := 0, page := 0, member := 0, plane := 0,
      committed := false, source := none, lost := false }
  s.placeSlot .meta_ v none

/-- ARCHIVE_SEGMENT: the folio of a completed segment is placed in the Meta stream (R601); nothing while archiving is stopped, the segment is
not complete, or the one before it is being written. -/
def Dev.archiveSegment (s : Dev) : Dev :=
  let r := s.evt
  if r.archiveDue then
    match s.placeMeta (0x300000000 + r.archNext / 128 % 65536) with
    | (t, some h) => t.modEvt fun x => { x with archBusy := some (r.archNext, h, r.segment r.archNext) }
    | (t, none) => t
  else s

/-- TABLE_CHECKPOINT: the block and band tables, and the tables of R208, are written into the version that the
last complete checkpoint did not use (R274, R363). -/
def Dev.checkpoint (s : Dev) : Dev :=
  let t := s.modFm fun f => { f with ckptMs := s.evt.islandMs }
  t.each [0, 1, 2] fun u k =>
    let ver := 1 - ((u.fm.ckpt.get? k).map Prod.fst).getD 1
    (u.placeMeta (ckptIndex k ver 0)).1

/-- A map page changed by the oldest retained map record is written to T2, where the journal runs high
(R275; assumption 38). -/
def Dev.writeOldPage (s : Dev) : Dev :=
  match s.jrn.recs.findSome? (fun r => match r.body with
    | .map i false _ => if s.jrn.writing.any (fun e => e.1 == i / 512) then none else some (i / 512)
    | _ => none) with
  | none => s
  | some page =>
    match s.placeMeta page with
    | (t, some h) => t.modJrn fun j => { j with writing := j.writing ++ [(page, h, j.granules)] }
    | (t, none) => t

/-! ### Purge (R390 to R392) -/

/-- A band belongs to the purge set of a domain, or of all. -/
def Band.purged (b : Band) (d : Option Nat) : Bool :=
  !b.members.isEmpty && b.state != .erased && b.state != .free && b.state != .vigil && (match d with | some x => b.domains.contains x | none => true)

/-- `FM_PURGE` and its counts. -/
def Dev.showPurge (s : Dev) : Dev :=
  match s.fm.purge with
  | none => s.setL [(.FM_PURGE_STAGE, 0), (.FM_STATUS_PURGE, 0)]
  | some p =>
    let erasing := match p.left with
      | n :: _ => (s.fm.bands.get? n).any (fun b => s.bandErasing b)
      | [] => false
    s.setL [(.FM_PURGE_DOMAIN, p.domain.getD 0), (.FM_PURGE_TOTAL_TOTAL, p.total), (.FM_PURGE_DONE_DONE, p.done),
      (.FM_PURGE_UNVERIFIED_BLOCKS, p.unverified), (.FM_STATUS_PURGE, 1), (.FM_PURGE_STAGE, if p.left = [] then 3 else if erasing then 2 else 1)]

/-- A purge starts: open bands of the set are closed with padding (R390). -/
def Dev.startPurge (s : Dev) (d : Option Nat) : Dev :=
  let ns := (s.fm.bands.filter (fun e => e.2.purged d)).map Prod.fst
  let s1 := s.each ns fun t n =>
    match t.fm.bands.get? n with
    | some b => if b.state = .open_ ∨ (b.state = .log ∧ b.cut.isNone) then
        ((t.padBand n).modFm fun f => { f with bands := f.bands.upd n (fun x => { x with
          state := (if x.state = .log then BState.log else .closed), cut := some (ceilDiv x.placed (max 1 (f.pageSlots x))), closedMs := s.evt.islandMs }) }).intent 3 n 0xFFFF
      else t
    | none => t
  let bad := s.fm.bands.foldl (fun a e => if e.2.purged d then a + (e.2.members.flatMap (fun m => m.blocks.filter (fun x => (s.fm.blk m.lun x).retired))).length else a) 0
  ((s1.modFm fun f => { f with purge := some { domain := d, left := ns, total := ns.length, done := 0, unverified := bad, zeroing := true } }).post
    0x600C 0 (d.getD 0) ns.length 0).showPurge

/-- PURGE: the next destroyed domain's purge starts where none runs (R390). -/
def Dev.purgeNext (s : Dev) : Dev :=
  match s.fm.purge, s.fm.purges with
  | none, d :: rest => (s.modFm fun f => { f with purges := rest }).startPurge (some d)
  | _, _ => s

/-- Zeroes the freed frames, slots, lines and entries (R390); in the model a freed place holds nothing.
A destroyed domain becomes UNKEYED and keeps its epochs (R513). -/
def Dev.endPurge (s : Dev) (p : Purge) : Dev :=
  let t := ((s.modFm fun f => { f with purge := none }).post 0x600D 0 (p.domain.getD 0) p.done p.unverified).showPurge
  match p.domain with
  | some d => t.setDomain d { t.keys.dom d with state := .unkeyed, curSlot := 0, prevSlot := 0 }
  | none => t

/-- The purge moves on by one band: valid folios of other domains move out, its members are erased and
verified; after the last band the freed memory is zeroed (R390). -/
def Dev.purgeStep (s : Dev) : Dev :=
  match s.fm.purge with
  | none => s.purgeNext
  | some p =>
    match p.left with
    | [] => if p.zeroing then (s.modFm fun f => { f with purge := some { p with zeroing := false } }).showPurge
            else if p.domain.isSome then s.endPurge p else s
    | n :: rest =>
      match s.fm.bands.get? n with
      | none =>
        (s.modFm fun f => { f with purge := some { p with left := rest, done := p.done + 1 } }).showPurge
      | some b =>
        if b.state = .reclaim then s.showPurge
        else
          ((s.modFm fun f => { f with bands := f.bands.put n { b with state := .reclaim, why := 4 } }).queueBand n false).showPurge

/-! ### Start-up and the Vigil (R383 to R387, R418) -/

/-- The open bands a power cut left are closed at the first page not fully programmed, and their
uncommitted images are gone (R385). -/
def Dev.closeOpenBands (s : Dev) : Dev :=
  s.each (s.fm.bands.filter (fun e => e.2.state == .open_ || (e.2.state == .log && e.2.cut.isNone))) fun t e =>
    let b := e.2
    let part := b.done.any (fun k => decide (k / 64 ≥ b.upto))
    let st : BState := if part then .degraded else if b.state = .log then .log else .closed
    let u := (t.modFm fun f => { f with
      bands := f.bands.put e.1 { b with state := st, cut := some b.upto, closedMs := t.evt.islandMs },
      slots := f.slots.keep (fun _ v => v.band != e.1 || v.committed) }).intent 3 e.1 0xFFFF
    let w := u.post 0x6010 0 e.1 b.upto (b2n part)
    if part then w.queueBand e.1 true else w

/-- RECOVERING: half-erased blocks are erased again, open bands closed (R383, R385). -/
def Dev.recoverFlash (s : Dev) : Dev :=
  let half := (s.fm.blocks.filter (fun e => e.2.intent && !e.2.retired)).map Prod.fst
  let ms := (half.map (fun k => (⟨k / 8192, (List.range s.fm.planes).map (fun q => (k % 8192) / max 1 s.fm.planes * s.fm.planes + q)⟩ : Member))).eraseDups
  let t := s.each ms fun u m =>
    let v := u.modFm fun f => { f with
      bands := (f.bands.map (fun e => (e.1, { e.2 with members := e.2.members.erase m }))).filter (fun e => !e.2.members.isEmpty) }
    v.halfErased m true
  let u := t.closeOpenBands
  u.each (u.fm.bands.filter fun e => e.2.state == .degraded || e.2.state == .reclaim) fun v e => v.queueBand e.1 false

/-- TRAINING resets every erase-state record and every check (R384, R406). -/
def Dev.forgetErased (s : Dev) : Dev :=
  s.modFm fun f => { f with
    blocks := f.blocks.map (fun e => (e.1, { e.2 with erased := false })),
    bands := f.bands.map (fun e => (e.1, if e.2.state = .free ∨ e.2.state = .vigil then { e.2 with state := .erased, checked := 0 } else e.2)) }

/-- The start of HOLDUP_SAVE: suspended programs resume, erases are reset with their intents left open (R418). -/
def Dev.vigilLun (s : Dev) (lun : Nat) : Dev :=
  let l := s.nand.lun lun
  let op := match l.susp with
    | some o => some o
    | none => l.run
  match op with
  | none => s
  | some o => match o.job with
    | .erase _ m =>
      let t := s.each (s.fm.erasable m) fun u x =>
        (u.modFm fun f => f.setBlk lun x { f.blk lun x with erased := false }).post 0x6027 (lunUnit lun) (lunUnit lun) (blkKey lun x) 0
      t.modNand (·.setLun lun { l with run := none, susp := none })
    | _ => s.modNand (·.setLun lun { l with run := some { o with since := s.nowTicks }, susp := none })

/-- Every LUN at the Vigil's start (R386, R418). -/
def Dev.vigilNand (s : Dev) : Dev := s.each (s.nand.luns.map Prod.fst) (fun t l => t.vigilLun l)

/-- The relocation queue may move now (R378, R560): what waits is not deferrable, or deferrable work may take an entry. -/
def Dev.mayRelocate (s : Dev) : Bool :=
  s.deferrable || s.bit .FM_STATUS_GC_URGENT || !s.fm.rebuilds.isEmpty || s.fm.purge.isSome ||
    s.nextMove.any (fun h => s.moveRank h == 0)

/-- The flash work of one boundary (R363, R375, R378, R384, R390), outside HOLDUP_SAVE. -/
def Dev.flashWork (s : Dev) : Dev :=
  let ckptDue := match s.flashPolicy with
    | some p => decide (s.evt.islandMs ≥ s.fm.ckptMs + p.ckptS * 1000)
    | none => false
  let t := (s.when s.jrn.high (·.writeOldPage)).when ckptDue (·.checkpoint)
  (((t.when t.mayRelocate (·.relocateOne)).when (t.deferrable || t.bit .FM_STATUS_GC_URGENT) (·.gcStep)).purgeStep.reclaimBands.startChecks).pumpAll

/-! ### Commands -/

/-- SLOT_COMMIT (R366). -/
def execSlotCommit (home : Nat) (w : State) : Host.Outcome State Fault Refusal := finish w fun s => (s.commitSlot home)

/-- PROGRAM_REFUSED: the LUN's oldest waiting program is refused where the engine finds a page not erased
(R368, R407). -/
def execProgramRefused (lun : Nat) (w : State) : Host.Outcome State Fault Refusal :=
  finish w fun s => (match (s.nand.lun lun).wait.find? (s.mayStart lun ·) with
    | some e => if s.refusedJob e then s.pump lun else s
    | none => s)

/-- LUN_FAILED (R372). -/
def execLunFailed (lun : Nat) (w : State) : Host.Outcome State Fault Refusal := finish w fun s => (s.failLun lun)

/-- GC_START (R375). -/
def execGcStart (w : State) : Host.Outcome State Fault Refusal := finish w fun s => s.gcStart

/-- RELOCATION_COMMIT (R376). -/
def execRelocationCommit (home : Nat) (w : State) : Host.Outcome State Fault Refusal := finish w fun s => (s.commitRelocation home)

/-- BAND_REFRESH (R377). -/
def execBandRefresh (band : Nat) (w : State) : Host.Outcome State Fault Refusal := finish w fun s => (s.refreshBand band)

/-- ARCHIVE_SEGMENT (R601). -/
def execArchiveSegment (w : State) : Host.Outcome State Fault Refusal := finish w fun s => s.archiveSegment

/-- TABLE_CHECKPOINT (R363). -/
def execTableCheckpoint (w : State) : Host.Outcome State Fault Refusal := finish w fun s => s.checkpoint

/-- PURGE (R390). -/
def execPurge (w : State) : Host.Outcome State Fault Refusal := finish w fun s => s.purgeStep

end Sys2Proof.Machine
end

