-- ==== Sys2Proof/Machine/Calendar.lean ====
section
/-!
DEFINITION. The Calendar of 04_calendar.md: what the running page gives a station, admission and sampling, and
the change of page when a unit is lost.
-/

namespace Sys2Proof.Machine

open Sys2Proof

/-! ### Tables (R97, R105, R117, R122) -/

/-- The entry of a run list at a tick (R105). -/
def runAt : List (Nat × Nat) → Nat → Nat
  | [], _ => 0
  | (n, e) :: rs, t => if t < n then e else runAt rs (t - n)

/-- Fields of a slot entry (R101). -/
def slotCls (e : Nat) : Nat := bitsOf e 14 2
def slotOp (e : Nat) : Nat := bitsOf e 10 4
def slotArg (e : Nat) : Nat := bitsOf e 0 10

/-- A page of the running Forme. -/
def Dev.pageOf (s : Dev) (n : Nat) : Option Page := s.forme.run.bind (fun f => f.pages.get? n)

/-- The running page. -/
def Dev.page (s : Dev) : Option Page := s.pageOf s.cal.page

/-- A listed station of a page. -/
def Page.station (p : Page) (idx : Nat) : Option Station := p.stations.find? (fun x => x.idx == idx)

/-- The other station of a pair (R117). -/
def pairOf (pairs : List (Nat × Nat)) (idx : Nat) : Nat :=
  match pairs.find? (fun e => e.1 == idx || e.2 == idx) with
  | some e => if e.1 = idx then e.2 else e.1
  | none => idx

/-- The station whose table a station executes: the pairs, then the spares (R117, R122). -/
def CalSt.tableOf (c : CalSt) (idx : Nat) : Nat :=
  pairOf c.pairs (((c.spared.find? (fun e => e.2 == idx)).map Prod.fst).getD idx)

/-- The station that executes nothing because a spare took its table (R122). -/
def CalSt.replaced (c : CalSt) (idx : Nat) : Bool := c.spared.any (fun e => e.1 == idx)

/-- The table that a station runs. -/
def Dev.table (s : Dev) (idx : Nat) : Option Station :=
  if s.cal.replaced idx then none else s.page.bind (fun p => p.station (s.cal.tableOf idx))

/-- The entry of a station at a tick (R97). -/
def Dev.entryAt (s : Dev) (idx tick : Nat) : Nat := ((s.table idx).map (fun x => runAt x.runs tick)).getD 0

/-- Ticks of a station's table that carry one of some operations. -/
def Dev.opTicks (s : Dev) (idx : Nat) (ops : List Nat) : Nat :=
  ((s.table idx).map (fun x => (x.runs.filter (fun r => ops.contains (slotOp r.2))).map Prod.fst |>.sum)).getD 0

/-- The type of a station index (R99); 0 for an index not in the table. -/
def stationType (i : Nat) : Nat :=
  if i < 0x10 then 1 else if i < 0x20 then 2 else if i < 0x40 then 3 else if i < 0x5C then 4
  else if i < 0x60 then 5 else if i < 0x80 then 6 else if i < 0x90 then 7 else if i < 0xA0 then 8
  else if i < 0xC3 then 9 else if 0xC4 ≤ i ∧ i < 0xC8 then 0xA else if 0xC8 ≤ i ∧ i < 0xD0 then 0xB
  else if 0xD0 ≤ i ∧ i < 0xD9 then 0xC else if 0xE0 ≤ i ∧ i < 0x100 then 0xD else 0

/-- The stations of a unit by its unit ID (R99, R614); a cipher cluster is named by its lowest core. -/
def unitStations (u : Nat) : List Nat :=
  let n := u % 256
  match u / 256 with
  | 1 => [0x10 + 2 * n, 0x11 + 2 * n]
  | 2 => [n]
  | 3 => [0x20 + n]
  | 4 => [0xA0 + 4 * n, 0xA1 + 4 * n, 0xA2 + 4 * n, 0xC8 + n]
  | 6 => [0xD0 + n]
  | 7 => (List.range 4).map (fun i => 0x40 + n / 4 * 4 + i)
  | 9 => [0x60 + n]
  | 0xA => [0x80 + n]
  | 0xB => [0x5C + n]
  | 0xE => [n]
  | _ => []

/-- A maintenance OP of a type (R102). -/
def maintOp (typ op : Nat) : Bool :=
  match typ with
  | 1 | 2 => [3, 4, 5, 6, 7].contains op
  | 3 => op == 4
  | 4 => op == 2 || op == 3
  | 5 | 6 | 7 => op == 5
  | _ => false

/-- A request OP of a type (R102). -/
def requestOp (typ op : Nat) : Bool :=
  match typ with
  | 1 | 2 => op == 1 || op == 2
  | 3 => [1, 2, 3].contains op
  | 5 | 6 => op == 1 || op == 2
  | 7 => [1, 2, 3, 4].contains op
  | 4 | 8 | 9 | 0xA | 0xB | 0xC | 0xD => op == 1
  | _ => false

/-- The class that owns an entry: in TRAINING and RECOVERING every request entry is C3 (R39, R104). -/
def Dev.entryCls (s : Dev) (e : Nat) : Nat := if s.inMode [mTRAINING, mRECOVERING] then 3 else slotCls e

/-! ### Classes of packets (R23, R112, R167, R171) -/

/-- The QP that a QPN names (R167). -/
def qpIndex (qpn : Nat) : Option Nat := if 0x100 ≤ qpn ∧ qpn < 0x100 + 131072 then some (qpn - 0x100) else none

/-- The QP of a QPN, where it is not in RESET. -/
def NetSt.qpOf (n : NetSt) (qpn : Nat) : Option (Nat × Qp) := (qpIndex qpn).bind (fun i => (n.qps.get? i).map (fun q => (i, q)))

/-- The class of a DSCP (R112, R171). -/
def Dev.dscpClass (s : Dev) (d : Nat) : Nat := min ((s.forme.run.map (fun f => f.dscp.getD d 0)).getD 0) 2

/-- The class of an arriving packet: the one recorded for its QP in RTR or RTS, else the one its DSCP maps to (R112). -/
def Dev.packetCls (s : Dev) (qpn dscp : Nat) : Nat :=
  match s.net.qpOf qpn with
  | some (_, q) => if q.fixed && (q.state == 2 || q.state == 3) then q.cls else s.dscpClass dscp
  | none => s.dscpClass dscp

/-- The first request packet of a QP in RTR or RTS fixes its class and its DSCP (R112, R162). -/
def Dev.fixClass (s : Dev) (qpn dscp : Nat) (request : Bool) : Dev :=
  match s.net.qpOf qpn with
  | some (i, q) =>
    if request && !q.fixed && (q.state == 2 || q.state == 3) then
      s.modNet fun n => { n with qps := n.qps.upd i fun x => { x with cls := s.dscpClass dscp, dscp := dscp % 64, fixed := true } }
    else s
  | none => s

/-- The admission point of a packet at a port (R112, R171). -/
def Dev.packetPoint (s : Dev) (port qpn dscp : Nat) : Nat := 4 * port + s.packetCls qpn dscp

/-! ### Admission (R110 to R115) -/


/-- The descriptor of a point on the running page. -/
def Dev.admission (s : Dev) (k : Nat) : Option AdmitDesc := s.page.bind (fun p => p.admits.find? (fun a => a.point == k))

/-- The class of a point; point 32 carries the class of the forwarded request. -/
def pointClass (k : Nat) : Nat := if k < 32 then k % 4 else 3

/-- The queue of a point. -/
def CalSt.queue (c : CalSt) (k : Nat) : List Arrival := c.queues.getD k []

/-- Changes a queue; an empty one is not listed. -/
def CalSt.setQueue (c : CalSt) (k : Nat) (q : List Arrival) : CalSt :=
  { c with queues := if q = [] then c.queues.del k else c.queues.put k q }

/-- An arrival joins its queue (R111); a C0 arrival behind more than BURST others is counted (R114). -/
def Dev.joinQueue (s : Dev) (d : AdmitDesc) (k : Nat) (a : Arrival) : Dev :=
  let q := s.cal.queue k
  let t := (s.modCal fun c => c.setQueue k (q ++ [a])).maxF (.ADMIT_PEAK_PEAK k) (q.length + 1)
  if k < 32 ∧ k % 4 = 0 ∧ q.length > d.burst then (t.inc (.ADMIT_OVER_OVER k)).post 0x3033 (0x0EA0 + k) k q.length d.burst else t

/-- An arrival at a point (R110): a full port point discards the frame, internal requests and point 34 wait; points 32
and 33 cannot fill. On a follower the port points discard every frame (R115). -/
def Dev.arriveAt (s : Dev) (k : Nat) (a : Arrival) (internal : Bool) : Dev :=
  match s.admission k with
  | none => s
  | some d =>
    if s.calRuns = false ∨ (k < 32 ∧ s.follower = true) then s
    else if (s.cal.queue k).length < d.depth then s.joinQueue d k a
    else if k = 34 ∨ internal = true then s.modCal fun c => { c with stalled := c.stalled ++ [(k, a)] }
    else if k < 32 then
      let t := s.inc (.ADMIT_DROP_DROPS k)
      t.post 0x3032 (0x0EA0 + k) k (pointClass k) (t.get (.ADMIT_DROP_DROPS k))
    else s

/-- In QUIESCED, packets of QPs other than control QPs are discarded without response, also those that were queued when the mode was entered; MADs
on QP1 are not (R40, R52, R165). -/
def Dev.quieted (s : Dev) (a : Arrival) : Bool :=
  s.modeOf == mQUIESCED && (match a.qpn with
    | none => false
    | some n => n != 1 && (match s.net.qpOf n with | some (_, q) => q.kind != 1 | none => true))

/-- ADMIT_ARRIVAL (R110, R112, R171): a packet enters the point of its class on its port, whichever point of the port it was offered. -/
def Dev.arrive (s : Dev) (k : Nat) (a : Arrival) (internal : Bool) : Dev :=
  match a.qpn with
  | none => s.arriveAt k a internal
  | some n =>
    if k < 32 ∧ internal = false ∧ s.calRuns = true ∧ s.follower = false then
      if s.quieted a then s else
      let t := s.fixClass n a.dscp a.request
      t.arriveAt (t.packetPoint (k / 4) n a.dscp) a false
    else s.arriveAt k a internal

/-- One request in how many SAMPLE entries a governor level leaves a port point of a class; 0: none (R560). -/
def govShare (g cls : Nat) : Nat :=
  if cls = 2 then (if g ≤ 2 then 1 else if g = 3 then 2 else if g = 4 then 4 else 0)
  else if cls = 1 then (if g ≤ 5 then 1 else if g = 6 then 2 else if g = 7 then 4 else 0)
  else 1

/-- The same for a throttle level (R293). -/
def throttleShare (l cls : Nat) : Nat :=
  if cls = 2 then (if l = 0 then 1 else if l = 1 then 4 else 0)
  else if cls = 1 then (if l ≤ 1 then 1 else if l = 2 then 4 else 0)
  else 1

/-- A SAMPLE entry of a share takes a request: the first of each run of `n`. -/
def shareTakes (n count : Nat) : Bool := n != 0 && count % n == 0

/-- A port point takes its head (R293, R295, R560, R561). -/
def Dev.gateOpen (s : Dev) (k : Nat) (a : Arrival) : Bool :=
  let n := s.cal.samples.getD k 0
  let c := k % 4
  let gov := shareTakes (govShare s.therm.acting c) n
  let dirties := a.writes && (match a.folio with | some f => !(s.tier.entry f).dirty | none => true)
  let tier := if s.bit .TIER_STATUS_HOLDUP_SHORT then !a.writes
    else shareTakes (throttleShare (s.get .TIER_STATUS_THROTTLE) c) n &&
      !(c == 0 && s.get .TIER_STATUS_THROTTLE == 3 && dirties)
  gov && tier

/-- A bit of the structure's FLAGS. -/
def Dev.formeFlag (s : Dev) (i : Nat) : Bool := (s.forme.run.map (fun f => f.fixed.flags.testBit i)).getD false

/-- The modes in which port points take requests: those that serve hosts, and QUIESCED for control QPs where the Forme enables them (R39,
R40, R52). -/
def Dev.portsAdmit (s : Dev) : Bool := (s.serving || (s.modeOf == mQUIESCED && s.formeFlag 1)) && !s.cal.stopped

/-- A waiting arrival of a point joins once there is space (R110). -/
def Dev.unstall (s : Dev) (k : Nat) : Dev :=
  match s.admission k, s.cal.stalled.find? (fun e => e.1 == k) with
  | some d, some e =>
    if (s.cal.queue k).length < d.depth then (s.modCal fun c => { c with stalled := c.stalled.erase e }).joinQueue d k e.2 else s
  | _, _ => s

/-- The station that serves a stamped request (R99, R111): the transport engine of its QP for packets and management work, a tier manager
for a NAND status. Which instance it is, the manual leaves open (assumption 127). -/
def servingStation (k : Nat) (a : Arrival) : Nat := if k = 33 then 0xC4 + a.id % 4 else 0x90 + a.qpn.getD 0 % 16

/-- A stamped request as it reaches its station's input (R103, R111). -/
def Arrival.stamped (a : Arrival) (k cls st : Nat) : Request :=
  { point := k, id := a.id, qpn := a.qpn, cls := cls, stamp := st, station := servingStation k a, reached := st, op := 1, bank := 0, served := false }

/-- Point 32 releases its head with the active's stamp, which the item itself carries (R115). -/
def Dev.release (s : Dev) (k : Nat) (rest : List Arrival) : Dev := (s.modCal fun c => c.setQueue k rest).unstall k

/-- SAMPLE (R98, R111): at its tick a point's SAMPLE entry takes the head of the queue, stamps it and releases it to its station; an empty
queue, a held head and a tick already passed leave the entry gated. -/
def Dev.sample (s : Dev) (k tick : Nat) : Dev :=
  let st := s.cal.cycle * 4096 + tick
  let later := match s.cal.lastStamp with
    | some l => decide (l < st)
    | none => true
  let s1 := s.modCal fun c => { c with samples := c.samples.put k (c.samples.getD k 0 + 1) }
  if s.calRuns = false ∨ tick ≥ 4096 ∨ slotOp (s.entryAt (0xA0 + k) tick) ≠ 1 ∨ later = false then s
  else if k < 32 ∧ s.portsAdmit = false then s
  else match s.cal.queue k with
    | [] => s1
    | a :: rest =>
      if k < 32 ∧ s.gateOpen k a = false then s1
      else if k = 32 ∨ (k < 32 ∧ s.quieted a = true) then s1.release k rest
      else (s1.modCal fun c => { c with lastStamp := some st, requests := c.requests ++ [a.stamped k (pointClass k) st] }).release k rest

/-- The first tick from a tick on at which a run list samples. -/
def sampleFrom : List (Nat × Nat) → Nat → Nat → Option Nat
  | [], _, _ => none
  | (n, e) :: rs, at_, t => if slotOp e = 1 ∧ t < at_ + n then some (max at_ t) else sampleFrom rs (at_ + n) t

/-- The stamp that a point's next SAMPLE entry gives: the first after every stamp given (R24, R98); where the cycle has no such entry left, the
next stamp in order (assumption 127). -/
def Dev.nextStamp (s : Dev) (k : Nat) : Nat :=
  let start := s.cal.cycle * 4096
  let lo := max start ((s.cal.lastStamp.map (· + 1)).getD start)
  match (s.table (0xA0 + k)).bind fun x => sampleFrom x.runs 0 (lo - start) with
  | some t => start + t
  | none => lo

/-- The stamped request with the earliest stamp that a condition names (R103). -/
def earliest (p : Request → Bool) (l : List Request) : Option Request :=
  l.foldl (fun b r => if p r then (match b with | none => some r | some x => if r.stamp < x.stamp then some r else some x) else b) none

/-- A request takes its turn to execute (R24, R98): the earliest one of its point that a SAMPLE stamped, at that stamp; one that no SAMPLE row has
stamped is stamped at its point's next entry. The port points give no stamp where they admit nothing: what they stamped before admission stopped
still takes its turn (R52, R234). -/
def Dev.admitted (s : Dev) (k : Nat) (p : Request → Bool) : Dev :=
  let shut := decide (k < 32) && !s.portsAdmit
  if s.calRuns = false ∨ (shut = true ∧ s.cal.stopStamp = none) then s
  else match earliest (fun r => r.point == k && p r) s.cal.requests with
    | some r => s.modCal fun c => { c with requests := c.requests.erase r, now := some r.stamp }
    | none => if shut then s else let st := s.nextStamp k; s.modCal fun c => { c with lastStamp := some st, now := some st }

/-- The request at hand was stamped before admission stopped (R52, R234, R476). -/
def Dev.carriesOn (s : Dev) : Bool :=
  match s.cal.now, s.cal.stopStamp with
  | some n, some b => decide (n < b)
  | _, _ => false

/-- Admission stops (R52, R234, R476): every stamp given so far is before it. -/
def CalSt.shut (c : CalSt) : CalSt := { c with stopStamp := some ((c.lastStamp.map (· + 1)).getD 0) }

/-- A request of a host, or of a device queue, which ports admit. -/
def Request.ofPort (r : Request) : Bool := decide (r.point < 32)

/-- Requests stamped before admission stopped that have not executed, by stamp. -/
def CalSt.openStamps (c : CalSt) : List Nat := (c.requests.filter Request.ofPort).map Request.stamp

/-- They end without effect (R52, R234). -/
def CalSt.endOpen (c : CalSt) : CalSt := { c with requests := c.requests.filter fun r => !r.ofPort, stopStamp := none }

/-- The request that executed is over. -/
def Dev.executed (s : Dev) : Dev := s.modCal fun c => { c with now := none }

/-- Runs a request of a point at its stamp. -/
def Dev.atPoint (s : Dev) (k : Nat) (p : Request → Bool) (f : Dev → Dev) : Dev := (f (s.admitted k p)).executed

/-- Runs work of the management cores or of the register window, a C3 request through point 34 (R15, R16, R110). -/
def Dev.atManagement (s : Dev) (f : Dev → Dev) : Dev := s.atPoint 34 (fun _ => true) f

/-- What a register write does, where it reaches its address: an access of the register window enters through point 34 (R572). -/
def Dev.regRow (s : Dev) (a : Nat) (f : Dev → Dev) : Dev := if s.reaches a then s.atManagement f else s

/-! ### Stations serve their inputs (R103, R104) -/

/-- The order in which an entry of a class is offered (R103). -/
def offerOrder (c : Nat) : List Nat := c :: [0, 1, 2, 3].filter (· != c)

/-- An entry can serve a request: at a memory station only one of its own kind for its own bank (R103). -/
def Request.fits (r : Request) (typ e : Nat) : Bool :=
  requestOp typ (slotOp e) && (if typ = 1 ∨ typ = 2 then slotOp e == r.op && slotArg e == r.bank else true)

/-- An entry is held for the request that the station executes again at its tick, and takes no new one (R137). -/
def Dev.entryHeld (s : Dev) (idx tick : Nat) : Bool := s.integ.replays.any fun e => e.2.unit == 0x0E00 + idx && e.2.tick == tick

/-- The request that a station's entry serves at a tick (R103): ready since the tick before, of the first class in the entry's order that has one,
the earliest stamp of that class; none gates the entry as IDLE, and so
does parity recovery (R344). -/
def Dev.servedAt (s : Dev) (idx e tick : Nat) : Option Request :=
  let ready (r : Request) : Bool := r.station == idx && !r.served && decide (r.reached < s.cal.cycle * 4096 + tick) && r.fits (stationType idx) e
  if s.entryHeld idx tick = true ∨ (s.mem.gates.get? idx).isSome = true then none
  else (offerOrder (s.entryCls e)).findSome? fun c => earliest (fun r => ready r && r.cls == c) s.cal.requests

/-- A served request: an access of a memory station is over; one that a row executes keeps its place until its row. -/
def CalSt.serve (c : CalSt) (r : Request) : CalSt :=
  { c with requests := if r.point = 35 then c.requests.erase r else c.requests.map fun x => if x = r then { x with served := true } else x }

/-- A request waits unserved at a station. -/
def CalSt.asks (c : CalSt) (idx : Nat) : Bool := c.requests.any fun r => r.station == idx && !r.served

/-- A run of equal entries serves what it can, tick by tick. -/
def Dev.serveRun (s : Dev) (idx e t : Nat) : Nat → Dev
  | 0 => s
  | n + 1 =>
    if s.cal.asks idx then
      (match s.servedAt idx e t with
       | some r => s.modCal (·.serve r)
       | none => s).serveRun idx e (t + 1) n
    else s

/-- A station runs its table for a cycle (R97, R103). -/
def Dev.serveRuns (s : Dev) (idx : Nat) : List (Nat × Nat) → Nat → Dev
  | [], _ => s
  | (n, e) :: rs, t => (if e = 0 then s else s.serveRun idx e t n).serveRuns idx rs (t + n)

/-- Every station with something at its input runs its table for the cycle that ends. -/
def Dev.serveCycle (s : Dev) : Dev :=
  s.each ((s.cal.requests.filter fun r => !r.served).map Request.station).eraseDups fun t idx =>
    match t.table idx with
    | some x => t.serveRuns idx x.runs 0
    | none => t

/-! ### Loss of a unit (R36, R119 to R121) -/

/-- DEGRADED follows the page and an uncovered loss (R64). -/
def Dev.degraded (s : Dev) : Dev :=
  let d := s.cal.page != 0 || s.mode.uncovered
  let t := s.setL [(.MODE_STATE_PAGE, s.cal.page), (.MODE_STATE_DEGRADED, b2n d)]
  if d && !s.bit .MODE_STATE_DEGRADED then t.set .MODE_RESULT_DEGRADED_SEEN 1 else t

/-- The fallback map's entry for a loss while a page runs (R119). -/
def Dev.fallback (s : Dev) (unit page : Nat) : Option FbEntry :=
  s.forme.run.bind (fun f => f.fallback.find? (fun e => e.lost == unit && e.from_ == page))

/-- Class and instance of a unit ID (R614). -/
def unitClass (u : Nat) : Nat := u / 256
def unitNum (u : Nat) : Nat := u % 256

/-- The units retired with a unit: a cipher core takes its cluster (R145, R493). -/
def retireSet (u : Nat) : List Nat :=
  if unitClass u = 7 then (List.range 4).map (fun i => 0x0700 + (unitNum u) / 4 * 4 + i) else [u]

/-- The port that a network lane belongs to. -/
def Dev.laneOwner (s : Dev) (lane : Nat) : Option Nat :=
  s.forme.run.bind (fun f => (f.ports.find? (fun r => decide (r.laneBase ≤ lane ∧ lane < r.laneBase + r.lanes))).map PortRec.port)

/-- STATE of a unit as R149 numbers it. -/
def Dev.setUnit (s : Dev) (unit st : Nat) : Dev :=
  s.modInteg fun i => { i with states := if st = 0 then i.states.del unit else i.states.put unit st }

/-- STATE of a lost unit and of every unit whose loss is its own (R149, R157): the cores of a cluster, the lost lanes of a port and a lost spare that
served one of them. -/
def Dev.setLost (s : Dev) (unit st : Nat) : Dev :=
  let lanes := if unitClass unit = 4 then (List.range 18).filter fun n =>
      s.laneOwner ((s.net.spareFor.get? n).getD n) == some (unitNum unit) && [2, 3].contains (s.integ.states.getD (0x0500 + n) 0) else []
  s.each (retireSet unit ++ lanes.map (0x0500 + ·)) fun t u => t.setUnit u st

/-- Spares that were brought in take the retired stations' tables (R122), and the page that TRAINING chose runs (R121): its units read
RETIRED_PAGE. -/
def Dev.takeTables (s : Dev) : Dev :=
  let t := s.modCal fun c => { c with spared := c.spared ++ c.sparing, sparing := [], chosen := none }
  match s.cal.chosen with
  | none => t
  | some (p, pairs, units) => ((t.modCal fun c => { c with page := p, pairs := pairs }).each units fun u x => u.setLost x 2).degraded

/-- The lookup of R119 from the running page: a page starts to load, or the loss is uncovered (R36). -/
def Dev.lookLoss (s : Dev) (unit : Nat) : Dev :=
  match s.fallback unit s.cal.page with
  | some e =>
    ((s.modCal fun c => { c with load := some ⟨e.toPage, e.pairs, unit, 4⟩ }).setL
      [(.CAL_STATUS_LOADING, 1), (.CAL_STATUS_NEXT_PAGE, e.toPage)]).setLost unit 2
  | none =>
    ((((s.modMode fun m => { m with uncovered := true }).setL [(.CAL_STATUS_UNCOVERED, 1), (.CAL_STATUS_LOST_UNIT, unit)]).post
      0x3031 unit unit s.cal.page 0).setLost unit 3).degraded

/-- A loss waits for a load in progress (R120), for the end of TRAINING, which looks its losses up itself (R121), or for the end of a
transition other than into HOLDUP_SAVE (R62). -/
def Dev.lossWaits (s : Dev) : Bool :=
  s.cal.load.isSome || s.modeOf == mTRAINING || (s.bit .MODE_STATE_TRANSIT && s.get .MODE_STATE_TARGET != mHOLDUP)

/-- A unit without a remaining spare is lost (R119). -/
def Dev.loseUnit (s : Dev) (unit : Nat) : Dev :=
  if s.lossWaits then (s.modCal fun c => { c with losses := c.losses ++ [unit] }).setLost unit 3 else s.lookLoss unit

/-- The transport engine of a QP is lost, and no page with its pairs runs yet (R36, R119). -/
def Dev.engineLost (s : Dev) (qpn : Nat) : Bool :=
  let u := 0x0E90 + qpn % 16
  match s.integ.states.get? u with
  | some 3 => true
  | some 2 => (s.cal.load.map fun l => l.lost == u).getD false
  | _ => false

/-- Losses that waited are looked up from the page now running (R62, R120). -/
def Dev.nextLoss (s : Dev) : Dev :=
  match s.cal.losses with
  | [] => s
  | u :: rest => if s.lossWaits then s else (s.modCal fun c => { c with losses := rest }).lookLoss u

/-- Galley banks whose evacuation ends when the fallback page takes effect (R322). -/
def Dev.endEvacuations (s : Dev) : Dev := s.each (s.gal.evac.map Prod.fst) (fun t b => t.evacuateEnd b)

/-- PAGE_SWITCH: the page loaded takes effect (R117, R119). -/
def Dev.pageSwitch (s : Dev) : Dev :=
  match s.cal.load with
  | none => s
  | some l =>
    let t := (s.modCal fun c => { c with page := l.toPage, pairs := l.pairs, load := none }).setL
      [(.CAL_STATUS_LOADING, 0), (.CAL_STATUS_SWITCHED, 1), (.CAL_STATUS_LOST_UNIT, l.lost)]
    (((t.post 0x3030 l.lost s.cal.page l.toPage l.lost).endEvacuations).degraded).nextLoss

/-- A boundary of a load: after at most four it has ended and the page switches (R119). -/
def Dev.pageStep (s : Dev) : Dev :=
  match s.cal.load with
  | none => s.nextLoss
  | some l => if l.left ≤ 1 then s.pageSwitch else s.modCal fun c => { c with load := some { l with left := l.left - 1 } }

/-- CAL starts (R96): the counter at 0, the queues empty, the line cache's LFSRs seeded (R307), the wear credit
full (R379). -/
def Dev.calStart (s : Dev) : Dev :=
  let seed := (s.forme.run.map (fun f => f.fixed.lfsrSeed)).getD 0
  let t := s.modCal fun c => { c with cycle := 0, count := 0, lastStamp := none, now := none, requests := [], queues := [], stalled := [], samples := [],
                                      stopped := false, stopStamp := none, page := 0, pairs := [], load := none, chosen := none }
  let u := ((t.set .MODE_STATE_CAL_RUN 1).startLc seed).degraded
  u.modFm fun f => { f with rate := u.wearRate, credit := 86400000 * u.wearRate }

/-- CAL stops. -/
def Dev.calStop (s : Dev) : Dev := s.set .MODE_STATE_CAL_RUN 0

/-! ### Commands -/

/-- ADMIT_ARRIVAL (R110). -/
def execAdmitArrival (point : Nat) (a : Arrival) (internal : Bool) (w : State) : Host.Outcome State Fault Refusal :=
  finish w fun s => (s.arrive point a internal)

/-- SAMPLE (R111). -/
def execSample (point tick : Nat) (w : State) : Host.Outcome State Fault Refusal := finish w fun s => (s.sample point tick)

/-- PAGE_SWITCH (R119). -/
def execPageSwitch (w : State) : Host.Outcome State Fault Refusal := finish w fun s => s.pageSwitch

end Sys2Proof.Machine
end

