-- ==== Sys2Proof/Machine/Proofreader.lean ====
section
/-!
DEFINITION. The Proofreader (04_calendar.md R105 to R107, R116, R117, R124, 11_dram_controller.md R329): the
parse of a page and of the fallback map, and the legality rules of a page.
-/

namespace Sys2Proof.Machine

open Sys2Proof

/-! ### Violations -/

/-- A violation: its place as `FORME_DETAIL` gives it (R82), and for a zero field its byte offset in the container
(R124). -/
structure Viol where
  place : Nat
  zero  : Option Nat
  deriving DecidableEq, Repr

/-- The place of a page, a station and a slot (R82). -/
def placeOf (page st slot : Nat) : Nat := page * 2 ^ 28 + st * 4096 + slot

/-- The violation with the lowest place; of equals the first (R82). -/
def firstViol : List Viol → Option Viol
  | [] => none
  | v :: vs =>
    match firstViol vs with
    | none => some v
    | some w => if w.place < v.place then some w else some v

/-- A violation at a slot of a station unless a condition holds. -/
def need (c : Bool) (page st slot : Nat) : List Viol := if c then [] else [⟨placeOf page st slot, none⟩]

/-- A zero field at an offset of the container, named at a station's place (R124). -/
def needNonzero (v page st off : Nat) : List Viol := if v = 0 then [⟨placeOf page st 0, some off⟩] else []

/-! ### What the rules read -/

/-- What the Proofreader knows of the structure. -/
structure Plan where
  fixed : FixedPart
  dimm  : Geo
  hbm   : Geo

/-- The flattened bank count that a type 0x1 or 0x2 station must state (R329). -/
def Plan.banks (p : Plan) (typ : Nat) : Nat := if typ = 1 then p.hbm.banks else p.dimm.banks

/-- The stations of every unit that the structure enables (R106, Coverage). -/
def enabledStation (f : FixedPart) (i : Nat) : Bool :=
  match stationType i with
  | 1 | 5 | 6 | 7 | 8 | 0xA | 0xD => true
  | 2 => f.dimmMask.testBit ((i - 0x10) / 2) && (f.dimmGen == 5 || i % 2 == 0)
  | 3 => f.nandMask.testBit (i - 0x20)
  | 4 => decide (i < 0x58)
  | 9 =>
    let k := i - 0xA0
    if k < 32 then decide (k % 4 ≠ 3) && decide (k / 4 < f.portCount)
    else if k = 32 then f.flags.testBit 0 else decide (k < 35)
  | 0xB => decide (i - 0xC8 < f.portCount)
  | 0xC => f.flags.testBit 0 && decide (i ≠ 0xD8)
  | _ => false

/-! ### Parse of a page (R105) -/

/-- The bytes of a section with its offset in the container. -/
structure Sec where
  off  : Nat
  data : List Byte

/-- A field of a section. -/
def Sec.at_ (x : Sec) (o n : Nat) : Nat := leAt x.data o n

/-- The bytes [o, o+n) are all zero. -/
def Sec.zeros (x : Sec) (o n : Nat) : Bool := x.at_ o n == 0

/-- The runs of a station, from a position in the run list. -/
def Sec.runs (x : Sec) (base first count : Nat) : List (Nat × Nat) :=
  (List.range count).map fun i =>
    let w := x.at_ (base + 4 * (first + i)) 4
    (w % 2 ^ 13, w / 2 ^ 16)

/-- A parameter record: 32 fields of 16 bits. -/
def Sec.param (x : Sec) (base k : Nat) : List Nat := (List.range 32).map fun i => x.at_ (base + 64 * k + 2 * i) 2

/-- The page header's rules: they stand at station 0, slot 0. -/
def Sec.headerViols (x : Sec) (page : Nat) : List Viol :=
  let n := x.at_ 6 2
  let p := x.at_ 0x10 2
  let a := x.at_ 0x12 2
  let dir := x.at_ 8 4
  let par := x.at_ 0x0C 4
  let adm := x.at_ 0x14 4
  let run := x.at_ 0x18 4
  need (decide (x.data.length ≤ 2 ^ 21) && x.data.take 4 == [0x4B, 0x43, 0x41, 0x4C] && x.at_ 4 1 == page && x.zeros 5 1) page 0 0 ++
  needNonzero n page 0 (x.off + 6) ++ needNonzero p page 0 (x.off + 0x10) ++ needNonzero a page 0 (x.off + 0x12) ++
  need (decide (n ≤ 256 ∧ p ≤ 256 ∧ a ≤ 35) && x.zeros 0x20 32 &&
        decide (64 ≤ dir ∧ dir + 16 * n ≤ par ∧ par + 64 * p ≤ adm ∧ adm + 16 * a ≤ run ∧
                run + 4 * x.at_ 0x1C 4 ≤ x.data.length)) page 0 0

/-- Parses a page whose header is sound. -/
def Sec.page (x : Sec) : Page :=
  let sts := (List.range (x.at_ 6 2)).map fun i =>
    let o := x.at_ 8 4 + 16 * i
    let prm := x.at_ (o + 8) 2
    let st : Station :=
      { idx := x.at_ o 1, typ := x.at_ (o + 1) 1, runs := x.runs (x.at_ 0x18 4) (x.at_ (o + 4) 4) (x.at_ (o + 2) 2),
        param := if prm = 0xFFFF then none else some (x.param (x.at_ 0x0C 4) prm) }
    st
  let ads := (List.range (x.at_ 0x12 2)).map fun i =>
    let o := x.at_ 0x14 4 + 16 * i
    let d : AdmitDesc := { point := x.at_ o 1, depth := x.at_ (o + 2) 2, burst := x.at_ (o + 4) 2 }
    d
  { stations := sts, admits := ads }

/-- Used fields of a parameter record by type, and those that may not be 0 (R105, R124). -/
def paramUsed (typ : Nat) : Nat :=
  match typ with | 1 | 2 => 17 | 3 => 5 | 4 | 5 => 3 | 6 | 7 => 2 | _ => 0

/-- The parameter fields that may not be 0. -/
def paramNonzero (typ : Nat) : List Nat :=
  match typ with
  | 1 | 2 => [4, 5, 11, 14, 15, 16]
  | 3 => [1, 4]
  | 4 | 5 => [0, 1, 2]
  | 6 | 7 => [0, 1]
  | _ => []

/-- Ticks at which the runs of a list start, with the runs. -/
def runStarts : List (Nat × Nat) → Nat → List (Nat × Nat × Nat)
  | [], _ => []
  | (n, e) :: rs, t => (t, n, e) :: runStarts rs (t + n)

/-- The rules of one directory entry and its runs and record (R105, R124). `prev` is the station before it. -/
def Sec.entryViols (x : Sec) (page i : Nat) : List Viol :=
  let o := x.at_ 8 4 + 16 * i
  let st := x.at_ o 1
  let typ := x.at_ (o + 1) 1
  let n := x.at_ (o + 2) 2
  let first := x.at_ (o + 4) 4
  let prm := x.at_ (o + 8) 2
  let base := x.at_ 0x18 4
  let rs := x.runs base first n
  let pOff := x.at_ 0x0C 4 + 64 * prm
  need ((i == 0 || decide (x.at_ (o - 16) 1 < st)) && typ == stationType st && typ != 0 && x.zeros (o + 0x0A) 6) page st 0 ++
  needNonzero n page st (x.off + o + 2) ++
  need (decide (n ≤ 4096 ∧ first + n ≤ x.at_ 0x1C 4)) page st 0 ++
  (if typ < 8 then
     if prm < x.at_ 0x10 2 then
       (paramNonzero typ).flatMap (fun k => needNonzero (x.at_ (pOff + 2 * k) 2) page st (x.off + pOff + 2 * k)) ++
       need (x.zeros (pOff + 2 * paramUsed typ) (64 - 2 * paramUsed typ)) page st 0
     else need false page st 0
   else need (prm == 0xFFFF) page st 0) ++
  (if n ≤ 4096 then
     (runStarts rs 0).zipIdx.flatMap (fun e =>
       let w := x.at_ (base + 4 * (first + e.2)) 4
       (if e.1.2.1 = 0 then [⟨placeOf page st (min e.1.1 4095), some (x.off + base + 4 * (first + e.2))⟩] else []) ++
       need (decide (e.1.2.1 ≤ 4096 ∧ bitsOf w 13 3 = 0)) page st (min e.1.1 4095)) ++
     need ((rs.map Prod.fst).sum == 4096) page st 0
   else [])

/-- The descriptor rules (R105, R110, R124). -/
def Sec.admitViols (x : Sec) (f : FixedPart) (page : Nat) : List Viol :=
  let p := x.page
  let luns := popCount f.nandMask 32 * f.targets * f.luns
  p.admits.zipIdx.flatMap fun e =>
    let d := e.1
    let st := 0xA0 + d.point
    let o := x.at_ 0x14 4 + 16 * e.2
    let cls := d.point % 4
    let port := decide (d.point < 32)
    need (decide (d.point < 35) && !(port && cls == 3) && x.zeros (o + 1) 1 && x.zeros (o + 6) 10 &&
          p.stations.any (fun s => s.idx == st) && (p.admits.filter (fun a => a.point == d.point)).length == 1) page st 0 ++
    needNonzero d.depth page st (x.off + o + 2) ++
    need (if port then
            decide (d.depth ≤ 1024) &&
            decide (((p.admits.filter (fun a => a.point / 4 == d.point / 4)).map AdmitDesc.depth).sum ≤ 2048)
          else if d.point = 32 then decide (d.depth ≤ 4096)
          else if d.point = 33 then decide (luns ≤ d.depth ∧ d.depth ≤ 1024)
          else decide (d.depth ≤ 256)) page st 0 ++
    need (if port && cls == 0 then decide (d.burst < max d.depth 1) else d.burst == 0) page st 0

/-! ### Entries of a table -/

/-- The entries of a station that are not IDLE, by tick. -/
def Station.entries (s : Station) : List (Nat × Nat) :=
  (runStarts s.runs 0).flatMap fun r => if r.2.2 = 0 then [] else (List.range r.2.1).map fun i => (r.1 + i, r.2.2)

/-- A field of a station's parameter record. -/
def Station.prm (s : Station) (i : Nat) : Nat := (s.param.getD []).getD i 0

/-- Ticks from `u` to the next `t`, 1 to 4,096. -/
def ticksTo (u t : Nat) : Nat := let d := (t + 4096 - u) % 4096; if d = 0 then 4096 else d

/-- The encoding rule for an entry (R102, R106), with the memory checks of R329 on its ARG. -/
def encodingOk (pl : Plan) (listed : Nat → Bool) (typ e : Nat) : Bool :=
  let op := slotOp e
  let arg := slotArg e
  (requestOp typ op || (maintOp typ op && slotCls e == 3)) &&
  match typ with
  | 1 | 2 =>
    match op with
    | 1 | 2 => decide (arg < pl.banks typ)
    | 3 => decide (arg < pl.banks typ) && (typ == 1 || pl.fixed.dimmGen != 4)
    | 4 => if typ = 1 then arg == 0 else decide (arg < 2 ^ pl.dimm.rank)
    | _ => true
  | 3 => decide (bitsOf arg 7 3 < pl.fixed.targets ∧ bitsOf arg 5 2 < pl.fixed.luns)
  | 0xC | 0xD => decide (arg < 256) && listed arg
  | _ => true

/-! ### Rules of a memory station (R106, R329) -/

/-- An activating entry. -/
def activates (e : Nat) : Bool := [1, 2, 3, 7].contains (slotOp e)

/-- Two activating entries meet on a bank; a REPLAY counts on every bank. -/
def sameBank (a b : Nat) : Bool := slotOp a == 7 || slotOp b == 7 || slotArg a == slotArg b

/-- Two activating entries lie within a bank group. -/
def sameGroup (ba a b : Nat) : Bool := slotOp a == 7 || slotOp b == 7 || slotArg a / 2 ^ ba == slotArg b / 2 ^ ba

/-- Reads and writes for the turnaround rule: a REPLAY is either. -/
def likeRead (e : Nat) : Bool := slotOp e == 1 || slotOp e == 7
def likeWrite (e : Nat) : Bool := slotOp e == 2 || slotOp e == 7

/-- Activating entries within the `w` ticks up to tick `t`, an entry of an earlier cycle counted again. -/
def actsWithin (acts : List (Nat × Nat)) (w t : Nat) : Nat :=
  (acts.map fun a => let d := (t + 4096 - a.1) % 4096; if d < w then 1 + (w - 1 - d) / 4096 else 0).sum

/-- The entry before an entry in a cyclic list: the one with the fewest ticks to it. -/
def before (l : List (Nat × Nat)) (t : Nat) : Option (Nat × Nat) :=
  l.foldl (fun b a =>
    match b with
    | none => some a
    | some x => if ticksTo a.1 t < ticksTo x.1 t then some a else some x) none

/-- A refresh reaches a bank. -/
def refreshes (typ banks ranks : Nat) (e bank : Nat) : Bool :=
  if slotOp e = 3 then slotArg e == bank
  else slotOp e == 4 && (typ == 1 || slotArg e == bank / (banks / ranks))

/-- A refresh blocks an activating entry: REF_ALL its rank, REF_BANK its bank; a REPLAY is on all. -/
def blocks (typ banks ranks : Nat) (r e : Nat) : Bool := slotOp e == 7 || refreshes typ banks ranks r (slotArg e)

/-- The longest cyclic stretch of ticks that carry an OP. -/
def longest (l : List (Nat × Nat)) (op : Nat) : Nat :=
  let ts := (l.filter (fun e => slotOp e.2 == op)).map Prod.fst
  let starts := ts.filter (fun t => !ts.contains ((t + 4095) % 4096))
  if ts.length = 4096 then 4096
  else starts.foldl (fun a t =>
    let gaps := (List.range 4097).find? (fun k => !ts.contains ((t + k) % 4096))
    max a (gaps.getD 0)) 0

/-- The memory rules of a page station. tRRD holds between each activating entry and the one just before it, tRRD_L where the two lie in one bank group
(assumption 109). -/
def memoryViols (pl : Plan) (page : Nat) (s : Station) : List Viol :=
  let es := s.entries
  let p := s.prm
  let banks := pl.banks s.typ
  let ranks := if s.typ = 1 then 1 else 2 ^ pl.dimm.rank
  let ba := if s.typ = 1 then pl.hbm.ba else pl.dimm.ba
  let acts := es.filter (fun e => activates e.2)
  let refs := es.filter (fun e => slotOp e.2 == 3 || slotOp e.2 == 4)
  let reqs := es.filter (fun e => slotOp e.2 == 1 || slotOp e.2 == 2)
  need (p 14 == banks) page s.idx 0 ++
  acts.flatMap (fun e =>
    need (acts.all (fun a => !sameBank a.2 e.2 || decide (p 5 ≤ ticksTo a.1 e.1)) &&
          (match before acts e.1 with
           | some a => decide ((if sameGroup ba a.2 e.2 then p 7 else p 6) ≤ ticksTo a.1 e.1)
           | none => true) &&
          decide (actsWithin acts (p 8) e.1 ≤ 4) &&
          acts.all (fun a => !(likeRead a.2 && likeWrite e.2) || decide (p 9 ≤ ticksTo a.1 e.1)) &&
          acts.all (fun a => !(likeWrite a.2 && likeRead e.2) || decide (p 10 ≤ ticksTo a.1 e.1)) &&
          refs.all (fun r => !(blocks s.typ banks ranks r.2 e.2) ||
            decide ((if slotOp r.2 = 4 then p 12 else p 13) ≤ ticksTo r.1 e.1))) page s.idx e.1) ++
  (List.range banks).flatMap (fun b =>
    let rs := refs.filter (fun r => refreshes s.typ banks ranks r.2 b)
    need (!rs.isEmpty) page s.idx 0 ++
    rs.flatMap (fun r =>
      need (match before rs r.1 with | some a => decide (ticksTo a.1 r.1 ≤ p 11) | none => true) page s.idx r.1)) ++
  need (decide (p 15 ≤ longest es 6)) page s.idx 0 ++
  (es.filter (fun e => slotOp e.2 == 5 || slotOp e.2 == 6)).flatMap (fun e =>
    need (reqs.all (fun r => decide (p 5 ≤ ticksTo r.1 e.1))) page s.idx e.1) ++
  need (es.any (fun e => slotOp e.2 == 7)) page s.idx 0 ++
  need (es.any (fun e => slotOp e.2 == 5)) page s.idx 0

/-! ### Rules of the other stations (R106) -/

/-- Cyclic stretches of equal OP and ARG: start, length, OP, ARG. -/
def grants (es : List (Nat × Nat)) : List (Nat × Nat × Nat × Nat) :=
  let key := fun (e : Nat) => slotOp e * 1024 + slotArg e
  let has := fun (t k : Nat) => es.any (fun e => e.1 == t && key e.2 == k)
  (es.filter (fun e => !has ((e.1 + 4095) % 4096) (key e.2))).map fun e =>
    (e.1, ((List.range 4096).find? (fun k => !has ((e.1 + k) % 4096) (key e.2))).getD 4096, slotOp e.2, slotArg e.2)

/-- IDLE ticks between two ticks, cyclically. -/
def idleBetween (es : List (Nat × Nat)) (a b : Nat) : Nat :=
  ticksTo a b - (es.filter (fun e => decide ((e.1 + 4096 - a) % 4096 < ticksTo a b))).length

/-- The NAND grant rule. -/
def nandViols (page : Nat) (s : Station) : List Viol :=
  let es := s.entries
  let gs := grants es
  let data := fun (g : Nat × Nat × Nat × Nat) => g.2.2.1 == 2 || g.2.2.1 == 3
  gs.flatMap fun g =>
    let prev := gs.filter (fun h => h.1 != g.1)
    let near := fun (l : List (Nat × Nat × Nat × Nat)) => (before (l.map (fun h => (h.1, 0))) g.1).bind (fun b => l.find? (fun h => h.1 == b.1))
    need (decide (s.prm 1 ≤ g.2.1) &&
          (match near prev with
           | some h => bitsOf h.2.2.2 7 3 == bitsOf g.2.2.2 7 3 || decide (s.prm 3 ≤ idleBetween es h.1 g.1)
           | none => true) &&
          (match near (prev.filter data) with
           | some h => !data g || h.2.2.1 == g.2.2.1 || decide (s.prm 2 ≤ idleBetween es h.1 g.1)
           | none => true)) page s.idx g.1

/-- The key-bus rule for a core: its runs, and no other core of its cluster with a lower index at the same tick. -/
def keyViols (page : Nat) (all : List Station) (s : Station) : List Viol :=
  let es := s.entries.filter (fun e => slotOp e.2 == 2)
  let ts := es.map Prod.fst
  let lower := (all.filter (fun x => x.typ == 4 && x.idx / 4 == s.idx / 4 && decide (x.idx < s.idx))).flatMap (fun x => x.entries.filter (fun e => slotOp e.2 == 2))
  es.flatMap (fun e => need (!(lower.any (fun l => l.1 == e.1))) page s.idx e.1) ++
  (ts.filter (fun t => !ts.contains ((t + 4095) % 4096))).flatMap (fun t =>
    need (decide (s.prm 1 ≤ ((List.range 4096).find? (fun k => !ts.contains ((t + k) % 4096))).getD 4096)) page s.idx t)

/-- The Daybook rule. -/
def daybookViols (page : Nat) (s : Station) : List Viol :=
  let es := s.entries
  es.flatMap fun e =>
    need (match before es e.1 with
          | some a => !(slotOp a.2 == 2 && decide (ticksTo a.1 e.1 < s.prm 1)) && !(slotOp a.2 == 1 && decide (ticksTo a.1 e.1 < s.prm 0))
          | none => true) page s.idx e.1

/-- The admission rule. Point 32 carries the class of the forwarded request, so any class. -/
def sampleViols (page : Nat) (all : List Station) (s : Station) : List Viol :=
  let k := s.idx - 0xA0
  let lower := (all.filter (fun x => x.typ == 9 && decide (x.idx < s.idx))).flatMap Station.entries
  s.entries.flatMap (fun e =>
    need ((k == 32 || slotCls e.2 == (if k < 32 then k % 4 else 3)) && !(lower.any (fun l => l.1 == e.1))) page s.idx e.1) ++
  need (!s.entries.isEmpty) page s.idx 0

/-- The land delay of a data-producing entry; none for other entries. -/
def landDelay (s : Station) (e : Nat) : Option Nat :=
  match s.typ, slotOp e with
  | 1, 1 | 2, 1 => some (s.prm 0 + s.prm 1 + s.prm 2 + s.prm 4)
  | 3, 2 => some (s.prm 0)
  | 4, 1 => some (s.prm 0)
  | 5, 1 => some (s.prm 0)
  | 6, 1 | 7, 1 | 7, 4 => some (s.prm 0)
  | _, _ => none

/-- tHOLD_t of a station. -/
def Station.hold (s : Station) : Nat :=
  match s.typ with | 1 | 2 => s.prm 16 | 3 => s.prm 4 | 4 | 5 => s.prm 2 | _ => s.prm 1

/-- Puts a number in its place in a rising list. -/
def insertNat (x : Nat) : List Nat → List Nat
  | [] => [x]
  | y :: ys => if x ≤ y then x :: y :: ys else y :: insertNat x ys

/-- A list in rising order. -/
def sortNat (l : List Nat) : List Nat := l.foldr insertNat []

/-- Each land tick meets one MOVE of its window in cyclic order, after some turn of the list of MOVEs. -/
def coupled (lands moves : List Nat) (hold : Nat) : Bool :=
  lands.length == moves.length &&
  (lands.isEmpty || (List.range moves.length).any fun r =>
    (lands.zip (moves.drop r ++ moves.take r)).all fun e => decide ((e.2 + 4096 - e.1) % 4096 < hold))

/-- The coupling rule of a station: the MOVEs that fall in some window of its entries match them one to one. -/
def couplingViols (page : Nat) (moves : List (Nat × Nat)) (s : Station) : List Viol :=
  let es := s.entries.filterMap fun e => (landDelay s e.2).map (fun d => (e.1, (e.1 + d) % 4096))
  let win := fun (l m : Nat) => decide ((m + 4096 - l) % 4096 < s.hold)
  let ms := (moves.filter (fun m => m.2 == s.idx && es.any (fun e => win e.2 m.1))).map Prod.fst
  if es.isEmpty then [] else
    need (decide (s.hold ≤ 64)) page s.idx 0 ++
    if coupled (sortNat (es.map Prod.snd)) (sortNat ms) s.hold then []
    else need false page s.idx (((es.find? (fun e => !(ms.any (fun m => win e.2 m)))).map Prod.fst).getD ((es.head?.map Prod.fst).getD 0))

/-- The reservation rule. Admission points are left out of it: all SAMPLE entries of a C0 point are C0. -/
def reservationOk (s : Station) : Bool :=
  let rs := s.entries.filter (fun e => requestOp s.typ (slotOp e.2))
  s.typ == 9 || decide (4 * (rs.filter (fun e => slotCls e.2 == 0)).length ≤ rs.length)

/-- The rules of one station of a page. -/
def stationViols (pl : Plan) (page : Nat) (pg : Page) (moves : List (Nat × Nat)) (s : Station) : List Viol :=
  let listed := fun (i : Nat) => pg.stations.any (fun x => x.idx == i)
  (runStarts s.runs 0).flatMap (fun r => need (r.2.2 == 0 || encodingOk pl listed s.typ r.2.2) page s.idx r.1) ++
  (if [4, 5, 8].contains s.typ then s.entries.flatMap (fun e => need (e.1 % 2 == 0) page s.idx e.1) else []) ++
  (if [1, 2, 3].contains s.typ then need (decide (8 ≤ s.prm 0)) page s.idx 0 else []) ++
  (match s.typ with
   | 1 | 2 => memoryViols pl page s
   | 3 => nandViols page s
   | 4 => keyViols page pg.stations s
   | 5 => daybookViols page s
   | 9 => sampleViols page pg.stations s ++ need (pg.admits.any (fun a => 0xA0 + a.point == s.idx)) page s.idx 0
   | _ => []) ++
  (if s.typ < 8 then need (decide (1 ≤ s.hold ∧ s.hold ≤ 64)) page s.idx 0 else []) ++
  couplingViols page moves s ++
  need (reservationOk s) page s.idx 0

/-- The rules of a page (R106): RUN_COUNT is the total of its stations' RUNS (R105). `first` is page 0, whose stations a fallback page lists a subset
of. -/
def pageViols (pl : Plan) (first : Page) (page : Nat) (x : Sec) : List Viol :=
  let hv := x.headerViols page
  if !hv.isEmpty then hv
  else
    let pg := x.page
    let form := need (((List.range pg.stations.length).map fun i => x.at_ (x.at_ 8 4 + 16 * i + 2) 2).sum == x.at_ 0x1C 4) page 0 0 ++
      (List.range pg.stations.length).flatMap (x.entryViols page) ++ x.admitViols pl.fixed page
    let cover :=
      (List.range 256).flatMap fun i =>
        let here := pg.stations.any (fun s => s.idx == i)
        if page = 0 then need (here == enabledStation pl.fixed i) page i 0
        else need (!here || first.stations.any (fun s => s.idx == i)) page i 0
    let moves := (pg.stations.filter (fun s => s.typ == 0xD)).flatMap (fun s => s.entries.map (fun e => (e.1, slotArg e.2)))
    form ++ cover ++ pg.stations.flatMap (stationViols pl page pg moves)

/-! ### The fallback map (R116, R117) -/

/-- An entry of the map. -/
def Sec.fbEntry (x : Sec) (i : Nat) : FbEntry :=
  let o := 16 + 16 * i
  { lost := x.at_ o 2, from_ := x.at_ (o + 2) 1, toPage := x.at_ (o + 3) 1,
    pairs := (List.range (min (x.at_ (o + 4) 1) 4)).map fun k => (x.at_ (o + 6 + 2 * k) 1, x.at_ (o + 7 + 2 * k) 1) }

/-- The entries of the map. -/
def Sec.fallback (x : Sec) : List FbEntry := (List.range (x.at_ 4 2)).map x.fbEntry

/-- A station of the lost unit still executes an entry that is not IDLE (R117). -/
def lostRuns (pages : Tab Page) (e : FbEntry) (st : Nat) : Bool :=
  match (pages.get? e.toPage).bind (fun p => p.station (pairOf e.pairs st)) with
  | some s => !s.entries.isEmpty
  | none => false

/-- The rules of the map: a violation stands at its FROM_PAGE, its station a and slot 0xFFF; a station of LOST that executes stands at station a of the
pair that names it, and at itself where none does (assumption 108). -/
def mapViols (pages : Tab Page) (x : Sec) : List Viol :=
  let n := x.at_ 4 2
  if n = 0 then [⟨placeOf 0 0 0xFFF, some (x.off + 4)⟩]
  else
    let es := x.fallback
    need (x.data.take 4 == [0x4B, 0x46, 0x42, 0x4D] && x.zeros 6 10 && decide (n ≤ 4096) && x.data.length == 16 + 16 * n) 0 0 0xFFF ++
    es.zipIdx.flatMap fun p =>
      let e := p.1
      let o := 16 + 16 * p.2
      let a := (e.pairs.head?.map Prod.fst).getD 0
      let at_ := fun (ok : Bool) (st : Nat) => need ok (e.from_ % 16) st 0xFFF
      at_ (decide (e.from_ < 16 ∧ 1 ≤ e.toPage ∧ e.toPage < 16) && (pages.get? e.from_).isSome && (pages.get? e.toPage).isSome &&
           decide (x.at_ (o + 4) 1 ≤ 4) && x.zeros (o + 5) 1 && x.zeros (o + 0x0E) 2 &&
           !((es.take p.2).any (fun d => d.lost == e.lost && d.from_ == e.from_))) a ++
      e.pairs.flatMap (fun q => at_ (stationType q.1 != 0 && stationType q.1 == stationType q.2) q.1) ++
      (unitStations e.lost).flatMap (fun st =>
        at_ (!lostRuns pages e st) (((e.pairs.find? fun q => q.1 == st || q.2 == st).map Prod.fst).getD st))

end Sys2Proof.Machine
end

