-- ==== Sys2Proof/Machine/FormeTables.lean ====
section
/-!
DEFINITION. What the sections of a Forme hold and when they are legal: the STRUCTURE section with its records
(03_forme.md R73, R95), the Forme tables of the other chapters (R74) and the register image (R75).
-/

namespace Sys2Proof.Machine

open Sys2Proof

/-! ### Checks -/

/-- Refusal reasons (R81). -/
def rREAD : Nat := 1
def rMAGIC : Nat := 2
def rFORMAT : Nat := 3
def rLENGTH : Nat := 4
def rKEY : Nat := 5
def rSIGNATURE : Nat := 6
def rROLLBACK : Nat := 7
def rCHIP : Nat := 8
def rHBM : Nat := 9
def rSECTION : Nat := 10
def rSTRUCTURE : Nat := 11
def rZERO : Nat := 12
def rCALENDAR : Nat := 13
def rTABLE : Nat := 14
def rIMAGE : Nat := 15
def rRUNTIME : Nat := 16
def rDIGEST : Nat := 17
def rCHANGED : Nat := 18

/-- A check of a field: whether it holds, the reason where it does not, and the byte offset of the field. -/
structure Check where
  ok     : Bool
  reason : Nat
  off    : Nat

/-- The first check that fails: its reason and offset. -/
def firstBadCheck : List Check → Option (Nat × Nat)
  | [] => none
  | c :: cs => if c.ok then firstBadCheck cs else some (c.reason, c.off)

/-- A field that may not be 0, and whose value must be legal (R95). -/
def sized (v : Nat) (legal : Bool) (reason off : Nat) : List Check := [⟨v != 0, rZERO, off⟩, ⟨legal, reason, off⟩]

/-- A value within bounds. -/
def within (v lo hi : Nat) : Bool := decide (lo ≤ v ∧ v ≤ hi)

/-! ### The STRUCTURE section (R73) -/

/-- The fixed part. -/
def Sec.fixed (x : Sec) : FixedPart :=
  { exposed := x.at_ 0 8, pageCount := x.at_ 8 1, dimmGen := x.at_ 9 1, dpc := x.at_ 0x0A 1, dimmMask := x.at_ 0x0B 1,
    portCount := x.at_ 0x0C 1, targets := x.at_ 0x0D 1, luns := x.at_ 0x0E 1, grainLog2 := x.at_ 0x0F 1,
    nandMask := x.at_ 0x10 4, t0Gib := x.at_ 0x14 1, evbGib := x.at_ 0x15 1, ctxGib := x.at_ 0x16 1,
    mapdirGib := x.at_ 0x17 1, dirtyCap := x.at_ 0x18 4, flags := x.at_ 0x1E 1, lfsrSeed := x.at_ 0x20 8 }

/-- The fixed part's checks in ascending offset order (R636). `exposedOk`, `mapdirOk`: what R361 and R267 ask of two of its fields. -/
def Sec.fixedChecks (x : Sec) (pages hbmGib : Nat) (exposedOk mapdirOk : Bool) : List Check :=
  let f := x.fixed
  let z := fun (v : Nat) (ok : Bool) (o : Nat) => sized v ok rSTRUCTURE (x.off + o)
  let b := fun (ok : Bool) (o : Nat) => [(⟨ok, rSTRUCTURE, x.off + o⟩ : Check)]
  b (decide (64 ≤ x.data.length)) 0 ++
  z f.exposed (within f.exposed 1 (2 ^ 34) && exposedOk) 0 ++ z f.pageCount (within f.pageCount 1 16 && f.pageCount == pages) 8 ++
  b (within f.dimmGen 4 5) 9 ++ b (within f.dpc 1 2) 0x0A ++ z f.dimmMask true 0x0B ++
  z f.portCount (within f.portCount 1 8) 0x0C ++ z f.targets (within f.targets 1 8) 0x0D ++
  z f.luns (within f.luns 1 4) 0x0E ++ b (within f.grainLog2 6 16) 0x0F ++ z f.nandMask true 0x10 ++
  z f.t0Gib true 0x14 ++ z f.evbGib true 0x15 ++ z f.ctxGib true 0x16 ++
  z f.mapdirGib (decide (f.t0Gib + f.evbGib + f.ctxGib + f.mapdirGib ≤ hbmGib) && mapdirOk) 0x17 ++
  z f.dirtyCap (within f.dirtyCap 1 1048576) 0x18 ++ b (decide (x.at_ 0x1C 2 ≤ 4096)) 0x1C ++
  b (decide (f.flags < 4)) 0x1E ++ b (x.zeros 0x1F 1) 0x1F ++ b (x.zeros 0x28 24) 0x28

/-- A STRUCTURE record: its offset in the section, type, length and body. -/
structure Record where
  pos  : Nat
  typ  : Nat
  len  : Nat
  body : List Byte

/-- The records from a position. -/
def Sec.recordsFrom (x : Sec) (pos : Nat) : Nat → List Record
  | 0 => []
  | n + 1 =>
    let len := x.at_ (pos + 2) 2
    ⟨pos, x.at_ pos 2, len, sliceAt x.data (pos + 4) len⟩ :: x.recordsFrom (pos + 4 + len) n

/-- The records of the section. -/
def Sec.records (x : Sec) : List Record := x.recordsFrom 64 (x.at_ 0x1C 2)

/-- A geometry record (R328). -/
def geoOf (b : List Byte) : Geo :=
  let f := fun (o n : Nat) => leAt b o n
  { gen := f 0 1, sel := f 1 1, bg := f 2 1, ba := f 3 1, col := f 4 1, cid := f 5 1, rank := f 6 1, row := f 7 1,
    sids := f 8 1, ranksPerDimm := f 9 1, mtS := f 0x0A 2, dieGbit := f 0x0C 1, refTemp := f 0x0D 1,
    masks := (List.range 6).map fun i => f (0x10 + 8 * i) 8 }

/-- Data rates of a generation (R327). -/
def memRates (gen dpc : Nat) : List Nat :=
  match gen with
  | 2 => [2000, 2400, 2800, 3200, 3600]
  | 4 => [2400, 2666, 2933, 3200]
  | _ => [4000, 4400, 4800, 5200, 5600] ++ if dpc = 1 then [6000, 6400] else []

/-- Die sizes of a generation (R327). -/
def memDies (gen : Nat) : List Nat := match gen with | 2 => [16] | 4 => [8, 16] | _ => [16, 32]

/-- A mask slot: in use it holds its home bit and otherwise row bits only (R329). -/
def maskOk (g : Geo) (i : Nat) : Bool :=
  let m := g.masks.getD i 0
  let used := if i = 0 then g.sel == 1 else if i < 4 then decide (i - 1 < g.bg) else decide (i - 4 < g.ba)
  let home := if i = 0 then 0 else if i < 4 then g.sel + (i - 1) else g.sel + g.bg + (i - 4)
  let low := g.sel + g.bg + g.ba + g.col + g.cid + g.rank
  if used then m.testBit home && maskOff (clearBit m home) (spanMask low g.row) == 0 && decide (m < 2 ^ 40) else m == 0

/-- The checks of a geometry record (R328, R329, R354); `o` is the offset of its body. -/
def geoChecks (f : FixedPart) (typ : Nat) (g : Geo) (pad : Nat) (o : Nat) : List Check :=
  let dimm := typ == 0x0101
  let b := fun (ok : Bool) (k : Nat) => [(⟨ok, rSTRUCTURE, o + k⟩ : Check)]
  let z := fun (v : Nat) (ok : Bool) (k : Nat) => sized v ok rSTRUCTURE (o + k)
  b (if dimm then g.gen == f.dimmGen else g.gen == 2) 0 ++
  b (g.sel == (if g.gen = 4 then 0 else 1)) 1 ++ z g.bg (within g.bg 1 3) 2 ++ z g.ba (within g.ba 1 2) 3 ++
  z g.col (within g.col 4 8) 4 ++ b (if dimm then decide (g.cid ≤ 3) else g.cid == 0) 5 ++
  b (if dimm then decide (g.rank ≤ 3) && 2 ^ g.rank == f.dpc * g.ranksPerDimm else g.rank == 0) 6 ++
  z g.row (within g.row 14 18) 7 ++
  z g.sids (if dimm then g.sids == 1 else within g.sids 2 (if Config.hbmGib < 24 then 2 else 3)) 8 ++
  (if dimm then z g.ranksPerDimm ([1, 2, 4].contains g.ranksPerDimm) 9 else b (g.ranksPerDimm == 0) 9) ++
  z g.mtS ((memRates g.gen f.dpc).contains g.mtS) 0x0A ++ z g.dieGbit ((memDies g.gen).contains g.dieGbit) 0x0C ++
  z g.refTemp (g.refTemp == 85 || g.refTemp == 95) 0x0D ++ b (pad == 0) 0x0E ++
  (List.range 6).flatMap (fun i => b (maskOk g i) (0x10 + 8 * i)) ++ b (decide (g.banks ≤ 1024)) 8

/-- The flash policy (R360). -/
def flashPolicyOf (b : List Byte) : FlashPolicy :=
  let f := fun (o n : Nat) => leAt b o n
  { vigilBands := f 0 2, metaBands := f 2 2, gcLow := f 4 2, gcHigh := f 6 2, wlSpread := f 8 2, dwpdX100 := f 0x0A 2,
    peTlc := f 0x0C 2, lifeYears := f 0x0E 1, opMinPct := f 0x0F 1, readRefresh := f 0x10 4, refreshDays := f 0x14 2,
    logOpen := f 0x16 1, ckptS := f 0x18 4 }

/-- Its checks (R360, R394). -/
def flashPolicyChecks (b : List Byte) (o : Nat) : List Check :=
  let p := flashPolicyOf b
  let z := fun (v lo hi k : Nat) => sized v (within v lo hi) rSTRUCTURE (o + k)
  let q := fun (ok : Bool) (k : Nat) => [(⟨ok, rSTRUCTURE, o + k⟩ : Check)]
  z p.vigilBands 1 65535 0 ++ z p.metaBands 16 65535 2 ++ z p.gcLow 2 4095 4 ++ z p.gcHigh (p.gcLow + 1) 4096 6 ++
  z p.wlSpread 16 10000 8 ++ z p.dwpdX100 1 10000 0x0A ++ z p.peTlc 100 65535 0x0C ++ z p.lifeYears 5 20 0x0E ++
  z p.opMinPct 5 200 0x0F ++ z p.readRefresh 1000 1000000000 0x10 ++ z p.refreshDays 1 3650 0x14 ++
  q (decide (p.logOpen ≤ 64)) 0x16 ++ q (leAt b 0x17 1 == 0) 0x17 ++ z p.ckptS 10 86400 0x18 ++ q (leAt b 0x1C 36 == 0) 0x1C

/-- A port record (R156). -/
def portRecOf (b : List Byte) : PortRec :=
  { port := leAt b 0 1, speed := leAt b 1 1, laneBase := leAt b 2 1, lanes := leAt b 3 1, fec := leAt b 4 1, maxFrame := leAt b 6 2 }

/-- Lanes and FEC of a SPEED (R155). -/
def speedShape : Nat → Nat × List Nat
  | 1 => (1, [0, 1])
  | 2 => (1, [2])
  | 3 => (4, [1])
  | 4 => (2, [2])
  | 5 => (1, [2])
  | 6 => (4, [2])
  | 7 => (2, [2])
  | 8 => (8, [2])
  | 9 => (4, [2])
  | 10 => (8, [2])
  | _ => (0, [])

/-- Two ports hold a lane in common; a port of no lanes shares none (R156, R197). -/
def portsMeet (a b : PortRec) : Bool := a.lanes != 0 && decide (a.laneBase < b.laneBase + b.lanes ∧ b.laneBase < a.laneBase + a.lanes)

/-- Its checks (R156, R197); `earlier` are the port records before it. -/
def portChecks (f : FixedPart) (earlier : List PortRec) (b : List Byte) (o : Nat) : List Check :=
  let p := portRecOf b
  let q := fun (ok : Bool) (k : Nat) => [(⟨ok, rSTRUCTURE, o + k⟩ : Check)]
  let sh := speedShape p.speed
  q (decide (p.port < f.portCount) && !(earlier.any (fun e => e.port == p.port))) 0 ++
  sized p.speed (within p.speed 1 10) rSTRUCTURE (o + 1) ++
  q (decide (p.laneBase ≤ 15) && p.laneBase % max p.lanes 1 == 0 && p.laneBase / 8 == (p.laneBase + max p.lanes 1 - 1) / 8 &&
     !(earlier.any (portsMeet p))) 2 ++
  sized p.lanes (p.lanes == sh.1) rSTRUCTURE (o + 3) ++ q (sh.2.contains p.fec) 4 ++ q (leAt b 5 1 == 0) 5 ++
  sized p.maxFrame (within p.maxFrame 1518 9216) rSTRUCTURE (o + 6) ++ q (leAt b 8 8 == 0) 8

/-- Body length of a record type. -/
def recordLen (typ : Nat) : Nat := if typ = 0x0401 then 16 else 64

/-- The checks of the records in order (R636). `seen` are the records before. -/
def recordChecks (x : Sec) (f : FixedPart) (seen : List Record) : List Record → List Check
  | [] => []
  | r :: rs =>
    let o := x.off + r.pos
    let ports := (seen.filter (fun e => e.typ == 0x0401)).map (fun e => portRecOf e.body)
    [⟨[0x0101, 0x0201, 0x0302, 0x0401].contains r.typ && (r.typ == 0x0401 || !(seen.any (fun e => e.typ == r.typ))), rSTRUCTURE, o⟩] ++
    sized r.len (r.len == recordLen r.typ && decide (r.pos + 4 + r.len ≤ x.data.length)) rSTRUCTURE (o + 2) ++
    (if r.typ = 0x0302 then flashPolicyChecks r.body (o + 4)
     else if r.typ = 0x0401 then portChecks f ports r.body (o + 4)
     else geoChecks f r.typ (geoOf r.body) (leAt r.body 0x0E 2) (o + 4)) ++
    recordChecks x f (r :: seen) rs

/-- The body of the record of a type. -/
def Sec.record (x : Sec) (typ : Nat) : List Byte := ((x.records.find? (fun r => r.typ == typ)).map Record.body).getD []

/-- Set counts of T0 and T1 (R265, R336): `nd` DIMM channels and `nh` HBM2E channels in the interleave. -/
def setCounts (f : FixedPart) (d h : Geo) (stageFrames nd nh : Nat) : Nat × Nat :=
  let hbmSpace := nh * h.channelBytes
  let t0 := min (f.t0Gib * 2 ^ 30) (hbmSpace - (f.evbGib + f.ctxGib + f.mapdirGib) * 2 ^ 30)
  let t1 := nd * d.channelBytes - mapArea f.exposed - stageFrames * frameBytes
  (t0 / (32 * frameBytes), t1 / (32 * frameBytes))

/-- Bytes that the map-directory partition must hold (R267). -/
def mapdirBytes (exposed : Nat) (sets : Nat × Nat) : Nat :=
  ceilDiv exposed 512 * 8 + (sets.1 + sets.2) * 8 + 16777216 * 8

/-! ### Tables (R74) -/

/-- A table: its ID and section. -/
structure Tbl where
  id  : Nat
  sec : Sec

/-- A check of a table's field. -/
def Sec.t (x : Sec) (ok : Bool) (o : Nat) : List Check := [⟨ok, rTABLE, x.off + o⟩]

/-- A check of a table's magic. -/
def Sec.magic (x : Sec) (m : List Byte) : List Check := x.t (x.data.take 4 == m) 0

/-- A check of bounds of a table's field of `n` bytes. -/
def Sec.rng (x : Sec) (o n lo hi : Nat) : List Check := x.t (within (x.at_ o n) lo hi) o

/-- DSCP_CLASS (R171). -/
def dscpChecks (x : Sec) : List Check :=
  x.t (x.data.length == 80) 0 ++ x.magic [0x4B, 0x44, 0x53, 0x43] ++ x.t (x.zeros 4 12) 4 ++
  (List.range 64).flatMap fun d => x.rng (16 + d) 1 0 3

/-- CC_CURVE (R194). -/
def ccChecks (x : Sec) : List Check :=
  let n := x.at_ 4 2
  x.magic [0x4B, 0x43, 0x43, 0x56] ++ x.t (within n 1 64 && x.data.length == 48 + 8 * n) 4 ++ x.t (x.zeros 6 2) 6 ++
  x.rng 8 4 100 1000000 ++ x.rng 0x0C 4 1 10000 ++ x.rng 0x10 4 10 800000 ++ x.rng 0x14 4 (x.at_ 0x10 4) 800000 ++
  x.t (x.at_ 0x18 2 == 0 || decide (8 ≤ x.at_ 0x18 2)) 0x18 ++ x.rng 0x1A 2 1 10000 ++ x.rng 0x1C 2 1 65535 ++
  x.rng 0x1E 2 1 65535 ++ x.rng 0x20 2 1 16 ++ x.t (x.zeros 0x22 14) 0x22 ++
  (List.range n).flatMap fun i =>
    let o := 48 + 8 * i
    x.t (if i = 0 then x.at_ o 4 == 0 else decide (x.at_ (o - 8) 4 < x.at_ o 4)) o ++ x.rng (o + 4) 2 1 65535 ++ x.t (x.zeros (o + 6) 2) (o + 6)

/-- CC_CURVE's values. -/
def ccOf (x : Sec) : CcCurve :=
  { target := x.at_ 8 4, ai := x.at_ 0x0C 4, rateMin := x.at_ 0x10 4, rateInit := x.at_ 0x14 4, probeUs := x.at_ 0x18 2,
    windowMs := x.at_ 0x1A 2, cnpMult := x.at_ 0x1C 2, cnpHold := x.at_ 0x1E 2, bucketMtu := x.at_ 0x20 2,
    entries := (List.range (x.at_ 4 2)).map fun i => (x.at_ (48 + 8 * i) 4, x.at_ (52 + 8 * i) 2) }

/-- EVENT_POLICY's values (R140). -/
def policyOf (x : Sec) : List PolicyEntry :=
  (List.range (x.at_ 4 2)).map fun i =>
    let o := 16 + 8 * i
    let e : PolicyEntry :=
      { cls := x.at_ o 1, kind := x.at_ (o + 1) 1, threshold := x.at_ (o + 2) 2, winLog2 := x.at_ (o + 4) 1, retire := x.at_ (o + 5) 1 == 1 }
    e

/-- EVENT_POLICY (R140). -/
def policyChecks (x : Sec) : List Check :=
  let n := x.at_ 4 2
  let es := policyOf x
  x.magic [0x4B, 0x45, 0x56, 0x50] ++ x.t (within n 1 512 && x.data.length == 16 + 8 * n) 4 ++ x.t (x.zeros 6 10) 6 ++
  es.zipIdx.flatMap fun p =>
    let e := p.1
    let o := 16 + 8 * p.2
    x.t ((within e.cls 1 0x0B || e.cls == 0x0E || e.cls == 0xFF) && !((es.take p.2).any (fun d => d.cls == e.cls && d.kind == e.kind))) o ++
    x.t (within e.kind 1 0x0C || e.kind == 0x0F) (o + 1) ++ x.rng (o + 2) 2 1 65535 ++ x.rng (o + 4) 1 16 40 ++
    x.rng (o + 5) 1 0 1 ++ x.t (x.zeros (o + 6) 2) (o + 6)

/-- A rail record (R521). -/
def railOf (x : Sec) (r : Nat) : RailRec :=
  let f := fun (k n : Nat) => x.at_ (0x40 + 16 * r + k) n
  { upStep := f 1 1, downStep := f 2 1, div := f 3 1, nom := f 4 2, uv := f 6 2, ov := f 8 2, dis := f 0x0A 2,
    upTimeout := f 0x0C 1, disTimeout := f 0x0D 1, settle := f 0x0E 1 }

/-- POWER_SEQ's values (R520). -/
def powerOf (x : Sec) : PowerSeq :=
  { offDwell := x.at_ 4 2, retryMax := x.at_ 6 1, battery := x.at_ 7 1 == 1, inLoss := x.at_ 8 2, vFull := x.at_ 0x0A 2,
    vCutoff := x.at_ 0x0C 2, eff := x.at_ 0x0E 1, senseDiv := x.at_ 0x0F 1, rTest := x.at_ 0x10 2, testMs := x.at_ 0x12 2,
    measS := x.at_ 0x14 2, reserveMs := x.at_ 0x16 2, esrMax := x.at_ 0x18 4, cMin := x.at_ 0x1C 4, eRated := x.at_ 0x20 4,
    glitch := x.at_ 0x24 2, rails := (List.range 14).map (railOf x) }

/-- POWER_SEQ (R520 to R522). -/
def powerChecks (x : Sec) : List Check :=
  let p := powerOf x
  let ups := (p.rails.drop 1).map RailRec.upStep
  let downs := (p.rails.drop 1).map RailRec.downStep
  let rail := fun (i : Nat) => p.rails.getD i (railOf x i)
  x.t (x.data.length == 288) 0 ++ x.magic [0x4B, 0x50, 0x53, 0x51] ++ x.rng 4 2 250 10000 ++ x.rng 6 1 0 7 ++ x.rng 7 1 0 1 ++
  x.t (decide (0 < p.inLoss ∧ p.inLoss < p.vFull)) 8 ++ x.rng 0x0A 2 5000 65000 ++
  x.t (decide (0 < p.vCutoff ∧ p.vCutoff < p.inLoss)) 0x0C ++ x.rng 0x0E 1 50 100 ++ x.rng 0x0F 1 1 255 ++
  x.rng 0x10 2 1000 65535 ++ x.rng 0x12 2 10 1000 ++ x.rng 0x14 2 60 65535 ++ x.rng 0x16 2 50 5000 ++
  x.rng 0x18 4 1 1000000 ++ x.t (if p.battery then p.cMin == 0 else within p.cMin 1 1000000000) 0x1C ++
  x.t (if p.battery then within p.eRated 1 10000000 else p.eRated == 0) 0x20 ++ x.rng 0x24 2 1 1000 ++ x.t (x.zeros 0x26 26) 0x26 ++
  (List.range 14).flatMap fun r =>
    let q := rail r
    let o := 0x40 + 16 * r
    let stepOk := fun (v : Nat) (l : List Nat) => if r = 0 then v == 0 else within v 1 13 && (v == 1 || l.contains (v - 1))
    x.t (x.at_ o 1 == r) o ++
    x.t (stepOk q.upStep ups && !(r == 6 && decide ((rail 7).upStep ≤ q.upStep))) (o + 1) ++
    x.t (stepOk q.downStep downs && !(q.downStep == 1 && r != 4 && r != 5) && !(r == 6 && decide (q.downStep ≤ (rail 7).downStep)) &&
         (r == 0 || q.downStep == 1 || (p.rails.drop 1).all (fun h => !decide (q.upStep < h.upStep) || decide (h.downStep ≤ q.downStep)))) (o + 2) ++
    x.rng (o + 3) 1 1 16 ++ x.t (q.nom != 0) (o + 4) ++ x.t (decide (0 < q.uv ∧ q.uv < q.nom)) (o + 6) ++
    x.t (decide (q.nom < q.ov ∧ q.ov ≤ 1500 * q.div)) (o + 8) ++ x.t (decide (q.dis < q.uv)) (o + 0x0A) ++
    x.t (if r = 0 then q.upTimeout == 0 else q.upTimeout != 0) (o + 0x0C) ++
    x.t (if r = 0 then q.disTimeout == 0 else q.disTimeout != 0) (o + 0x0D) ++ x.t (x.zeros (o + 0x0F) 1) (o + 0x0F)

/-- THERMAL_CURVE's values (R564). -/
def curveOf (x : Sec) : ThermalCurve :=
  { hystW := x.at_ 6 1, tempHyst := x.at_ 7 1, sustain := x.at_ 8 2, peak := x.at_ 0x0A 2, peakS := x.at_ 0x0C 2, windowS := x.at_ 0x0E 2,
    entries := (List.range (x.at_ 4 2)).map fun i => (x.at_ (32 + 4 * i) 2, x.at_ (34 + 4 * i) 2) }

/-- THERMAL_CURVE (R564). -/
def curveChecks (x : Sec) : List Check :=
  let n := x.at_ 4 2
  x.magic [0x4B, 0x54, 0x48, 0x43] ++ x.t (within n 1 32 && x.data.length == 32 + 4 * n) 4 ++ x.rng 6 1 1 20 ++ x.rng 7 1 5 50 ++
  x.rng 8 2 50 185 ++ x.rng 0x0A 2 (x.at_ 8 2) 215 ++ x.rng 0x0C 2 0 60 ++ x.rng 0x0E 2 600 3600 ++ x.t (x.zeros 0x10 16) 0x10 ++
  (List.range n).flatMap fun i =>
    let o := 32 + 4 * i
    x.t (within (x.at_ o 2) 920 1090 && (if i = 0 then x.at_ o 2 == 920 else decide (x.at_ (o - 4) 2 < x.at_ o 2))) o ++
    x.t (within (x.at_ (o + 2) 2) 50 215 && (i == 0 || decide (x.at_ (o + 2) 2 ≤ x.at_ (o - 2) 2))) (o + 2)

/-- TIER_POLICY's values (R288). -/
def tierOf (x : Sec) : TierPolicy :=
  { seasonLog2 := x.at_ 4 1, decayShift := x.at_ 5 1, weightRead := x.at_ 6 1, weightWrite := x.at_ 7 1, promoteT1 := x.at_ 8 2,
    promoteT0 := x.at_ 0x0A 2, lowPct := x.at_ 0x0C 1, highPct := x.at_ 0x0D 1, c2Pct := x.at_ 0x0E 1, c1Pct := x.at_ 0x0F 1,
    stageFrames := x.at_ 0x10 4, savePower := x.at_ 0x14 2, vigilFixed := x.at_ 0x16 2, destageBase := x.at_ 0x18 4,
    mapLoad := x.at_ 0x1C 4, moveTimeout := x.at_ 0x20 4 }

/-- TIER_POLICY (R288). -/
def tierChecks (x : Sec) : List Check :=
  let p := tierOf x
  x.t (x.data.length == 64) 0 ++ x.magic [0x4B, 0x54, 0x50, 0x4C] ++ x.rng 4 1 20 36 ++ x.rng 5 1 1 15 ++ x.rng 6 1 0 15 ++ x.rng 7 1 0 15 ++
  x.rng 8 2 1 65535 ++ x.rng 0x0A 2 p.promoteT1 65535 ++ x.rng 0x0C 1 1 98 ++ x.rng 0x0D 1 (p.lowPct + 1) 99 ++
  x.rng 0x0E 1 p.highPct 98 ++ x.rng 0x0F 1 (p.c2Pct + 1) 99 ++ x.rng 0x10 4 1024 1048576 ++ x.rng 0x14 2 1 1000 ++
  x.rng 0x16 2 1 60000 ++ x.rng 0x18 4 1 1000000 ++ x.rng 0x1C 4 1 1000000 ++ x.rng 0x20 4 100 10000000 ++ x.t (x.zeros 0x24 28) 0x24

/-! ### NAND_CMD and READ_RETRY (R398 to R401, R416) -/

/-- Rates of an interface (R395). -/
def nandRates : Nat → List Nat
  | 1 => [200, 266, 333, 400, 533]
  | 2 => [400, 533, 667, 800, 1066, 1200, 1600]
  | 3 => [800, 1066, 1200, 1600, 2000, 2400]
  | 4 => [400, 533, 667, 800, 1066, 1200, 1600, 2000, 2400]
  | _ => []

/-- A step of a sequence (R401). -/
structure Step_ where
  kind : Nat
  b1   : Nat
  next : Nat
  alt  : Nat

/-- The steps of a NAND_CMD table. -/
def Sec.steps (x : Sec) : List Step_ :=
  (List.range (x.at_ 0x28 2)).map fun i =>
    let o := 0x100 + 8 * i
    ⟨x.at_ o 1, x.at_ (o + 1) 1, x.at_ (o + 4) 2, x.at_ (o + 6) 2⟩

/-- The successors a step uses. -/
def Step_.succ (s : Step_) : List Nat :=
  match s.kind with
  | 0 => []
  | 6 | 7 | 8 => [s.next, s.alt]
  | _ => [s.next]

/-- Steps from which an END is reached, found by `n` rounds. -/
def endsFrom (ss : List Step_) : Nat → List Nat → List Nat
  | 0, l => l
  | n + 1, l =>
    let more := (ss.zipIdx.filter (fun p => !l.contains p.2 && p.1.succ.any l.contains)).map Prod.snd
    if more.isEmpty then l else endsFrom ss n (l ++ more)

/-- Steps reached from some steps, found by `n` rounds. -/
def reachFrom (ss : List Step_) : Nat → List Nat → List Nat
  | 0, l => l
  | n + 1, l =>
    let more := ((l.flatMap (fun i => (ss[i]?.map Step_.succ).getD [])).filter (fun i => !l.contains i)).eraseDups
    if more.isEmpty then l else reachFrom ss n (l ++ more)

/-- Steps that lie on or lead into a cycle without a WAIT_TIME, POLL or PLANE step: what is left when steps without a
successor among them are removed, `n` rounds. -/
def tightCycle (ss : List Step_) : Nat → List Nat → List Nat
  | 0, l => l
  | n + 1, l =>
    let keep := l.filter (fun i => ((ss[i]?.map Step_.succ).getD []).any l.contains)
    if keep.length = l.length then l else tightCycle ss n keep

/-- The checks of one step. -/
def stepChecks (x : Sec) (count i : Nat) (s : Step_) : List Check :=
  let o := 0x100 + 8 * i
  let used := s.succ.length
  x.t (decide (s.kind ≤ 8)) o ++
  x.t (match s.kind with
       | 0 | 3 | 4 => decide (s.b1 ≤ 1)
       | 2 => decide (s.b1 ≤ 3)
       | 5 => within s.b1 1 14
       | _ => true) (o + 1) ++
  x.t (if 1 ≤ used then decide (s.next < count) else s.next == 0xFFFF) (o + 4) ++
  x.t (if 2 ≤ used then decide (s.alt < count) else s.alt == 0xFFFF) (o + 6)

/-- NAND_CMD (R398 to R401, R547). `mtS` is the MT_S of the Forme's first NAND_CMD table. -/
def nandChecks (f : FixedPart) (mtS : Nat) (t : Tbl) : List Check :=
  let x := t.sec
  let n := x.at_ 0x28 2
  let ss := x.steps
  let dir := (List.range 32).map fun k => x.at_ (0x80 + 2 * k) 2
  let all := List.range n
  let reach := reachFrom ss n (dir.filter (· < n)).eraseDups
  let ends := endsFrom ss n ((ss.zipIdx.filter (fun p => p.1.kind == 0)).map Prod.snd)
  let tight := tightCycle ss n (all.filter (fun i => (ss[i]?.map (fun s => !([5, 6, 7, 8].contains s.kind))).getD false))
  x.magic [0x4B, 0x4E, 0x43, 0x54] ++ x.t (x.at_ 4 1 == t.id % 16) 4 ++ x.rng 5 1 1 4 ++
  x.t ((nandRates (x.at_ 5 1)).contains (x.at_ 6 2) && x.at_ 6 2 == mtS) 6 ++ x.t ([1, 2, 4].contains (x.at_ 0x18 1)) 0x18 ++
  x.rng 0x19 1 2 3 ++ x.rng 0x1A 1 0 1 ++ x.rng 0x1B 1 (max 1 f.luns) 4 ++
  x.t (x.at_ 0x1C 2 != 0 && decide (x.at_ 0x18 1 * x.at_ 0x1C 2 ≤ 8191)) 0x1C ++
  x.t (within (x.at_ 0x1E 2) 1 2048 && x.at_ 0x1E 2 % max 1 (x.at_ 0x19 1) == 0) 0x1E ++
  x.t (x.at_ 0x20 2 != 0 && x.at_ 0x20 2 * x.at_ 0x19 1 == x.at_ 0x1E 2) 0x20 ++ x.rng 0x22 1 1 2 ++ x.rng 0x23 1 2 4 ++
  x.rng 0x24 2 1 1000 ++ x.rng 0x26 2 1 1000 ++ x.rng 0x28 2 1 4064 ++ x.t (x.zeros 0x2A 2) 0x2A ++
  (List.range 14).flatMap (fun i => x.t ((8 ≤ i && i < 13) || x.at_ (0x2C + 4 * i) 4 != 0) (0x2C + 4 * i)) ++ x.t (x.zeros 0x64 28) 0x64 ++
  (List.range 32).flatMap (fun k =>
    let v := dir.getD k 0
    x.t (if k < 13 then decide (v < n)
         else if k < 16 then (if dir.getD 13 0 = 0xFFFF then v == 0xFFFF else decide (v < n))
         else v == 0xFFFF) (0x80 + 2 * k)) ++
  x.t (x.zeros 0xC0 0x40) 0xC0 ++ x.t (x.data.length == 256 + 8 * n) 0x28 ++
  ss.zipIdx.flatMap (fun p => stepChecks x n p.2 p.1) ++
  all.flatMap (fun i => x.t ((!reach.contains i || ends.contains i) && !tight.contains i) (0x100 + 8 * i + 4))

/-- READ_RETRY (R416). `bpc` is the native bits per cell of the NAND_CMD table it pairs with. -/
def retryChecks (bpc : Nat) (t : Tbl) : List Check :=
  let x := t.sec
  let a := x.at_ 5 1
  let b := x.at_ 6 1
  x.magic [0x4B, 0x52, 0x52, 0x54] ++ x.t (x.at_ 4 1 == t.id % 16) 4 ++ x.rng 5 1 1 64 ++ x.rng 6 1 1 64 ++ x.t (x.zeros 7 25) 7 ++
  x.t (x.data.length == 32 + 16 * (a + b)) 5 ++
  (List.range (a + b)).flatMap fun i =>
    let o := 32 + 16 * i
    let levels := if i < a then 1 else 2 ^ bpc - 1
    x.t (decide (x.at_ o 1 ≤ 1) && !(x.at_ o 1 == 1 && (i == 0 || i == a))) o ++
    (List.range 7).flatMap (fun l => x.t (decide (l < levels) || x.zeros (o + 2 + l) 1) (o + 2 + l)) ++ x.t (x.zeros (o + 9) 7) (o + 9)

/-- A NAND_CMD table with its READ_RETRY table. -/
def nandOf (t : Tbl) (r : Option Sec) : NandTable :=
  let x := t.sec
  let a := (r.map (fun y => y.at_ 5 1)).getD 0
  let b := (r.map (fun y => y.at_ 6 1)).getD 0
  let soft := fun (i n : Nat) => (List.range n).map fun k => (r.map (fun y => y.at_ (32 + 16 * (i + k)) 1 == 1)).getD false
  { family := x.at_ 4 1, iface := x.at_ 5 1, mtS := x.at_ 6 2, idMatch := x.at_ 8 8, idMask := x.at_ 0x10 8,
    planes := x.at_ 0x18 1, bpc := x.at_ 0x19 1, shield := x.at_ 0x1A 1, luns := x.at_ 0x1B 1, blocks := x.at_ 0x1C 2,
    pagesNative := x.at_ 0x1E 2, pagesSlc := x.at_ 0x20 2, statusMs := x.at_ 0x24 2, suspendUs := x.at_ 0x26 2,
    times := (List.range 14).map fun i => x.at_ (0x2C + 4 * i) 4, cont := x.at_ 0x9A 2 != 0xFFFF,
    retrySlc := a, retryNative := b, softSlc := soft 0 a, softNative := soft a b }

/-- The table of an ID. -/
def tblOf (ts : List Tbl) (id : Nat) : Option Sec := (ts.find? (fun t => t.id == id)).map Tbl.sec

/-- The checks of one table by its ID. -/
def tableChecks (f : FixedPart) (ts : List Tbl) (t : Tbl) : List Check :=
  match t.id with
  | 1 => dscpChecks t.sec
  | 2 => ccChecks t.sec
  | 3 => policyChecks t.sec
  | 4 => powerChecks t.sec
  | 5 => curveChecks t.sec
  | 6 => tierChecks t.sec
  | id =>
    if id < 0x20 then nandChecks f (((tblOf ts 0x10).map (fun x => x.at_ 6 2)).getD 0) t
    else retryChecks (((tblOf ts (id - 0x10)).map (fun x => x.at_ 0x19 1)).getD 3) t

/-! ### The register image (R75) -/

/-- The entries: address and value. -/
def Sec.image (x : Sec) : List (Nat × Nat) := (List.range (x.data.length / 8)).map fun i => (x.at_ (8 * i) 4, x.at_ (8 * i + 4) 4)

/-- An address that an entry may name. -/
def imageAddrOk (a : Nat) : Bool :=
  decide (0x00020000 ≤ a ∧ a < 0x00800000) && (fieldsAt a).any (fun f => f.ty != .ro && f.ty != .wo)

/-- The checks of the image. -/
def Sec.imageChecks (x : Sec) : List Check :=
  [⟨x.data.length % 8 == 0 && decide (x.data.length ≤ 8 * 65536), rIMAGE, x.off⟩] ++
  x.image.zipIdx.map fun p => ⟨imageAddrOk p.1.1, rIMAGE, x.off + 8 * p.2⟩

end Sys2Proof.Machine
end

