-- ==== Sys2Proof/Machine/Ports.lean ====
section
/-!
DEFINITION. The ports of 06_rdma_transport.md: which frames a port accepts, what its engine answers itself, links,
pauses and the anti-replay windows.
-/

namespace Sys2Proof.Machine

open Sys2Proof

/-! ### Ports and modes (R39, R40, R156) -/

/-- Control QPs are enabled: Forme FLAGS[1] (R40, R165). -/
def Dev.controlQps (s : Dev) : Bool := s.formeFlag 1

/-- A port's record (R156). -/
def Dev.portRec (s : Dev) (p : Nat) : Option PortRec := s.forme.run.bind (fun f => f.ports.find? (fun r => r.port == p))

/-- Ports send and answer frames: the serving modes, and QUIESCED with control QPs (R39, R40); a fenced node
does not (R463). -/
def Dev.portsServe (s : Dev) : Bool :=
  (s.serving || (s.modeOf == mQUIESCED && s.controlQps)) && !s.bit .TWIN_STATUS_FENCED

/-- Ports hold link: they are neither off nor training (R39), and a fenced node's advertise link down (R463). -/
def Dev.portsUp (s : Dev) : Bool :=
  (s.inMode [mRECOVERING, mSOLO, mACTIVE, mSTANDBY, mRESYNC, mSWITCHOVER] || s.portsServe) && !s.bit .TWIN_STATUS_FENCED

/-- Line rate in Mb/s of a SPEED (R155, R192). -/
def speedMbps (v : Nat) : Nat := [0, 25000, 50000, 100000, 100000, 100000, 200000, 200000, 400000, 400000, 800000].getD v 0

/-- The service MAC of a port, 48 bits. -/
def Dev.portMac (s : Dev) (p : Nat) : Nat := s.get (.PORT_MAC_HI_MAC_HI p) * 2 ^ 32 + s.get (.PORT_MAC_LO_MAC_LO p)

/-- An IPv6 address of a port, 128 bits; an IPv4 one in its low 32 bits. -/
def Dev.portAddr (s : Dev) (p i : Nat) : Nat :=
  if s.bit (.PORT_ADDR_CTRL_IPV6 p i) then
    ((s.get (.PORT_ADDR_DATA0_ADDR p i) * 2 ^ 32 + s.get (.PORT_ADDR_DATA1_ADDR p i)) * 2 ^ 32 + s.get (.PORT_ADDR_DATA2_ADDR p i)) * 2 ^ 32 +
      s.get (.PORT_ADDR_DATA3_ADDR p i)
  else s.get (.PORT_ADDR_DATA0_ADDR p i)

/-- The valid addresses of a kind, by index. -/
def Dev.portAddrs (s : Dev) (p : Nat) (v6 : Bool) : List Nat :=
  (List.range 4).filter (fun i => s.bit (.PORT_ADDR_CTRL_VALID p i) && s.bit (.PORT_ADDR_CTRL_IPV6 p i) == v6)

/-- A port's ADVERTISED link state follows LINK_UP and the mode, unless a switch-over holds it (R39 to R41). -/
def Dev.advertise (s : Dev) (p : Nat) : Dev :=
  if s.bit (.PORT_STATUS_HELD p) then s
  else s.setB (.PORT_STATUS_ADVERTISED p) (s.bit (.PORT_STATUS_LINK_UP p) && s.portsUp)

/-- Every enabled port. -/
def Dev.ports (s : Dev) : List Nat := (s.forme.run.map (fun f => f.ports.map PortRec.port)).getD []

/-- LINK_DOWN (R158). -/
def Dev.linkDown (s : Dev) (p locked : Nat) : Dev :=
  if s.bit (.PORT_STATUS_LINK_UP p) then
    ((s.setL [(.PORT_STATUS_LINK_UP p, 0), (.PORT_STATUS_LINK_CHANGED p, 1)]).post 0x8005 (0x0400 + p) p locked 0).advertise p
  else s

/-- LINK_UP (R158). -/
def Dev.linkUp (s : Dev) (p : Nat) : Dev :=
  if s.bit (.PORT_CFG_ENABLED p) = true ∧ s.bit (.PORT_STATUS_LINK_UP p) = false ∧ s.inMode [mDORMANT, mCONFIGURING, mHOLDUP, mSANITIZING] = false then
    ((s.setL [(.PORT_STATUS_LINK_UP p, 1), (.PORT_STATUS_LINK_CHANGED p, 1)]).post 0x8006 (0x0400 + p) p (s.get (.PORT_CFG_SPEED p)) 0).advertise p
  else s

/-! ### Frames (R159 to R163) -/

/-- The solicited-node multicast MAC of an IPv6 address. -/
def solicitedMac (a : Nat) : Nat := 0x3333FF000000 + a % 2 ^ 24

/-- The destination MAC is one that the port accepts (R159). -/
def Dev.macOk (s : Dev) (f : EthFrame) : Bool :=
  f.dst == s.portMac f.port ||
  (f.dst == 0xFFFFFFFFFFFF && (match f.kind with | .arp _ => true | _ => false)) ||
  (s.portAddrs f.port true).any (fun i => f.dst == solicitedMac (s.portAddr f.port i))

/-- The frame matches PORT_VLAN (R159). -/
def Dev.vlanOk (s : Dev) (f : EthFrame) : Bool :=
  if s.bit (.PORT_VLAN_TAGGED f.port) then f.vid == some (s.get (.PORT_VLAN_VID f.port)) else f.vid.isNone || f.vid == some 0

/-- A packet's ESP header against a QP's SA (R163): 0 unknown SPI, 1 outside the replay window, 2 bad ICV, none
where it passes; an SA governs only once it is live. -/
def espFault (sa : Option EspSa) (e : Esp) : Option Nat :=
  match sa with
  | none => some 0
  | some a =>
    if a.spiIn ≠ e.spi then some 0
    else if e.seq ≤ a.top ∧ (a.top - e.seq ≥ 1024 ∨ a.window.testBit (a.top - e.seq)) then some 1
    else if e.icv = false then some 2
    else none

/-- The window after a packet is accepted. -/
def EspSa.slide (a : EspSa) (seq : Nat) : EspSa :=
  if seq > a.top then { a with top := seq, window := setBit ((a.window <<< (seq - a.top)) % 2 ^ 1024) 0 }
  else { a with window := setBit a.window (a.top - seq) }

/-- The SA that governs a QP's traffic now (R230). -/
def Qp.liveSa (q : Qp) : Option EspSa := q.sa.filter EspSa.live

/-- Priorities paused on a port (R161). -/
def Dev.pausedOn (s : Dev) (p : Nat) : Nat := s.net.paused.getD p 0

/-- The PCP of a class on a port. -/
def Dev.pcp (s : Dev) (p cls : Nat) : Nat :=
  match cls with
  | 0 => s.get (.PORT_VLAN_PCP_C0 p)
  | 1 => s.get (.PORT_VLAN_PCP_C1 p)
  | _ => s.get (.PORT_VLAN_PCP_C2 p)

/-- A frame leaves a port on a priority, or waits while the priority is paused (R161). -/
def Dev.transmit (s : Dev) (p prio : Nat) (o : Out) : Dev :=
  if (s.pausedOn p).testBit prio then s.modNet fun n => { n with waitTx := n.waitTx ++ [(p, prio, o)] }
  else (s.inc (.PORT_TX_FRAMES_TX_FRAMES p)).emit o

/-- The answer of a port's own engine (R160), on the PCP of such answers. -/
def Dev.answer (s : Dev) (p : Nat) (k : EthKind) (arg : Nat) : Dev := s.transmit p (s.get (.PORT_VLAN_PCP_OTHER p)) (.eth p k arg)

/-- ARP_REQUEST (R160). -/
def Dev.arp (s : Dev) (p target : Nat) : Dev :=
  if s.portsServe then
    match (s.portAddrs p false).find? (fun i => s.portAddr p i == target) with
    | some i => s.answer p .arpReply i
    | none => s
  else s

/-- NEIGHBOUR_SOLICITATION (R160). -/
def Dev.solicit (s : Dev) (p target : Nat) : Dev :=
  if s.portsServe then
    match (s.portAddrs p true).find? (fun i => s.portAddr p i == target) with
    | some i => s.answer p .neighbourAdvert i
    | none => s
  else s

/-- ECHO_REQUEST (R160): at most 1,000 answers a second on each port. -/
def Dev.echo (s : Dev) (p id : Nat) : Dev :=
  if s.portsServe then
    let sec := s.evt.islandMs / 1000
    let (at_, n) := s.net.echoes.getD p (sec, 0)
    let n := if at_ = sec then n else 0
    if n < 1000 then (s.modNet fun x => { x with echoes := x.echoes.put p (sec, n + 1) }).answer p .echoReply id
    else s.inc (.PORT_ICMP_DROP_ICMP_DROP p)
  else s

/-! ### Pauses (R161) -/

/-- PAUSE_FRAME: the priorities of a mask pause for their quanta; all of them for an 802.3 PAUSE. -/
def Dev.pause (s : Dev) (p mask : Nat) : Dev :=
  let m := s.pausedOn p ||| (mask % 256)
  let t := s.modNet fun n => { n with paused := if m = 0 then n.paused.del p else n.paused.put p m }
  if (s.portRec p).isNone then s
  else if mask.testBit (s.pcp p 0) then
    (t.set (.PORT_STATUS_PAUSE_C0 p) 1).post 0x8009 (0x0400 + p) p (s.pcp p 0) (s.net.pauseFor.getD p 0)
  else t

/-- PAUSE_QUANTA_EXPIRY: transmission on the priorities of a mask resumes, and what waited for them leaves in order. -/
def Dev.resume (s : Dev) (p mask : Nat) : Dev :=
  let m := maskOff (s.pausedOn p) (mask % 256)
  let held (e : Nat × Nat × Out) : Bool := e.1 != p || m.testBit e.2.1
  let t := s.modNet fun n => { n with
    paused := if m = 0 then n.paused.del p else n.paused.put p m,
    pauseFor := if m.testBit (s.pcp p 0) then n.pauseFor else n.pauseFor.del p,
    waitTx := n.waitTx.filter held }
  t.each (s.net.waitTx.filter fun e => !held e) fun u e => u.transmit e.1 e.2.1 e.2.2

/-- One calendar cycle of paused ports (PAUSE_CYCLES). -/
def Dev.pauseCycle (s : Dev) : Dev :=
  s.each s.net.paused fun t e =>
    let u := t.inc (.PORT_PAUSE_CYCLES_PAUSE_CYCLES e.1)
    if e.2.testBit (t.pcp e.1 0) then u.modNet fun n => { n with pauseFor := n.pauseFor.put e.1 (n.pauseFor.getD e.1 0 + 1) } else u

/-! ### Lanes (R157) -/

/-- The spare lane of a lane's group (R154). -/
def spareLane (lane : Nat) : Nat := if lane < 8 then 16 else 17

/-! ### Commands -/

/-- ARP_REQUEST (R160). -/
def execArpRequest (port target : Nat) (w : State) : Host.Outcome State Fault Refusal := finish w fun s => (s.arp port target)

/-- NEIGHBOUR_SOLICITATION (R160). -/
def execNeighbourSolicitation (port target : Nat) (w : State) : Host.Outcome State Fault Refusal := finish w fun s => (s.solicit port target)

/-- ECHO_REQUEST (R160). -/
def execEchoRequest (port id : Nat) (w : State) : Host.Outcome State Fault Refusal := finish w fun s => (s.echo port id)

/-- PAUSE_FRAME (R161). -/
def execPauseFrame (port mask : Nat) (w : State) : Host.Outcome State Fault Refusal := finish w fun s => (s.pause port mask)

/-- PAUSE_QUANTA_EXPIRY (R161). -/
def execPauseQuantaExpiry (port mask : Nat) (w : State) : Host.Outcome State Fault Refusal := finish w fun s => (s.resume port mask)

/-- LINK_DOWN (R158). -/
def execLinkDown (port locked : Nat) (w : State) : Host.Outcome State Fault Refusal := finish w fun s => (s.linkDown port locked)

/-- LINK_UP (R158). -/
def execLinkUp (port : Nat) (w : State) : Host.Outcome State Fault Refusal := finish w fun s => (s.linkUp port)

end Sys2Proof.Machine
end

