-- ==== Sys2Proof/Machine/Residue.lean ====
section
/-!
DEFINITION. Residues, their predictions and the reach of the array codes (05_integrity.md R125 to R133). Every word that the State holds is one
whose residue agrees with it, so State holds no residue beside it; a word that disagrees is met only by a check, as an operand of FAULT_DETECTED
(assumption 132).
-/

namespace Sys2Proof.Machine

open Sys2Proof

/-! ### Residues (R125, R126, R132) -/

/-- The residue of a word (R125). -/
def residue (w : Nat) : Nat := w % 63

/-- The residue field of a poisoned word, and the line residue of a poisoned line (R126, R132). -/
def poisonResidue : Nat := 63

/-- The line residue of eight words (R132). -/
def wordsResidue (ws : List Nat) : Nat := (ws.map residue).sum % 63

/-- The eight words of a line. -/
def Line.words (l : Line) : List Nat := (List.range 8).map fun i => bitsOf l.toNat (64 * i) 64

/-- The residue of a line: the sum of its words' residues, or 63 where it is poisoned (R132). -/
def lineResidue (v : LineVal) : Nat := if v.poison then poisonResidue else wordsResidue (Line.words v.data)

/-- The line residues that a folio's colophon stores (R132). -/
def Folio.residues (f : Folio) : List Nat := (List.range 64).map fun i => lineResidue (f.line i)

/-! ### Predictions (R129) -/

/-- The residue predicted for a sum that wraps at `2 ^ n` with carry `c`. -/
def predictAdd (n ra rb c : Nat) : Nat := (ra + rb + (63 - 2 ^ n % 63) * c) % 63

/-- The residue predicted for a difference that wraps at `2 ^ n` with borrow `c`. -/
def predictSub (n ra rb c : Nat) : Nat := (ra + (63 - rb) + 2 ^ n % 63 * c) % 63

/-- The residue predicted for a product with a constant. -/
def predictMul (ra rk : Nat) : Nat := ra * rk % 63

/-- What an arithmetic unit computes on an `n`-bit field. -/
def ArithOp.value (op : ArithOp) (n a b : Nat) : Nat :=
  match op with
  | .add => (a + b) % 2 ^ n
  | .sub => (a + 2 ^ n - b) % 2 ^ n
  | .mulConst => a * b
  | .increment => (a + 1) % 2 ^ n

/-- The residue that it predicts from its operands' residues and the carry or borrow (R129). -/
def ArithOp.predicts (op : ArithOp) (n a b : Nat) : Nat :=
  match op with
  | .add => predictAdd n (residue a) (residue b) ((a + b) / 2 ^ n)
  | .sub => predictSub n (residue a) (residue b) (b2n (decide (a < b)))
  | .mulConst => predictMul (residue a) (residue b)
  | .increment => predictAdd n (residue a) 1 ((a + 1) / 2 ^ n)

/-! ### Checks (R127, R128, R130 to R133) -/

/-- Errors that the array code of a kind corrects and detects (R133): SECDED, the symbol codes of memory, BCH. -/
def codeReach (kind : Nat) : Nat × Nat := if kind = 10 ∨ kind = 11 then (4, 5) else (1, 2)

/-- The units that check residues (R127, R128, R131): the controllers, ports, Flesal, cipher cores at their input, the management bridge, the
SRAM banks, the Daybook and the stations. -/
def checksResidue (unit : Nat) : Bool := [1, 2, 3, 4, 6, 7, 8, 9, 0xA, 0xB, 0xE].contains (unit / 256)

/-- A check finds a fault of a kind in what it met: a residue that disagrees and is not poison, a result that its prediction denies, two copies
that differ, or errors within and beyond a code's reach. -/
def Seen.shows (x : Seen) (kind : Nat) : Bool :=
  match kind, x with
  | 1, .word w r => r != poisonResidue && residue w != r
  | 1, .line ws r => r != poisonResidue && wordsResidue ws != r
  | 1, .arith _ op n a b v => residue v != op.predicts n a b
  | 2, .copies _ a b => a != b
  | 3, .errors n | 5, .errors n | 10, .errors n => decide (1 ≤ n ∧ n ≤ (codeReach kind).1)
  | 4, .errors n | 6, .errors n | 11, .errors n => decide ((codeReach kind).1 < n ∧ n ≤ (codeReach kind).2)
  | k, _ => !([1, 2, 3, 4, 5, 6, 10, 11].contains k)

/-- The device finds the fault: its check shows it, and a RESIDUE fault lies where residues are checked. -/
def FaultOp.shown (f : FaultOp) : Bool := f.seen.shows f.kind && (f.kind != 1 || checksResidue f.unit)

end Sys2Proof.Machine
end

