-- ==== Sys2Proof/Machine/Integrity.lean ====
section
/-!
DEFINITION. Datapath integrity, 05_integrity.md: fault kinds, windows and thresholds, retirement, spares, the
integrity log, injection and the retirement records.
-/

namespace Sys2Proof.Machine

open Sys2Proof

/-! ### Units (R142, R614) -/

/-- The structure enables a unit (R149). -/
def Dev.unitPresent (s : Dev) (u : Nat) : Bool :=
  let n := unitNum u
  match s.forme.run with
  | none => false
  | some f =>
    match unitClass u with
    | 1 => decide (n < 8) && f.fixed.dimmMask.testBit n
    | 2 => decide (n < 16)
    | 3 => decide (n < 32) && f.fixed.nandMask.testBit n
    | 4 => (s.portRec n).isSome
    | 5 => n == 16 || n == 17 || (s.laneOwner n).isSome
    | 6 => decide (n < 9) && f.fixed.flags.testBit 0
    | 7 => decide (n < 28)
    | 8 => decide (n < 5)
    | 9 => decide (n < 32)
    | 10 => decide (n < 16)
    | 11 => decide (n < 4)
    | 12 => decide (n < 14)
    | 13 => decide (n < 25)
    | 14 => (s.pageOf 0).any (fun p => (p.station n).any (fun x => decide (x.typ ≥ 8) && x.typ != 0xB && x.typ != 0xC))
    | _ => false

/-- INTEG_QUERY_RESULT.STATE of a unit (R149). -/
def Dev.unitState (s : Dev) (u : Nat) : Nat :=
  if s.unitPresent u then s.integ.states.getD u 0 else 4

/-- A unit is retired. -/
def Dev.unitRetired (s : Dev) (u : Nat) : Bool := (s.integ.states.get? u).isSome

/-- A management core runs the runtime (R79, R580): it was started, and one core is in service. -/
def Dev.coreRuns (s : Dev) : Bool := s.forme.runtime && s.modeOf != mDORMANT && (List.range 5).any (fun n => !s.unitRetired (0x0800 + n))

/-! ### Policy and windows (R139 to R141) -/

/-- The default policy of a kind (R141): threshold, log2 of the window, and whether it retires. -/
def defaultPolicy (k : Nat) : Nat × Nat × Bool :=
  match k with
  | 1 | 2 => (16, 20, true)
  | 3 => (4096, 24, true)
  | 4 => (4, 24, true)
  | 5 => (65535, 24, true)
  | 6 => (16, 24, true)
  | 7 => (256, 20, true)
  | 8 => (1, 24, false)
  | 9 => (64, 24, true)
  | 10 => (4096, 24, true)
  | 11 => (1, 24, true)
  | 12 => (1024, 20, true)
  | 13 | 14 => (1, 24, true)
  | _ => (2, 26, true)

/-- The policy of a kind on a unit (R138, R141). -/
def Dev.policyOf (s : Dev) (u k : Nat) : Nat × Nat × Bool :=
  if k = 13 ∨ k = 14 then defaultPolicy k
  else
    let es := (s.forme.run.map Forme.policy).getD []
    let of (c : Nat) := es.find? (fun e => e.cls == c && e.kind == k)
    match of (unitClass u), of 0xFF with
    | some e, _ => (e.threshold, e.winLog2, e.retire)
    | none, some e => (e.threshold, e.winLog2, e.retire)
    | none, none => defaultPolicy k

/-- FAULT_WINDOW_START: the counts whose window has this length return to 0 (R139). -/
def Dev.windowStart (s : Dev) (log2 : Nat) : Dev :=
  s.modInteg fun i => { i with counts := i.counts.keep (fun key _ => (s.policyOf (key / 256) (key % 256)).2.1 != log2) }

/-- Windows that start at a cycle: those whose length divides its number (R139). -/
def Dev.windowsAt (s : Dev) : Dev :=
  let logs := (s.integ.counts.map (fun e => (s.policyOf (e.1 / 256) (e.1 % 256)).2.1)).eraseDups
  s.each logs (fun t w => if s.cal.count % 2 ^ w = 0 then t.windowStart w else t)

/-! ### Spares and retirement (R142 to R146, R635) -/

/-- The ID a retirement is named by: a cluster by its lowest core (R614). -/
def retireName (u : Nat) : Nat := if unitClass u = 7 then 0x0700 + unitNum u / 4 * 4 else u

/-- A unit is a spare (R145). -/
def isSpare (u : Nat) : Bool := u == 0x0510 || u == 0x0511 || u == 0x0608 || u == 0x0718 || u == 0x0804

/-- The unit that a spare has taken over for: none while it is idle. -/
def Dev.spareServes (s : Dev) (u : Nat) : Option Nat :=
  if unitClass u = 5 then (s.net.spareFor.get? (unitNum u)).map (0x0500 + ·)
  else if unitClass u = 6 then ((s.cal.spared ++ s.cal.sparing).find? (fun e => e.2 == 0xD8)).map (fun e => 0x0600 + (e.1 - 0xD0))
  else if unitClass u = 7 then ((s.cal.spared ++ s.cal.sparing).find? (fun e => e.2 == 0x58)).map (fun e => 0x0700 + (e.1 - 0x40))
  else if unitClass u = 8 then (s.integ.states.find? (fun e => unitClass e.1 == 8 && e.2 == 1)).map Prod.fst
  else none

/-- The spare of a unit that is free now (R145). -/
def Dev.spareOf (s : Dev) (u : Nat) : Option Nat :=
  let free (v : Nat) : Option Nat := if s.unitRetired v ∨ (s.spareServes v).isSome then none else some v
  if isSpare u then none
  else match unitClass u with
    | 5 => free (0x0500 + spareLane (unitNum u))
    | 6 => free 0x0608
    | 7 => free 0x0718
    | 8 => free 0x0804
    | _ => none

/-- INTEG_SPARES (R145, R635). -/
def Dev.showSpares (s : Dev) : Dev :=
  let idle (v : Nat) : Nat := b2n (!s.unitRetired v && (s.spareServes v).isNone)
  s.setL [(.INTEG_SPARES_NET_LANES, idle 0x0510 + idle 0x0511), (.INTEG_SPARES_FLESAL_LANE, idle 0x0608),
    (.INTEG_SPARES_CIPHER, idle 0x0718), (.INTEG_SPARES_MGMT, idle 0x0804), (.INTEG_SPARES_LC_GROUPS, s.lc.failed.length)]

/-- Spares of a unit's kind that are left. -/
def Dev.sparesLeft (s : Dev) (u : Nat) : Nat :=
  let idle (v : Nat) : Nat := b2n (!s.unitRetired v && (s.spareServes v).isNone)
  match unitClass u with
  | 5 => idle 0x0510 + idle 0x0511
  | 6 => idle 0x0608
  | 7 => idle 0x0718
  | _ => idle 0x0804

/-- CIPHER_STATUS of the clusters (R493): bit c of CLUSTERS where position c is served. -/
def Dev.showClusters (s : Dev) : Dev :=
  let used := s.spareClusterFor
  s.setL [(.CIPHER_STATUS_CLUSTERS, ((List.range 6).map fun c => if s.keys.deadClusters.testBit c = false ∨ used = some c then 2 ^ c else 0).sum),
    (.CIPHER_STATUS_SPARE_USED, b2n used.isSome), (.CIPHER_STATUS_SPARE_FOR, used.getD 0)]

/-- A spare takes over (R122, R157, R493): its stations take the retired stations' tables; streams queued on a retired cluster's cores start again on
the spare's; a network lane's port
retrains with its link down. -/
def Dev.bringIn (s : Dev) (u spare : Nat) : Dev :=
  match unitClass u with
  | 5 =>
    let t := s.modNet fun n => { n with spareFor := n.spareFor.put (unitNum spare) (unitNum u), deadLanes := setBit n.deadLanes (unitNum u) }
    match s.laneOwner (unitNum u) with
    | some p => ((t.set (.PORT_STATUS_SPARED p) 1).linkDown p (((s.portRec p).map PortRec.lanes).getD 0 - 1))
    | none => t
  | 6 => s.modCal fun c => { c with sparing := c.sparing ++ [(0xD0 + unitNum u, 0xD8)] }
  | 7 =>
    let first := unitNum u / 4 * 4
    (s.modKeys fun k => (List.range 4).foldl (fun x i => x.moveStreams (first + i) (24 + i)) k).modCal fun c => { c with sparing := c.sparing ++ (List.range 4).map (fun i => (0x40 + first + i, 0x58 + i)) }
  | _ => s

/-- Lane 8 serves for a retired lane (R447), from the mask of retired lanes. -/
def spareLaneUsed (dead : Nat) : Bool := dead % 256 != 0 && !dead.testBit 8

/-- What the loss of a unit does to the structures that lie on it. -/
def Dev.unitGone (s : Dev) (u : Nat) : Dev :=
  let train := s.modeOf == mTRAINING
  match unitClass u with
  | 1 => (if train then s else s.loseMemUnit u).set (.MEM_STATUS_RETIRED (unitNum u)) 1
  | 2 =>
    if train then s.set (.MEM_STATUS_RETIRED (8 + unitNum u)) 1
    else ((s.loseMemUnit u).set (.MEM_STATUS_RETIRED (8 + unitNum u)) 1).modMem fun m => { m with lostCtx := m.lostCtx ++ [u] }
  | 3 => (s.retireNand (unitNum u)).set (.NANDC_STATUS_RETIRED (unitNum u)) 1
  | 4 => s.linkDown (unitNum u) 0
  | 5 => s.modNet fun n => { n with deadLanes := setBit n.deadLanes (unitNum u) }
  | 6 =>
    let d := setBit s.twin.deadLanes (unitNum u)
    let t := s.modTwin fun w => { w with deadLanes := d }
    if s.bit .TWIN_STATUS_LINK_UP then t.setL [(.TWIN_STATUS_LANES_UP, s.get .TWIN_STATUS_LANES_UP - 1), (.TWIN_STATUS_SPARE_IN_USE, b2n (spareLaneUsed d))] else t
  | 7 => (s.modKeys fun k => { k with deadClusters := setBit k.deadClusters (unitNum u / 4) }).showClusters
  | 9 => s.lcRetire (unitNum u)
  | 10 => s.galleyRetire (unitNum u)
  | 11 => s.modDb fun d => { d with dead := setBit d.dead (unitNum u) }
  | _ => s

/-- The loss of a unit without a spare goes to the page lookup (R119); a lane's goes to its port (R157), a
spare's to the unit it serves (R146). -/
def Dev.lossOf (s : Dev) (u : Nat) : Nat :=
  let v := (s.spareServes u).getD u
  if unitClass v = 5 then ((s.laneOwner (unitNum v)).map (0x0400 + ·)).getD v else v

/-- Retires a unit: recorded in the Daybook, logged, spared or looked up (R143 to R146, R635). `recorded`: in
TRAINING, from its record (R144). -/
def Dev.retireUnit (s : Dev) (unit kind count : Nat) (recorded : Bool := false) : Dev :=
  let u := retireName unit
  if s.unitRetired u ∨ (unitClass u = 5 ∧ isSpare u = false ∧ s.laneOwner (unitNum u) = none) then s
  else
    let idle := isSpare u && (s.spareServes u).isNone
    let spare := s.spareOf u
    let mark := if idle then 5 else if spare.isSome then 1 else 3
    let served := match s.spareServes u with
      | some v => retireSet v
      | none => []
    let s1 := (s.each (retireSet u ++ served) (fun t v => t.setUnit v mark)).set .INTEG_SUMMARY_RETIRED 1
    let s2 := if recorded then s1.post 0x4013 u u 0 0
      else (s1.modInteg fun i => { i with records := if i.records.contains u then i.records else i.records ++ [u] }).post 0x4010 u u kind count
    let s3 := s2.unitGone u
    if idle then s3.showSpares
    else match spare with
      | some v =>
        let t := s3.bringIn u v
        ((t.set .INTEG_SUMMARY_SPARE_USED 1).post 0x4011 u u v (t.sparesLeft u)).showSpares.showClusters
      | none =>
        let t := ((s3.set .INTEG_SUMMARY_SPARE_NONE 1).post 0x4012 u u kind s.cal.page).showSpares
        let l := s.lossOf u
        let p := if unitClass l = 4 ∧ l ≠ u ∧ s.unitRetired l = false then
            let v := ((t.setUnit l 3).modInteg fun i => { i with records := if recorded ∨ i.records.contains l then i.records else i.records ++ [l] }).unitGone l
            if recorded then v.post 0x4013 l l 0 0 else v.post 0x4010 l l kind count
          else t
        if s.modeOf = mTRAINING then p.modCal fun c => { c with losses := c.losses ++ [l] } else p.loseUnit l

/-! ### Faults (R136 to R148) -/

/-- Kinds that enter the integrity log (R148). -/
def loggedKinds : List Nat := [1, 2, 4, 6, 9, 11]

/-- An entry of the integrity log (R148). `found`: the OSEQ and cycle of detection where a later row ends the fault's transient action. -/
def Dev.integEntry (s : Dev) (f : FaultOp) (poisoned injected : Bool) (found : Option (Nat × Nat)) : Dev :=
  let i := s.get .INTEG_LOG_HEAD_NEXT
  let (oseq, cycle) := found.getD (s.twin.oseq, s.cal.cycle)
  let e : IntegLog :=
    { oseq := oseq, unit := f.unit, kind := f.kind, corrected := f.recovered, poisoned := poisoned, injected := injected, cycle := cycle, tick := f.tick }
  let t := (s.modInteg fun x => { x with log := x.log.put i e }).set .INTEG_LOG_HEAD_NEXT ((i + 1) % 256)
  if i = 255 then (t.modInteg fun g => { g with wraps := oseq :: g.wraps }).inc .INTEG_LOG_HEAD_WRAPS else t

/-- The area 0x4 event of a fault kind (R152); `replays`: of its request so far. -/
def Dev.faultEvent (s : Dev) (f : FaultOp) (poisoned : Bool) (replays : Nat) : Dev :=
  match f.kind with
  | 1 => s.post 0x4001 f.unit f.unit s.cycleLow replays
  | 2 => s.post 0x4002 f.unit f.unit s.cycleLow replays
  | 3 => s.post 0x4003 f.unit f.unit f.row 0
  | 4 => s.post 0x4004 f.unit f.unit f.row (b2n poisoned)
  | _ => s

/-- The highest count of any kind on a unit in its window (INTEG_QUERY_RESULT). -/
def IntegSt.countOf (i : IntegSt) (u : Nat) : Nat :=
  i.counts.foldl (fun a e => if e.1 / 256 = u then max a e.2 else a) 0

/-- A line-cache bank has reached a threshold: the way of its last fault takes the group's spare way; where that is
in use, or the way is not known, the bank is retired (R145, R312; assumption 51). -/
def Dev.retireWay (s : Dev) (f : FaultOp) (n : Nat) : Dev :=
  let way := f.la.map (fun la => s.lcSpareWay (lcGroup (lcSet la)) f.pos)
  match way with
  | some (t, true) =>
    let u := ((t.modInteg fun i => { i with counts := i.counts.keep (fun k _ => k / 256 != f.unit) }).setL
      [(.INTEG_SUMMARY_RETIRED, 1), (.INTEG_SUMMARY_SPARE_USED, 1)]).post 0x4010 f.unit f.unit f.kind n
    (u.post 0x4011 f.unit f.unit (u.freeVal 32) (64 - u.lc.failed.length)).drawn.showSpares
  | _ => s.retireUnit f.unit f.kind n

/-- A detected fault is counted on its unit, entered in the log, posted, and retires its unit where the threshold
is reached (R139, R143, R148, R152). -/
def Dev.detected (s : Dev) (f : FaultOp) (poisoned injected : Bool) (replays : Nat) (found : Option (Nat × Nat) := none) : Dev :=
  let key := f.unit * 256 + f.kind
  let n := s.integ.counts.getD key 0 + 1
  let s1 := (s.modInteg fun i => { i with counts := i.counts.put key n, lastKind := i.lastKind.put f.unit f.kind }).orF
    .INTEG_SUMMARY_KIND_SEEN (2 ^ (f.kind - 1))
  let s2 := (s1.when (loggedKinds.contains f.kind) (·.integEntry f poisoned injected found)).faultEvent f poisoned replays
  let (th, _, retire) := s.policyOf f.unit f.kind
  if retire ∧ n ≥ th then (if unitClass f.unit = 9 then s2.retireWay f n else s2.retireUnit f.unit f.kind n) else s2

/-- A unit counts faults: it is not retired, by itself or with its cluster (R143). -/
def Dev.countsFaults (s : Dev) (unit : Nat) : Bool := !s.unitRetired unit && !s.unitRetired (retireName unit)

/-- A fault with the outcome of its transient action (R136 to R143). `poisoned`: it poisoned a line. A RESIDUE or DUAL
fault of a request sends it to replay (R137); SELF_TEST and TRAIN_FAIL have no transient action (R138). One of a rail or clock domain is left to
other chapters (R142); one of a unit retired before is entered in the log and counts nothing (R143, R148). -/
def Dev.countFault (s : Dev) (f : FaultOp) (poisoned injected : Bool) (found : Option (Nat × Nat) := none) : Dev :=
  if [0x0C, 0x0D].contains (unitClass f.unit) = true ∨ f.kind = 0 ∨ f.kind > 15 then s
  else if s.countsFaults f.unit = false then s.when (loggedKinds.contains f.kind) (·.integEntry f poisoned injected found)
  else
    let good := f.recovered && f.kind != 13 && f.kind != 14
    match (if (f.kind = 1 ∨ f.kind = 2) ∧ f.recovered = false then f.req else none) with
    | some r => (s.modInteg fun i => { i with replays := i.replays.put r ⟨f.unit, f.kind, 0, f.tick, s.cal.requests.find? (fun x => x.stamp == r)⟩ }).detected f poisoned injected 0 found
    | none => (if good then s.inc (.INTEG_TRANS_TRANS f.kind) else s.inc (.INTEG_FAIL_FAIL f.kind)).detected f poisoned injected 0 found

/-! ### Records, queries and injection (R144, R149 to R151) -/

/-- INTEG_CLEAR: in QUIESCED with GUARD 0xC3 a unit's record is removed (R144). -/
def Dev.integClear (s : Dev) (unit guard : Nat) : Dev :=
  if guard = 0xC3 ∧ s.modeOf = mQUIESCED ∧ s.integ.records.contains unit = true then
    (s.modInteg fun i => { i with records := i.records.erase unit }).post 0x4014 unit unit 0 0
  else s

/-- INTEG_QUERY selects a unit; the result follows its state (R149). -/
def Dev.integQuery (s : Dev) (unit : Nat) : Dev := s.set .INTEG_QUERY_UNIT unit

/-- Bits [24:0] of INTEG_INJECT_A as a word. -/
def Dev.injectA (s : Dev) : Nat :=
  s.get .INTEG_INJECT_A_UNIT + s.get .INTEG_INJECT_A_KIND * 2 ^ 16 + s.get .INTEG_INJECT_A_ARM * 2 ^ 24

/-- The injection pair agrees (R150). -/
def Dev.injectAgrees (s : Dev) : Bool := s.get .INTEG_INJECT_B_CHECK == 2 ^ 32 - 1 - s.injectA

/-- Kinds that may be injected (R151). -/
def injectable : List Nat := [1, 2, 3, 4, 5, 6, 7, 12]

/-- What a write to the injection pair leads to (R150, R151). `before`: the pair agreed before the write. -/
def Dev.injectWritten (s : Dev) (before : Bool) : Dev :=
  if s.injectAgrees then
    let u := s.get .INTEG_INJECT_A_UNIT
    let k := s.get .INTEG_INJECT_A_KIND
    if before = false ∧ s.bit .INTEG_INJECT_A_ARM = true ∧ u ≠ 0 ∧ injectable.contains k = true ∧ s.inMode [mSOLO, mQUIESCED] = true then
      s.modInteg fun i => { i with armed := some (u, k) }
    else s
  else
    let t := s.set .INTEG_SUMMARY_INJ_MISMATCH 1
    if before then t.postOpen 0x3020 (s.get .INTEG_INJECT_A_UNIT) [s.get .INTEG_INJECT_A_UNIT, 0x300] else t

/-! ### Commands -/

/-- FAULT_WINDOW_START (R139). -/
def execFaultWindowStart (log2 : Nat) (w : State) : Host.Outcome State Fault Refusal := finish w fun s => (s.windowStart log2)

/-- INTEG_CLEAR (R144). -/
def execIntegClear (unit guard : Nat) (w : State) : Host.Outcome State Fault Refusal := finish w fun s => (s.regRow 0x60018 (·.integClear unit guard))

/-- INTEG_QUERY (R149). -/
def execIntegQuery (unit : Nat) (w : State) : Host.Outcome State Fault Refusal := finish w fun s => (s.regRow 0x60010 (·.integQuery unit))

end Sys2Proof.Machine
end

