-- ==== Sys2Proof/Machine/Nand.lean ====
section
/-!
DEFINITION. The NAND channel engines (13_flash_channels.md): status records, time-outs, suspends, continuous reads,
read-retry and raw access.
-/

namespace Sys2Proof.Machine

open Sys2Proof

/-! ### Ends of array operations (R403 to R405) -/

/-- The unit ID and the LUN index within the channel, target × 4 + LUN. -/
def lunIndex (lun : Nat) : Nat := lun % 32

/-- No array operation runs on a LUN. -/
def Dev.clearRun (s : Dev) (lun : Nat) : Dev := s.modNand fun n => n.setLun lun { n.lun lun with run := none }

/-- A raw operation has ended (R403, R420). -/
def Dev.rawEnd (s : Dev) (ch result status steps : Nat) : Dev :=
  s.setL [(.NANDC_RAW_STATUS_BUSY ch, 0), (.NANDC_RAW_STATUS_DONE ch, 1), (.NANDC_RAW_STATUS_RESULT ch, result),
    (.NANDC_RAW_STATUS_STATUS_BYTE ch, status), (.NANDC_RAW_STATUS_STEPS ch, steps)]

/-- STATUS_TIMEOUT: the operation of a LUN ends TIMEOUT, the LUN is reset and fails (R405, R372). `result` is 3,
or 6 where the step limit of R402 ended it. -/
def Dev.nandTimeout (s : Dev) (lun result : Nat) : Dev :=
  match (s.nand.lun lun).run with
  | none => s
  | some o =>
    let ch := lunChannel lun
    let t := (s.clearRun lun).inc (.NANDC_TIMEOUTS_TIMEOUTS ch)
    let u := if result = 3 then (t.set (.NANDC_STATUS_TIMEOUT_SEEN ch) 1).post 0x6020 (lunUnit lun) (lunUnit lun) (lunIndex lun) o.seq else t
    let v := match o.job with
      | .raw _ _ _ _ => u.rawEnd ch result 0 0
      | .erase _ m => u.modFm fun f => (f.erasable m).foldl (fun g x => g.setBlk lun x { g.blk lun x with erased := false }) f
      | _ => u
    v.failLun lun

/-- Words of the raw data window. -/
def rawWords : Nat := 4608

/-- Bytes into the raw data window from byte 0 (R420). -/
def Dev.rawFill (s : Dev) (ch : Nat) (bs : List Byte) : Dev :=
  s.each (List.range (min rawWords (ceilDiv bs.length 4))) fun t i => t.set (.NANDC_RAW_DATA_DATA ch i) (leAt bs (4 * i) 4)

/-- The page in the raw data window. -/
def Dev.rawPage (s : Dev) (ch : Nat) : List Byte :=
  (List.range rawWords).flatMap fun i => leBytes 4 (s.get (.NANDC_RAW_DATA_DATA ch i))

/-- The key of a page that a raw program stored. -/
def rawKey (lun block page : Nat) : Nat := (lun * 8192 + block) * 2048 + page

/-- A raw operation's effect once it ended PASS (R406, R420, R421). A page that no raw program stored reads as the
channel returns it. -/
def Dev.rawDone (s : Dev) (lun op block page : Nat) (slc : Bool) (r : NandRes) : Dev :=
  let ch := lunChannel lun
  match op with
  | 1 => s.rawFill ch ((s.nand.rawPages.get? (rawKey lun block page)).getD r.data)
  | 2 => ((s.inc (.NANDC_CODEWORDS_CODEWORDS ch) r.codewords).inc (.NANDC_BITS_CORRECTED_BITS ch) r.bits).rawFill ch r.data
  | 3 => s.modNand fun n => { n with rawPages := n.rawPages.put (rawKey lun block page) (s.rawPage ch) }
  | 4 =>
    let b := s.fm.blk lun block
    let t := s.modFm fun f => ({ (f.setBlk lun block { b with ec := b.ec + 1, erased := true, slcMode := some slc, next := 0, raw := false, intent := false }) with
      loose := if block / max 1 f.planes < f.fresh.getD lun 0 then f.loose ++ [blkKey lun block] else f.loose }).joinLoose lun
    ((t.modNand fun n => { n with rawPages := n.rawPages.keep (fun k _ => k / 2048 != blkKey lun block) }).intent 2 (blkKey lun block) 0).journalFlash
  | 5 => s.rawFill ch (r.data.take 8)
  | 6 => s.rawFill ch (r.data.take 4)
  | 7 => s.modFm fun f => f.setBlk lun block (f.blk lun block).checked
  | _ => s

/-- A raw erase that failed leaves ERASED clear (R406) and closes its intent. -/
def Dev.rawFailed (s : Dev) (lun op block : Nat) : Dev :=
  if op = 4 then
    (s.modFm fun f => f.setBlk lun block { f.blk lun block with erased := false, intent := false }).intent 2 (blkKey lun block) 0
  else s

/-- An idle LUN whose operation is suspended serves the reads that wait before it resumes (R410). -/
def Dev.nextRead (s : Dev) (lun : Nat) : Dev :=
  let l := s.nand.lun lun
  if l.run.isSome ∨ l.susp.isNone then s
  else match l.wait.find? (fun e => match e.2 with | .read _ => true | _ => false) with
    | some e => (s.modNand fun n => n.setLun lun { l with wait := l.wait.erase e }).startJob lun e.1 e.2
    | none => s

/-- An erased member is verified before its blocks enter a band: one erased again after a power cut, and one of a purge (R383, R390). -/
def Dev.mustVerify (s : Dev) (band : Option Nat) : Bool :=
  match band with
  | none => true
  | some n => s.fm.purge.any fun p => p.left.contains n

/-- A verification has ended: blocks of the planes given do not read as erased and are retired, which a purge counts (R383, R390); the others are
ERASED with no mode yet (R406). -/
def Dev.verified (s : Dev) (band : Option Nat) (m : Member) (planes : Nat) : Dev :=
  let bad := (List.range m.blocks.length).filter (fun q => planes.testBit q)
  let t := s.modFm fun f => (f.erasable m).foldl (fun g x => g.setBlk m.lun x (g.blk m.lun x).checked) f
  let u := t.each bad fun v q => (v.modFm fun f => f.setBlk m.lun (m.blocks.getD q 0) { f.blk m.lun (m.blocks.getD q 0) with erased := false }).retireBlock m.lun (m.blocks.getD q 0)
  let w := u.when (band.isSome && !bad.isEmpty) fun v =>
    (v.modFm fun f => { f with purge := f.purge.map fun p => { p with unverified := p.unverified + bad.length } }).showPurge
  (w.eraseDone band m).when (!bad.isEmpty) (·.checkLun m.lun)

/-- NAND_STATUS: the result of an array operation is acted on at its stamp (R404). -/
def Dev.nandStatus (s : Dev) (lun : Nat) (r : NandRes) : Dev :=
  match (s.nand.lun lun).run with
  | none => s
  | some o =>
    if r.result = 3 ∨ r.result = 6 then s.nandTimeout lun r.result
    else
      let ch := lunChannel lun
      let t := s.clearRun lun
      let u := match o.job with
        | .program n page member =>
          if r.result = 0 then
            ((t.programDone n page member (List.range t.fm.planes)).metaTime n o)
          else t.programFail n page member (if r.planes = 0 then 2 ^ t.fm.planes - 1 else r.planes)
        | .erase band m =>
          if r.result = 0 then (if t.mustVerify band then (t.memberErased m).queueJob (.verify band m) else (t.memberErased m).eraseDone band m)
          else if r.result = 5 then t.modFm fun f => (f.erasable m).foldl (fun g x => g.setBlk lun x { g.blk lun x with erased := false }) f
          else t.eraseFail band m (if r.planes = 0 then 2 ^ m.blocks.length - 1 else r.planes)
        | .verify band m => t.verified band m (if r.result = 0 then 0 else if r.planes = 0 then 2 ^ m.blocks.length - 1 else r.planes)
        | .check n member => if r.result = 0 then t.bandChecked n member else t.checkFailed n member
        | .read h => (t.countRead h (max 1 r.codewords)).inc (.NANDC_BITS_CORRECTED_BITS ch) r.bits
        | .cont _ _ => t
        | .raw op block page slc =>
          let v := t.rawEnd ch r.result r.status r.steps
          if r.result = 0 then v.rawDone lun op block page slc r else v.rawFailed lun op block
      (u.nextRead lun).pump lun

/-- PROGRAM_FAIL: the program that a LUN runs reports failure on some planes (R381). -/
def Dev.lunProgramFail (s : Dev) (lun planes : Nat) : Dev :=
  match (s.nand.lun lun).run with
  | some o => match o.job with
    | .program _ _ _ => s.nandStatus lun { result := 1, planes := planes, status := 1, steps := 0, codewords := 0, bits := 0, data := [] }
    | _ => s
  | none => s

/-- ERASE_FAIL: the erase that a LUN runs reports failure on some planes (R382). -/
def Dev.lunEraseFail (s : Dev) (lun planes : Nat) : Dev :=
  match (s.nand.lun lun).run with
  | some o => match o.job with
    | .erase _ _ => s.nandStatus lun { result := 1, planes := planes, status := 1, steps := 0, codewords := 0, bits := 0, data := [] }
    | _ => s
  | none => s

/-! ### Suspend and resume (R408 to R411) -/

/-- An operation that may be suspended: a program or an erase (R408). -/
def NandJob.suspendable : NandJob → Bool
  | .program _ _ _ | .erase _ _ => true
  | _ => false

/-- A read of a class suspends an operation now (R409, R411). -/
def Dev.suspends (s : Dev) (lun cls : Nat) (o : NandOp) : Bool :=
  o.job.suspendable && (cls == 0 ||
    (!o.starved && decide (s.nowTicks - o.since ≥ s.get (.NANDC_SUSPEND_CFG_RESUME_GRANT_US (lunChannel lun)) * 2000)))

/-- SUSPEND: a read of a slot comes to its LUN; where the LUN runs a program or an erase in its array phase the
read suspends it as its class and the grant allow, and waits otherwise (R408, R409). It ends a continuous read
(R413). -/
def Dev.readComes (s : Dev) (home cls : Nat) : Dev :=
  let lun := homeLun home
  if s.modeOf = mHOLDUP then s
  else
    let t := s.queueJob (.read home)
    let l := t.nand.lun lun
    match l.run with
    | some o =>
      if l.susp.isNone = true ∧ t.suspends lun cls o = true then
        let u := (t.modNand fun n => n.setLun lun { l with run := none, susp := some { o with suspends := min 65535 (o.suspends + 1) } }).inc
          (.NANDC_SUSPENDS_SUSPENDS (lunChannel lun))
        u.nextRead lun
      else match o.job with
        | .cont _ _ => ((t.clearRun lun).pump lun)
        | _ => t
    | none => (t.nextRead lun).pump lun

/-- RESUME_OPERATION: with no read of the LUN ready or executing, its suspended operation resumes (R410). -/
def Dev.resumeOp (s : Dev) (lun : Nat) : Dev :=
  let l := s.nand.lun lun
  match l.susp with
  | none => s
  | some o =>
    if l.run.isSome ∨ l.wait.any (fun e => match e.2 with | .read _ => true | _ => false) = true then s
    else s.modNand fun n => n.setLun lun { l with run := some { o with since := s.nowTicks }, susp := none }

/-- STARVED: a program or erase not ended within STARVE_MS is marked once (R411). -/
def Dev.starve (s : Dev) (lun : Nat) : Dev :=
  let l := s.nand.lun lun
  let ch := lunChannel lun
  let limit := s.get (.NANDC_SUSPEND_CFG_STARVE_MS ch)
  let mark (o : NandOp) : Bool := o.job.suspendable && !o.starved && limit != 0 && decide (s.nowTicks ≥ o.start + limit * 2000000)
  let told (t : Dev) (o : NandOp) : Dev :=
    (t.set (.NANDC_STATUS_STARVE_SEEN ch) 1).post 0x6022 (lunUnit lun) (lunUnit lun) (lunIndex lun) o.suspends
  match l.susp, l.run with
  | some o, _ => if mark o then told (s.modNand fun n => n.setLun lun { l with susp := some { o with starved := true } }) o else s
  | none, some o => if mark o then told (s.modNand fun n => n.setLun lun { l with run := some { o with starved := true } }) o else s
  | none, none => s

/-! ### Continuous reads (R412, R413) -/

/-- CONT_READ: a run of consecutive pages from a HOME. `pages` were taken; where `failed`, the last one failed its
hard decode and is read again. -/
def Dev.contRead (s : Dev) (home pages : Nat) (failed : Bool) : Dev :=
  let lun := homeLun home
  let ch := lunChannel lun
  let l := s.nand.lun lun
  let most := s.get (.NANDC_CONT_CFG_CONT_MAX_PAGES ch)
  let able := match s.fm.table with
    | some t => t.cont
    | none => false
  if able = false ∨ most = 0 ∨ pages = 0 ∨ l.run.isSome = true ∨ l.susp.isSome = true ∨ s.modeOf = mHOLDUP then s
  else
    let n := min pages most
    let at_ (i : Nat) : Nat := homeOf lun (homeBlock home) (homePage home + i) (homeSlot home)
    let t := (s.each (List.range n) fun u i => u.countRead (at_ i)).inc (.NANDC_CONT_PAGES_CONT_PAGES ch) (n - 1)
    if failed then (t.queueJob (.read (at_ (n - 1)))).pump lun else t

/-! ### Read-retry (R416, R417) -/

/-- A step of the retry table of a mode is SOFT (R416); steps count from 1. -/
def NandTable.soft (t : NandTable) (slc : Bool) (step : Nat) : Bool :=
  ((if slc then t.softSlc else t.softNative)[step - 1]?).getD false

/-- Steps of the retry table of a mode. -/
def NandTable.retries (t : NandTable) (slc : Bool) : Nat := if slc then t.retrySlc else t.retryNative

/-- The error capture of the first UE (R417). -/
def Dev.captureUe (s : Dev) (home steps weight zeros : Nat) (slc : Bool) : Dev :=
  let ch := lunChannel (homeLun home)
  if s.bit (.NANDC_ERR_INFO_VALID ch) then s
  else s.setL [(.NANDC_ERR_INFO_VALID ch, 1), (.NANDC_ERR_INFO_SLC ch, b2n slc), (.NANDC_ERR_INFO_SLOT ch, homeSlot home),
    (.NANDC_ERR_INFO_LUN ch, lunIndex (homeLun home)), (.NANDC_ERR_INFO_STEPS ch, steps),
    (.NANDC_ERR_ADDR_BLOCK ch, homeBlock home), (.NANDC_ERR_ADDR_PAGE ch, homePage home),
    (.NANDC_ERR_SYN_WEIGHT ch, min weight 65535), (.NANDC_ERR_SYN_ZERO_BITS ch, min zeros 65535)]

/-- A fault of a slot's channel, as R136 counts it. -/
def slotFault (s : Dev) (home kind step : Nat) (good : Bool) : FaultOp :=
  { unit := lunUnit (homeLun home), kind := kind, recovered := good, tick := s.stamp % 4096, bank := lunIndex (homeLun home),
    row := homeBlock home, col := homePage home, pos := step, synd := 0, sub := 0, la := none }

/-- READ_RETRY: a read that failed hard decode went through its retry steps (R417). `step` is the one at which it
succeeded, and 0 where every step failed; then the slot is rebuilt (R371), and `opens` says whether the rebuilt
image opens and verifies. `weight` and `zeros` are the last iteration's. -/
def Dev.readRetry (s : Dev) (home step weight zeros bits : Nat) (opens : Bool) : Dev :=
  match s.fm.table, s.fm.slots.get? home with
  | some tb, some v =>
    let lun := homeLun home
    let ch := lunChannel lun
    let slc := ((s.fm.bands.get? v.band).map Band.slc).getD false
    let steps := tb.retries slc
    let used := if step = 0 then steps else min step steps
    let softs := ((List.range used).filter (fun i => tb.soft slc (i + 1))).length
    let s1 := ((((s.inc (.NANDC_RETRY_READS_RETRY_READS ch)).inc (.NANDC_SOFT_DECODES_SOFT ch) softs).countRead home used).inc
      (.NANDC_BITS_CORRECTED_BITS ch) bits)
    let s2 := s1.countFault (slotFault s home 8 used (step != 0)) false false
    if step ≠ 0 then
      let s3 := s2.modNand fun n =>
        let k := ch * 256 + (if slc then 128 else 0) + used
        { n with hist := n.hist.put k (sat32 (n.hist.getD k 0 + 1)) }
      if used = steps then
        (s3.modFm fun f => { f with bands := f.bands.upd v.band fun b => { b with finalStep := true } }).post 0x6023 (lunUnit lun) (lunUnit lun)
          (lunIndex lun * 8192 + homeBlock home) (homePage home)
      else s3
    else
      let s3 := ((s2.inc (.NANDC_UE_UE ch)).set (.NANDC_STATUS_UE_SEEN ch) 1).captureUe home steps weight zeros slc
      let s4 := s3.post 0x6021 (lunUnit lun) (lunUnit lun) (lunIndex lun * 8192 + homeBlock home) (homePage home * 4 + homeSlot home)
      (s4.countFault (slotFault s home 9 steps (opens && s4.fm.rebuildable home v)) false false).rebuildSlot home opens
  | _, _ => s

/-- STRIPE_REBUILD: a slot whose read ended FLASH_UE is rebuilt from its stripe (R371); `opens`: the rebuilt image
opens and verifies. -/
def Dev.stripeRebuild (s : Dev) (home : Nat) (opens : Bool) : Dev :=
  match s.fm.slots.get? home with
  | some v => (s.countFault (slotFault s home 9 0 (opens && s.fm.rebuildable home v)) false false).rebuildSlot home opens
  | none => s

/-! ### Raw access in QUIESCED (R420, R421) -/

/-- A block belongs to a band, or is retired (R421). -/
def FlashSt.bandBlock (f : FlashSt) (lun block : Nat) : Bool :=
  (f.blk lun block).retired || f.bands.any (fun e => e.2.members.any (fun m => m.lun == lun && m.blocks.contains block))

/-- A block leaves the erased pool (R421). A fresh member that holds it is passed over. -/
def FlashSt.leavePool (f : FlashSt) (lun block : Nat) : FlashSt :=
  let hit := f.pool.filter (fun m => m.lun == lun && m.blocks.contains block)
  let rest := hit.flatMap (fun m => (m.blocks.filter (· != block)).map (blkKey lun))
  { f with pool := f.pool.filter (fun m => !(m.lun == lun && m.blocks.contains block)),
           loose := (f.loose.filter (· != blkKey lun block)) ++ rest }

/-- The sequence that a raw operation runs (R400); GET_FEATURE runs none of them and is shown as READ_ID. -/
def rawSeq (op : Nat) (slc : Bool) : Nat := match op with
  | 3 => if slc then 6 else 5
  | 4 => if slc then 8 else 7
  | 5 | 6 => 1
  | _ => if slc then 4 else 3

/-- The program or erase that R421 or R407 refuses ends at once. -/
def Dev.rawRefuse (s : Dev) (ch : Nat) : Dev := s.rawEnd ch 2 0 0

/-- GO of `_RAW_CTRL`: the operation selected by OP starts on a channel (R420, R421). -/
def Dev.rawStart (s : Dev) (ch op guard : Nat) : Dev :=
  let unit := 0x300 + ch
  if guard ≠ 0x3D ∨ s.bit (.NANDC_RAW_STATUS_BUSY ch) = true ∨ op = 0 then s
  else if s.modeOf ≠ mQUIESCED then s.post 0x6026 unit unit op 1
  else if op ≥ 8 then s.rawEnd ch 6 0 0
  else
    let lun := ch * 32 + s.get (.NANDC_RAW_ADDR0_LUN ch)
    let block := s.get (.NANDC_RAW_ADDR0_BLOCK ch)
    let page := s.get (.NANDC_RAW_ADDR1_PAGE ch)
    let slc := s.bit (.NANDC_RAW_ADDR0_SLC ch)
    let code := lunIndex lun * 8192 + block
    if (op = 3 ∨ op = 4) ∧ s.fm.bandBlock lun block = true then (s.post 0x6026 unit unit op 2).rawRefuse ch
    else if op = 3 ∧ s.fm.accepts lun block page slc = false then
      ((s.inc (.NANDC_PROG_REFUSED_REFUSED ch)).set (.NANDC_STATUS_REFUSED_SEEN ch) 1).rawRefuse ch |>.post 0x6005 unit unit code page
    else
      let busy := s.setL [(.NANDC_RAW_STATUS_BUSY ch, 1), (.NANDC_RAW_STATUS_DONE ch, 0)]
      let t := match op with
        | 3 => (busy.modFm fun f => (f.leavePool lun block).setBlk lun block { f.blk lun block with next := page + 1, slcMode := some slc, raw := true }).post
            0x6025 unit unit op code
        | 4 => ((busy.modFm fun f => (f.leavePool lun block).setBlk lun block { f.blk lun block with intent := true }).intent 1 (blkKey lun block) 0).post
            0x6025 unit unit op code
        | _ => busy
      (t.modNand fun n => n.setLun lun { n.lun lun with wait := (n.lun lun).wait ++ [(rawSeq op slc, .raw op block page slc)] }).pump lun

/-- A row of R420: GO with its own OP. -/
def Dev.rawRow (s : Dev) (ch op guard : Nat) : Dev := (s.set (.NANDC_RAW_CTRL_OP ch) op).rawStart ch op guard

/-! ### Commands -/

/-- NAND_STATUS (R404). -/
def execNandStatus (lun : Nat) (r : NandRes) (w : State) : Host.Outcome State Fault Refusal := finish w fun s => s.atPoint 33 (fun x => x.id == lun) (·.nandStatus lun r)

/-- STATUS_TIMEOUT (R405). -/
def execStatusTimeout (lun : Nat) (w : State) : Host.Outcome State Fault Refusal := finish w fun s => (s.nandTimeout lun 3)

/-- PROGRAM_FAIL (R381). -/
def execProgramFail (lun planes : Nat) (w : State) : Host.Outcome State Fault Refusal := finish w fun s => (s.lunProgramFail lun planes)

/-- ERASE_FAIL (R382). -/
def execEraseFail (lun planes : Nat) (w : State) : Host.Outcome State Fault Refusal := finish w fun s => (s.lunEraseFail lun planes)

/-- STRIPE_REBUILD (R371). -/
def execStripeRebuild (home : Nat) (opens : Bool) (w : State) : Host.Outcome State Fault Refusal := finish w fun s => (s.stripeRebuild home opens)

/-- SUSPEND (R409). -/
def execSuspend (home cls : Nat) (w : State) : Host.Outcome State Fault Refusal := finish w fun s => (s.readComes home cls)

/-- RESUME_OPERATION (R410). -/
def execResumeOperation (lun : Nat) (w : State) : Host.Outcome State Fault Refusal := finish w fun s => (s.resumeOp lun)

/-- STARVED (R411). -/
def execStarved (lun : Nat) (w : State) : Host.Outcome State Fault Refusal := finish w fun s => (s.starve lun)

/-- CONT_READ (R412). -/
def execContRead (home pages : Nat) (failed : Bool) (w : State) : Host.Outcome State Fault Refusal := finish w fun s => (s.contRead home pages failed)

/-- READ_RETRY (R417). -/
def execReadRetry (home step weight zeros bits : Nat) (opens : Bool) (w : State) : Host.Outcome State Fault Refusal :=
  finish w fun s => (s.readRetry home step weight zeros bits opens)

/-- READ_RAW (R420). -/
def execReadRaw (ch guard : Nat) (w : State) : Host.Outcome State Fault Refusal := finish w fun s => (s.regRow (nandBase ch + 0x80) (·.rawRow ch 1 guard))

/-- READ_DECODED (R420). -/
def execReadDecoded (ch guard : Nat) (w : State) : Host.Outcome State Fault Refusal := finish w fun s => (s.regRow (nandBase ch + 0x80) (·.rawRow ch 2 guard))

/-- PROGRAM_RAW (R420, R421). -/
def execProgramRaw (ch guard : Nat) (w : State) : Host.Outcome State Fault Refusal := finish w fun s => (s.regRow (nandBase ch + 0x80) (·.rawRow ch 3 guard))

/-- RAW_ERASE (R420, R421). -/
def execRawErase (ch guard : Nat) (w : State) : Host.Outcome State Fault Refusal := finish w fun s => (s.regRow (nandBase ch + 0x80) (·.rawRow ch 4 guard))

/-- RAW_READ_ID (R420). -/
def execRawReadId (ch guard : Nat) (w : State) : Host.Outcome State Fault Refusal := finish w fun s => (s.regRow (nandBase ch + 0x80) (·.rawRow ch 5 guard))

/-- GET_FEATURE (R420). -/
def execGetFeature (ch guard : Nat) (w : State) : Host.Outcome State Fault Refusal := finish w fun s => (s.regRow (nandBase ch + 0x80) (·.rawRow ch 6 guard))

/-- ERASE_CHECK (R420, R406). -/
def execEraseCheck (ch guard : Nat) (w : State) : Host.Outcome State Fault Refusal := finish w fun s => (s.regRow (nandBase ch + 0x80) (·.rawRow ch 7 guard))

end Sys2Proof.Machine
end

