-- ==== Sys2Proof/Machine/Dram.lean ====
section
/-!
DEFINITION. The DRAM controllers (11_dram_controller.md): corrected and uncorrectable reads, parity recovery,
repair records, temperatures, retraining and the scrubber.
-/

namespace Sys2Proof.Machine

open Sys2Proof

/-- The controller of a memory unit: `DDRC[n]` at n, `HBMC[n]` at 8 + n. -/
def memIndex (unit : Nat) : Nat := if unitClass unit = 1 then unitNum unit else 8 + unitNum unit

/-- The station of a controller's subchannel or pseudo-channel (R99, R333). -/
def memStation (n sub : Nat) : Nat := if n < 8 then 16 + 2 * n + sub % 2 else n - 8

/-- The unit ID of a controller. -/
def memUnitId (n : Nat) : Nat := if n < 8 then 0x0100 + n else 0x0200 + (n - 8)

/-- The memory unit of a station (R99). -/
def stationUnit (st : Nat) : Nat := if st < 16 then 0x0200 + st else 0x0100 + (st - 16) / 2

/-- The geometry of a controller's memory (R328). -/
def Dev.geoOf (s : Dev) (n : Nat) : Option Geo := s.forme.run.map fun f => if n < 8 then f.dimm else f.hbm

/-! ### Error capture and repair records (R342, R347, R349) -/

/-- Rank or stack ID, chip ID, bank group and bank of a flattened bank number (R334). -/
def Geo.unflat (g : Geo) (bank : Nat) : Nat × Nat × Nat × Nat :=
  let ba := bank % 2 ^ g.ba
  let bg := bank / 2 ^ g.ba % 2 ^ g.bg
  let hi := bank / 2 ^ (g.ba + g.bg)
  if g.gen = 2 then (hi, 0, bg, ba) else (hi / 2 ^ g.cid, hi % 2 ^ g.cid, bg, ba)

/-- The first error since VALID was cleared is captured (R342). -/
def Dev.captureMem (s : Dev) (f : FaultOp) (ue : Bool) : Dev :=
  let n := memIndex f.unit
  if s.bit (.MEM_ERR_INFO_VALID n) then s
  else match s.geoOf n with
    | none => s
    | some g =>
      let (rank, cid, bg, ba) := g.unflat f.bank
      s.setL [(.MEM_ERR_INFO_VALID n, 1), (.MEM_ERR_INFO_UE n, b2n ue), (.MEM_ERR_INFO_SUB n, if n < 8 then f.sub else (n - 8) % 2),
        (.MEM_ERR_INFO_RANK n, rank), (.MEM_ERR_INFO_CID n, cid), (.MEM_ERR_INFO_BG n, bg), (.MEM_ERR_INFO_BA n, ba),
        (.MEM_ERR_INFO_COL n, f.col), (.MEM_ERR_ROW_ROW n, f.row), (.MEM_ERR_SYN_POSITION n, f.pos), (.MEM_ERR_SYN_MULTI n, b2n ue),
        (.MEM_ERR_SYN_SYNDROME n, f.synd)]

/-- The repair counts of a controller (`_REPAIR`, `_LANE`, `_STATUS.REPAIR_PENDING`). -/
def Dev.showRepair (s : Dev) (n : Nat) : Dev :=
  let u := memUnitId n
  let rows := (s.mem.rows.filter (fun r => r.unit == u)).length
  let gone := (s.mem.rows.filter (fun r => r.unit == u && r.exhausted)).length
  let lanes := (s.mem.lanes.filter (fun l => l.1 == u)).length
  s.setL [(.MEM_REPAIR_PENDING n, min rows 255), (.MEM_REPAIR_EXHAUSTED n, min gone 255), (.MEM_LANE_PENDING n, min lanes 15),
    (.MEM_STATUS_REPAIR_PENDING n, b2n (decide (rows + lanes > 0)))]

/-- A row reaches a repair record (R347). -/
def Dev.recordRow (s : Dev) (unit sub bank row : Nat) : Dev :=
  if s.mem.rows.any (fun r => r.unit == unit && r.sub == sub && r.bank == bank && r.row == row) then s
  else ((s.modMem fun m => { m with rows := m.rows ++ [⟨unit, sub, bank, row, false⟩] }).post 0x5006 unit unit bank row).showRepair (memIndex unit)

/-- A lane of an HBM2E pseudo-channel is recorded for repair (R349). The manual does not say which of a symbol's
lanes it is: a free value (assumption 2). -/
def Dev.recordLane (s : Dev) (unit n : Nat) : Dev :=
  let lane := s.freeVal 7
  let t := s.drawn
  ((t.modMem fun m => { m with lanes := m.lanes ++ [(unit, lane)] }).post 0x500A unit unit lane n).showRepair (memIndex unit)

/-- The key of a row of a station in the count of correctable errors. -/
def rowKey (st bank row : Nat) : Nat := (st * 1024 + bank) * 2 ^ 18 + row

/-- A station's table of row counts holds 64 entries (R347); a row that finds it full is not counted
(assumption 41). -/
def Dev.countRow (s : Dev) (f : FaultOp) : Dev :=
  let n := memIndex f.unit
  let st := memStation n f.sub
  let k := rowKey st f.bank f.row
  let c := s.mem.rowCe.getD k 0 + 1
  let used := s.mem.rowCe.count (fun x _ => x / 2 ^ 28 == st)
  let limit := s.get (.MEM_ECC_CTRL_ROW_CE_LIMIT n)
  if (s.mem.rowCe.get? k).isNone = true ∧ used ≥ 64 then s
  else
    let t := s.modMem fun m => { m with rowCe := m.rowCe.put k c }
    if limit ≠ 0 ∧ c ≥ limit then (t.modMem fun m => { m with rowCe := m.rowCe.del k }).recordRow f.unit f.sub f.bank f.row else t

/-- Corrections at one symbol position of an HBM2E pseudo-channel (R349). -/
def Dev.countSymbol (s : Dev) (f : FaultOp) : Dev :=
  let n := memIndex f.unit
  let k := n * 64 + f.pos
  let c := s.mem.symCe.getD k 0 + 1
  let limit := s.get (.MEM_ECC_CTRL_ROW_CE_LIMIT n)
  let t := s.modMem fun m => { m with symCe := m.symCe.put k c }
  if n ≥ 8 ∧ limit ≠ 0 ∧ c = limit then t.recordLane f.unit c else t

/-! ### Corrected and uncorrectable reads (R340, R341) -/

/-- A corrected read: counted, captured, and its line is written back (R340, R342, R347). -/
def Dev.dramCe (s : Dev) (f : FaultOp) (injected : Bool) : Dev :=
  let n := memIndex f.unit
  let k := n * 64 + f.pos
  let s1 := (s.inc (.MEM_CE_CE n)).captureMem f false
  let s2 := s1.modMem fun m => { m with
    devCe := m.devCe.put k (sat32 (m.devCe.getD k 0 + 1)),
    backs := match f.la with | some la => m.backs ++ [⟨f.unit, la, false⟩] | none => m.backs }
  let s3 := s2.post 0x5001 f.unit f.unit (f.bank * 2 ^ 18 + f.row) f.pos
  ((s3.countRow f).countSymbol f).countFault { f with recovered := true } false injected

/-- An uncorrectable read waits for its one re-read (R341). -/
def Dev.dramUe (s : Dev) (f : FaultOp) (injected : Bool) : Dev :=
  let n := memIndex f.unit
  let t := (s.captureMem f true).set (.MEM_STATUS_UE_SEEN n) 1
  t.modMem fun m => { m with rereads := m.rereads ++ [⟨f.unit, f.bank, f.row, f.la, false, injected, (s.twin.oseq, s.cal.cycle), f.tick, f.sub, f.req⟩] }

/-- The poison pattern goes into a line where it lies in its tier, unless a write was issued after the read
(R341, R134). -/
def Dev.poisonTier (s : Dev) (la unit : Nat) : Dev :=
  let folio := la / 64
  let e := s.tier.entry folio
  match s.tier.resident folio e with
  | none => s
  | some d =>
    if (d.line (la % 64)).poison then s
    else
      let t := s.modTier fun r => r.modResident folio e (fun x => x.put (la % 64) { x.line (la % 64) with poison := true })
      (t.groupChanged folio).poisonLogged la unit

/-- The re-read of an uncorrectable read, in the next cycle (R341). `good`: it decoded. -/
def Dev.rereadDone (s : Dev) (unit bank row : Nat) (good : Bool) : Dev :=
  match s.mem.rereads.find? (fun r => r.unit == unit && r.bank == bank && r.row == row) with
  | none => s
  | some r =>
    let n := memIndex unit
    let f : FaultOp := { unit := unit, kind := 6, recovered := good, tick := r.tick, bank := bank, row := row, col := 0, pos := 0,
                         synd := 0, sub := r.sub, la := r.line, req := r.req }
    let t := s.modMem fun m => { m with rereads := m.rereads.erase r }
    if good then ((t.post 0x5002 unit unit (bank * 2 ^ 18 + row) 0).recordRow unit r.sub bank row).countFault f false r.injected (some r.found)
    else
      let writes := r.line.isSome && !r.newer
      let u := t.inc (.MEM_UE_UE n)
      let v := match r.line with
        | some la => if r.newer then u.inc (.MEM_WB_DROPPED_WB_DROPPED n) else (u.inc (.MEM_POISON_POISON n)).poisonTier la unit
        | none => u
      ((v.post 0x5002 unit unit (bank * 2 ^ 18 + row) (b2n writes)).recordRow unit r.sub bank row).countFault f writes r.injected (some r.found)

/-- Corrected lines are written back, or dropped where a write was issued after the read (R340): the C3 work of
a cycle. -/
def Dev.writeBacks (s : Dev) : Dev :=
  (s.each s.mem.backs fun t b => if b.newer then t.inc (.MEM_WB_DROPPED_WB_DROPPED (memIndex b.unit)) else t).modMem fun m => { m with backs := [] }

/-! ### Parity recovery (R343 to R346) -/

/-- PARITY_ALERT at a station: `lost` are the stamps of the requests whose commands were lost, `refreshes` the
refreshes lost, `commands` all commands lost; the requests wait at the station's input again (R344). `held`: the failing command was still in the retry buffer; where it
was not, the requests end (R346). -/
def Dev.parityAlert (s : Dev) (st : Nat) (lost : List Nat) (refreshes commands : Nat) (held : Bool) : Dev :=
  let unit := stationUnit st
  let n := memIndex unit
  let f : FaultOp := { unit := unit, kind := 7, recovered := held, tick := s.stamp % 4096, bank := 0, row := 0, col := 0, pos := 0, synd := 0,
                       sub := 0, la := none }
  let g := s.mem.gates.getD st ⟨[], 0⟩
  let s1 := ((s.inc (.MEM_ALERTS_ALERTS n)).set (.MEM_STATUS_ALERT_SEEN n) 1).set (.MEM_STATUS_GATED n) 1
  let s2 := (s1.modMem fun m => { m with gates := m.gates.put st ⟨g.lost ++ (if held then lost else []), g.refreshes + refreshes⟩ }).modCal fun c =>
    { c with requests := c.requests.map fun r => if held ∧ r.station = st ∧ lost.contains r.stamp = true then { r with served := false } else r }
  let s3 := s2.post 0x5003 unit unit st commands
  let s4 := if held then s3 else s3.post 0x5004 unit unit st lost.length
  s4.countFault f false false

/-- REPLAY_ENTRY: the station clears the parity-error state and ungates; the lost requests are served again
(R344). -/
def Dev.replayEntry (s : Dev) (st : Nat) : Dev :=
  match s.mem.gates.get? st with
  | none => s
  | some g =>
    let unit := stationUnit st
    let n := memIndex unit
    let t := s.modMem fun m => { m with gates := m.gates.del st }
    let still := t.mem.gates.any (fun e => stationUnit e.1 == unit)
    ((t.inc (.MEM_DEFERRED_DEFERRED n) g.lost.length).inc (.MEM_REF_POSTPONED_REF_POSTPONED n) g.refreshes).setB (.MEM_STATUS_GATED n) still

/-! ### Temperature and retraining (R337, R338, R584) -/

/-- A temperature above REF_TEMP, or one that stands for it (R337). -/
def Dev.memHot (s : Dev) (n temp : Nat) : Dev :=
  ((s.modMem fun m => { m with hot := setBit m.hot n }).set (.MEM_STATUS_REFRESH_SHORT n) 1).post 0x5005 (memUnitId n) (memUnitId n) temp
    (s.get (.MEM_TEMP_REF_TEMP n))

/-- The pair of a sideband slot agrees (R583). -/
def Dev.sbAgrees (s : Dev) (k : Nat) : Bool := s.get (.SB_SLOT_CHK_CHECK k) == 2 ^ 32 - 1 - s.get (.SB_SLOT_ADDR_SEL k)

/-- A reading of a controller's memory can arrive: HBM has its own sensor, a DIMM channel reads over the sideband slots of its DIMMs, which a pair
that disagrees holds (R13, R583). -/
def Dev.tempArrives (s : Dev) (n : Nat) : Bool :=
  decide (n ≥ 8) || (List.range (s.get (.MEM_CFG_DPC n))).any fun i => s.sbAgrees (2 * n + i)

/-- MEM_TEMP_READ: a temperature reading of a controller's memory, in °C (R337). -/
def Dev.memTemp (s : Dev) (n temp : Nat) : Dev :=
  if s.bit (.MEM_CFG_ENABLED n) = false ∨ s.tempArrives n = false then s
  else
    let t := (s.set (.MEM_TEMP_TEMP_MAX n) (min temp 255)).maxF (.MEM_TEMP_PEAK n) (min temp 255)
    if temp > s.get (.MEM_TEMP_REF_TEMP n) then t.memHot n temp else t.modMem fun m => { m with hot := clearBit m.hot n }

/-- TEMPERATURE_STALE: a DIMM reading left stale for 32 ms counts as above REF_TEMP (R584). -/
def Dev.memStale (s : Dev) (n : Nat) : Dev :=
  if s.bit (.MEM_CFG_ENABLED n) then s.memHot n (s.get (.MEM_TEMP_TEMP_MAX n)) else s

/-- TRAIN_RUN: periodic retraining of one rank or stack ID; `drift`: it found drift beyond the correction range
(R338). -/
def Dev.trainRun (s : Dev) (n sub : Nat) (drift : Bool) : Dev :=
  if drift then
    let unit := memUnitId n
    let f : FaultOp := { unit := unit, kind := 14, recovered := false, tick := s.stamp % 4096, bank := 0, row := 0, col := 0, pos := 0, synd := 0,
                         sub := sub, la := none }
    ((s.set (.MEM_STATUS_TRAIN_STEP n) 10).post 0x500B unit unit 10 sub).countFault f false false
  else s

/-- The scrubber's next read of a controller, with the error it found, if any (R339). -/
def Dev.scrubMem (s : Dev) (n : Nat) (err : Option FaultOp) : Dev :=
  if s.get (.MEM_ECC_CTRL_SCRUB_HOURS n) = 0 then s
  else
    let t := s.inc (.MEM_SCRUBBED_SCRUBBED n)
    match err with
    | none => t
    | some f => if f.kind = 5 then t.dramCe { f with unit := memUnitId n } false else if f.kind = 6 then t.dramUe { f with unit := memUnitId n, req := none } false else t

/-! ### Commands -/

/-- REPLAY_ENTRY (R344). -/
def execReplayEntry (station : Nat) (w : State) : Host.Outcome State Fault Refusal := finish w fun s => (s.replayEntry station)

/-- MEM_TEMP_READ (R337). -/
def execMemTempRead (n temp : Nat) (w : State) : Host.Outcome State Fault Refusal := finish w fun s => (s.memTemp n temp)

/-- TEMPERATURE_STALE (R584). -/
def execTemperatureStale (n : Nat) (w : State) : Host.Outcome State Fault Refusal := finish w fun s => (s.memStale n)

/-- TRAIN_RUN (R338). -/
def execTrainRun (n sub : Nat) (drift : Bool) (w : State) : Host.Outcome State Fault Refusal := finish w fun s => (s.trainRun n sub drift)

end Sys2Proof.Machine
end

