-- ==== Sys2Proof/Machine/Daybook.lean ====
section
/-!
DEFINITION. The Daybook die (14_daybook.md): stripes, partitions, rebuild of granules, spare rows, unrecoverable
granules, and the scrubber.
-/

namespace Sys2Proof.Machine

open Sys2Proof

/-! ### Organisation (R424, R425, R432) -/

/-- Logical rows of a bank; physical rows from here on are spares (R424). -/
def dbRows : Nat := 31744

/-- Spare rows of a bank. -/
def dbSpares : Nat := 1024

/-- A row of a bank as a key. -/
def dbKey (bank row : Nat) : Nat := bank * 32768 + row

/-- The logical row that a physical row holds, followed through `n` remaps at most: none for a row that was remapped. A spare row holds the row
remapped onto it, in the order of remaps. -/
def DbSt.logicalFrom (d : DbSt) (bank : Nat) : Nat → Nat → Option Nat
  | 0, _ => none
  | n + 1, row =>
    if row < dbRows then some row
    else match (d.remapped.filter (fun k => k / 32768 == bank))[row - dbRows]? with
      | some k => d.logicalFrom bank n (k % 32768)
      | none => none

/-- The logical row that a physical row in use holds (R429). -/
def DbSt.logicalRow (d : DbSt) (bank row : Nat) : Option Nat :=
  if d.remapped.contains (dbKey bank row) then none else d.logicalFrom bank (d.remapped.length + 1) row

/-- The stripe of a logical granule of a bank (R425). -/
def stripeOf (row granule : Nat) : Nat := row * 64 + granule

/-- The place of a granule of a bank in its stripe: none where it holds the parity (R425). -/
def placeIn (stripe bank : Nat) : Option Nat :=
  let p := stripe % 4
  if bank = p then none else some (if bank < p then bank else bank - 1)

/-- The bank of the i-th data granule of a stripe. -/
def bankAt (stripe i : Nat) : Nat := if i < stripe % 4 then i else i + 1

/-- Partitions of the data space (R432): first data granule, granules, and mode: 0 S, 1 R, 2 P. -/
def partitions : List (Nat × Nat × Nat) :=
  [(0x00000000 / 64, 0x10000000 / 64, 0), (0x10000000 / 64, 0x00100000 / 64, 0), (0x10100000 / 64, 0x00A00000 / 64, 0),
   (0x10B00000 / 64, 0x00200000 / 64, 0), (0x10D00000 / 64, 0x00100000 / 64, 2), (0x10E00000 / 64, 0x00400000 / 64, 1),
   (0x11200000 / 64, 0x00200000 / 64, 1), (0x11400000 / 64, 0x00100000 / 64, 2), (0x11500000 / 64, 0x00100000 / 64, 2),
   (0x11600000 / 64, 0x04000000 / 64, 0)]

/-- The partition of a data granule: its number in the table, its first granule and its mode. -/
def partitionOf (g : Nat) : Option (Nat × Nat × Nat) :=
  ((List.range partitions.length).find? fun i => let (a, n, _) := partitions.getD i (0, 0, 0); decide (a ≤ g ∧ g < a + n)).map
    fun i => let (a, _, m) := partitions.getD i (0, 0, 0); (i, a, m)

/-- A granule of a bank is lost: its bank is retired, or it was found unrecoverable or not yet rebuilt. -/
def DbSt.gone (d : DbSt) (stripe bank : Nat) : Bool := d.dead.testBit bank || d.bad.contains (stripe * 4 + bank)

/-- The lost granule of a bank can be rebuilt: in modes S and R from the other three of its stripe, in mode P from
the other copy (R428). -/
def DbSt.rebuilds (d : DbSt) (stripe bank : Nat) : Bool :=
  let mode := (partitionOf (3 * stripe)).map (fun p => p.2.2)
  if mode = some 2 then
    match placeIn stripe bank with
    | some 0 => !d.gone stripe (bankAt stripe 1)
    | some 1 => !d.gone stripe (bankAt stripe 0)
    | _ => true
  else (List.range 4).all (fun b => b == bank || !d.gone stripe b)

/-- A data granule cannot be read or rebuilt (R428). -/
def DbSt.unreadable (d : DbSt) (g : Nat) : Bool :=
  let b := bankAt (g / 3) (g % 3)
  d.gone (g / 3) b && !d.rebuilds (g / 3) b

/-- The stripe of the n-th granule of a partition in mode P, from its first whole stripe (R425). -/
def stripeP (base n : Nat) : Nat := ceilDiv base 3 + n

/-- The data granule of the ring that holds the intent granule of an ISEQ (R441). -/
def intentAt (iseq : Nat) : Nat := 3 * ceilDiv (0x11600000 / 64) 3 + iseq % intentRing

/-- A header granule of the galley save image and its mirror are both unreadable (R432, R438). -/
def DbSt.headerGone (d : DbSt) (group : Nat) : Bool :=
  d.unreadable (0x10100000 / 64 + 5 * group) && d.unreadable (0x10B00000 / 64 + group)

/-! ### Spare rows (R429) -/

/-- Spare rows left in a bank. -/
def DbSt.sparesLeft (d : DbSt) (bank : Nat) : Nat := dbSpares - d.used.getD bank 0

/-- A row is to be remapped: it takes a spare row, whose copy begins (R429). -/
def Dev.remapRow (s : Dev) (bank row : Nat) : Dev :=
  let unit := 0x0B00 + bank
  let k := dbKey bank row
  if s.db.remapped.contains k ∨ s.db.copying.any (fun e => e.1 == k) = true then s
  else if s.db.sparesLeft bank = 0 then (s.set .DB_STATUS_SPARES_OUT 1).post 0xD006 unit unit row 0
  else
    let t := s.modDb fun d => { d with used := d.used.put bank (d.used.getD bank 0 + 1), copying := d.copying ++ [(k, 0)] }
    ((t.inc .DB_REMAPS_REMAPS).set .DB_STATUS_REMAP_SEEN 1).post 0xD005 unit unit row (t.db.sparesLeft bank)

/-- ROW_REMAP: SCRUB entries copy `n` granules of a row that is being remapped, rebuilding what does not decode;
with the last one the spare row serves (R429). -/
def Dev.copyRow (s : Dev) (bank row n : Nat) : Dev :=
  let k := dbKey bank row
  match s.db.copying.find? (fun e => e.1 == k) with
  | none => s
  | some (_, c) =>
    if c + n < 64 then s.modDb fun d => { d with copying := d.copying.map fun e => if e.1 = k then (k, c + n) else e }
    else s.modDb fun d => { d with
      copying := d.copying.filter (fun e => e.1 != k), remapped := d.remapped ++ [k], rowCe := d.rowCe.del k,
      bad := d.bad.filter (fun x => !(x % 4 == bank && some (x / 4 / 64) == d.logicalRow bank row && d.rebuilds (x / 4) bank)) }

/-! ### Errors (R428, R431) -/

/-- The first error since VALID was cleared is held in `DB_ERR_INFO`. -/
def Dev.captureDb (s : Dev) (bank row granule bits : Nat) (ue : Bool) : Dev :=
  if s.bit .DB_ERR_INFO_VALID then s
  else s.setL [(.DB_ERR_INFO_VALID, 1), (.DB_ERR_INFO_UE, b2n ue), (.DB_ERR_INFO_BANK, bank), (.DB_ERR_INFO_ROW, row),
    (.DB_ERR_INFO_GRANULE, granule), (.DB_ERR_INFO_BITS, bits)]

/-- A fault of a Daybook bank. -/
def dbFault (s : Dev) (bank kind row granule bits : Nat) (good : Bool) : FaultOp :=
  { unit := 0x0B00 + bank, kind := kind, recovered := good, tick := s.stamp % 4096, bank := bank, row := row, col := granule, pos := 0,
    synd := bits, sub := 0, la := none }

/-- A corrected granule is rewritten in place and counted (R428, R429). -/
def Dev.daybookCe (s : Dev) (bank row granule bits : Nat) (injected : Bool) : Dev :=
  let unit := 0x0B00 + bank
  let k := dbKey bank row
  let c := s.db.rowCe.getD k 0 + 1
  let limit := s.get .DB_CFG_ROW_CE_LIMIT
  let t := ((((s.inc .DB_CE_CE).captureDb bank row granule bits false).post 0xD001 unit unit row granule).modDb fun d =>
    { d with rowCe := d.rowCe.put k c }).countFault (dbFault s bank 10 row granule bits true) false injected
  if limit ≠ 0 ∧ c ≥ limit then (t.modDb fun d => { d with rowCe := d.rowCe.del k }).remapRow bank row else t

/-- All pages with retained records are written to T2 at once (R438). -/
def Dev.writeAllPages (s : Dev) : Dev := (s.each s.jrn.recs fun t _ => t.writeOldPage).checkpoint

/-- The records of the records partition that granule `n` of it holds are absent (R438): the seal lies in granules 0 and 1, the others where
`Config.recordGranule` has them. -/
def Dev.recordLost (s : Dev) (n : Nat) : Dev :=
  if n < 2 then
    if s.db.unreadable (3 * stripeP (0x10D00000 / 64) (1 - n)) then s.modJrn fun j => { j with sealRec := { j.sealRec with state := 0 } } else s
  else
    let here (kind key : Nat) : Bool := Config.recordGranule kind key == n
    let keep {α : Type} (kind : Nat) (l : List α) : List α := ((l.zip (List.range l.length)).filter fun e => !here kind e.2).map Prod.fst
    let t := ((s.modInteg fun x => { x with records := x.records.filter fun u => !here 0 u }).modMem fun x =>
      { x with rows := keep 1 x.rows, lanes := keep 2 x.lanes }).when (here 3 0) (·.modMode fun m => { m with sanitizeOpen := false })
    t.when (here 4 0) fun u => ({ u with evt := { u.evt with opCopy := 0 } } : Dev).modPwr fun p => { p with cycleCopy := 0 }

/-- What the loss of a data granule does to the partition it lies in (R438); `unit`: its bank. An intent granule is missed when the ring is read,
a header granule when the image is loaded. -/
def Dev.granuleLost (s : Dev) (g unit : Nat) : Dev :=
  match partitionOf g with
  | none => s
  | some (i, base, _) =>
    let o := g - base
    match i with
    | 0 =>
      if s.inMode [mRECOVERING, mTRAINING] then
        let back := (s.jrn.ring + ringGranules - 1 - o) % ringGranules
        s.modJrn fun j => { j with lost := if back < j.ring then j.lost ++ [j.ring - 1 - back] else j.lost }
      else s.writeAllPages
    | 2 =>
      if o % 5 = 0 ∨ s.jrn.sealRec.state ≠ 1 then s
      else
        let k := o / 5 * 4 + (o % 5 - 1)
        match s.gal.image[k]? with
        | some e => (s.modGal fun x => { x with image := x.image.set k (e.1, e.2.1, e.2.2.1, true) }).when (!e.2.2.2) (·.poisonLogged e.1 unit)
        | none => s
    | 4 => s.recordLost (g / 3 - stripeP base 0)
    | 5 => s.modTwin fun w => { w with ledger := w.ledger.del o }
    | 6 => s.modEvt fun r => { r with ring := (r.ring.del (2 * o)).del (2 * o + 1) }
    | 7 => s.modKeys fun k =>
      let n := g / 3 - stripeP base 0
      if n < nvSlots then { k with blobs := k.blobs.put n { k.blobs.getD n KeySlot.none with state := .lost, key := 0 } } else k
    | _ => s

/-- A data granule is unrecoverable: logged, and its partition acts (R428, R438). -/
def Dev.loseGranule (s : Dev) (g unit : Nat) : Dev :=
  let base := ((partitionOf g).map (fun p => p.2.1)).getD 0
  ((s.set .DB_STATUS_UNRECOVERABLE 1).post 0xD007 unit g (base / 16384) 0).granuleLost g unit

/-- The data granules that the loss of a granule of a stripe leaves unrecoverable: that granule, and in modes S and R every other that could be
rebuilt only with it (R430). -/
def DbSt.losesWith (old new : DbSt) (stripe bank : Nat) : List Nat :=
  ((List.range 3).map (3 * stripe + ·)).filter fun g =>
    new.unreadable g && (placeIn stripe bank == some (g % 3) || ((partitionOf (3 * stripe)).map (fun p => p.2.2) != some 2 && !old.unreadable g))

/-- DAYBOOK_UE: a granule of a physical row whose re-read failed is rebuilt, or is unrecoverable, and its row is
remapped (R428 to R430, R438). -/
def Dev.daybookUe (s : Dev) (bank row granule : Nat) (injected : Bool) : Dev :=
  let unit := 0x0B00 + bank
  match s.db.logicalRow bank row with
  | none => s
  | some lrow =>
    let st := stripeOf lrow granule
    let ok := s.db.rebuilds st bank
    let s1 := ((s.inc .DB_UE_UE).captureDb bank row granule 0 true).modDb fun d =>
      { d with bad := if d.bad.contains (st * 4 + bank) then d.bad else d.bad ++ [st * 4 + bank] }
    let s2 := if ok then (s1.inc .DB_REBUILT_REBUILT).post 0xD002 unit unit row granule
      else s1.each (DbSt.losesWith s.db s1.db st bank) fun t g => t.loseGranule g unit
    (s2.remapRow bank row).countFault (dbFault s bank 11 row granule 0 ok) false injected

/-- Data granules that hold something, for a bank's loss (R432): the ring's, or in service one of its retained ones; the image's; the seal's; the
ledger's; the event ring's; and the key blobs'. -/
def Dev.heldGranules (s : Dev) : List Nat :=
  let slots := (List.range (min s.jrn.ring ringGranules)).map fun n => (s.jrn.ring - 1 - n) % ringGranules
  let ring := if s.inMode [mRECOVERING, mTRAINING] then slots else ((slots.take s.jrn.retained).find? s.db.unreadable).toList
  let image := (List.range s.gal.image.length).map fun k => 0x10100000 / 64 + k / 4 * 5 + 1 + k % 4
  let records := (List.range (0x100000 / 192)).map fun n => 3 * stripeP (0x10D00000 / 64) n
  ring ++ image ++ records ++ (s.twin.ledger.map fun e => 0x10E00000 / 64 + e.1) ++ (s.evt.ring.map fun e => 0x11200000 / 64 + e.1 / 2).eraseDups ++
    s.keys.blobs.map fun e => 3 * stripeP (0x11400000 / 64) e.1

/-- A bank's loss is followed up: with one bank lost every granule is rebuilt, unless its stripe already lacked another; with two, granules are
unrecoverable (R430, R438). -/
def Dev.sweepBanks (s : Dev) : Dev :=
  if s.db.dead = s.db.swept then s
  else
    let old := { s.db with dead := s.db.swept }
    let t := s.modDb fun d => { d with swept := d.dead }
    if s.db.bad = [] ∧ ((List.range 4).filter s.db.dead.testBit).length < 2 then t
    else t.each (s.heldGranules.filter fun g => s.db.unreadable g && !old.unreadable g) fun u g => u.loseGranule g (0x0B00 + bankAt (g / 3) (g % 3))

/-- The scrubber's next granule with the error it found, if any: kind 10 or 11, and whether a re-read decoded
(R431). -/
def Dev.scrubDb (s : Dev) (bank row granule : Nat) (err : Option FaultOp) : Dev :=
  if s.get .DB_CFG_SCRUB_HOURS = 0 then s
  else
    let t := s.inc .DB_SCRUBBED_SCRUBBED
    match err with
    | none => t
    | some f =>
      if f.kind = 10 then t.daybookCe bank row granule f.synd false
      else if f.kind = 11 then (if f.recovered then t.countFault { f with unit := 0x0B00 + bank } false false else t.daybookUe bank row granule false)
      else t

/-! ### Commands -/

/-- DAYBOOK_UE (R428). -/
def execDaybookUe (bank row granule : Nat) (w : State) : Host.Outcome State Fault Refusal := finish w fun s => (s.daybookUe bank row granule false)

/-- ROW_REMAP (R429). -/
def execRowRemap (bank row n : Nat) (w : State) : Host.Outcome State Fault Refusal := finish w fun s => (s.copyRow bank row n)

/-- SCRUB (R339, R431): the next read of a controller, or with `daybook` of a bank's granule. -/
def execScrub (daybook : Bool) (n row granule : Nat) (err : Option FaultOp) (w : State) : Host.Outcome State Fault Refusal :=
  finish w fun s => (if daybook then s.scrubDb n row granule err else s.scrubMem n err)

end Sys2Proof.Machine
end

