-- ==== Sys2Proof/Machine/TwinOps.lean ====
section
/-!
DEFINITION. The shared operations of 15_twin_mirroring.md: Flesal frames, forwarding, outputs and their digests,
mismatches, the loss of Flesal, lease requests and the fence.
-/

namespace Sys2Proof.Machine

open Sys2Proof

/-! ### Triggers and roles -/

/-- A twin trigger of a row of R46 with its place in R477. -/
def Dev.twinTrigger (s : Dev) (row target sub : Nat) : Dev :=
  s.trigger { row := row, target := target, cause := 4, prio := 5, sub := sub }

/-- TWIN_PRESENT_N is low and the Forme pairs the node (R48, R446). -/
def Dev.twinFitted (s : Dev) : Bool := !s.pwr.straps.twinPresentN && s.formeFlag 0

/-- The node forwards the requests it executes: SERVING_ACTIVE, and from Sf of a resynchronisation (R454, R482). -/
def Dev.forwards (s : Dev) : Bool :=
  s.modeOf == mACTIVE || (s.modeOf == mSOLO && (s.twin.resync.map Resync.final).getD false)

/-- Responses wait for the standby's report (R237, R482). -/
def Dev.awaitsReport (s : Dev) : Bool := s.modeOf == mACTIVE

/-- An ONUM needs no further report. -/
def Dev.reported (s : Dev) (onum : Nat) : Bool := onum == 0 || !s.awaitsReport || decide (onum ≤ s.twin.reported)

/-! ### Loss of Flesal, leases and the fence (R452, R463, R468 to R473, R486) -/

/-- Unsent responses are discarded (R463). -/
def Dev.dropResponses (s : Dev) : Dev :=
  s.modNet fun n => { n with qps := n.qps.map fun e => (e.1, { e.2 with resps := [], ackDue := false, ackFrom := none }) }

/-- The node is fenced (R463): 0 fault, 1 lease, 2 handover. -/
def Dev.fence (s : Dev) (why : Nat) : Dev :=
  if s.bit .TWIN_STATUS_FENCED then s
  else
    let t := ((s.setL [(.TWIN_STATUS_FENCED, 1), (.TWIN_STATUS_HOLDING, 0)]).modCal fun c => { c.endOpen with stopped := true }).dropResponses
    let u := t.each t.ports fun v p => (v.set (.PORT_STATUS_HELD p) 0).advertise p
    (u.modTwin fun w => { w with handover := none, leaseDue := false }).post 0xA009 0 why (u.twin.onum % 2 ^ 32) u.twin.term

/-- The 48 bytes of a lease request that its tag covers (R470). -/
def Lease.body (l : Lease) : List Byte :=
  [0x4B, 0x4C, 0x52, 0x51].map (BitVec.ofNat 8) ++ leBytes 4 l.pair ++ leBytes 1 l.node ++ leBytes 1 l.mode ++ leBytes 2 0 ++
    leBytes 4 l.term ++ leBytes 8 l.onum ++ leBytes 8 l.nonce ++ leBytes 16 0

/-- A lease request ends without a grant (R473): 0 DENY, 1 EXPIRED. -/
def Dev.leaseRefused (s : Dev) (why : Nat) : Dev :=
  let t := (s.setL [(.TWIN_LEASE_STATUS_PENDING, 0), (if why = 0 then .TWIN_LEASE_STATUS_DENIED else .TWIN_LEASE_STATUS_EXPIRED, 1)]).post
    0xA008 0 s.twin.term why (s.get .TWIN_LEASE_STATUS_REASON)
  let u := t.modTwin fun w => { w with lease := none, leaseDue := false }
  if u.modeOf = mACTIVE then u.fence 1
  else if u.modeOf = mSTANDBY then u.modTwin fun w => { w with denied := some w.term }
  else u

/-- LEASE_REQUEST: a request is posted where one is needed and none is pending (R469, R470); one whose tag the key
slot refuses expires at once (R505). -/
def Dev.leaseRequest (s : Dev) : Dev :=
  if s.twin.leaseDue = false ∨ s.twin.lease.isSome = true ∨ s.twin.denied = some s.twin.term ∨ s.bit .TWIN_STATUS_FENCED = true then s
  else
    let slot := s.get .TWIN_LEASE_CFG_WITNESS_SLOT
    let (nonce, s1) := s.random 64
    let (s2, ok) := s1.encrypt slot 3 3
    if ok = false then s2.leaseRefused 1
    else
      let l : Lease :=
        { pair := s.twin.pair, node := s.pwr.straps.roleStrap, mode := s.modeOf, term := s.twin.term, onum := s.twin.onum, nonce := nonce }
      let bytes := l.body ++ leBytes 16 (Config.cmac (s2.keys.slot slot).key l.body)
      let s3 := s2.each (List.range 16) fun t i => t.set (.TWIN_LEASE_REQ_REQ i) (leAt bytes (4 * i) 4)
      ((s3.modTwin fun w => { w with lease := some l }).set .TWIN_LEASE_STATUS_PENDING 1).post 0xA006 0 l.term l.mode 0

/-- A resynchronisation is abandoned (R483); one that was FULL starts as FULL again. -/
def Dev.abandonResync (s : Dev) (cause : Nat) : Dev :=
  match s.twin.resync with
  | none => s
  | some r =>
    ((s.modTwin fun w => { w with resync := none, full := w.full || r.full }).setL
      [(.TWIN_RESYNC_PHASE, 0), (.TWIN_RESYNC_LEFT_GROUPS, 0)]).post 0xA00E 0 r.phase cause 0

/-- Responses that wait for a report (R469). -/
def Dev.heldResponses (s : Dev) : Nat :=
  (s.net.qps.map fun e => (e.2.resps.filter fun r => !s.reported r.onum && !r.mute).length).sum

/-- FLESAL_LOST: mailboxes are cleared, a resynchronisation is abandoned, and the lease path starts (R452, R468,
R469, R476, R483, R486). -/
def Dev.flesalLost (s : Dev) : Dev :=
  if s.bit .TWIN_STATUS_LINK_UP = false then s
  else
    let full := s.get .TWIN_MB_FLAGS_OUT_FULL
    let partner := s.get .TWIN_STATUS_PARTNER_MODE
    let s1 := (s.setL [(.TWIN_STATUS_LINK_UP, 0), (.TWIN_STATUS_LINK_LOST_SEEN, 1)]).post 0xA001 0 (s.get .TWIN_STATUS_LANES_UP) s.modeOf partner
    let s2 := s1.when (full != 0) fun t =>
      ((t.set .TWIN_MB_FLAGS_OUT_FULL 0).orF .TWIN_MB_FLAGS_LOST full).post 0xA013 0 (t.get .TWIN_MB_FLAGS_LOST ||| full) 0 0
    let s3 := s2.abandonResync s.modeOf
    if s.bit .TWIN_STATUS_FENCED then s3
    else if s.modeOf = mACTIVE then
      if s.twin.handover.isSome then s3.fence 2
      else if partner = mSTANDBY ∨ partner = mSWITCHOVER then
        (((s3.modTwin fun w => { w with leaseDue := true }).set .TWIN_STATUS_HOLDING 1).inc .TWIN_HELD_RESPONSES_HELD s.heldResponses).leaseRequest
      else s3
    else if s.modeOf = mSTANDBY then
      if (s.mode.due.map fun t => t.row == 13).getD false then s3 else s3.modTwin fun w => { w with leaseDue := true }
    else if s.modeOf = mRECOVERING ∧ s.bit .MODE_STATE_WAIT_TWIN = true then (s3.modTwin fun w => { w with leaseDue := true }).leaseRequest
    else s3

/-! ### Frames (R448 to R452) -/

/-- TYPE of R451. -/
def FlType.code : FlType → Nat
  | .state => 1
  | .item => 2
  | .cycle => 3
  | .report => 4
  | .digest => 5
  | .verdict => 6
  | .fault => 7
  | .handover => 8
  | .handoverAck => 9
  | .resync => 10
  | .group => 11
  | .tables => 12
  | .mailbox => 13
  | .budget => 14
  | .idle => 15

/-- The slot that the KEY bit names (R449). -/
def Dev.flesalSlot (s : Dev) (key : Bool) : Nat := if key then s.get .TWIN_KEY_CFG_SLOT1 else s.get .TWIN_KEY_CFG_SLOT0

/-- A frame of `n` payload bytes is encrypted (R449, R505): on the slot in use, else on the other one. The blocks
are those of the payload and one of the tag (assumption 42). -/
def Dev.sealFrame (s : Dev) (n : Nat) : Dev × Bool :=
  let blocks := ceilDiv n 16 + 1
  let slot := s.flesalSlot s.twin.key
  let before := s.keys.slot slot
  let (t, ok) := s.encrypt slot blocks 1
  if ok then
    let crossed := (t.keys.slot slot).reached 90 && !before.reached 90
    (t.when crossed fun u => u.modTwin fun w => { w with key := !w.key }, true)
  else
    let (u, ok2) := t.encrypt (s.flesalSlot (!s.twin.key)) blocks 1
    (if ok2 then u.modTwin fun w => { w with key := !w.key } else u, ok2)

/-- The structure digests of the twins differ (R30). -/
def Dev.digestsDiffer (s : Dev) : Bool :=
  match s.twin.partner, s.forme.run with
  | some p, some f => p.digest != f.digest
  | _, _ => false

/-- Flesal carries a type now: STATE alone until the partner's first STATE has come, then all of them, or STATE and MAILBOX where the node is fenced
or the digests differ (R452, R463). -/
def Dev.carries (s : Dev) (type : FlType) : Bool :=
  s.bit .TWIN_STATUS_LINK_UP && (s.twin.partner.isSome || type == .state) &&
    (!(s.bit .TWIN_STATUS_FENCED || s.digestsDiffer) || type == .state || type == .mailbox)

/-- Doorbell bits in frames that the partner has not acknowledged (R486). -/
def TwinSt.ringing (w : TwinSt) : Nat :=
  w.kept.foldl (fun a e => if e.1 = .mailbox ∧ e.2.headD 0 = 1 then a ||| e.2.getD 2 0 else a) 0

/-- Sends a Flesal frame (R448 to R450): it is kept until it is acknowledged, at most the last 128. -/
def Dev.sendFrame (s : Dev) (type : FlType) (words : List Nat) (n : Nat := 0) : Dev :=
  if s.carries type = false then s
  else
    let (t, ok) := s.sealFrame n
    if ok = false then t.flesalLost
    else
      let keep := t.twin.kept ++ [(type, words)]
      (t.modTwin fun w => { w with fseq := w.fseq + 1, kept := keep.drop (keep.length - 128), give := 0 }).emit (.flesal type words)

/-- A ledger that has no granule yet. -/
def Ledger.empty : Ledger :=
  { role := 0, vigil := false, suspect := false, pair := 0, term := 0, onum := 0, base := none, oseq := 0, takeover := 0, lseq := 0 }

/-- The ledger end (R464). -/
def Dev.ledgerEnd (s : Dev) : Ledger := s.twin.ledger.getD ((s.twin.lseq + 65535) % 65536) Ledger.empty

/-- A ledger granule's fields, as STATE carries them (R451, R464). -/
def Ledger.words (g : Ledger) : List Nat :=
  [g.role, b2n g.vigil + 2 * b2n g.suspect, g.pair, g.term, g.onum, g.base.getD (2 ^ 64 - 1), g.oseq, g.takeover, g.lseq]

/-- A STATE frame (R451). -/
def Dev.sendState (s : Dev) : Dev :=
  let g := s.ledgerEnd
  s.sendFrame .state ([s.modeOf, s.pwr.straps.roleStrap, s.twin.onum, s.twin.oseq, s.twin.term, s.twin.pair,
    leNat ((s.forme.run.map Forme.digest).getD []), b2n s.twin.loss] ++ g.words) 144

/-! ### Digests and mismatches (R460 to R462) -/

/-- The node's integrity log convicts it over an OSEQ span (R462). -/
def Dev.faultyOver (s : Dev) (lo hi : Nat) : Bool :=
  s.integ.log.any (fun e => decide (lo ≤ e.2.oseq ∧ e.2.oseq ≤ hi) && !e.2.corrected) || s.integ.wraps.any (fun o => decide (lo ≤ o))

/-- Acts on both verdicts (R462). `active`, `standby`: they declare themselves faulty. -/
def Dev.judge (s : Dev) (active standby : Bool) : Dev :=
  let t := s.modTwin fun w => { w with mismatch := none, verdict := none, suspect := w.suspect || (active && s.modeOf == mACTIVE) }
  let row := if active then (if standby then 3 else 4) else (if standby then 2 else 1)
  let u := t.post 0xA005 0 (b2n active) (b2n standby) row
  if row = 4 then
    if s.modeOf = mACTIVE then (u.sendFrame .fault []).fence 0 else u
  else if s.modeOf = mACTIVE then ((u.modTwin fun w => { w with full := true }).set .TWIN_STATUS_DIVERGED_SEEN 1).twinTrigger 11 mSOLO 4
  else if s.modeOf = mSTANDBY then
    ((u.modTwin fun w => { w with full := true, suspect := true }).set .TWIN_STATUS_DIVERGED_SEEN 1).twinTrigger 16 mRESYNC 4
  else u

/-- Both verdicts are known: they are acted on. -/
def Dev.settleVerdicts (s : Dev) : Dev :=
  match s.twin.mismatch, s.twin.verdict with
  | some m, some (_, _, v) => if s.modeOf = mACTIVE then s.judge m.own v else s.judge v m.own
  | _, _ => s

/-- A window differs (R461, R462). -/
def Dev.mismatched (s : Dev) (k : Nat) : Dev :=
  let w := k / 2
  let span := if k % 2 = 0 then (4096 * (w - 1), 4096 * (w + 2) - 1) else s.twin.jspans.getD w (s.twin.jfrom, s.twin.oseq)
  let own := s.faultyOver span.1 span.2
  let t := ((s.set .TWIN_STATUS_MISMATCH_SEEN 1).inc .TWIN_MISMATCHES_MISMATCHES).post 0xA004 0 (w % 2 ^ 32) (k % 2) (b2n own)
  let u := if t.twin.mismatch.isSome then t else t.modTwin fun x => { x with mismatch := some { window := w, kind := k % 2, own := own } }
  (u.sendFrame .verdict [w, k % 2, b2n own] 16).settleVerdicts

/-- A window whose two digests are held is compared (R461). -/
def Dev.compareWindow (s : Dev) (k : Nat) : Dev :=
  match s.twin.own.get? k, s.twin.theirs.get? k with
  | some a, some b =>
    let t := (s.modTwin fun w => { w with own := w.own.del k, theirs := w.theirs.del k, compared := if k % 2 = 0 then k / 2 else w.compared }).inc
      .TWIN_WINDOWS_WINDOWS
    let u := if k % 2 = 0 then t.set .TWIN_WINDOW_WINDOW (k / 2 % 2 ^ 32) else t
    let v := if a = b then u else u.mismatched k
    v.modTwin fun w => { w with jspans := if k % 2 = 1 then w.jspans.del (k / 2) else w.jspans }
  | _, _ => s

/-- Digests of closed windows are sent and compared (R461). -/
def Dev.flushDigests (s : Dev) : Dev :=
  let ks := s.twin.jsend
  (s.modTwin fun w => { w with jsend := [] }).each ks fun t k =>
    (t.sendFrame .digest [k / 2, k % 2, t.twin.own.getD k 0] 24).compareWindow k

/-- The 32 B record of an output (R459). -/
def outputBytes (oseq kind code obj seq value len : Nat) : List Byte :=
  leBytes 4 oseq ++ leBytes 1 kind ++ leBytes 1 code ++ leBytes 2 0 ++ leBytes 4 obj ++ leBytes 4 seq ++ leBytes 8 value ++ leBytes 8 len

/-- An output takes the next OSEQ and enters its window (R458 to R461). Each request's response is one output, numbered
where the request executes (assumption 43). -/
def Dev.output (s : Dev) (kind code obj seq value len : Nat) : Dev :=
  let o := s.twin.oseq
  let c := crcFeed s.twin.wcrc (outputBytes o kind code obj seq value len)
  if o % 4096 ≠ 4095 then (s.modTwin fun w => { w with oseq := o + 1, wcrc := c, wcount := w.wcount + 1 })
  else
    let pair := s.bit .TWIN_STATUS_PAIRED && decide (s.twin.digestFrom ≤ o - 4095)
    let k := o / 4096 * 2
    (s.modTwin fun w =>
      { w with oseq := o + 1, wcrc := 2 ^ 64 - 1, wcount := 0, own := if pair then w.own.put k (crcClose c) else w.own,
               jsend := if pair then w.jsend ++ [k] else w.jsend }).flushDigests

/-- VALUE of a payload: the sum mod 63 of its line residues and its poisoned lines (R459). -/
def payloadValue (lines : List LineVal) : Nat :=
  (lines.map lineResidue).sum % 63 + (lines.filter LineVal.poison).length * 2 ^ 32

/-! ### Forwarding (R453, R454, R461) -/

/-- KIND of an item (R454), its object, and the bytes of its body. -/
def ItemBody.words : ItemBody → Nat × Nat × Nat
  | .host p => (1, p.qpn, 28 + p.payload.length)
  | .cm _ => (1, 1, 256)
  | .cmMsg _ _ => (1, 1, 256)
  | .verb _ b => (2, 0, b.length)
  | .move f _ _ => (3, f, 8)
  | .requester _ o _ => (4, o, 8)
  | .timeout q => (5, q, 0)
  | .impress ws => (6, 0, 8 * ws.length)
  | .budget f => (7, f, 8)
  | .revoked r => (8, r, 0)

/-- Items may be sent now: the link carries them, the active holds a credit, and fewer than 64 windows await
the standby's digest (R110, R461). -/
def Dev.itemGo (s : Dev) : Bool :=
  s.carries .item && decide (0 < s.twin.credit) && decide (s.twin.own.length < 64)

/-- Sends the items that wait, as far as they may go. -/
def Dev.sendItems (s : Dev) : Dev :=
  s.each s.twin.unsent fun t e =>
    if t.itemGo then
      (t.modTwin fun w => { w with unsent := w.unsent.drop 1, credit := w.credit - 1 }).sendFrame .item e.2 (32 + e.2.getD 5 0)
    else t

/-- The REPORTs of executed items go, in ONUM order, once none of what the items wrote waits at the galley (R28, R233, R456). -/
def Dev.sendReports (s : Dev) : Dev :=
  let free (e : Nat × Nat × Nat) : Bool := !s.gal.waiting.any fun w => !w.evac && decide (w.stamp ≤ e.2.1)
  let go := if s.follower then s.twin.reports.takeWhile free else []
  (s.modTwin fun w => { w with reports := if s.follower then w.reports.drop go.length else [] }).each go fun t e => t.sendFrame .report [e.1, e.2.2] 16

/-- Forwards an item (R453, R454): it takes the next ONUM and leaves at once where it may. Answers the ONUM, 0 where the
node does not forward. -/
def Dev.forward (s : Dev) (b : ItemBody) (cls : Nat) : Dev × Nat :=
  if s.forwards then
    let n := s.twin.onum + 1
    let (kind, obj, len) := b.words
    let t := (s.modTwin fun w => { w with onum := n, unsent := w.unsent ++ [(n, [n, s.stamp, kind, cls, obj, len])] }).inc .TWIN_ITEMS_ITEMS
    (t.sendItems, if s.awaitsReport then n else 0)
  else (s, 0)

/-- The last write of a line awaits the report of an ONUM (R237). -/
def Dev.lineOnum (s : Dev) (la : Nat) : Nat :=
  ((s.twin.lines.filter (fun e => e.2 == la)).map Prod.fst).foldl max 0

/-- A line was written by the item of an ONUM. -/
def Dev.markLine (s : Dev) (onum la : Nat) : Dev :=
  if onum = 0 then s else s.modTwin fun w => { w with lines := (onum, la) :: w.lines }

end Sys2Proof.Machine
end

