-- ==== Sys2Proof/Machine/Regions.lean ====
section
/-!
DEFINITION. Protection domains, regions, the access check, event queues, registration and revocation, zones and the
answers of verbs (07_regions_and_protection.md).
-/

namespace Sys2Proof.Machine

open Sys2Proof

/-! ### Table entries (R203, R204, R208) -/

/-- STATE of R204. -/
def RState.code : RState → Nat
  | .free => 0
  | .live => 1
  | .revoking => 2
  | .revoked => 3

/-- KIND of R203. -/
def RKind.code : RKind → Nat
  | .ordinary => 0
  | .log => 1
  | .eventq => 2
  | .respq => 3

/-- Bytes 0x00 to 0x3B of a region entry's own fields (R203). -/
def Region.fields (r : Region) : List Byte :=
  leBytes 1 r.state.code ++ leBytes 1 r.kind.code ++ leBytes 1 r.access ++ leBytes 1 r.zoneLog2 ++ leBytes 2 r.pd ++
    leBytes 2 r.domain ++ leBytes 8 r.vaBase ++ leBytes 8 r.length ++ leBytes 8 r.base ++ leBytes 2 r.gen ++ leBytes 2 0 ++
    leBytes 4 r.inFlight ++ leBytes 8 r.revokeCycle ++ leBytes 8 r.createCycle ++ leBytes 4 r.violations

/-- Bytes 0x00 to 0x3B of a region entry (R203): until the boundary after its creation, those of the entry before (R213). -/
def Region.bytes (r : Region) : List Byte := if r.coming then r.before else r.fields

/-- A PD entry as a TABLE record states it: capabilities and event queue; the token stays out of the digest (assumption 31). -/
def Pd.bytes (p : Pd) : List Byte := leBytes 1 p.caps ++ leBytes 4 p.evq

/-- A region entry (R202). -/
def RegionSt.region (t : RegionSt) (i : Nat) : Region := t.regions.getD i { Region.free with gen := t.baseGen }

/-- A PD that is allocated now (R198, R213). -/
def RegionSt.pd (t : RegionSt) (n : Nat) : Option Pd := (t.pds.get? n).filter fun p => !p.coming

/-- Changes a region entry without a journal record: counts and marks. -/
def Dev.updRegion (s : Dev) (i : Nat) (f : Region → Region) : Dev :=
  s.modRgn fun t => { t with regions := t.regions.upd i f }

/-- Changes a region entry and journals it (R208). -/
def Dev.setRegion (s : Dev) (i : Nat) (v : Region) : Dev :=
  let old := s.rgn.regions.get? i
  (s.modRgn fun t => { t with regions := t.regions.put i v }).journal (.table 0xA1 i v.fields) (.region i old)

/-- Changes a PD entry and journals it (R208). -/
def Dev.setPd (s : Dev) (n : Nat) (v : Option Pd) : Dev :=
  let old := s.rgn.pds.get? n
  let b := (v.map Pd.bytes).getD [0, 0, 0, 0, 0]
  (s.modRgn fun t => { t with pds := match v with | some p => t.pds.put n p | none => t.pds.del n }).journal (.table 0xA0 n b) (.pd n old)

/-- A zone's key, and its write pointer in folios (R219, R220). -/
def zoneKey (region zone : Nat) : Nat := region * 65536 + zone

/-- Write pointer of a zone in folios. -/
def RegionSt.wp (t : RegionSt) (region zone : Nat) : Nat := t.zones.getD (zoneKey region zone) 0

/-- Moves a zone's write pointer and journals it (R220). -/
def Dev.setZone (s : Dev) (region zone wp : Nat) : Dev :=
  let k := zoneKey region zone
  let old := s.rgn.zones.get? k
  (s.modRgn fun t => { t with zones := if wp = 0 then t.zones.del k else t.zones.put k wp }).journal (.zone region zone wp) (.zone k old)

/-- Folios of a zone. -/
def Region.zoneFolios (r : Region) : Nat := 2 ^ r.zoneLog2

/-- The next generation of an entry (R201). -/
def nextGen (g : Nat) : Nat := if g ≥ 4095 then 1 else g + 1

/-- The R_Key of an entry (R201). -/
def Region.key (r : Region) (i : Nat) : Nat := i * 4096 + r.gen

/-- LIVE now: the boundary after the verb has passed (R213). -/
def Region.liveNow (r : Region) : Bool := r.state == .live && !r.coming

/-- Region entries. -/
def regionEntries : Nat := 1048576

/-- The lowest entry that is FREE or REVOKED (R202). -/
def RegionSt.lowest (t : RegionSt) : Option Nat :=
  (t.regions.keep (fun _ r => r.state == .live || r.state == .revoking)).firstGap 0 regionEntries

/-- The folios of a span have not been written to T2 since their zone was emptied (R369). -/
def Dev.forgetLogged (s : Dev) (lo hi : Nat) : Dev := s.modFm fun f => { f with logged := f.logged.filter fun x => !decide (lo ≤ x ∧ x < hi) }

/-- A new region takes an entry with its current generation (R202); it is LIVE from the next boundary (R213). -/
def Dev.makeRegion (s : Dev) (i : Nat) (v : Region) : Dev :=
  let old := s.rgn.region i
  let r : Region := { v with
    state := .live, gen := old.gen, inFlight := 0, revokeCycle := 0, createCycle := s.cal.cycle + 1, violations := 0, coming := true, before := old.bytes,
    going := false, forced := 0, waiters := [] }
  let t := (s.forgetLogged (v.base / 4096) ((v.base + v.length) / 4096)).modRgn fun x => { x with zones := x.zones.keep (fun k _ => k / 65536 != i) }
  t.setRegion i r

/-! ### Answers of verbs (R208, R224, R228) -/

/-- A response: header and body (R224). -/
def verbBytes (op tag status detail : Nat) (body : List Byte) : List Byte :=
  leBytes 2 op ++ leBytes 2 body.length ++ leBytes 4 tag ++ leBytes 2 status ++ leBytes 2 0 ++ leBytes 4 detail ++ body

/-- Delivers a response (R226, R576). -/
def Dev.deliver (s : Dev) (who : Caller) (bytes : List Byte) : Dev :=
  match who with
  | .peer => s
  | .sp seq => s.modSp fun x => { x with verbOut := x.verbOut ++ [{ seq := seq, bytes := bytes }] }
  | .qp i n => s.modNet fun x => { x with qps := x.qps.upd i fun q =>
      { q with area := q.area.put (n % 16) bytes, produced := q.produced + 1, ring := q.ring.del n } }

/-- Delivers the answers whose changes are journaled and reported, and whose writes are durable (R208, R228, R233). -/
def Dev.releaseAnswers (s : Dev) : Dev :=
  if s.journalClear then
    s.each s.rgn.answers fun t a =>
      if t.reported a.2.2.1 && !(t.gal.waiting.any fun w => a.2.2.2.contains w.stamp) then
        (t.modRgn fun x => { x with answers := x.answers.erase a }).deliver a.1 a.2.1
      else t
  else s

/-- Stamps of the device's own writes that wait at the galley: what a verb wrote to a status line. -/
def Dev.ownWaiting (s : Dev) : List Nat := (s.gal.waiting.filter fun w => w.owner == .own).map GWait.stamp

/-- Answers a verb with a report and writes to wait for (R228, R233): an output, logged where it is refused (R231). A standby's own SP asks
it alone, which is no output of the pair. -/
def Dev.replyAfter (s : Dev) (waits : List Nat) (who : Caller) (op tag status detail onum : Nat) (body : List Byte) : Dev :=
  let bytes := verbBytes op tag status detail body
  let obj := match who with
    | .qp i _ => i
    | _ => 0xFFFFFFFF
  let t := s.when (status != 0) fun u => u.post 0x9010 0 op status detail
  let local_ := match who with
    | .sp _ => s.follower
    | _ => false
  let u := t.when (!local_) fun x => x.output 4 (status % 256) obj tag (leAt body 0 8) body.length
  (u.modRgn fun x => { x with answers := x.answers ++ [(who, bytes, onum, waits)] }).releaseAnswers

/-- Answers a verb with a report to wait for (R228). -/
def Dev.reply (s : Dev) (who : Caller) (op tag status detail onum : Nat) (body : List Byte) : Dev :=
  s.replyAfter [] who op tag status detail onum body

/-- Body length of each opcode (R229, R259, R515); none for an opcode that is not listed. -/
def verbLength (op : Nat) : Option Nat :=
  match op with
  | 0x01 => some 4
  | 0x02 => some 4
  | 0x03 => some 8
  | 0x10 => some 32
  | 0x11 => some 32
  | 0x12 => some 4
  | 0x13 => some 4
  | 0x20 => some 8
  | 0x21 => some 12
  | 0x30 => some 12
  | 0x40 => some 24
  | 0x41 => some 4
  | 0x50 => some 4
  | 0x51 => some 0
  | 0x60 => some 16
  | 0x61 => some 58
  | 0x62 => some 2
  | 0x63 => some 2
  | 0x64 => some 4
  | 0x65 => some 4
  | 0x66 => some 2
  | 0x67 => some 2
  | 0x70 => some 24
  | 0x71 => some 4
  | 0x72 => some 4
  | 0x73 => some 4
  | _ => none

/-- A request's bytes (R224): LENGTH is the body's, and the reserved words are 0. -/
def verbRequest (op tag : Nat) (body : List Byte) : List Byte := verbBytes op tag 0 0 body

/-! ### The checks before a verb's fields (R199, R225, R228, R229) -/

/-- A verb as it executes: its caller, opcode, tag and body, and the ONUM whose report its answer awaits. -/
structure Call where
  who  : Caller
  op   : Nat
  tag  : Nat
  body : List Byte
  onum : Nat
  deriving DecidableEq, Repr

/-- `n` bytes of the body from an offset. -/
def Call.at_ (c : Call) (o n : Nat) : Nat := leAt c.body o n

/-- Capabilities of a caller: [0] CONTROL, [1] ADMIN; the SP path holds ADMIN. -/
def Dev.callerCaps (s : Dev) (who : Caller) : Nat :=
  match who with
  | .qp i _ => (((s.net.qps.get? i).bind fun q => s.rgn.pds.get? q.pd).map Pd.caps).getD 0
  | _ => 3

/-- Verbs that change nothing (R228): they are answered from local tables. -/
def verbQuery (op : Nat) : Bool := [0x13, 0x21, 0x63, 0x67, 0x73].contains op

/-- Verbs that ask for ADMIN whatever they name (R229, R515). -/
def verbAdmin (op : Nat) : Bool := [1, 2, 3, 0x30, 0x50, 0x51, 0x64, 0x65, 0x66, 0x67].contains op

/-- The status of a verb that the mode refuses (R228); a forwarded one was accepted by the active. -/
def Dev.verbMode (s : Dev) (op : Nat) (item : Bool) : Option Nat :=
  if item ∨ op = 0x50 ∨ s.inMode [mSOLO, mACTIVE, mQUIESCED] = true then none
  else if s.follower then (if verbQuery op then none else some 11)
  else some 12

/-- The checks before a verb's fields, in the order of R225's first values: opcode, length, mode and capability. -/
def Dev.verbScreen (s : Dev) (c : Call) (len : Nat) (item : Bool) : Option Nat :=
  match verbLength c.op with
  | none => some 1
  | some n =>
    if len ≠ n ∨ c.body.length ≠ n then some 2
    else match s.verbMode c.op item with
      | some st => some st
      | none =>
        let caps := s.callerCaps c.who
        if (if verbAdmin c.op then caps.testBit 1 else caps != 0) then none else some 3

/-- The operands of MODE_OP and IMPRESS stand in their rows: a MODE_OP whose body is not one OP of R43, or an IMPRESS with a body, has no row. -/
def modeBodyBad (bytes : List Byte) : Bool :=
  match leAt bytes 0 2 with
  | 0x50 => bytes.length != 20 || decide (leAt bytes 16 4 > 7)
  | 0x51 => bytes.length != 16
  | _ => false

/-- A verb that is refused before any row could name it: an opcode that R229 does not list, a LENGTH that disagrees with the bytes
(R225, R576), or a body that a mode or Impress verb cannot have (R43, R87). -/
def verbMalformed (bytes : List Byte) : Bool :=
  (verbLength (leAt bytes 0 2)).isNone || decide (leAt bytes 2 2 + 16 ≠ bytes.length) || modeBodyBad bytes ||
    bytes != verbRequest (leAt bytes 0 2) (leAt bytes 4 4) (bytes.drop 16)

/-- Answers a malformed verb: OPCODE where the opcode is not listed, LENGTH where the length is wrong, and RANGE at a reserved
header word that is not 0. A MODE_OP of a reserved OP is screened as its rows are, and refused with reason NOT_PERMITTED (R43). -/
def Dev.refuseMalformed (s : Dev) (who : Caller) (bytes : List Byte) (onum : Nat) (item : Bool) : Dev :=
  let op := leAt bytes 0 2
  let tag := leAt bytes 4 4
  if (verbLength op).isNone then s.reply who op tag 1 0 onum []
  else if leAt bytes 2 2 + 16 ≠ bytes.length ∨ verbLength op ≠ some (bytes.length - 16) then s.reply who op tag 2 0 onum []
  else if bytes ≠ verbRequest op tag (bytes.drop 16) then s.reply who op tag 8 0 onum []
  else
    match s.verbScreen { who := who, op := op, tag := tag, body := bytes.drop 16, onum := onum } (bytes.length - 16) item with
    | some st => s.reply who op tag st 0 onum []
    | none => (s.when (!item) (·.refuseOp (leAt bytes 16 4) 2)).reply who op tag 12 0 onum []

/-- The ONUM whose report an answer awaits that a boundary makes. -/
def Dev.lastOnum (s : Dev) : Nat := if s.awaitsReport then s.twin.onum else 0

/-! ### Event queues (R210 to R212) -/

/-- A record of an event queue (R211). -/
def evqBytes (n cause region qpn host op va : Nat) : List Byte :=
  leBytes 8 n ++ leBytes 2 cause ++ leBytes 2 0 ++ leBytes 4 region ++ leBytes 4 qpn ++ leBytes 2 host ++ leBytes 1 op ++ leBytes 1 0 ++ leBytes 8 va

/-- Writes a record to a PD's event queue (R211). -/
def Dev.evqRecord (s : Dev) (pd cause region qpn host op va : Nat) : Dev :=
  match s.rgn.pds.get? pd with
  | none => s
  | some p =>
    let n := p.producer
    let lost := decide (n ≥ 64) && !p.marks.testBit (n % 64)
    let p2 : Pd := { p with
      producer := n + 1, overflow := p.overflow + b2n lost, marks := clearBit p.marks (n % 64),
      records := p.records.put (n % 64) (evqBytes n cause region qpn host op va) }
    let t := (s.modRgn fun x => { x with pds := x.pds.put pd p2 }).when lost fun u => u.inc .REGION_EVQ_OVERFLOW_EVQ_OVERFLOW
    t.output 5 (cause % 256) pd n va 0

/-- The bytes of an event queue as a READ finds them (R211). -/
def Pd.queueBytes (p : Pd) : List Byte :=
  leBytes 8 p.producer ++ leBytes 8 p.overflow ++ List.replicate 48 0 ++
    (List.range 64).flatMap (fun i => p.records.getD i (List.replicate 32 0))

/-- The bytes of a response area as a READ finds them (R226). -/
def Qp.areaBytes (q : Qp) : List Byte :=
  leBytes 8 q.produced ++ List.replicate 56 0 ++ (List.range 16).flatMap (fun i => sliceAt (q.area.getD i []) 0 4096)

/-- An access error (R210): 1 BAD_KEY is only logged. -/
def Dev.accessError (s : Dev) (region qp cause op va : Nat) : Dev :=
  let t := (s.inc .REGION_ACCESS_ERR_ACCESS_ERR).post 0x9001 0 region qp cause
  if cause = 1 then t
  else
    let r := t.rgn.region region
    let host := ((t.net.qps.get? qp).map Qp.host).getD 0
    (t.updRegion region fun x => { x with violations := sat32 (x.violations + 1) }).evqRecord r.pd cause region (qp + 0x100) host op va

/-! ### The access check (R209, R220) -/

/-- Right bits of ACCESS. -/
def aREAD : Nat := 1
def aWRITE : Nat := 2
def aATOMIC : Nat := 4
def aFLUSH : Nat := 8
def aDEVQ : Nat := 16

/-- Step 6 of R209 for an append (R220): a cause, or none. -/
def RegionSt.appendFault (t : RegionSt) (i : Nat) (r : Region) (off len : Nat) : Option Nat :=
  let zb := r.zoneFolios * 4096
  let z := off / zb
  if off ≠ z * zb + t.wp i z * 4096 then some 6
  else if len = 0 ∨ len % 4096 ≠ 0 ∨ off % zb + len > zb then some 7
  else none

/-- The access check (R209): the region where step 1 passed, and the cause of a failure. `append`: it writes. -/
def Dev.check (s : Dev) (pd rkey va len right : Nat) (append : Bool) : Option Nat × Option Nat :=
  let i := rkey / 4096 % regionEntries
  let r := s.rgn.region i
  if !(r.liveNow || r.state == .revoking) || r.gen != rkey % 4096 then (none, some 1)
  else
    let fail : Option Nat :=
      if r.state ≠ .live then some 2
      else if r.pd ≠ pd then some 3
      else if r.access &&& right ≠ right then some 4
      else if va < r.vaBase ∨ va + len > r.vaBase + r.length then some 5
      else if r.kind = .log ∧ append = true then s.rgn.appendFault i r (va - r.vaBase) len
      else none
    (some i, fail)

/-- A request is counted in an entry's IN_FLIGHT (R209), and leaves it. -/
def Dev.regionEnter (s : Dev) (i : Nat) : Dev := s.updRegion i fun r => { r with inFlight := r.inFlight + 1 }

/-- A request leaves an entry's IN_FLIGHT (R209). -/
def Dev.regionLeave (s : Dev) (i : Option Nat) : Dev :=
  match i with
  | some k => s.updRegion k fun r => { r with inFlight := r.inFlight - 1 }
  | none => s

/-- An append that passed advances its zone's pointer at that stamp (R220). -/
def Dev.append (s : Dev) (i off len : Nat) : Dev :=
  let r := s.rgn.region i
  if r.kind = .log ∧ len ≠ 0 then
    let z := off / (r.zoneFolios * 4096)
    s.setZone i z (s.rgn.wp i z + len / 4096)
  else s

/-- An append ended with folios not written (R221): they read as 0, the owner is told, and it is logged. The record names the request as R211
says: QPN, host, opcode and first VA; for a descriptor the QPN of its queue, 0 where none is bound, and opcode 0. -/
def Dev.zoneHole (s : Dev) (i off len got qpn host op va : Nat) : Dev :=
  let r := s.rgn.region i
  let n := ceilDiv (len - got) 4096
  if r.kind = .log ∧ n ≠ 0 then
    let z := off / (r.zoneFolios * 4096)
    let hi := (r.base + off + len) / 4096
    let t := s.discard fun f => decide (hi - n ≤ f ∧ f < hi)
    (t.evqRecord r.pd 8 i qpn host op va).post 0x9008 0 i z n
  else s

/-- Appends that a loss of power left incomplete end as R221 says, where their zone's pointer stands past them; their QP is gone. -/
def Dev.cutAppends (s : Dev) : Dev :=
  (s.modRgn fun t => { t with cuts := [] }).each s.rgn.cuts fun t e =>
    let (i, off, len, got) := e
    let zb := (t.rgn.region i).zoneFolios * 4096
    if off % zb + len ≤ t.rgn.wp i (off / zb) * 4096 then t.zoneHole i off len got 0 0 0 ((t.rgn.region i).vaBase + off) else t

/-- Bytes of a LOG region at or beyond a zone's pointer read as 0 (R222). -/
def Dev.logMask (s : Dev) (i off : Nat) (bs : List Byte) : List Byte :=
  let r := s.rgn.region i
  if r.kind = .log then
    (bs.zip (List.range bs.length)).map fun e =>
      let a := off + e.2
      let zb := r.zoneFolios * 4096
      if a % zb < s.rgn.wp i (a / zb) * 4096 then e.1 else 0
  else bs

/-! ### Revocation (R214 to R218) -/

/-- REG_REVOKE's effect at its stamp: REVOKING from the next boundary (R214). -/
def Dev.beginRevoke (s : Dev) (i : Nat) (waiter : Option VerbRef) : Dev :=
  let r := s.rgn.region i
  s.setRegion i { r with
    going := r.going || r.state == .live, revokeCycle := if r.state = .live then s.cal.cycle + 1 else r.revokeCycle, waiters := r.waiters ++ waiter.toList }

/-- The PD of a dying PD's verb is freed once its event queue and response areas are REVOKED (R218). -/
def Dev.finishPd (s : Dev) (n : Nat) : Dev :=
  match s.rgn.pds.get? n with
  | none => s
  | some p =>
    match p.dying with
    | none => s
    | some v =>
      if s.rgn.regions.any (fun e => e.2.pd == n && (e.2.state == .live || e.2.state == .revoking)) then s
      else ((s.setPd n none).post 0x9006 0 n 0 p.caps).reply v.who v.op v.tag 0 0 s.lastOnum []

/-- DQ_DESTROY frees its queue once its status region is REVOKED (R259). -/
def Dev.finishQueue (s : Dev) (region : Nat) : Dev :=
  match s.dq.find? (fun e => e.2.region == region && e.2.dying.isSome) with
  | none => s
  | some (n, q) =>
    let t := (s.modDq fun d => d.del n).journal (.table 0xA3 n []) (.queue n (some q))
    match q.dying with
    | some v => t.reply v.who v.op v.tag 0 0 s.lastOnum []
    | none => t

/-- REGION_REVOKED: the entry becomes REVOKED (R215): its generation advances, the change is journaled, the owner is told and
the verbs that wait are answered. -/
def Dev.regionRevoked (s : Dev) (i : Nat) : Dev :=
  let r := s.rgn.region i
  let g := nextGen r.gen
  let s0 := if s.twin.revokes.contains i then (s.forward (.revoked i) 3).1 else s
  let s1 := (s0.setRegion i { r with state := .revoked, gen := g, inFlight := 0, going := false, waiters := [] }).modTwin fun w =>
    { w with revokes := w.revokes.erase i }
  let s2 := (s1.evqRecord r.pd 9 i 0 0 0 0).post 0x9004 0 i g (s.cal.cycle - r.revokeCycle)
  let s3 := s2.each r.waiters fun t v =>
    t.reply v.who v.op v.tag 0 0 t.lastOnum (leBytes 4 g ++ leBytes 8 r.revokeCycle ++ leBytes 4 r.forced)
  (s3.finishQueue i).finishPd r.pd

/-- A region may become REVOKED at this boundary (R215); one that was REVOKING at Sf waits for its item on the node that
resynchronised (R640). -/
def Dev.mayRevoke (s : Dev) (i : Nat) (r : Region) : Bool :=
  r.state == .revoking && r.inFlight == 0 && decide (s.cal.cycle > r.revokeCycle) && !(s.follower && s.twin.revokes.contains i)

/-- A zone is emptied at the boundary after ZONE_RESET (R223). -/
def Dev.emptyZone (s : Dev) (e : Nat × Nat × VerbRef) : Dev :=
  let r := s.rgn.region e.1
  let f0 := (r.base + e.2.1 * r.zoneFolios * 4096) / 4096
  let t := ((s.setZone e.1 e.2.1 0).modRgn fun x => { x with emptied := x.emptied.put (zoneKey e.1 e.2.1) s.cal.cycle }).discard fun f => decide (f0 ≤ f ∧ f < f0 + r.zoneFolios)
  ((t.forgetLogged f0 (f0 + r.zoneFolios)).post 0x9009 0 e.1 e.2.1 0).reply e.2.2.who e.2.2.op e.2.2.tag 0 0 t.lastOnum []

/-- Extents move to another domain at the boundary after KD_ASSIGN (R207); one already there keeps its contents. -/
def Dev.moveExtents (s : Dev) (e : Nat × Nat × Nat × VerbRef) : Dev :=
  let (first, n, dom, v) := e
  let moved := ((List.range n).map (· + first)).filter (fun x => s.keys.extents.getD x 0 != dom)
  let t := s.each moved fun u x =>
    let old := u.keys.extents.get? x
    (u.modKeys fun k => { k with extents := if dom = 0 then k.extents.del x else k.extents.put x dom }).journal (.table 0xA2 x (leBytes 2 dom)) (.extent x old)
  ((t.discard fun f => moved.contains (f / 16384)).post 0x9007 0 first n dom).reply v.who v.op v.tag 0 0 t.lastOnum []

/-- The table effects of a boundary (R207, R213 to R215, R223, R229). -/
def Dev.regionStep (s : Dev) : Dev :=
  let s1 := s.each (s.rgn.regions.filter (fun e => e.2.coming)) fun t e =>
    (t.updRegion e.1 fun r => { r with coming := false, before := [] }).post 0x9002 0 e.1 e.2.pd e.2.gen
  let s2 := s1.each (s1.rgn.regions.filter (fun e => e.2.going)) fun t e =>
    (t.updRegion e.1 fun r => { r with state := .revoking, going := false }).post 0x9003 0 e.1 (e.2.revokeCycle % 2 ^ 32) e.2.inFlight
  let zs := s2.rgn.resets
  let s3 := (s2.modRgn fun x => { x with resets := [] }).each zs (fun t e => t.emptyZone e)
  let es := s3.rgn.assigns
  let s4 := (s3.modRgn fun x => { x with assigns := [] }).each es (fun t e => t.moveExtents e)
  s4.each (s4.rgn.regions.filter (fun e => s4.mayRevoke e.1 e.2)) (fun t e => t.regionRevoked e.1)

/-- The cycle has given no stamp yet: the machine stands at its boundary (R98, R215). -/
def Dev.atBoundary (s : Dev) : Bool := match s.cal.lastStamp with
  | some l => decide (l < s.cal.cycle * 4096)
  | none => true

/-- REGION_REVOKED (R215): at the first boundary after IN_FLIGHT reached 0, before the cycle's first stamp; later in the cycle the region waits
for the next boundary, which makes it REVOKED. -/
def Dev.revokedRow (s : Dev) (region : Nat) : Dev :=
  if s.atBoundary && s.mayRevoke region (s.rgn.region region) then s.regionRevoked region else s

/-- REGION_REVOKED (R215). -/
def execRegionRevoked (region : Nat) (w : State) : Host.Outcome State Fault Refusal := finish w fun s => s.revokedRow region

end Sys2Proof.Machine
end

