-- ==== Sys2Proof/Machine/Data.lean ====
section
/-!
DEFINITION. Reads and writes of byte spans of the persistent range (R25, R28, R135), and the device queues' table, rings and
status lines (R247 to R257).
-/

namespace Sys2Proof.Machine

open Sys2Proof

/-! ### Spans of the range -/

/-- The lines of a byte span, ascending. -/
def spanLines (off len : Nat) : List Nat :=
  if len = 0 then [] else (List.range ((off + len - 1) / 64 - off / 64 + 1)).map (· + off / 64)

/-- The folios of a byte span, ascending. -/
def spanFolios (off len : Nat) : List Nat :=
  if len = 0 then [] else (List.range ((off + len - 1) / 4096 - off / 4096 + 1)).map (· + off / 4096)

/-- One line's part of a write enters the galley and updates a cached line (R28, R309, R315). A node that is being resynchronised leaves the write to
a group of the final pass that is not yet installed to the group's copy (R482). -/
def Dev.storeLine (s : Dev) (o : Owner) (cls onum la : Nat) (d : Line) (mask : Nat) : Dev :=
  if s.modeOf = mRESYNC ∧ s.groupHeld (la / 64) = true then s else
  let w : GWait := { stamp := s.stamp, la := la, data := d, mask := mask, cls := cls, owner := o, evac := false, poison := false }
  let t := ((s.evacuateLine la).demandPage (la / 64)).galleyEnter w
  ((t.lcWrite la d mask).groupChanged (la / 64)).markLine onum la

/-- A write of bytes to the range from an offset. -/
def Dev.storeSpan (s : Dev) (o : Owner) (cls onum off : Nat) (bs : List Byte) : Dev :=
  s.each (spanLines off bs.length) fun t la =>
    let lo := max off (la * 64)
    let hi := min (off + bs.length) (la * 64 + 64)
    let d := leNat ((bs.drop (lo - off)).take (hi - lo))
    t.storeLine o cls onum la (BitVec.ofNat 512 (d <<< (8 * (lo % 64)))) (spanMask (lo % 64) (hi - lo))

/-- Reads lines in ascending order for a request of a class (R25, R103); none where one is poisoned or its tier failed (R29, R135). -/
def Dev.loadLines (s : Dev) (cls : Nat) (las : List Nat) : Dev × Option (List LineVal) :=
  las.foldl (fun (a : Dev × Option (List LineVal)) la =>
    let r := a.1.demandPage (la / 64)
    let (t, v) := (r.when (r.readsTier la) (·.askLine la 1 cls)).fetchLine la
    (t, match a.2, v with
      | some vs, some x => if x.poison then none else some (vs ++ [x])
      | _, _ => none)) (s, some [])

/-- The bytes of a span from the lines that hold it. -/
def cutSpan (off len : Nat) (vs : List LineVal) : List Byte :=
  ((vs.flatMap fun v => Line.bytes v.data).drop (off % 64)).take len

/-- Stamps of the writes that wait at the galley for one of some lines (R233, R316). -/
def Dev.waitStamps (s : Dev) (las : List Nat) : List Nat :=
  (s.gal.waiting.filter (fun w => las.contains w.la)).map GWait.stamp

/-- The highest ONUM whose report a read of some lines awaits (R237). -/
def Dev.linesOnum (s : Dev) (las : List Nat) : Nat := (las.map s.lineOnum).foldl max 0

/-! ### Device queues (R247 to R249, R254, R256, R260) -/

/-- A queue. -/
def Dev.queue (s : Dev) (n : Nat) : Option DevQ := s.dq.get? n

/-- Modes in which queues execute or follow (R258). -/
def Dev.queuesRun (s : Dev) : Bool := s.inMode [mSOLO, mACTIVE, mSTANDBY, mRESYNC]

/-- Requests of queues execute now: in those modes, and, where admission has stopped, those stamped before (R234, R258). -/
def Dev.queuesGo (s : Dev) : Bool := s.queuesRun || s.carriesOn

/-- STATE of R260. -/
def Dev.queueState (s : Dev) (q : DevQ) : Nat :=
  if q.error then 4
  else if s.queuesRun = false then 5
  else if q.waiting then 3
  else if q.posted > q.completed then 2
  else 1

/-- The 64 B status line (R248). -/
def Dev.statusBytes (s : Dev) (q : DevQ) : List Byte :=
  leBytes 8 q.completed ++ leBytes 8 q.posted ++ leBytes 1 (s.queueState q) ++ leBytes 1 q.cause ++ leBytes 2 0 ++ leBytes 4 q.failedTag ++
    leBytes 8 q.failedIndex ++ List.replicate 32 0

/-- Free ring entries (R249). -/
def DevQ.free (q : DevQ) : Nat := q.depth - (q.posted - q.completed)

/-- Range offset of the ring entry of a posting index (R247). -/
def DevQ.entry (q : DevQ) (n : Nat) : Nat := q.base + 64 + 64 * (n % q.depth)

/-- Changes a queue. -/
def Dev.updQueue (s : Dev) (n : Nat) (f : DevQ → DevQ) : Dev := s.modDq fun d => d.upd n f

/-- A queue's entry as a TABLE record states it (assumption 31). -/
def DevQ.bytes (q : DevQ) : List Byte :=
  leBytes 2 q.pd ++ leBytes 4 q.depth ++ leBytes 1 q.cls ++ leBytes 2 q.domain ++ leBytes 8 q.base ++ leBytes 4 q.region

/-- Changes a queue's table entry and journals it (R208, R257). -/
def Dev.setQueue (s : Dev) (n : Nat) (q : DevQ) : Dev :=
  let old := s.dq.get? n
  (s.modDq fun d => d.put n q).journal (.table 0xA3 n q.bytes) (.queue n old)

/-- The status line is written over its 64 bytes (R248, R256). -/
def Dev.writeStatus (s : Dev) (n onum : Nat) : Dev :=
  match s.queue n with
  | none => s
  | some q => s.storeSpan (.desc n) q.cls onum q.base (s.statusBytes q)

/-- A SEND's descriptor enters the ring: entry POSTED, then POSTED, as one write (R249). -/
def Dev.postDesc (s : Dev) (n onum : Nat) (o : Owner) (bs : List Byte) : Dev :=
  match s.queue n with
  | none => s
  | some q =>
    let t := (s.storeSpan o q.cls onum (q.entry q.posted) bs).updQueue n fun x => { x with posted := x.posted + 1 }
    match t.queue n with
    | some x => t.storeSpan o q.cls onum q.base (t.statusBytes x)
    | none => t

/-- The descriptor's regions no longer count it (R209). -/
def Dev.leaveRegions (s : Dev) (rs : List Nat) : Dev := s.each rs fun t r => t.regionLeave (some r)

/-- Bytes of a COPY done after `i` source lines. -/
def copyDone (a len i : Nat) : Nat := if i = 0 then 0 else min len ((a / 64 + i) * 64 - a)

/-- The append of a COPY that has advanced its zone's pointer and is not all written (R221): region, offset, length and bytes written. -/
def RegionSt.copyAppend (t : RegionSt) (q : DevQ) : Option (Nat × Nat × Nat × Nat) :=
  match q.run with
  | none => none
  | some r => match r.regions with
    | [k, d] =>
      let src := (t.region k).base + (leAt r.bytes 0x18 8 - (t.region k).vaBase)
      let off := leAt r.bytes 0x28 8 - (t.region d).vaBase
      let len := leAt r.bytes 8 8
      let zb := (t.region d).zoneFolios * 4096
      if (t.region d).kind = .log ∧ r.ended = false ∧ off % zb + len ≤ t.wp d (off / zb) * 4096 then some (d, off, len, copyDone src len r.done)
      else none
    | _ => none

/-- A failed COPY leaves a hole where its append is not all written (R221). -/
def Dev.copyHole (s : Dev) (q : DevQ) : Dev :=
  match s.rgn.copyAppend q with
  | some (d, off, len, got) =>
    s.zoneHole d off len got ((q.qp.map (· + 0x100)).getD 0) (((q.qp.bind s.net.qps.get?).map Qp.host).getD 0) 0 ((s.rgn.region d).vaBase + off)
  | none => s

/-- A descriptor fails (R254): the queue stops in ERROR. -/
def Dev.failOne (s : Dev) (n cause tag : Nat) : Dev :=
  match s.queue n with
  | none => s
  | some q =>
    if q.error then s
    else
      let rs := (q.run.map DescRun.regions).getD []
      let v : DevQ := { q with error := true, cause := cause, failedTag := tag, failedIndex := q.completed, run := none, waiting := false, again := false }
      let t := ((((s.copyHole q).leaveRegions rs).setQueue n v).inc .DQ_ERRORS_ERRORS).post 0x8020 0 n cause tag
      (t.when (cause == 20) fun u => u.inc .DQ_TIMEOUTS_TIMEOUTS).writeStatus n 0

/-- TAG of a descriptor (R250). -/
def descTag (bs : List Byte) : Nat := leAt bs 4 4

/-- Queues whose WAIT watches a queue (R255): number and TAG. -/
def Dev.watchers (s : Dev) (n : Nat) : List (Nat × Nat) :=
  (s.dq.filter (fun e => e.2.waiting && (e.2.run.map fun r => leAt r.bytes 0x30 2).getD 0x10000 == n)).map fun e =>
    (e.1, (e.2.run.map fun r => descTag r.bytes).getD 0)

/-- Fails a queue, and the WAITs that its failure breaks, in turn (R254, cause 19); at most `fuel` rounds. -/
def Dev.failQueues (s : Dev) : Nat → List (Nat × Nat × Nat) → Dev
  | 0, _ => s
  | fuel + 1, es =>
    match es with
    | [] => s
    | (n, cause, tag) :: rest =>
      let t := s.failOne n cause tag
      t.failQueues fuel (rest ++ (t.watchers n).map fun w => (w.1, 19, w.2))

/-- WAITs on a queue that is FREE fail (R254, cause 19): DQ_DESTROY has freed it. -/
def Dev.brokenWaits (s : Dev) : Dev :=
  let broken := s.dq.filter fun e => e.2.waiting && (e.2.run.map fun r => (s.queue (leAt r.bytes 0x30 2)).isNone).getD false
  s.failQueues 8192 (broken.map fun e => (e.1, 19, (e.2.run.map fun r => descTag r.bytes).getD 0))

/-- A queue's descriptor fails with a cause (R254). -/
def Dev.failQueue (s : Dev) (n cause : Nat) : Dev :=
  let tag := (((s.queue n).bind DevQ.run).map fun r => descTag r.bytes).getD 0
  s.failQueues 8192 [(n, cause, tag)]

/-- The descriptor's own effect is complete; its count can advance (R256). -/
def Dev.descOver (s : Dev) (n onum : Nat) : Dev :=
  s.updQueue n fun q => { q with waiting := false, run := q.run.map fun r => { r with ended := true, onum := max r.onum onum } }

/-- WAITs on a queue read its count again (R255). -/
def Dev.rereadWaits (s : Dev) (n : Nat) : Dev :=
  match s.queue n with
  | none => s
  | some q => s.each (s.watchers n) fun t w =>
      match (t.queue w.1).bind DevQ.run with
      | some r => if q.completed ≥ leAt r.bytes 0x38 8 then t.descOver w.1 0 else t
      | none => t

/-- COMPLETED advances in one write of the status line (R256), and the WAITs that watch the queue read it. -/
def Dev.advanceNow (s : Dev) (n onum : Nat) : Dev :=
  match s.queue n with
  | none => s
  | some q =>
    match q.run with
    | none => s
    | some r =>
      let u := (s.leaveRegions r.regions).updQueue n fun x => { x with completed := x.completed + 1, run := none, waiting := false }
      ((u.output 3 0 n (q.completed % 2 ^ 32) (q.completed + 1) 0).writeStatus n onum).rereadWaits n

/-- COMPLETION_ADVANCE: COMPLETED advances once the descriptor's writes are durable and reported (R256); on a node that
follows, only where the active's item says so (R258). -/
def Dev.advance (s : Dev) (n : Nat) : Dev :=
  match s.queue n with
  | none => s
  | some q =>
    match q.run with
    | none => s
    | some r =>
      if q.error ∨ r.ended = false ∨ s.gal.owes (.desc n) = true ∨ s.reported r.onum = false ∨ s.serving = false then s
      else
        let (t, onum) := s.forward (.requester 0 n 0xFFFFFF) q.cls
        t.advanceNow n onum

/-- DQ_RESTART: at the first serving boundary after RECOVERING each pending queue starts its descriptor again (R257). -/
def Dev.restartQueues (s : Dev) : Dev :=
  if s.serving then
    s.each (s.dq.filter (fun e => e.2.again)) fun t e =>
      let q := e.2
      let op := ((t.readLine (q.entry q.completed / 64)).map (fun v => leAt (Line.bytes v.data) 0 1)).getD 0
      let u := t.updQueue e.1 fun x => { x with run := none, waiting := false, again := false }
      if q.posted > q.completed ∧ q.error = false then u.post 0x8022 0 e.1 (q.completed % 2 ^ 32) op else u
  else s

/-- COMPLETION_ADVANCE (R256). -/
def execCompletionAdvance (queue : Nat) (w : State) : Host.Outcome State Fault Refusal := finish w fun s => (s.advance queue)

/-- DQ_RESTART (R257). -/
def execDqRestart (w : State) : Host.Outcome State Fault Refusal := finish w fun s => s.restartQueues

end Sys2Proof.Machine
end

