-- ==== Sys2Proof/Machine/Qps.lean ====
section
/-!
DEFINITION. Queue pairs (06_rdma_transport.md): responses and acknowledgements on their way out, the end of a QP, connection
management, congestion control.
-/

namespace Sys2Proof.Machine

open Sys2Proof

/-! ### Small operations -/

/-- Sequence numbers have 24 bits. -/
def psnAdd (p n : Nat) : Nat := (p + n) % 2 ^ 24

/-- `a - b` modulo 2²⁴ (R177). -/
def psnSub (a b : Nat) : Nat := (a + 2 ^ 24 - b % 2 ^ 24) % 2 ^ 24

/-- `a` comes before `b`, or is `b`. -/
def psnLe (a b : Nat) : Bool := decide (psnSub b a < 2 ^ 23)

/-- Path MTU in bytes (R176). -/
def Qp.mtuBytes (q : Qp) : Nat := 128 <<< q.mtu

/-- Changes a QP. -/
def Dev.updQp (s : Dev) (i : Nat) (f : Qp → Qp) : Dev := s.modNet fun n => { n with qps := n.qps.upd i f }

/-- The running CC_CURVE (R194). -/
def Dev.curve (s : Dev) : Option CcCurve := s.forme.run.map Forme.cc

/-- Counts of the IBTA credit codes 0 to 30 (R186; assumption 46). -/
def creditCounts : List Nat :=
  [0, 1, 2, 3, 4, 6, 8, 12, 16, 24, 32, 48, 64, 96, 128, 192, 256, 384, 512, 768, 1024, 1536, 2048, 3072, 4096, 6144, 8192, 12288, 16384,
   24576, 32768]

/-- The largest credit code whose count does not exceed `n` (R186). -/
def creditCode (n : Nat) : Nat := (creditCounts.filter (fun c => decide (c ≤ n))).length - 1

/-- Free ring entries that a QP's credits count (R186, R226, R249). -/
def Dev.credits (s : Dev) (q : Qp) : Nat :=
  match q.kind with
  | 1 => 16 - q.ring.length
  | 2 => ((q.queue.bind s.queue).map DevQ.free).getD 0
  | _ => 0

/-- The syndrome of an ACK (R183, R186). -/
def Dev.ackSynd (s : Dev) (q : Qp) : Nat := if q.kind = 0 then 0x1F else creditCode (s.credits q)

/-- The rate at which a QP starts: RATE_INIT_MBPS, within its port's speed (R192). -/
def Dev.startRate (s : Dev) (port : Nat) : Nat := min ((s.curve.map CcCurve.rateInit).getD 0) (speedMbps (s.get (.PORT_CFG_SPEED port)))

/-- A QP without congestion state or RTT history (R192, R193, R195). -/
def Dev.freshCc (s : Dev) (q : Qp) : Qp :=
  { q with rate := s.startRate q.port, samples := [], rttLast := 0, lastDec := 0, lastCut := none, lastCnp := none,
           bucket := 1000 * (((s.curve.map CcCurve.bucketMtu).getD 0) * q.mtuBytes), sentSince := false, sampledSince := false }

/-- Every QP loses its congestion state (R195). -/
def Dev.dropCc (s : Dev) : Dev := s.modNet fun n => { n with qps := n.qps.map fun e => (e.1, s.freshCc e.2) }

/-- NAKs of R184 that end the QP. -/
def fatalNak (synd : Nat) : Bool := synd == 0x61 || synd == 0x62 || synd == 0x63

/-- The node computes its responses and sends nothing (R31, R41, R457). -/
def Dev.silent (s : Dev) : Bool := s.follower || s.modeOf == mSWITCHOVER

/-- A QP may send now (R40, R158, R161, R184): its port serves and is up, its priority is not paused. -/
def Dev.maySend (s : Dev) (q : Qp) : Bool :=
  s.portsServe && s.bit (.PORT_STATUS_LINK_UP q.port) && !(s.pausedOn q.port).testBit (s.pcp q.port q.cls) &&
    (s.serving || q.kind == 1) && q.state != 4

/-! ### The end of a QP (R170, R184) -/

/-- A response leaves without being sent: what it stood for is over (R182, R184). -/
def Dev.dropResp (s : Dev) (r : Resp) : Dev := s.regionLeave r.region

/-- The immediates of executed writes are stored, in order (R173). -/
def Qp.takeImms (q : Qp) (rs : List Resp) : Qp :=
  (rs.filterMap Resp.imm).foldl (fun x v => { x with immLast := v, immCount := (x.immCount + 1) % 2 ^ 32 }) q

/-- The open message of a QP ends with packets missing (R221). -/
def Dev.dropMsg (s : Dev) (qpn : Nat) (q : Qp) : Dev :=
  match q.msg with
  | none => s
  | some m => match m.region with
    | none => s
    | some k => (s.zoneHole k m.off m.len m.got qpn q.host m.op m.va).regionLeave (some k)

/-- Descriptors that wait for a QP fail with cause QP (R187, R254). -/
def Dev.failPushes (s : Dev) (q : Qp) : Dev :=
  s.each (q.reqs.filterMap ReqMsg.queue) fun t n => t.failQueue n 17

/-- A QP enters ERROR (R184, R187): an event code with the QP, a syndrome or count, and a PSN. -/
def Dev.qpError (s : Dev) (i code p1 p2 : Nat) : Dev :=
  match s.net.qps.get? i with
  | none => s
  | some q =>
    if q.state = 4 then s
    else
      let t := (s.updQp i fun x => { x.takeImms x.resps with
        state := 4, resps := [], reAck := none, msg := none, reqs := [], ackDue := false, ackFrom := none, halt := false, rnrWait := none }).post code 0 i p1 p2
      ((q.resps.foldl (fun u r => u.dropResp r) t).dropMsg (i + 0x100) q).failPushes q

/-- A QP returns to RESET (R170): its queue, its response area and its host's entry are released. -/
def Dev.qpReset (s : Dev) (i : Nat) : Dev :=
  match s.net.qps.get? i with
  | none => s
  | some q =>
    let t := ((q.resps.foldl (fun u r => u.dropResp r) s).dropMsg (i + 0x100) q).failPushes q
    let u := t.modNet fun n =>
      let qps := n.qps.del i
      { n with qps := qps, hosts := if qps.any (fun e => e.2.host == q.host) then n.hosts else n.hosts.del q.host }
    let v := match q.kind, q.queue with
      | 2, some n => u.updQueue n fun x => { x with qp := none, port := q.port }
      | _, _ => u
    match q.respq with
    | some k => if (v.rgn.region k).state = .live then v.beginRevoke k none else v
    | none => v

/-- A teardown takes effect (R170): unsent responses are discarded; a QP whose CM exchange is complete returns to RESET. -/
def Dev.qpDown (s : Dev) (i : Nat) (done : Bool) : Dev :=
  if done then s.qpReset i
  else match s.net.qps.get? i with
    | none => s
    | some q =>
      (s.updQp i fun x => { x with resps := x.resps.map (fun r => { r with mute := true }), reqs := [], ackDue := false, reAck := none, ackFrom := none }).failPushes q

/-! ### Packets out (R158, R161, R163, R193) -/

/-- The BTH opcode of a packet that the device sends (R172): its kind, and whether it is the first and the last of its message. The responses to
FLUSH and ATOMIC WRITE take the opcode that IBTA Release 1.5 gives them (assumption 128). -/
def txOp (kind : TxKind) (first last imm : Bool) : Nat :=
  match kind with
  | .readResponse => if first then (if last then 0x10 else 0x0D) else if last then 0x0F else 0x0E
  | .flushResponse | .atomicWriteResponse => 0x10
  | .atomicAck => 0x12
  | .write => if first then (if last then (if imm then 0x0B else 0x0A) else 0x06) else if last then (if imm then 0x09 else 0x08) else 0x07
  | .cnp => 0x81
  | .ack | .nak | .rnrNak => 0x11
  | .rep | .rej | .dreq | .drep => 0x64

/-- A packet of a QP as it leaves (R162 to R164): AckReq on the last packet of a device-requester message (R187), an immediate with it. -/
def Qp.packet (q : Qp) (i : Nat) (kind : TxKind) (psn synd msn va rkey : Nat) (imm : Option Nat) (first last : Bool) (data : List Byte) : TxPkt :=
  { port := q.port, qp := i, kind := kind, op := txOp kind first last imm.isSome, psn := psn, ackReq := kind == .write && last, destQp := q.remoteQpn,
    pkey := q.pkey, synd := synd, msn := msn, va := va, rkey := rkey, imm := if last then imm else none, data := data, ipv6 := q.ipv6, dscp := q.dscp,
    ttl := 64, ecn := 2, udpSum := q.ipv6, esp := q.liveSa.map fun a => (a.spiOut, a.seqOut) }

/-- Whole bytes of a packet from its BTH to its ICRC, as R193 paces it (assumption 126). -/
def packetLen (kind : TxKind) (n : Nat) : Nat :=
  20 + (match kind with | .readResponse => 0 | _ => 12) + ceilDiv n 4 * 4

/-- One packet of a QP leaves on the PCP of its class (R161, R163, R505): answers whether it did; an SA whose slot refuses ends the QP. -/
def Dev.sendPacket (s : Dev) (i : Nat) (kind : TxKind) (psn synd msn va rkey : Nat) (imm : Option Nat) (first last : Bool) (data : List Byte) :
    Dev × Bool :=
  match s.net.qps.get? i with
  | none => (s, false)
  | some q =>
    let (t, ok) := match q.liveSa with
      | none => (s, true)
      | some a =>
        let (u, ok) := s.encrypt a.slot (ceilDiv data.length 16 + 1) 0
        (if ok then u.updQp i fun x => { x with sa := some { a with seqOut := a.seqOut + 1 } } else u, ok)
    if ok then
      ((t.updQp i fun x => { x with sentSince := true }).transmit q.port (s.pcp q.port q.cls)
        (.roce (q.packet i kind psn synd msn va rkey imm first last data)), true)
    else (t.qpError i 0x8001 0 psn, false)

/-- One whole packet without an immediate. -/
def Dev.sendOne (s : Dev) (i : Nat) (kind : TxKind) (psn synd msn : Nat) (data : List Byte) : Dev × Bool :=
  s.sendPacket i kind psn synd msn 0 0 none true true data

/-- An ACK of everything acknowledgeable leaves (R185). -/
def Dev.sendAck (s : Dev) (i : Nat) : Dev :=
  match s.net.qps.get? i with
  | none => s
  | some q =>
    let t := s.updQp i fun x => { x with ackDue := false, ackFrom := none, since := 0, lastAck := x.ackable }
    if s.silent then t
    else if s.maySend q then (t.sendOne i .ack q.ackable (s.ackSynd q) q.msn []).1
    else s

/-- An ACK re-sent for a duplicate leaves (R179). -/
def Dev.sendReAck (s : Dev) (i : Nat) (q : Qp) (psn : Nat) : Dev :=
  let t := s.updQp i fun x => { x with reAck := none }
  if s.silent then t else (t.sendOne i .ack psn (s.ackSynd q) q.msn []).1

/-- The writes that a response reflects or acknowledges are durable, and its report has come (R233, R237). -/
def Dev.respReady (s : Dev) (r : Resp) : Bool :=
  !(s.gal.waiting.any (fun w => r.waits.contains w.stamp)) && s.reported r.onum && (r.through == 0 || s.jrn.journaled r.through)

/-- What a packet of `n` bytes needs of a bucket, in thousandths of a byte: its length, at most the bucket's depth, which a packet of a full path
MTU with its headers can exceed (R193; assumption 126). -/
def Dev.bucketNeed (s : Dev) (q : Qp) (n : Nat) : Nat := 1000 * min n (((s.curve.map CcCurve.bucketMtu).getD 0) * q.mtuBytes)

/-- A paced QP's bucket holds a packet of `n` bytes (R188, R193); C0 QPs are not paced. -/
def Dev.bucketHolds (s : Dev) (q : Qp) (n : Nat) : Bool := q.cls == 0 || decide (q.bucket ≥ s.bucketNeed q n)

/-- A packet takes its bytes from the bucket. -/
def Dev.spend (s : Dev) (i n : Nat) : Dev := s.updQp i fun q => if q.cls = 0 then q else { q with bucket := q.bucket - s.bucketNeed q n }

/-- A write or SEND becomes acknowledgeable (R173, R185, R209); one whose response R182 or R475 discarded has its effects and draws no ACK. -/
def Dev.acknowledgeable (s : Dev) (i : Nat) (r : Resp) : Dev :=
  let t := s.regionLeave r.region
  t.updQp i fun q =>
    let x := { q.takeImms [r] with resps := q.resps.drop 1 }
    if r.mute then x
    else { x with ackable := r.psn, since := q.since + 1, ackFrom := if q.ackFrom.isSome then q.ackFrom else some s.cal.cycle,
                  ackDue := q.ackDue || r.ackReq || decide (q.since + 1 ≥ s.get .XPORT_ACK_COALESCE) }

/-- The last packet of a READ's response sets the read marks of the records it covers (R211). -/
def Dev.setMarks (s : Dev) (q : Qp) (m : Nat) : Dev :=
  if m = 0 then s else s.modRgn fun t => { t with pds := t.pds.upd q.pd fun p => { p with marks := p.marks ||| m } }

/-- The later of two PSNs (R177). -/
def psnMax (a b : Nat) : Nat := if psnLe a b then b else a

/-- A response has left whole: it acknowledges everything earlier (R185); the response of a duplicate takes back nothing acknowledged (R179). -/
def Dev.respSent (s : Dev) (i : Nat) (q : Qp) (r : Resp) : Dev :=
  ((s.updQp i fun x =>
    let top := psnMax x.lastAck r.psn
    { x with resps := x.resps.drop 1, ackable := psnMax x.ackable top, lastAck := top,
             since := if psnLe x.ackable top then 0 else x.since, ackFrom := if psnLe x.ackable top then none else x.ackFrom,
             ackDue := !psnLe x.ackable top && x.ackDue }).setMarks q
    r.marks).regionLeave r.region

/-- A NAK has left: a fatal one ends the QP (R184). -/
def Dev.nakSent (s : Dev) (i : Nat) (r : Resp) : Dev :=
  let t := s.updQp i fun x => { x with resps := x.resps.drop 1, ackDue := false }
  let u := t.regionLeave r.region
  if fatalNak r.synd then u.qpError i 0x8001 r.synd r.psn else u

/-- One step of a QP's output: the state after, or none where nothing can leave. -/
def Dev.pumpStep (s : Dev) (i : Nat) : Option Dev :=
  match s.net.qps.get? i with
  | none => none
  | some q =>
    let go := s.silent || s.maySend q
    if q.ackDue ∧ go = true then some (s.sendAck i)
    else if go = true ∧ q.reAck.isSome = true then q.reAck.map (s.sendReAck i q)
    else match q.resps with
      | [] => none
      | r :: _ =>
        if s.respReady r = false then none
        else if r.kind = .ack then some (s.acknowledgeable i r)
        else if r.mute then some ((s.updQp i fun x => { x with resps := x.resps.drop 1 }).regionLeave r.region)
        else if go = false then none
        else if r.kind = .nak ∨ r.kind = .rnrNak then
          some (if s.silent then s.nakSent i r
            else
              let (t, ok) := s.sendOne i r.kind r.psn r.synd r.msn []
              if ok then t.nakSent i r else t)
        else if s.silent then some (s.respSent i q r)
        else
          let n := min r.data.length q.mtuBytes
          let len := packetLen r.kind n
          if r.kind = .readResponse ∧ s.bucketHolds q len = false then none
          else
            let last := decide (r.data.length ≤ q.mtuBytes)
            let (t, ok) := s.sendPacket i r.kind r.first (s.ackSynd q) r.msn 0 0 none (!r.begun) last (r.data.take n)
            if ok = false then some t
            else
              let u := if r.kind = .readResponse then t.spend i len else t
              if last then some (u.respSent i q r)
              else some (u.updQp i fun x =>
                { x with resps := { r with first := psnAdd r.first 1, data := r.data.drop n, begun := true } :: x.resps.drop 1 })

/-- Runs a QP's output for at most `fuel` steps. -/
def Dev.pumpFor (s : Dev) (i : Nat) : Nat → Dev
  | 0 => s
  | fuel + 1 => match s.pumpStep i with
    | some t => t.pumpFor i fuel
    | none => s

/-- Device-requester packets of a QP leave in order (R187, R193). -/
def Dev.pumpReqs (s : Dev) (i : Nat) : Dev :=
  match s.net.qps.get? i with
  | none => s
  | some q =>
    s.each q.reqs fun t m =>
      match (t.net.qps.get? i).bind (fun x => x.reqs.find? (fun y => y.first == m.first)) with
      | none => t
      | some m1 =>
        t.each ((m1.packets.zip (List.range m1.packets.length)).drop m1.sent) fun u e =>
          match u.net.qps.get? i with
          | none => u
          | some x =>
            let cur := ((x.reqs.find? (fun y => y.first == m.first)).map ReqMsg.sent).getD 0
            let len := packetLen .write e.1.length
            if cur ≠ e.2 ∨ u.silent = true ∨ u.maySend x = false ∨ (m1.queue.isSome = true ∧ u.bucketHolds x len = false) then u
            else
              let (v, ok) := u.sendPacket i .write (psnAdd m1.first e.2) 0 0 (m1.va + e.2 * x.mtuBytes) m1.rkey m1.imm (e.2 == 0)
                (e.2 + 1 == m1.packets.length) e.1
              if ok = false then v
              else (v.when m1.queue.isSome (·.spend i len)).updQp i fun y =>
                { y with reqs := y.reqs.map fun z => if z.first = m.first then { z with sent := e.2 + 1 } else z }

/-- Everything that a QP can send now leaves. -/
def Dev.pumpQp (s : Dev) (i : Nat) : Dev :=
  match s.net.qps.get? i with
  | none => s
  | some q =>
    let fuel := 2 * q.resps.length + 2 + (q.resps.map (fun r => r.data.length / 256)).sum
    (s.pumpFor i fuel).pumpReqs i

/-- Puts a QP in its place by the stamp of its earliest waiting request. -/
def placeQp (e : Nat × Nat) : List (Nat × Nat) → List (Nat × Nat)
  | [] => [e]
  | x :: xs => if e.1 < x.1 then e :: x :: xs else x :: placeQp e xs

/-- Every QP sends what it can, the one with the earliest waiting request first. -/
def Dev.pumpQps (s : Dev) : Dev :=
  let key (q : Qp) : Nat := ((q.resps.head?).map Resp.stamp).getD (2 ^ 80)
  let order := s.net.qps.foldl (fun l e => placeQp (key e.2, e.1) l) []
  s.each order fun t e => t.pumpQp e.2

/-- The fill of the buckets in one calendar cycle, 2.048 µs at RATE Mb/s (R193). -/
def Dev.fillBuckets (s : Dev) : Dev :=
  match s.curve with
  | none => s
  | some c => s.modNet fun n => { n with qps := n.qps.map fun e =>
      (e.1, { e.2 with bucket := min (e.2.bucket + e.2.rate * 256) (1000 * (c.bucketMtu * e.2.mtuBytes)) }) }

/-- The ACK timer of R185 has run out. -/
def Qp.ackLate (q : Qp) (timer now : Nat) : Bool := match q.ackFrom with
  | some c => decide (now ≥ c + timer)
  | none => false

/-- ACK_TIMER (R185). -/
def Dev.ackTimer (s : Dev) (i : Nat) : Dev :=
  match s.net.qps.get? i with
  | none => s
  | some q => if q.ackLate (s.get .XPORT_ACK_TIMER) s.cal.cycle then (s.updQp i fun x => { x with ackDue := true }).pumpQp i else s

/-- A switch-over treats the response of every executed request as sent (R475). -/
def Dev.treatSent (s : Dev) : Dev :=
  let t := s.each s.net.qps fun u e => e.2.resps.foldl (fun v r => v.regionLeave r.region) u
  t.modNet fun n => { n with qps := n.qps.map fun e =>
    let last := ((e.2.resps.getLast?).map Resp.psn).getD e.2.ackable
    (e.1, { s.freshCc (e.2.takeImms e.2.resps) with
      resps := [], ackable := last, lastAck := last, since := 0, ackFrom := none, ackDue := false, reAck := none }) }

/-! ### Connections (R165 to R170, R199, R200, R226, R249) -/

/-- The first service ID of RDMA_PS_TCP (R165). -/
def serviceBase : Nat := 0x01060000

/-- The kind that a service ID selects (R165, R166). -/
def Dev.serviceKind (s : Dev) (service : Nat) : Option Nat :=
  let is (f : Fld) : Bool := s.get f != 0 && service == serviceBase + s.get f
  if is .XPORT_CM_PORT_A_DATA_PORT then some 0
  else if is .XPORT_CM_PORT_A_CONTROL_PORT then some 1
  else if is .XPORT_CM_PORT_B_DEVQ_PORT then some 2
  else none

/-- The host node's index: its own, or the lowest free one (R165). -/
def NetSt.hostIndex (n : NetSt) (a : List Byte) : Option Nat :=
  match n.hosts.find? (fun e => e.2 == a) with
  | some e => some e.1
  | none => n.hosts.firstGap 0 8192

/-- The lowest QP index in RESET that is not held back (R167, R351). -/
def NetSt.freeQp (n : NetSt) : Option Nat :=
  (n.held.foldl (fun (t : Tab Nat) i => t.put i 0) (n.qps.map (fun e => (e.1, 0)))).firstGap 0 131072

/-- The REJ reason of a REQ (R165, R199, R200, R226, R249); none where it is accepted. -/
def Dev.cmReject (s : Dev) (r : CmReq) : Option Nat :=
  let kind := s.serviceKind r.service
  if s.modeOf = mQUIESCED ∧ kind ≠ some 1 then some 3
  else match kind with
    | none => some 8
    | some k =>
      if s.net.freeQp = none then some 1
      else if s.net.hostIndex r.host = none then some 3
      else if k = 1 ∧ s.controlQps = false then some 3
      else match s.rgn.pd r.pd with
        | none => some 28
        | some p =>
          if p.token ≠ r.token then some 28
          else if k = 1 ∧ p.caps % 4 = 0 then some 28
          else if k = 1 ∧ (s.net.qps.count (fun _ q => q.kind == 1) ≥ 256 ∨ s.rgn.lowest = none) then some 3
          else if k = 2 then
            match s.queue r.queue with
            | none => some 28
            | some q => if q.pd ≠ r.pd ∨ q.dying.isSome = true then some 28 else if q.qp.isSome then some 3 else none
          else none

/-- A response area's region (R226): read-only, its address in the context partition left open (assumption 44). -/
def Dev.areaRegion (s : Dev) (pd : Nat) (kind : RKind) (len : Nat) : Dev × Option Nat :=
  match s.rgn.lowest with
  | none => (s, none)
  | some k => ((s.drawn).makeRegion k { Region.free with kind := kind, access := aREAD, pd := pd, length := len, base := s.freeVal 64 }, some k)

/-- A QP as a REQ makes it (R165 to R167, R192). Until its first request packet fixes its class and DSCP (R112), the device's own traffic on it takes
those of the REQ (assumption 129). Its first send PSN is the device's choice (assumption 47). -/
def Dev.newQp (s : Dev) (r : CmReq) (kind : Nat) : Qp :=
  { state := 2, kind := kind, cls := s.dscpClass r.dscp, fixed := false, port := r.port, mtu := r.mtu, ipv6 := r.ipv6, nakSent := false, pd := r.pd, remoteQpn := r.qpn,
    epsn := r.psn, msn := 0, spsn := s.freeVal 24, unacked := s.freeVal 24, pkey := r.pkey, timeout := s.get .XPORT_REQ_TIMEOUT, retry := s.get .XPORT_REQ_RETRY,
    rnrRetry := s.get .XPORT_REQ_RNR_RETRY, minRnr := s.get .XPORT_REQ_MIN_RNR, dscp := r.dscp, host := (s.net.hostIndex r.host).getD 0, acache := [],
    rate := s.startRate r.port,
    samples := [], rttLast := 0, lastDec := 0, lastCut := none, lastCnp := none,
    bucket := 1000 * (((s.curve.map CcCurve.bucketMtu).getD 0) * (128 <<< r.mtu)), immLast := 0, immCount := 0, dups := 0, retries := 0, tries := 0, rnrTries := 0,
    rnrWait := none, lastAck := psnSub r.psn 1, ackable := psnSub r.psn 1, since := 0, ackFrom := none, ackDue := false, reAck := none, halt := false, resps := [],
    msg := none, reqs := [], sa := none, nextSa := none, queue := if kind = 2 then some r.queue else none, respq := none, ring := [], asked := 0, produced := 0, area := [], downAt := none,
    cmDone := false, sentSince := false, sampledSince := false }

/-- A CM message leaves (R160, R165), on the PCP of the port engine's answers (assumption 129): nothing on a node that only follows. Every REP
advertises 16 responder resources and an initiator depth of 16 (R167). -/
def Dev.sendCm (s : Dev) (port i : Nat) (kind : TxKind) (psn reason key : Nat) : Dev :=
  let n := if kind = .rep then 16 else 0
  if s.silent then s else s.transmit port (s.get (.PORT_VLAN_PCP_OTHER port)) (.cm port i kind psn reason key n n)

/-- The REQ as it executes at its stamp. -/
def Dev.connect (s : Dev) (r : CmReq) : Dev :=
  match s.cmReject r with
  | some why => s.sendCm r.port 0 .rej 0 why 0
  | none =>
    match s.serviceKind r.service, s.net.freeQp with
    | some kind, some i =>
      let q := s.newQp r kind
      let t := (s.drawn).modNet fun n => { n with qps := n.qps.put i q, hosts := n.hosts.put q.host r.host }
      let (u, area) := if kind = 1 then t.areaRegion r.pd .respq 65600 else (t, none)
      let v := u.updQp i fun x => { x with respq := area }
      let w := if kind = 2 then v.updQueue r.queue fun x => { x with qp := some i, port := r.port } else v
      w.sendCm r.port i .rep q.spsn 0 ((area.map (fun k => (w.rgn.region k).key k)).getD 0)
    | _, _ => s

/-- CM_REQ (R165): answered in the modes that serve. Its item carries the class of the point that it entered, that of its DSCP (R23, R112). -/
def Dev.cmReq (s : Dev) (r : CmReq) : Dev :=
  if s.portsServe then ((s.forward (.cm r) (s.dscpClass r.dscp)).1).connect r else s

/-- RTU: RTR becomes RTS (R168). -/
def Dev.rtu (s : Dev) (i : Nat) : Dev := s.updQp i fun q => if q.state = 2 then { q with state := 3 } else q

/-- A teardown of the QP is in effect (R170). -/
def Dev.isDown (s : Dev) (q : Qp) : Bool := match q.downAt with | some c => decide (c ≤ s.cal.cycle) | none => false

/-- DREQ: the QP is torn down from the next boundary, and the exchange is complete; one already torn down returns to RESET (R170). -/
def Dev.dreq (s : Dev) (i : Nat) : Dev :=
  match s.net.qps.get? i with
  | none => s
  | some q =>
    let t := s.sendCm q.port i .drep 0 0 0
    if s.isDown q then t.qpReset i
    else t.updQp i fun x => { x with downAt := some (q.downAt.getD (s.cal.cycle + 1)), cmDone := true }

/-- A teardown by the device (R170): from the next boundary; it sends a DREQ. -/
def Dev.teardown (s : Dev) (i : Nat) : Dev :=
  match s.net.qps.get? i with
  | none => s
  | some q =>
    if q.state = 4 ∨ q.downAt.isSome then s
    else (s.updQp i fun x => { x with downAt := some (s.cal.cycle + 1) }).sendCm q.port i .dreq 0 0 0

/-- A CM message of a kind on a QP: 0 RTU, 1 DREQ, 2 end of a teardown, 3 the DREQ of a QP in ERROR. -/
def Dev.cmDo (s : Dev) (what i : Nat) : Dev :=
  match what with
  | 0 => s.rtu i
  | 1 => s.dreq i
  | 2 => s.qpReset i
  | _ => match s.net.qps.get? i with
    | some q => if q.state = 4 then s.sendCm q.port i .dreq 0 0 0 else s
    | none => s

/-- The class of a CM message's item (R23, R112): a host's own enters the point of its DSCP's class, as its REQ gave it; what the device itself
decides is C3. -/
def Dev.cmCls (s : Dev) (what i : Nat) : Nat :=
  if what ≤ 1 then ((s.net.qps.get? i).map fun q => s.dscpClass q.dscp).getD 3 else 3

/-- The same, forwarded (R454). -/
def Dev.cmMsg (s : Dev) (what i : Nat) : Dev :=
  if s.portsServe ∧ (s.net.qps.get? i).isSome = true then ((s.forward (.cmMsg what i) (s.cmCls what i)).1).cmDo what i else s

/-- Teardowns whose cycle has come (R170). -/
def Dev.downStep (s : Dev) : Dev :=
  s.each (s.net.qps.filter (fun e => e.2.downAt == some s.cal.cycle)) fun t e => t.qpDown e.1 e.2.cmDone

/-- QP_RESET_TIMEOUT: one second after a teardown (R170), or after the DREQ of a QP in ERROR. -/
def Dev.resetTimeout (s : Dev) (i : Nat) : Dev :=
  match s.net.qps.get? i with
  | none => s
  | some q => if q.state = 4 ∨ s.isDown q = true then s.cmMsg 2 i else s

/-! ### Congestion control (R188 to R195) -/

/-- Samples that lie in the RTT window now, in nanoseconds (R192). -/
def Qp.window (q : Qp) (now ms : Nat) : List Nat := (q.samples.filter (fun e => decide (e.1 + ms ≥ now))).map Prod.snd

/-- The least sample of the window; none where it is empty. -/
def leastOf : List Nat → Option Nat
  | [] => none
  | x :: xs => some (xs.foldl min x)

/-- The multiplier of the last entry whose delay does not exceed an excess (R192). -/
def CcCurve.multFor (c : CcCurve) (excess : Nat) : Nat :=
  (((c.entries.filter (fun e => decide (e.1 ≤ excess))).getLast?).map Prod.snd).getD 65536

/-- One RTT sample of a QP (R192). -/
def Qp.sample (q : Qp) (c : CcCurve) (line nowMs nowTicks ns : Nat) : Qp :=
  let kept := (nowMs, ns) :: q.samples.filter (fun e => decide (e.1 + c.windowMs ≥ nowMs))
  let rttMin := (leastOf (kept.map Prod.snd)).getD ns
  let q2 := { q with samples := kept, rttLast := ns, sampledSince := true }
  if ns ≤ rttMin + c.target then { q2 with rate := min (q.rate + c.ai) line }
  else if nowTicks ≥ q.lastDec + 2 * rttMin then
    { q2 with rate := max (q.rate * c.multFor (ns - rttMin - c.target) / 65536) c.rateMin, lastDec := nowTicks }
  else q2

/-- A CNP's reduction (R191, R192). -/
def Qp.cut (q : Qp) (c : CcCurve) (now : Nat) : Qp :=
  let free := match q.lastCut with
    | none => true
    | some t => decide (now ≥ t + c.cnpHold * 2000)
  if free then { q with rate := max (q.rate * c.cnpMult / 65536) c.rateMin, lastCut := some now } else q

/-- Ticks of the current stamp. -/
def Dev.stampTicks (s : Dev) : Nat := s.stamp

/-- The transport checks of R164: the QP, its port, TVer and P_Key. -/
def Dev.packetOk (q : Qp) (p : Pkt) : Bool :=
  (q.state == 2 || q.state == 3) && q.port == p.port && p.tver == 0 && q.pkey % 32768 == p.pkey % 32768

/-- What R163 makes of a packet at its QP: none where it passes, else how the discard counts: some none as a header fault, some why as an ESP
failure. -/
def Qp.espBad (q : Qp) (p : Pkt) : Option (Option Nat) :=
  match p.esp, q.liveSa with
  | none, none => none
  | some e, a => (espFault a e).map some
  | none, some _ => some none

/-- An accepted packet moves its SA's window (R163). -/
def Qp.slideEsp (q : Qp) (p : Pkt) : Qp :=
  match q.sa, p.esp with
  | some a, some e => { q with sa := some (a.slide e.seq) }
  | _, _ => q

/-- A packet meets the transport and ESP checks of its QP (R163, R164): answers whether it passed. One that fails is counted and draws nothing; one
that passes moves its window. -/
def Dev.acceptPkt (s : Dev) (i : Nat) (q : Qp) (p : Pkt) : Dev × Bool :=
  if Dev.packetOk q p = false then (s.inc (.PORT_RX_DISCARD_RX_DISCARD p.port), false)
  else if p.icrc = false then (s, false)
  else match q.espBad p with
    | none => ((match p.esp, q.sa with | some _, some a => s.useKey 0 a.slot | _, _ => s).updQp i (·.slideEsp p), true)
    | some none => (s.inc (.PORT_RX_DISCARD_RX_DISCARD p.port), false)
    | some (some why) =>
      ((s.inc (.PORT_RX_ESP_FAIL_RX_ESP_FAIL p.port)).post 0x8004 (0x0400 + p.port) p.port ((p.esp.map Esp.spi).getD 0) why, false)

/-- CNP: a received CNP on a QP (R191); a node that follows keeps no congestion state (R195). -/
def Dev.cnp (s : Dev) (p : Pkt) : Dev :=
  if s.portsServe = false ∨ p.op ≠ 0x81 then s
  else match s.net.qpOf p.qpn with
    | none => s.inc (.PORT_RX_DISCARD_RX_DISCARD p.port)
    | some (i, q) =>
      let (t, ok) := s.acceptPkt i q p
      if ok = false then t
      else match s.curve with
        | some c => (t.updQp i fun x => x.cut c s.stampTicks).inc (.PORT_CNP_RX_CNP_RX q.port)
        | none => t

/-! ### Frames (R159, R162, R163, R191) -/

/-- The IP and UDP headers that R162 accepts; inside ESP the UDP header is read after decryption. -/
def IpHdr.ok (h : IpHdr) : Bool :=
  (h.ipv6 || (h.ihl == 5 && !h.fragment && h.sumGood)) && (h.next == 17 || h.next == 50) && h.dport == 4791 && (h.udpSum == 0 || h.udpGood)

/-- A CNP to the remote QP of a packet marked CE (R191), as any packet of the QP through its outbound SA (R163); none for a QP that the mode does
not serve (R40). While its priority is paused it leaves when the pause ends (R161). -/
def Dev.notifyCe (s : Dev) (qpn : Nat) : Dev :=
  match s.net.qpOf qpn with
  | none => s
  | some (i, q) =>
    let iv := s.get .XPORT_ACK_CNP_INTERVAL
    let due := match q.lastCnp with
      | some t => decide (s.nowTicks ≥ t + iv * 2000)
      | none => true
    if iv ≠ 0 ∧ due = true ∧ q.state ≥ 2 ∧ q.state ≠ 4 ∧ s.portsServe = true ∧ (s.serving = true ∨ q.kind = 1) then
      let t := (s.updQp i fun x => { x with lastCnp := some s.nowTicks }).inc (.PORT_CNP_TX_CNP_TX q.port)
      (t.sendOne i .cnp 0 0 0 []).1
    else s

/-- A packet marked CE is counted and notified (R191). -/
def Dev.ceMark (s : Dev) (p : Nat) (ce : Bool) (qpn : Nat) : Dev := if ce then (s.inc (.PORT_RX_CE_RX_CE p)).notifyCe qpn else s

/-- Request packets by BTH opcode (R112, R172): all but responses, acknowledgements and CNPs. -/
def requestOpcode (op : Nat) : Bool := !(decide (0x0D ≤ op ∧ op ≤ 0x12) || op == 0x81)

/-- A RoCE v2 frame past the Ethernet checks: IP and UDP headers, ESP, ICRC, ECN (R162 to R164, R191). An accepted request packet fixes its QP's
class before it enters an admission point (R112). -/
def Dev.roceFrame (s : Dev) (p : Nat) (h : IpHdr) (icrc : Bool) (qpn op : Nat) (esp : Option Esp) : Dev :=
  let sa := (s.net.qpOf qpn).bind (fun e => e.2.liveSa)
  if h.ok = false then s.inc (.PORT_RX_DISCARD_RX_DISCARD p)
  else match esp, sa with
    | none, some _ => s.inc (.PORT_RX_DISCARD_RX_DISCARD p)
    | _, _ =>
      match esp.bind (espFault sa) with
      | some why => (s.inc (.PORT_RX_ESP_FAIL_RX_ESP_FAIL p)).post 0x8004 (0x0400 + p) p ((esp.map Esp.spi).getD 0) why
      | none =>
        if icrc then ((s.inc (.PORT_RX_FRAMES_RX_FRAMES p)).fixClass qpn h.dscp (requestOpcode op)).ceMark p (h.ecn == 3) qpn
        else s.inc (.PORT_RX_ICRC_ERR_RX_ICRC_ERR p)

/-- FRAME_RECEIVED (R159): an accepted frame is counted; a RoCE v2 packet then enters the admission point of its class, and its row of the table
executes it. -/
def Dev.frame (s : Dev) (f : EthFrame) : Dev :=
  match s.portRec f.port with
  | none => s
  | some r =>
    if s.portsUp = false then s
    else if f.fcs = false then s.inc (.PORT_RX_FCS_ERR_RX_FCS_ERR f.port)
    else match f.kind with
      | .pause => s.inc (.PORT_RX_FRAMES_RX_FRAMES f.port)
      | _ =>
        if s.portsServe = false ∨ s.macOk f = false ∨ s.vlanOk f = false ∨ f.len > r.maxFrame then
          s.inc (.PORT_RX_DISCARD_RX_DISCARD f.port)
        else match f.kind with
          | .roce h icrc qpn op esp => s.roceFrame f.port h icrc qpn op esp
          | .other => s.inc (.PORT_RX_DISCARD_RX_DISCARD f.port)
          | _ => s.inc (.PORT_RX_FRAMES_RX_FRAMES f.port)

/-! ### Commands -/

/-- A CM MAD on QP1 executes at its stamp, given at the point of the class of its DSCP (R112). -/
def Dev.atMad (s : Dev) (port dscp : Nat) (f : Dev → Dev) : Dev := s.atPoint (4 * port + s.dscpClass dscp) (fun r => r.qpn == some 1) f

/-- A CM message of a QP's host. -/
def Dev.atQpMad (s : Dev) (i : Nat) (f : Dev → Dev) : Dev :=
  match s.net.qps.get? i with
  | some q => s.atMad q.port q.dscp f
  | none => f s

/-- FRAME_RECEIVED (R159). -/
def execFrameReceived (f : EthFrame) (w : State) : Host.Outcome State Fault Refusal := finish w fun s => (s.frame f)

/-- CM_REQ (R165). -/
def execCmReq (r : CmReq) (w : State) : Host.Outcome State Fault Refusal := finish w fun s => s.atMad r.port r.dscp (·.cmReq r)

/-- CM_RTU (R168). -/
def execCmRtu (qp : Nat) (w : State) : Host.Outcome State Fault Refusal := finish w fun s => s.atQpMad qp (·.cmMsg 0 qp)

/-- CM_DREQ (R170). -/
def execCmDreq (qp : Nat) (w : State) : Host.Outcome State Fault Refusal := finish w fun s => s.atQpMad qp (·.cmMsg 1 qp)

/-- QP_RESET_TIMEOUT (R170). -/
def execQpResetTimeout (qp : Nat) (w : State) : Host.Outcome State Fault Refusal := finish w fun s => (s.resetTimeout qp)

/-- QP_ERROR_DREQ (R184). -/
def execQpErrorDreq (qp : Nat) (w : State) : Host.Outcome State Fault Refusal := finish w fun s => (s.cmMsg 3 qp)

/-- ACK_TIMER (R185). -/
def execAckTimer (qp : Nat) (w : State) : Host.Outcome State Fault Refusal := finish w fun s => (s.ackTimer qp)

end Sys2Proof.Machine
end

