-- ==== Sys2Proof/Machine/Transport.lean ====
section
/-!
DEFINITION. Requests of hosts at their order stamps (06_rdma_transport.md, 08_persistence_and_ordering.md): what each BTH opcode
does, duplicates, and the device as requester.
-/

namespace Sys2Proof.Machine

open Sys2Proof

/-! ### Responses (R169, R181, R182) -/

/-- A response with the fields that most share. -/
def Resp.mk0 (kind : TxKind) (first psn stamp msn : Nat) : Resp :=
  { kind := kind, first := first, psn := psn, synd := 0, data := [], onum := 0, ackReq := false, imm := none, region := none, marks := 0, waits := [],
    stamp := stamp, msn := msn, begun := false, mute := false, through := 0 }

/-- A response covers a PSN. -/
def Resp.covers (r : Resp) (psn : Nat) : Bool := decide (psnSub psn r.first ≤ psnSub r.psn r.first)

/-- A response of the QP covers a PSN and has not been sent (R181): it waits, or its coalesced ACK does, or its message is open. -/
def Qp.pendingFor (q : Qp) (psn : Nat) : Bool :=
  q.resps.any (fun r => !r.mute && r.covers psn) || (!psnLe psn q.lastAck && psnLe psn q.ackable) ||
    (match q.msg with | some m => psnLe m.first psn | none => false)

/-- Puts a response in PSN order; with `cut`, unsent ones with a later PSN are discarded, an ACK that waits for them with them (R182). -/
def Qp.insertResp (q : Qp) (r : Resp) (cut : Bool) : Qp :=
  let before := q.resps.filter (fun x => psnLe x.psn r.psn)
  let after := (q.resps.filter (fun x => !psnLe x.psn r.psn)).map (fun x => if cut then { x with mute := true } else x)
  let q2 := { q with resps := before ++ [r] ++ after }
  if cut = true ∧ psnLe q.ackable r.psn = false then { q2 with ackable := q.lastAck, since := 0, ackFrom := none, ackDue := false } else q2

/-- Queues a response and sends what can leave. -/
def Dev.respond (s : Dev) (i : Nat) (r : Resp) (cut : Bool) : Dev := (s.updQp i (·.insertResp r cut)).pumpQp i

/-- The counter of a NAK. -/
def nakCounter (synd : Nat) : Fld :=
  if synd = 0x60 then .XPORT_NAK_SEQ_NAK_SEQ
  else if synd = 0x61 then .XPORT_NAK_INVALID_NAK_INVALID
  else if synd = 0x62 then .XPORT_NAK_ACCESS_NAK_ACCESS
  else .XPORT_NAK_OPER_NAK_OPER

/-- A NAK is queued (R183, R184): after a fatal one nothing later executes, and the open message ends. -/
def Dev.nak (s : Dev) (i synd psn : Nat) (region : Option Nat) : Dev :=
  match s.net.qps.get? i with
  | none => s
  | some q =>
    let t := if fatalNak synd then (s.dropMsg (i + 0x100) q).updQp i fun x => { x with halt := true, msg := none } else s
    let r : Resp := { Resp.mk0 .nak psn psn s.stamp q.msn with synd := synd, region := region }
    ((t.inc (nakCounter synd)).output 1 synd i psn 0 0).respond i r false

/-! ### Which packets execute (R164, R165, R168, R170, R184) -/

/-- Kinds of request by opcode (R172). -/
inductive OpKind where
  | send | write | read | cmpSwap | fetchAdd | flush | atomicWrite | acknowledge | cnp | discard | invalid
  deriving DecidableEq, Repr

/-- The opcode table (R172). -/
def opKind (op : Nat) : OpKind :=
  if op ≤ 5 then .send
  else if op ≤ 0x0B then .write
  else if op = 0x0C then .read
  else if op ≤ 0x10 then .discard
  else if op = 0x11 then .acknowledge
  else if op = 0x12 then .discard
  else if op = 0x13 then .cmpSwap
  else if op = 0x14 then .fetchAdd
  else if op = 0x1C then .flush
  else if op = 0x1D then .atomicWrite
  else if op = 0x81 then .cnp
  else .invalid

/-- The opcode is accepted on a kind of QP (R172). -/
def opAllowed (op kind : Nat) : Bool := match opKind op with
  | .send => kind == 1 || kind == 2
  | .write | .read | .cmpSwap | .fetchAdd | .flush | .atomicWrite => kind == 0
  | .acknowledge | .cnp | .discard => true
  | .invalid => false

/-- Requests of a QP execute now: in the serving modes, on a node that follows only as items, and CONTROL QPs in QUIESCED (R39, R40); where admission
has stopped, those stamped before (R52, R234, R476); nothing after a fatal NAK (R184) or a teardown (R170). -/
def Dev.executes (s : Dev) (q : Qp) (item : Bool) : Bool :=
  !q.halt && !s.isDown q &&
    (if item then s.follower || s.modeOf == mSWITCHOVER else (s.portsServe && !s.cal.stopped && (s.serving || q.kind == 1)) || s.carriesOn)

/-! ### Expected requests -/

/-- PSNs that a request takes: a READ as many as its response has packets (R176). -/
def Qp.psnsOf (q : Qp) (p : Pkt) : Nat := if p.op = 0x0C then max 1 (ceilDiv p.len q.mtuBytes) else 1

/-- Responder resources in use (R174): READ, atomic, FLUSH and ATOMIC WRITE not yet answered. -/
def Qp.outstanding (q : Qp) : Nat :=
  (q.resps.filter (fun r => !r.mute && (r.kind == .readResponse || r.kind == .atomicAck || r.kind == .flushResponse || r.kind == .atomicWriteResponse))).length

/-- Positions of a message's packets: 0 First, 1 Middle, 2 Last, 3 Only. -/
def packetPos (op : Nat) : Nat :=
  if op = 0 ∨ op = 6 then 0
  else if op = 1 ∨ op = 7 then 1
  else if op = 2 ∨ op = 3 ∨ op = 8 ∨ op = 9 then 2
  else 3

/-- The rules of R174 that a request breaks: it is answered with NAK Invalid Request. -/
def Qp.badRequest (q : Qp) (p : Pkt) : Bool :=
  let send := opKind p.op == .send
  let n := p.payload.length
  let pos := packetPos p.op
  if send || opKind p.op == .write then
    let shape := match pos, q.msg with
      | 0, none => n == q.mtuBytes
      | 1, some m => m.send == send && n == q.mtuBytes
      | 2, some m => m.send == send && decide (n ≤ q.mtuBytes)
      | 3, none => decide (n ≤ q.mtuBytes)
      | _, _ => false
    let size := match q.msg with
      | some m => if send then decide (m.got + n ≤ 4096) else if pos = 2 then m.got + n == m.len else decide (m.got + n ≤ m.len)
      | none => if send then (if q.kind = 2 then pos == 3 && n == 64 else decide (n ≤ 4096))
                else decide (p.len ≤ 2 ^ 31) && (if pos = 3 then n == p.len else decide (n ≤ p.len))
    !(shape && size)
  else
    q.msg.isSome || decide (q.outstanding ≥ 16) || decide ((p.op = 0x0C ∨ p.op = 0x1C) ∧ p.len > 2 ^ 31) ||
      (p.op != 0x0C && p.op != 0x1C && p.va % 8 != 0) || (p.op == 0x1D && n != 8)

/-- The QP moves past an executed request (R177, R178). -/
def Dev.took (s : Dev) (i : Nat) (n : Nat) (message : Bool) : Dev :=
  s.updQp i fun q => { q with epsn := psnAdd q.epsn n, nakSent := false, msn := if message then psnAdd q.msn 1 else q.msn }

/-- Bytes of a READ's span, for a request of a class: of the range, of an event queue, or of a response area (R211, R222, R226). The answer: the bytes, the ONUM awaited, the
stamps awaited, the read marks, and the VALUE of R459. -/
def Dev.readSpan (s : Dev) (cls k va len : Nat) : Dev × Option (List Byte × Nat × List Nat × Nat × Nat) :=
  let r := s.rgn.region k
  let off := va - r.vaBase
  match r.kind with
  | .eventq =>
    let bs := ((s.rgn.pds.get? r.pd).map Pd.queueBytes).getD []
    let marks := (List.range 64).foldl (fun m j => if off ≤ 64 + 32 * j ∧ 96 + 32 * j ≤ off + len then setBit m j else m) 0
    let d := sliceAt bs off len
    (s, some (d, 0, [], marks, leNat d % 63))
  | .respq =>
    let bs := ((s.net.qps.find? (fun e => e.2.respq == some k)).map (fun e => e.2.areaBytes)).getD []
    let d := sliceAt bs off len
    (s, some (d, 0, [], 0, leNat d % 63))
  | _ =>
    let las := spanLines (r.base + off) len
    let (t, vs) := (s.hostTouch false (spanFolios (r.base + off) len)).loadLines cls las
    match vs with
    | none => (t, none)
    | some ls => (t, some (s.logMask k off (cutSpan (r.base + off) len ls), s.linesOnum las, s.waitStamps las, 0, payloadValue ls))

/-- A READ executes (R25, R175, R176, R237). `again`: a duplicate (R179). -/
def Dev.doRead (s : Dev) (i : Nat) (q : Qp) (p : Pkt) (again : Bool) : Dev :=
  let last := psnAdd p.psn (q.psnsOf p - 1)
  let base := Resp.mk0 .readResponse p.psn last s.stamp q.msn
  if p.len = 0 then (s.output 1 (s.ackSynd q) i p.psn 0 0).respond i base again
  else
    let (k, bad) := s.check q.pd p.rkey p.va p.len aREAD false
    match k, bad with
    | some k, none =>
      let (t, got) := (s.regionEnter k).readSpan q.cls k p.va p.len
      match got with
      | none => t.nak i 0x63 p.psn (some k)
      | some (bs, onum, waits, marks, value) =>
        let held := !(t.reported onum)
        let u := (t.when held (·.inc .XPORT_READ_HELD_HELD)).output 1 (t.ackSynd q) i p.psn value p.len
        u.respond i { base with data := bs, region := some k, onum := if s.awaitsReport then onum else 0, waits := waits, marks := marks } again
    | _, cause => (s.accessError (p.rkey / 4096) i (cause.getD 1) p.op p.va).nak i 0x62 p.psn none

/-- A FLUSH executes (R240, R241). -/
def Dev.doFlush (s : Dev) (i : Nat) (q : Qp) (p : Pkt) (onum : Nat) (again : Bool) : Dev :=
  let base := Resp.mk0 .flushResponse p.psn p.psn s.stamp q.msn
  if p.len = 0 ∧ p.whole = false then (s.output 1 (s.ackSynd q) i p.psn 0 0).respond i base again
  else
    let r := s.rgn.region (p.rkey / 4096 % regionEntries)
    let (va, len) := if p.whole then (r.vaBase, r.length) else (p.va, p.len)
    let (k, bad) := s.check q.pd p.rkey va len aFLUSH false
    match k, bad with
    | some k, none =>
      let lo := (r.base + (va - r.vaBase)) / 64
      let hi := (r.base + (va - r.vaBase) + len - 1) / 64
      let waits := (s.gal.waiting.filter (fun w => decide (lo ≤ w.la ∧ w.la ≤ hi))).map GWait.stamp
      ((s.regionEnter k).output 1 (s.ackSynd q) i p.psn 0 0).respond i { base with onum := onum, region := some k, waits := waits } again
    | _, cause => (s.accessError (p.rkey / 4096) i (cause.getD 1) p.op p.va).nak i 0x62 p.psn none

/-- Keeps an atomic's result (R180): 16 entries, the oldest is replaced. -/
def Qp.cache (q : Qp) (psn : Nat) (v : Option Nat) : Qp :=
  let l := q.acache ++ [(psn, v)]
  { q with acache := l.drop (l.length - 16) }

/-- CmpSwap and FetchAdd execute at their stamp (R135, R237): the original value answers. -/
def Dev.doAtomic (s : Dev) (i : Nat) (q : Qp) (p : Pkt) (onum : Nat) : Dev :=
  let (k, bad) := s.check q.pd p.rkey p.va 8 aATOMIC false
  match k, bad with
  | some k, none =>
    let r := s.rgn.region k
    let off := r.base + (p.va - r.vaBase)
    let (t, vs) := ((s.regionEnter k).hostTouch true [off / 4096]).loadLines q.cls (spanLines off 8)
    match vs with
    | none => t.nak i 0x63 p.psn (some k)
    | some ls =>
      let old := leNat (cutSpan off 8 ls)
      let new := if p.op = 0x13 then p.swap else (old + p.swap) % 2 ^ 64
      let u := if p.op = 0x13 ∧ old ≠ p.cmp % 2 ^ 64 then t else t.storeSpan (.msg i p.psn) q.cls onum off (leBytes 8 new)
      let v := (u.updQp i (·.cache p.psn (some old))).output 1 (u.ackSynd q) i p.psn old 8
      v.respond i { Resp.mk0 .atomicAck p.psn p.psn s.stamp q.msn with
        data := leBytes 8 old, onum := onum, region := some k, waits := v.waitStamps (spanLines off 8) } false
  | _, cause => (s.accessError (p.rkey / 4096) i (cause.getD 1) p.op p.va).nak i 0x62 p.psn none

/-- ATOMIC WRITE executes (R242): 8 B as one unit. -/
def Dev.doAtomicWrite (s : Dev) (i : Nat) (q : Qp) (p : Pkt) (onum : Nat) : Dev :=
  let (k, bad) := s.check q.pd p.rkey p.va 8 aATOMIC false
  match k, bad with
  | some k, none =>
    let r := s.rgn.region k
    let off := r.base + (p.va - r.vaBase)
    let t := ((s.regionEnter k).hostTouch true [off / 4096]).storeSpan (.msg i p.psn) q.cls onum off p.payload
    let v := (t.updQp i (·.cache p.psn none)).output 1 (t.ackSynd q) i p.psn 0 0
    v.respond i { Resp.mk0 .atomicWriteResponse p.psn p.psn s.stamp q.msn with onum := onum, region := some k, waits := v.waitStamps (spanLines off 8) } false
  | _, cause => (s.accessError (p.rkey / 4096) i (cause.getD 1) p.op p.va).nak i 0x62 p.psn none

/-- Stamps of a QP's own writes that still wait at the galley, in a range of PSNs. -/
def Dev.ownWaits (s : Dev) (i first last : Nat) : List Nat :=
  (s.gal.waiting.filter (fun w => match w.owner with
    | .msg j n => j == i && decide (psnSub n first ≤ psnSub last first)
    | _ => false)).map GWait.stamp

/-- The last packet of a WRITE or SEND: the message is complete and its acknowledgement waits to be durable (R173, R185, R237). -/
def Dev.messageEnd (s : Dev) (i : Nat) (q : Qp) (p : Pkt) (first onum : Nat) (region imm : Option Nat) : Dev :=
  let t := (s.updQp i fun x => { x with msg := none }).output 1 (s.ackSynd q) i first 0 0
  let append := region.any fun k => (s.rgn.region k).kind == .log
  t.respond i { Resp.mk0 .ack first p.psn s.stamp (psnAdd q.msn 1) with
    onum := onum, ackReq := p.ackReq, imm := imm, region := region, waits := t.ownWaits i first p.psn, through := if append then t.jrn.pos else 0 } false

/-- The payload of a WRITE packet enters the galley at its place (R28, R235). -/
def Dev.putPayload (s : Dev) (i : Nat) (q : Qp) (p : Pkt) (k off onum : Nat) : Dev :=
  let a := (s.rgn.region k).base + off
  (s.hostTouch true (spanFolios a p.payload.length)).storeSpan (.msg i p.psn) q.cls onum a p.payload

/-- A zone reset has taken effect under an open append since its First packet (R223). -/
def Dev.zoneCut (s : Dev) (m : OpenMsg) : Bool :=
  match m.region with
  | none => false
  | some k =>
    let r := s.rgn.region k
    r.kind == .log && (match s.rgn.emptied.get? (zoneKey k (m.off / (r.zoneFolios * 4096))) with
      | some c => decide (m.cycle < c)
      | none => false)

/-- A WRITE packet executes (R174, R175, R209, R220). -/
def Dev.doWrite (s : Dev) (i : Nat) (q : Qp) (p : Pkt) (onum : Nat) : Dev :=
  let pos := packetPos p.op
  match q.msg with
  | some m =>
    match m.region with
    | none => s.took i 1 false
    | some k =>
      if s.zoneCut m then ((s.accessError k i 6 m.op m.va).updQp i fun x => { x with epsn := psnAdd x.epsn 1 }).nak i 0x62 p.psn none
      else
        let t := s.putPayload i q p k (m.off + m.got) onum
        if pos = 2 then (t.took i 1 true).messageEnd i q p m.first onum (some k) p.imm
        else (t.took i 1 false).updQp i fun x => { x with msg := some { m with got := m.got + p.payload.length } }
  | none =>
    if p.len = 0 then (s.took i 1 true).messageEnd i q p p.psn 0 none p.imm
    else
      let (k, bad) := s.check q.pd p.rkey p.va p.len aWRITE true
      match k, bad with
      | some k, none =>
        let off := p.va - (s.rgn.region k).vaBase
        let t := (((s.regionEnter k).append k off p.len)).putPayload i q p k off onum
        if pos = 3 then (t.took i 1 true).messageEnd i q p p.psn onum (some k) p.imm
        else
          let m : OpenMsg := { send := false, region := some k, off := off, len := p.len, got := p.payload.length, cycle := s.cal.cycle, bytes := [], first := p.psn, op := p.op, va := p.va }
          (t.took i 1 false).updQp i fun x => { x with msg := some m }
      | _, cause => ((s.accessError (p.rkey / 4096) i (cause.getD 1) p.op p.va).took i 1 false).nak i 0x62 p.psn none

/-- An RNR NAK: the ring is full (R186). The packet is not executed, but the expected PSN has arrived (R178). -/
def Dev.rnr (s : Dev) (i : Nat) (q : Qp) (p : Pkt) : Dev :=
  let synd := 0x20 + q.minRnr
  (((s.updQp i fun x => { x with nakSent := false }).inc .XPORT_RNR_RNR).output 1 synd i p.psn 0 0).respond i { Resp.mk0 .rnrNak p.psn p.psn s.stamp q.msn with synd := synd } false

/-- A SEND's message is whole: one ring entry (R226, R249). -/
def Dev.sendEnd (s : Dev) (i : Nat) (q : Qp) (p : Pkt) (first onum : Nat) (bs : List Byte) : Dev :=
  let t := s.took i 1 true
  let u := match q.kind, q.queue with
    | 2, some n =>
      let v := t.updQueue n fun x => { x with imms := match p.imm with | some w => x.imms.put (x.posted % x.depth) w | none => x.imms.del (x.posted % x.depth) }
      v.postDesc n onum (.msg i p.psn) bs
    | _, _ =>
      let v := t.updQp i fun x => { x with ring := x.ring.put x.asked (bs, p.imm), asked := x.asked + 1 }
      if verbMalformed bs then v.refuseMalformed (.qp i q.asked) bs onum false else v
  u.messageEnd i { (u.net.qps.get? i).getD q with msn := q.msn } p first onum none none

/-- A SEND packet executes (R172, R174, R186, R249). -/
def Dev.doSend (s : Dev) (i : Nat) (q : Qp) (p : Pkt) (onum : Nat) : Dev :=
  let pos := packetPos p.op
  match q.msg with
  | some m =>
    if pos = 2 then s.sendEnd i q p m.first onum (m.bytes ++ p.payload)
    else (s.took i 1 false).updQp i fun x => { x with msg := some { m with got := m.got + p.payload.length, bytes := m.bytes ++ p.payload } }
  | none =>
    if s.credits q = 0 then s.rnr i q p
    else if pos = 3 then s.sendEnd i q p p.psn onum p.payload
    else
      let m : OpenMsg := { send := true, region := none, off := 0, len := 4096, got := p.payload.length, cycle := s.cal.cycle, bytes := p.payload, first := p.psn, op := p.op, va := p.va }
      (s.took i 1 false).updQp i fun x => { x with msg := some m }

/-- A request with the expected PSN (R174 to R177). -/
def Dev.expected (s : Dev) (i : Nat) (q : Qp) (p : Pkt) (onum : Nat) : Dev :=
  if opAllowed p.op q.kind = false ∨ q.badRequest p = true then (s.took i 1 false).nak i 0x61 p.psn none
  else match opKind p.op with
    | .send => s.doSend i q p onum
    | .write => s.doWrite i q p onum
    | .read => (s.took i (q.psnsOf p) true).doRead i { q with msn := psnAdd q.msn 1 } p false
    | .flush => (s.took i 1 true).doFlush i { q with msn := psnAdd q.msn 1 } p onum false
    | .cmpSwap | .fetchAdd => (s.took i 1 true).doAtomic i { q with msn := psnAdd q.msn 1 } p onum
    | .atomicWrite => (s.took i 1 true).doAtomicWrite i { q with msn := psnAdd q.msn 1 } p onum
    | .acknowledge | .cnp | .discard | .invalid => s

/-! ### Duplicates (R179 to R182, R217) -/

/-- The PSN that an ACK re-sent for a duplicate carries: the most recent acknowledged one; or the duplicate's own, where R182 discarded the
response of an executed message whose effects stand (assumption 130). -/
def Qp.reAckPsn (q : Qp) (psn : Nat) : Nat := psnMax q.lastAck psn

/-- A duplicate WRITE or SEND (R179, R181): a discarded response that still waits follows when the original becomes acknowledgeable. -/
def Dev.reAckWrite (s : Dev) (i : Nat) (q : Qp) (p : Pkt) : Dev :=
  if q.resps.any (fun r => r.mute && r.kind == .ack && r.covers p.psn) then
    s.updQp i fun x => { x with resps := x.resps.map fun r => if r.kind = .ack ∧ r.covers p.psn = true then { r with mute := false } else r }
  else
    let psn := q.reAckPsn p.psn
    ((s.output 1 (s.ackSynd q) i psn 0 0).updQp i fun x => { x with reAck := some psn, lastAck := psnMax x.lastAck psn, ackable := psnMax x.ackable psn }).pumpQp i

/-- A duplicate is handled by its opcode (R179). -/
def Dev.duplicate (s : Dev) (i : Nat) (q0 : Qp) (p : Pkt) (onum : Nat) : Dev :=
  let q := { q0 with dups := sat32 (q0.dups + 1) }
  let t := s.updQp i fun x => { x with dups := q.dups }
  if opAllowed p.op q.kind = false then t.nak i 0x61 p.psn none
  else match opKind p.op with
    | .send | .write =>
      let u := t.inc .XPORT_DUP_WRITE_DUP_WRITE
      if q.pendingFor p.psn = false ∧ (packetPos p.op ≥ 2 ∨ p.ackReq = true) then u.reAckWrite i q p else u
    | .read => if q.pendingFor p.psn then t else (t.inc .XPORT_DUP_READ_DUP_READ).doRead i q p true
    | .flush => if q.pendingFor p.psn then t else (t.inc .XPORT_DUP_READ_DUP_READ).doFlush i q p onum true
    | .cmpSwap | .fetchAdd | .atomicWrite =>
      if q.pendingFor p.psn then t
      else match q.acache.find? (fun e => e.1 == p.psn) with
        | none => (t.post 0x8003 0 i p.psn 0).nak i 0x61 p.psn none
        | some e =>
          let data := (e.2.map (leBytes 8)).getD []
          let kind := if p.op = 0x1D then TxKind.atomicWriteResponse else TxKind.atomicAck
          ((t.inc .XPORT_DUP_ATOMIC_DUP_ATOMIC).output 1 (t.ackSynd q) i p.psn (e.2.getD 0) data.length).respond i
            { Resp.mk0 kind p.psn p.psn s.stamp q.msn with data := data } true
    | .acknowledge | .cnp | .discard | .invalid => t

/-! ### A host request at its stamp -/

/-- A packet found ahead (R178). -/
def Dev.ahead (s : Dev) (i : Nat) (q : Qp) : Dev :=
  if q.nakSent then s else (s.updQp i fun x => { x with nakSent := true }).nak i 0x60 q.epsn none

/-- What a host request packet does once its QP accepts it (R168, R177). -/
def Dev.classify (s : Dev) (i : Nat) (p : Pkt) (onum : Nat) : Dev :=
  let t := (s.fixClass p.qpn p.dscp (requestOpcode p.op)).updQp i fun x => { x with state := if x.state = 2 then 3 else x.state }
  match t.net.qps.get? i with
  | none => t
  | some q =>
    let d := psnSub p.psn q.epsn
    if d = 0 then t.expected i q p onum
    else if d < 2 ^ 23 then t.ahead i q
    else t.duplicate i q p onum

/-- A host request packet at its order stamp (R164, R168, R177): forwarded, then executed. `item`: as a forwarded item on a node that
follows, whose ONUM stands. A request of a lost transport engine ends in error (R29, R119). -/
def Dev.hostRequest (s : Dev) (p : Pkt) (item : Bool) : Dev :=
  match s.net.qpOf p.qpn with
  | none => if item then s else if s.portsServe then s.inc (.PORT_RX_DISCARD_RX_DISCARD p.port) else s
  | some (i, q) =>
    if s.executes q item = false then s
    else if item then (s.updQp i (·.slideEsp p)).classify i p 0
    else
      let (a, ok) := s.acceptPkt i q p
      if ok = false then a else
      if a.engineLost p.qpn = true ∧ p.psn = q.epsn then a.nak i 0x63 p.psn none else
      let (t, onum) := a.forward (.host p) (s.packetCls p.qpn p.dscp)
      let u := t.classify i p onum
      if onum ≠ 0 ∧ u.bit .TWIN_STATUS_HOLDING = true then u.inc .TWIN_HELD_RESPONSES_HELD else u

/-- A packet of a port executes at its stamp (R24, R98, R112). -/
def Dev.atPacket (s : Dev) (p : Pkt) (f : Dev → Dev) : Dev := s.atPoint (s.packetPoint p.port p.qpn p.dscp) (fun r => r.qpn == some p.qpn) f

/-- A row's packet executes only with an opcode of the row. -/
def Dev.hostRow (s : Dev) (p : Pkt) (k : OpKind) : Dev := if opKind p.op = k then s.atPacket p (·.hostRequest p false) else s

/-! ### The device as requester (R187 to R190) -/

/-- A device-requester message joins a QP (R187): zero or more packets under the next send PSNs. -/
def Dev.startReq (s : Dev) (i : Nat) (queue imm : Option Nat) (va rkey : Nat) (packets : List (List Byte)) : Dev :=
  match s.net.qps.get? i with
  | none => s
  | some q =>
    let m : ReqMsg := { first := q.spsn, last := psnAdd q.spsn (packets.length - 1), queue := queue, resent := false, va := va, rkey := rkey,
                        imm := imm, packets := packets, sent := 0 }
    (s.updQp i fun x => { x with reqs := x.reqs ++ [m], spsn := psnAdd x.spsn packets.length, unacked := if x.reqs = [] then m.first else x.unacked }).pumpReqs i

/-- Messages that an acknowledgement of a PSN retires (R187). -/
def retired (psn : Nat) (m : ReqMsg) : Bool := psnLe m.last psn

/-- Messages are acknowledged: their descriptors complete (R256). -/
def Dev.retire (s : Dev) (i psn onum : Nat) : Dev :=
  match s.net.qps.get? i with
  | none => s
  | some q =>
    let done := q.reqs.filter (retired psn)
    let rest := q.reqs.filter (fun m => !retired psn m)
    let t := s.updQp i fun x => { x with reqs := rest, unacked := ((rest.head?).map ReqMsg.first).getD x.spsn, tries := 0, rnrTries := 0, rnrWait := none }
    t.each (done.filterMap ReqMsg.queue) fun u n => u.descOver n onum

/-- Messages from a PSN on are sent again (R187). -/
def Dev.resend (s : Dev) (i psn : Nat) : Dev :=
  (s.updQp i fun q => { q with
    retries := sat32 (q.retries + 1),
    reqs := q.reqs.map fun m => if psnLe psn m.last then { m with resent := true, sent := if psnLe m.first psn then min m.sent (psnSub psn m.first) else 0 } else m }).pumpReqs i

/-- A requester action that the device decides from time or a host's answer is forwarded (R454). -/
def Dev.requesterItem (s : Dev) (what i psn : Nat) : Dev × Nat := s.forward (.requester what i psn) (((s.net.qps.get? i).map Qp.cls).getD 3)

/-- An acknowledgement for device-requester traffic (R187, R189): `ns` is the round trip that the device measured. A QP with RETRY 0 retransmits
nothing (R197): its ack timeout then ends it. -/
def Dev.ackIn (s : Dev) (p : Pkt) (ns : Nat) : Dev :=
  if s.portsServe = false ∨ p.op ≠ 0x11 then s
  else match s.net.qpOf p.qpn with
  | none => s.inc (.PORT_RX_DISCARD_RX_DISCARD p.port)
  | some (i, q) =>
    let (s, ok) := s.acceptPkt i q p
    if ok = false then s
    else if q.reqs = [] then s.inc (.PORT_RX_DISCARD_RX_DISCARD p.port)
    else if q.halt = true then s
    else
      let probe := q.reqs.any fun m => m.queue.isNone && psnLe m.first p.psn && psnLe p.psn m.last
      let fail (t : Dev) : Dev := (t.when probe fun u => u.post 0x8007 0 i p.synd 0).qpError i 0x8001 p.synd p.psn
      if p.synd / 32 = 0 then
        let (t, onum) := s.requesterItem 3 i p.psn
        let fresh := q.reqs.any (fun m => m.last == p.psn && !m.resent)
        let u := match s.curve with
          | some c => if fresh then t.updQp i fun x => x.sample c (speedMbps (s.get (.PORT_CFG_SPEED q.port))) s.evt.islandMs s.stampTicks ns else t
          | none => t
        (u.retire i p.psn onum).pumpQp i
      else if p.synd = 0x60 then if q.retry = 0 then s else (s.requesterItem 2 i p.psn).1.resend i p.psn
      else if p.synd / 32 = 1 then
        if q.rnrRetry ≠ 7 ∧ q.rnrTries ≥ q.rnrRetry then
          ((s.inc .XPORT_RETRY_EXC_RETRY_EXC)).qpError i 0x8002 q.rnrTries q.unacked
        else s.updQp i fun x => { x with rnrWait := some (p.psn, p.synd % 32), rnrTries := x.rnrTries + 1 }
      else fail s

/-- REQUESTER_TIMEOUT (R187): retransmission from the oldest unacknowledged PSN, or the end of the QP. -/
def Dev.ackTimeout (s : Dev) (i : Nat) : Dev :=
  match s.net.qps.get? i with
  | none => s
  | some q =>
    if s.serving = false ∨ q.reqs = [] ∨ q.rnrWait.isSome = true ∨ q.state ≠ 3 then s
    else if q.tries ≥ q.retry then (s.inc .XPORT_RETRY_EXC_RETRY_EXC).qpError i 0x8002 q.tries q.unacked
    else
      let (t, _) := s.requesterItem 2 i q.unacked
      (t.updQp i fun x => { x with tries := x.tries + 1 }).resend i q.unacked

/-- RNR_TIMER (R187): retransmission from the NAKed PSN. -/
def Dev.rnrTimer (s : Dev) (i : Nat) : Dev :=
  match s.net.qps.get? i with
  | none => s
  | some q => match q.rnrWait with
    | none => s
    | some (psn, _) =>
      if s.serving = false then s
      else ((s.requesterItem 2 i psn).1.updQp i fun x => { x with rnrWait := none }).resend i psn

/-- A probe is sent: a zero-length WRITE Only (R190). -/
def Dev.probeNow (s : Dev) (i : Nat) : Dev :=
  ((s.startReq i none none 0 0 [[]]).inc .XPORT_PROBES_PROBES).updQp i fun x => { x with sentSince := false, sampledSince := false }

/-- PROBE: the end of a QP's probe interval (R190). -/
def Dev.probe (s : Dev) (i : Nat) : Dev :=
  match s.net.qps.get? i, s.curve with
  | some q, some c =>
    if s.serving = false ∨ c.probeUs = 0 then s
    else if q.kind = 0 ∧ q.state = 3 ∧ q.downAt = none ∧ q.halt = false ∧ q.sentSince = true ∧ q.sampledSince = false ∧ q.reqs.length < 64 then
      ((s.requesterItem 1 i q.spsn).1).probeNow i
    else s.updQp i fun x => { x with sentSince := false, sampledSince := false }
  | _, _ => s

/-! ### Commands -/

/-- SEND (R249). -/
def execSend (p : Pkt) (w : State) : Host.Outcome State Fault Refusal := finish w fun s => (s.hostRow p .send)

/-- RDMA_WRITE (R28). -/
def execRdmaWrite (p : Pkt) (w : State) : Host.Outcome State Fault Refusal := finish w fun s => (s.hostRow p .write)

/-- RDMA_READ_REQUEST (R25). -/
def execRdmaReadRequest (p : Pkt) (w : State) : Host.Outcome State Fault Refusal := finish w fun s => (s.hostRow p .read)

/-- CMP_SWAP (R237). -/
def execCmpSwap (p : Pkt) (w : State) : Host.Outcome State Fault Refusal := finish w fun s => (s.hostRow p .cmpSwap)

/-- FETCH_ADD (R237). -/
def execFetchAdd (p : Pkt) (w : State) : Host.Outcome State Fault Refusal := finish w fun s => (s.hostRow p .fetchAdd)

/-- RDMA_FLUSH (R240). -/
def execRdmaFlush (p : Pkt) (w : State) : Host.Outcome State Fault Refusal := finish w fun s => (s.hostRow p .flush)

/-- ATOMIC_WRITE (R242). -/
def execAtomicWrite (p : Pkt) (w : State) : Host.Outcome State Fault Refusal := finish w fun s => (s.hostRow p .atomicWrite)

/-- INVALID_OPCODE (R172): an opcode that the table does not list, or does not list for the QP's kind. -/
def Dev.invalidRow (s : Dev) (p : Pkt) : Dev :=
  let kind := ((s.net.qpOf p.qpn).map fun e => e.2.kind).getD 0
  if opAllowed p.op kind then s else s.atPacket p (·.hostRequest p false)

/-- INVALID_OPCODE (R172). -/
def execInvalidOpcode (p : Pkt) (w : State) : Host.Outcome State Fault Refusal := finish w fun s => (s.invalidRow p)

/-- ACKNOWLEDGE (R187). -/
def execAcknowledge (p : Pkt) (ns : Nat) (w : State) : Host.Outcome State Fault Refusal := finish w fun s => s.atPacket p (·.ackIn p ns)

/-- CNP (R191). -/
def execCnp (p : Pkt) (w : State) : Host.Outcome State Fault Refusal := finish w fun s => s.atPacket p (·.cnp p)

/-- REQUESTER_TIMEOUT (R187). -/
def execRequesterTimeout (qp : Nat) (w : State) : Host.Outcome State Fault Refusal := finish w fun s => (s.ackTimeout qp)

/-- RNR_TIMER (R187). -/
def execRnrTimer (qp : Nat) (w : State) : Host.Outcome State Fault Refusal := finish w fun s => (s.rnrTimer qp)

/-- PROBE (R190). -/
def execProbe (qp : Nat) (w : State) : Host.Outcome State Fault Refusal := finish w fun s => (s.probe qp)

end Sys2Proof.Machine
end

