-- ==== Sys2Proof/Machine/DescOps.lean ====
section
/-!
DEFINITION. Descriptors of the device queues (08_persistence_and_ordering.md R250 to R258) and the end of requests that hold up a
revocation (R216).
-/

namespace Sys2Proof.Machine

open Sys2Proof

/-! ### Fields of a descriptor (R250) -/

def dOP (b : List Byte) : Nat := leAt b 0 1
def dFLAGS (b : List Byte) : Nat := leAt b 1 1
def dLEVEL (b : List Byte) : Nat := leAt b 2 1
def dLENGTH (b : List Byte) : Nat := leAt b 8 8
def dSRCKEY (b : List Byte) : Nat := leAt b 0x10 4
def dQP (b : List Byte) : Nat := leAt b 0x14 4
def dSRCVA (b : List Byte) : Nat := leAt b 0x18 8
def dDSTKEY (b : List Byte) : Nat := leAt b 0x20 4
def dIMM (b : List Byte) : Nat := leAt b 0x24 4
def dDSTVA (b : List Byte) : Nat := leAt b 0x28 8
def dWAITQ (b : List Byte) : Nat := leAt b 0x30 2
def dTIMEOUT (b : List Byte) : Nat := leAt b 0x32 2
def dWAITVALUE (b : List Byte) : Nat := leAt b 0x38 8

/-! ### Start (R251, R252) -/

/-- A queue has a descriptor to execute and is not stopped (R252, R254). -/
def DevQ.live (q : DevQ) : Bool := !q.error && !q.again && decide (q.posted > q.completed)

/-- A queue may execute: it has a descriptor, in a mode that runs queues (R252, R254, R258). -/
def Dev.queueReady (s : Dev) (q : DevQ) : Bool := s.queuesGo && q.live

/-- The descriptor that a queue executes: the one begun, or the one that its ring holds (R247); none where the ring's line cannot be read. -/
def Dev.nextDesc (s : Dev) (q : DevQ) : Dev × Option (List Byte) :=
  match q.run with
  | some r => (s, some r.bytes)
  | none =>
    let (t, vs) := s.loadLines q.cls [q.entry q.completed / 64]
    (t, vs.map fun ls => cutSpan (q.entry q.completed) 64 ls)

/-- An access check of a descriptor (R209, R251): with the DEVQ right; a failure is charged as R210 says. -/
def Dev.descCheck (s : Dev) (n : Nat) (q : DevQ) (rkey va len right : Nat) (append : Bool) : Dev × Option Nat :=
  let (k, bad) := s.check q.pd rkey va len (right + aDEVQ) append
  match k, bad with
  | some k, none =>
    ((s.regionEnter k).updQueue n fun x => { x with run := x.run.map fun r => { r with regions := r.regions ++ [k] } }, some k)
  | _, cause => ((s.accessError (rkey / 4096) (q.qp.getD 0) (cause.getD 1) 0 va).failQueue n (cause.getD 1), none)

/-- Range offset of a VA in a region. -/
def Dev.offsetOf (s : Dev) (k va : Nat) : Nat := (s.rgn.region k).base + (va - (s.rgn.region k).vaBase)

/-- The start checks of a COPY (R251). -/
def Dev.startCopy (s : Dev) (n : Nat) (q : DevQ) (b : List Byte) : Dev :=
  let len := dLENGTH b
  let (t, src) := s.descCheck n q (dSRCKEY b) (dSRCVA b) len aREAD false
  match src with
  | none => t
  | some k =>
    let (u, dst) := t.descCheck n q (dDSTKEY b) (dDSTVA b) len aWRITE true
    match dst with
    | none => u
    | some d =>
      let a := u.offsetOf k (dSRCVA b)
      let c := u.offsetOf d (dDSTVA b)
      if a < c + len ∧ c < a + len then u.failQueue n 18
      else u.append d (dDSTVA b - (u.rgn.region d).vaBase) len

/-- The next lines of a COPY (R252): each is read and its bytes are written to the destination. -/
def Dev.copyLines (s : Dev) (n cnt onum : Nat) : Dev :=
  s.each (List.range cnt) fun t _ =>
    match t.queue n with
    | none => t
    | some q => match q.run with
      | none => t
      | some r =>
        let b := r.bytes
        let len := dLENGTH b
        match r.regions with
        | [k, d] =>
          let a := t.offsetOf k (dSRCVA b)
          let c := t.offsetOf d (dDSTVA b)
          let lo := copyDone a len r.done
          let hi := copyDone a len (r.done + 1)
          if r.ended ∨ lo ≥ len then t
          else
            let (u, vs) := t.loadLines q.cls (spanLines (a + lo) (hi - lo))
            match vs with
            | none => u.failQueue n 16
            | some ls =>
              let v := (u.storeSpan (.desc n) q.cls onum (c + lo) (u.logMask k (dSRCVA b - (u.rgn.region k).vaBase + lo) (cutSpan (a + lo) (hi - lo) ls))).updQueue n fun x =>
                { x with run := x.run.map fun y => { y with done := y.done + 1, last := s.stamp } }
              if hi ≥ len then v.descOver n onum else v
        | _ => t

/-- A PUSH (R251): the source is read and sent as one RDMA WRITE message. -/
def Dev.doPush (s : Dev) (n : Nat) (q : DevQ) (b : List Byte) : Dev :=
  let len := dLENGTH b
  match s.net.qps.get? (dQP b) with
  | none => s.failQueue n 17
  | some x =>
    if x.kind ≠ 0 ∨ x.pd ≠ q.pd ∨ x.state ≠ 3 ∨ x.downAt.isSome = true ∨ x.halt = true then s.failQueue n 17
    else
      let (t, src) := s.descCheck n q (dSRCKEY b) (dSRCVA b) len aREAD false
      match src with
      | none => t
      | some k =>
        let a := t.offsetOf k (dSRCVA b)
        let (u, vs) := t.loadLines q.cls (spanLines a len)
        match vs with
        | none => u.failQueue n 16
        | some ls =>
          let bs := u.logMask k (dSRCVA b - (u.rgn.region k).vaBase) (cutSpan a len ls)
          let packets := (List.range (ceilDiv len x.mtuBytes)).map fun j => (bs.drop (j * x.mtuBytes)).take x.mtuBytes
          let imm := if bitOf (dFLAGS b) 0 then some (dIMM b) else none
          ((u.output 2 0 (dQP b) x.spsn (payloadValue ls) len).updQueue n fun y => { y with run := y.run.map fun r => { r with done := 1 } }).startReq
            (dQP b) (some n) imm (dDSTVA b) (dDSTKEY b) packets

/-- Every folio of a span holds in T2 what was current at a stamp (R251): none is dirty, and no earlier write of it is still in the galley. -/
def Dev.homeSince (s : Dev) (off len stamp : Nat) : Bool :=
  (spanFolios off len).all fun f =>
    !(s.tier.entry f).dirty && !(s.gal.entries.any (fun e => e.2.la / 64 == f && decide (e.2.stamp < stamp)))

/-- A FLUSH descriptor looks whether its span is durable, and at LEVEL 1 home (R240, R251). -/
def Dev.doFlushDesc (s : Dev) (n : Nat) (r : DescRun) : Dev :=
  match r.regions with
  | [k] =>
    let a := s.offsetOf k (dSRCVA r.bytes)
    let las := spanLines a (dLENGTH r.bytes)
    let waits := s.gal.waiting.any (fun w => las.contains w.la && decide (w.stamp < r.start))
    if waits ∨ (dLEVEL r.bytes = 1 ∧ s.homeSince a (dLENGTH r.bytes) r.start = false) then s else s.descOver n 0
  | _ => s

/-- A DISCARD descriptor (R251, R389): whole folios are discarded, bytes of partial folios are written with 0. -/
def Dev.doDiscard (s : Dev) (n : Nat) (q : DevQ) (b : List Byte) (onum : Nat) : Dev :=
  let len := dLENGTH b
  let (t, dst) := s.descCheck n q (dSRCKEY b) (dSRCVA b) len aWRITE false
  match dst with
  | none => t
  | some k =>
    if (t.rgn.region k).kind = .log then t.failQueue n 6
    else
      let a := t.offsetOf k (dSRCVA b)
      let lo := ceilDiv a 4096
      let hi := (a + len) / 4096
      let u := if lo < hi then t.discard fun f => decide (lo ≤ f ∧ f < hi) else t
      let zero (v : Dev) (x y : Nat) : Dev := if x < y then v.storeSpan (.desc n) q.cls onum x (List.replicate (y - x) 0) else v
      let w := if lo < hi then zero (zero u a (lo * 4096)) (hi * 4096) (a + len) else zero u a (a + len)
      w.descOver n onum

/-- A WAIT reads the watched count at its start (R254, R255). -/
def Dev.startWait (s : Dev) (n : Nat) (b : List Byte) : Dev :=
  match s.queue (dWAITQ b) with
  | none => if dWAITVALUE b = 0 then s.descOver n 0 else s.failQueue n 19
  | some w =>
    if w.completed ≥ dWAITVALUE b then s.descOver n 0
    else if w.error ∨ dWAITQ b = n then s.failQueue n 19
    else s.updQueue n fun x => { x with waiting := true, waitMs := s.evt.islandMs }

/-- A descriptor starts (R252): its stamp, its checks, and what it does at once. -/
def Dev.startDesc (s : Dev) (n : Nat) (q : DevQ) (b : List Byte) (onum : Nat) : Dev :=
  let run : DescRun := { index := q.completed, bytes := b, start := s.stamp, done := 0, regions := [], last := s.stamp, ended := false, onum := onum }
  let t := s.updQueue n fun x => { x with run := some run }
  let sized := [1, 2, 3, 4].contains (dOP b)
  if dOP b > 5 then t.failQueue n 23
  else if sized = true ∧ dLENGTH b > 2 ^ 31 then t.failQueue n 21
  else if sized = true ∧ dLENGTH b = 0 then t.descOver n onum
  else match dOP b with
    | 0 => t.descOver n onum
    | 1 => t.startCopy n q b
    | 2 => t.doPush n q b
    | 3 => (t.descCheck n q (dSRCKEY b) (dSRCVA b) (dLENGTH b) aFLUSH false).1
    | 4 => t.doDiscard n q b onum
    | _ => t.startWait n b

/-- A PUSH whose QP holds 64 messages waits (R187). -/
def Dev.pushWaits (s : Dev) (b : List Byte) : Bool :=
  dOP b == 2 && ((s.net.qps.get? (dQP b)).map (fun x => decide (x.reqs.length ≥ 64))).getD false

/-- A port is enabled and has not been retired (R253). -/
def Dev.portInService (s : Dev) (p : Nat) : Bool := s.bit (.PORT_CFG_ENABLED p) && !([2, 3].contains (s.integ.states.getD (0x0400 + p) 0))

/-- The port whose point a queue's requests enter (R253): that of its DEVQ QP; with none bound the recorded one, or the lowest-numbered in service. -/
def Dev.queuePort (s : Dev) (q : DevQ) : Nat :=
  match q.qp.bind s.net.qps.get? with
  | some x => x.port
  | none => if s.portInService q.port then q.port else ((List.range 8).find? s.portInService).getD q.port

/-- The admission point of a queue's requests (R253). -/
def Dev.queuePoint (s : Dev) (q : DevQ) : Nat := 4 * s.queuePort q + q.cls

/-- A queue waits while its point is full, where none of its requests has been stamped (R253). -/
def Dev.queueStalls (s : Dev) (n : Nat) (q : DevQ) : Bool :=
  let k := s.queuePoint q
  !s.cal.requests.any (fun r => r.point == k && r.qpn.isNone && r.id == n) &&
    (match s.admission k with
     | some d => decide ((s.cal.queue k).length ≥ d.depth)
     | none => false)

/-- A queue goes on with its descriptor at the current stamp: it starts it, and moves `lines` lines of a COPY or looks again for a FLUSH. `ops`: the
opcodes of the row. -/
def Dev.descStep (s : Dev) (n lines : Nat) (ops : Nat → Bool) (item : Bool) : Dev :=
  match s.queue n with
  | none => s
  | some q =>
    if s.queueReady q = false ∨ s.follower ≠ item then s
    else
      let (s1, b) := s.nextDesc q
      match b with
      | none =>
        let r : DescRun := { index := q.completed, bytes := [], start := s.stamp, done := 0, regions := [], last := s.stamp, ended := false, onum := 0 }
        (s1.updQueue n fun x => { x with run := some r }).failQueue n 16
      | some b =>
        if ops (dOP b) = false ∨ (q.run.isNone = true ∧ s1.pushWaits b = true) then s
        else
          let (s2, onum) := s1.forward (.requester 0 n lines) q.cls
          let s3 := if q.run.isNone then s2.startDesc n q b onum else s2
          match ((s3.queue n).bind DevQ.run) with
          | none => s3
          | some r =>
            if r.ended then s3
            else if dOP b = 1 then s3.copyLines n lines onum
            else if dOP b = 3 then s3.doFlushDesc n r
            else s3

/-- Runs an internal request of a queue, at the point of the queue's class on its port (R253), where the queue executes. -/
def Dev.queueAt (s : Dev) (n : Nat) (f : Dev → Dev) : Dev :=
  match s.queue n with
  | none => s
  | some q =>
    if s.queueStalls n q = true ∨ q.live = false ∨ s.follower = true ∨ (s.queuesRun = false ∧ s.cal.stopStamp = none) then s
    else s.atPoint (s.queuePoint q) (fun r => r.qpn.isNone && r.id == n) f

/-- What a queue's descriptor in progress has still to do: its opcode, 64 B lines of its source, and whether its own effect is over. -/
def Dev.descNow (s : Dev) (n : Nat) : Option (Nat × Nat × Bool) :=
  ((s.queue n).bind DevQ.run).map fun r => (dOP r.bytes, (spanLines (dSRCVA r.bytes) (dLENGTH r.bytes)).length, r.ended)

/-- The next line of a COPY (R252): its read and its write are internal requests of their own. Nothing runs between the two, so the line is read
where it is written (DEDUCED). -/
def Dev.copyNext (s : Dev) (n : Nat) : Dev :=
  match s.descNow n with
  | some (1, _, false) => (s.queueAt n id).queueAt n (·.descStep n 1 (· == 1) false)
  | _ => s

/-- A row of R251: the queue's descriptor starts where it has not, at a stamp of its own, a FLUSH looks again; then `lines` lines of a COPY, and every
line that a PUSH reads, take stamps of their own (R252, R253). -/
def Dev.descRow (s : Dev) (n lines : Nat) (ops : Nat → Bool) : Dev :=
  let fresh := (s.descNow n).isNone
  let t := if fresh ∨ ops 1 = false then s.queueAt n (·.descStep n 0 ops false) else s
  match t.descNow n with
  | some (1, _, _) => t.each (List.range lines) fun u _ => u.copyNext n
  | some (2, reads, _) => if fresh then t.each (List.range reads) fun u _ => u.queueAt n id else t
  | _ => t

/-- WAIT_TIMEOUT (R255): only the active measures it; the expiry is forwarded. -/
def Dev.waitTimeout (s : Dev) (n : Nat) : Dev :=
  match s.queue n with
  | none => s
  | some q =>
    let ms := ((q.run.map fun r => dTIMEOUT r.bytes)).getD 0
    if s.serving = true ∧ q.waiting = true ∧ ms ≠ 0 ∧ s.evt.islandMs ≥ q.waitMs + ms ∧ (q.run.map DescRun.ended).getD true = false then
      ((s.forward (.timeout n) q.cls).1).failQueue n 20
    else s

/-! ### Forced revocation (R216) -/

/-- REVOKE_FORCED: requests that a REVOKING region still counts end in error, and IN_FLIGHT is 0: the next boundary completes the revocation
(R215). -/
def Dev.forceRevoke (s : Dev) (i : Nat) : Dev :=
  let r := s.rgn.region i
  if r.state ≠ .revoking ∨ r.inFlight = 0 ∨ (s.follower = true ∧ s.twin.revokes.contains i = true) then s
  else
    let s1 := s.each s.net.qps fun t e =>
      let mine := e.2.resps.filter (fun x => x.region == some i)
      let open_ := (e.2.msg.bind OpenMsg.region) == some i
      if mine = [] ∧ open_ = false then t
      else
        let psn := ((mine.head?).map Resp.first).getD e.2.epsn
        ((t.updQp e.1 fun q => { q with resps := q.resps.filter (fun x => x.region != some i) }).nak e.1 0x63 psn none)
    let s2 := s1.each (s.dq.filter (fun e => (e.2.run.map fun x => x.regions.contains i).getD false)) fun t e => t.failQueue e.1 22
    let s3 := s2.updRegion i fun x => { x with inFlight := 0, forced := r.inFlight }
    let s4 := (s3.evqRecord r.pd 10 i 0 0 0 0).inc .REGION_REVOKE_FORCED_FORCED r.inFlight
    s4.post 0x9005 0 i r.inFlight 0

/-! ### Commands -/

/-- DESC_NOP (R251); an OP above 5 fails here with cause OPCODE (R254). -/
def execDescNop (queue : Nat) (w : State) : Host.Outcome State Fault Refusal := finish w fun s => (s.descRow queue 0 (fun o => o == 0 || decide (o > 5)))

/-- DESC_COPY (R251, R252): `lines` more lines of the queue's COPY. -/
def execDescCopy (queue lines : Nat) (w : State) : Host.Outcome State Fault Refusal := finish w fun s => (s.descRow queue lines (· == 1))

/-- DESC_PUSH (R251). -/
def execDescPush (queue : Nat) (w : State) : Host.Outcome State Fault Refusal := finish w fun s => (s.descRow queue 0 (· == 2))

/-- DESC_FLUSH (R251). -/
def execDescFlush (queue : Nat) (w : State) : Host.Outcome State Fault Refusal := finish w fun s => (s.descRow queue 0 (· == 3))

/-- DESC_DISCARD (R251). -/
def execDescDiscard (queue : Nat) (w : State) : Host.Outcome State Fault Refusal := finish w fun s => (s.descRow queue 0 (· == 4))

/-- DESC_WAIT (R255). -/
def execDescWait (queue : Nat) (w : State) : Host.Outcome State Fault Refusal := finish w fun s => (s.descRow queue 0 (· == 5))

/-- WAIT_TIMEOUT (R255). -/
def execWaitTimeout (queue : Nat) (w : State) : Host.Outcome State Fault Refusal := finish w fun s => (s.waitTimeout queue)

/-- REVOKE_FORCED (R216). -/
def execRevokeForced (region : Nat) (w : State) : Host.Outcome State Fault Refusal := finish w fun s => (s.forceRevoke region)

end Sys2Proof.Machine
end

