-- ==== Sys2Proof/Machine/Keys.lean ====
section
/-!
DEFINITION. Events of the key store and the cipher (16_cipher_and_keys.md): usage, rekeys and their scans, known-answer tests, entropy.
-/

namespace Sys2Proof.Machine

open Sys2Proof

/-! ### Rekey scans (R511) -/

/-- The map entries of a domain from a folio on, ascending. -/
def Dev.domainFolios (s : Dev) (d from_ : Nat) : List (Nat × MapEntry) :=
  s.tier.map.filter fun e => decide (e.1 ≥ from_) && s.keys.domainOf e.1 == d

/-- The EPOCH under which a HOME's slot is sealed. -/
def Dev.homeEpoch (s : Dev) (e : MapEntry) : Option Nat := (e.home.bind s.fm.slots.get?).map T2Slot.epoch

/-- One folio of a scan (R511 step 3): a HOME or CLEAN one sealed under PREV_EPOCH is sealed again, and its new slot commits where HOME is still the
source (R376); a DIRTY or STAGED one is made due for destage. Answers whether it was sealed again. -/
def Dev.rekeyFolio (s : Dev) (dom : KeyDomain) (f : Nat) (e : MapEntry) : Dev × Bool :=
  match e.state, e.home with
  | .home, some h | .clean, some h =>
    match s.fm.slots.get? h with
    | none => (s, false)
    | some v =>
      if v.epoch ≠ dom.prevEpoch ∨ v.source.isSome = true then (s, false)
      else
        let (t, ok) := s.encrypt dom.curSlot sealBlocks
        if ok = false then (t, false)
        else
          let (u, o) := t.placeSlot .relocation { v with epoch := dom.curEpoch, source := some h } (some (t.keys.domainOf f))
          (if o.isSome then u.inc .KEY_REKEY_FOLIOS_REKEYED else u, o.isSome)
  | .dirty, _ | .staged, _ => (s.modTier fun t => { t with dirty := if t.dirty.contains f then f :: t.dirty.erase f else t.dirty }, false)
  | _, _ => (s, false)

/-- One boundary's part of a domain's scan (R511 step 3): `quota` folios; the position is journaled every 1,024 folios. -/
def Dev.scanDomain (s : Dev) (d quota : Nat) : Dev :=
  match s.keys.scans.get? d with
  | none => s
  | some (next, done) =>
    let dom := s.keys.dom d
    let part := (s.domainFolios d next).take quota
    let (t, n) := part.foldl (fun (a : Dev × Nat) e =>
      let (u, again) := a.1.rekeyFolio dom e.1 e.2
      (u, a.2 + b2n again)) (s, 0)
    let next2 := ((part.getLast?).map (fun e => e.1 + 1)).getD (if quota = 0 then next else 2 ^ 34)
    let u := t.modKeys fun k => { k with scans := k.scans.put d (next2, done + n) }
    if (next2 / 1024 ≠ next / 1024) then u.setDomain d dom else u

/-- Folios that the scans may take in the cycle that ends: REKEY_MBPS over 4,160 B each, in whole folios of the running total (R511). -/
def scanQuota (mbps cycle : Nat) : Nat := (cycle + 1) * mbps * 2048 / 4160000 - cycle * mbps * 2048 / 4160000

/-- The scans of a boundary, each within the quota, in the refresh position of R378: where no earlier kind of relocation is ready (R511). -/
def Dev.scanStep (s : Dev) : Dev :=
  if s.inMode [mSOLO, mACTIVE, mSTANDBY, mRESYNC] = true ∧ (s.nextMove.all fun h => decide (s.moveRank h ≥ 3)) = true then
    let q := scanQuota (s.get .KEY_CFG_REKEY_MBPS) s.cal.cycle
    s.each (s.keys.scans.map Prod.fst) fun t d => t.scanDomain d q
  else s

/-- The scan of a domain has passed its last folio, and no HOME names a slot sealed under PREV_EPOCH (R511 step 4). -/
def Dev.scanOver (s : Dev) (d : Nat) : Bool :=
  match s.keys.scans.get? d with
  | none => false
  | some (next, _) =>
    let dom := s.keys.dom d
    dom.state == .rekeying && (s.domainFolios d next).isEmpty && !(s.domainFolios d 0).any (fun e => s.homeEpoch e.2 == some dom.prevEpoch)

/-- REKEY_SCAN_DONE (R511 step 4): the old slot is destroyed and the domain is KEYED. -/
def Dev.endScan (s : Dev) (d : Nat) : Dev :=
  if s.scanOver d = false then s
  else
    let dom := s.keys.dom d
    let n := ((s.keys.scans.get? d).map Prod.snd).getD 0
    let t := (s.destroySlot dom.prevSlot).setDomain d { dom with state := .keyed, prevSlot := 0, prevEpoch := 0 }
    (((t.modKeys fun k => { k with scans := k.scans.del d }).post 0xB005 0 d n dom.prevSlot)).retryRekeys

/-- Scans that have ended complete at the boundary. -/
def Dev.endScans (s : Dev) : Dev := s.each (s.keys.scans.map Prod.fst) fun t d => t.endScan d

/-! ### Destruction of a domain (R513) -/

/-- KD_DESTROY takes effect at its boundary (R513): the domain is PURGING, its folios discarded, its slots destroyed, and its purge waits. -/
def Dev.destroyDomain (s : Dev) (d : Nat) : Dev :=
  let dom := s.keys.dom d
  let ext := (s.keys.extents.filter (fun e => e.2 == d)).length
  let t := (s.setDomain d { dom with state := .purging }).discard fun f => s.keys.domainOf f == d
  let u := t.destroySlot dom.curSlot
  let v := if dom.state = .rekeying then u.destroySlot dom.prevSlot else u
  ((v.modKeys fun k => { k with scans := k.scans.del d, waits := k.waits.erase d }).modFm fun f => { f with purges := f.purges ++ [d] }).post
    0xB007 0 d ext dom.curEpoch

/-! ### Known-answer tests and entropy (R493, R496) -/

/-- KAT_FAIL (R493): a failed vector of a mode on a core is a SELF_TEST fault of its cluster. -/
def Dev.katFail (s : Dev) (core mode : Nat) : Dev :=
  let unit := 0x0700 + core
  let f : FaultOp := { unit := unit, kind := 13, recovered := false, tick := s.stamp % 4096, bank := 0, row := 0, col := 0, pos := 0, synd := 0, sub := 0, la := none }
  if core < 28 then ((s.set .CIPHER_STATUS_KAT_FAIL 1).post 0xB008 unit unit mode 0).countFault f false false else s

/-- ENTROPY_HEALTH_FAIL (R496): 1 repetition count, 2 adaptive proportion. -/
def Dev.healthFail (s : Dev) (test : Nat) : Dev :=
  let t := if test = 1 then s.set .ENTROPY_STATUS_RCT_FAIL 1 else s.set .ENTROPY_STATUS_APT_FAIL 1
  (t.setL [(.ENTROPY_STATUS_HEALTHY, 0), (.CIPHER_STATUS_ENTROPY_FAIL, 1)]).post 0xB009 0 test 1 0

/-- ENTROPY_RETEST (R496): the retest each second; a pass clears the failure, and the reseed that follows clears MASK_DEGRADED. -/
def Dev.retest (s : Dev) (pass : Bool) : Dev :=
  if s.bit .CIPHER_STATUS_ENTROPY_FAIL = false then (if pass then s.set .ENTROPY_STATUS_HEALTHY 1 else s)
  else if pass = false then s
  else
    let which := if s.bit .ENTROPY_STATUS_RCT_FAIL then 1 else 2
    let t := (s.setL [(.CIPHER_STATUS_ENTROPY_FAIL, 0), (.ENTROPY_STATUS_HEALTHY, 1)]).post 0xB009 0 which 0 0
    if t.keys.draws ≥ 2 ^ 20 then
      let u := (t.modKeys fun k => { k with draws := 0 }).inc .ENTROPY_RESEEDS_RESEEDS
      if u.bit .CIPHER_STATUS_MASK_DEGRADED then (u.set .CIPHER_STATUS_MASK_DEGRADED 0).post 0xB00B 0 0 0 0 else u
    else t

/-- MASK_DEGRADE (R496): 2³² generate requests have passed without a reseed, masks among them, which the model does not draw one by one. -/
def Dev.degradeMasks (s : Dev) : Dev :=
  if s.bit .CIPHER_STATUS_ENTROPY_FAIL = true ∧ s.bit .CIPHER_STATUS_MASK_DEGRADED = false then
    ((s.set .CIPHER_STATUS_MASK_DEGRADED 1).modKeys fun k => { k with draws := max k.draws (2 ^ 32) }).post 0xB00B 0 1 0 0
  else s

/-- A cycle's KEY_LOAD entries bring the keys that the cores wait for (R500); KEY_LOADS counts the keys moved (assumption 133). -/
def Dev.keyLoads (s : Dev) : Dev :=
  s.each (s.keys.cores.filter fun e => e.2.wants != []) fun t e =>
    let (k, l) := CoreKeys.load e.2 (t.opTicks (0x40 + e.1) [2]) e.2.wants
    (t.modKeys fun x => { x with cores := x.cores.put e.1 k }).inc .KEY_LOADS_LOADS ((l.map fun n => (t.keys.slot n).loaded.length).sum)

/-- A cycle's TEST entries run known-answer tests in rotation on each core in service (R493). -/
def Dev.katSteps (s : Dev) : Dev :=
  s.each s.coresUp fun t c =>
    let n := t.opTicks (0x40 + c) [3]
    if n = 0 then t
    else
      let per := max 1 Config.katTicks
      let k := t.keys.kats.getD c 0 + n
      (t.modKeys fun x => { x with kats := x.kats.put c (k % per) }).inc .KEY_KAT_RUNS_KATS (k / per)

/-! ### Commands -/

/-- USAGE_THRESHOLD (R505): an encrypting stream of `blocks` blocks on a slot, whose usage crosses what it crosses. -/
def execUsageThreshold (slot blocks : Nat) (w : State) : Host.Outcome State Fault Refusal := finish w fun s => (s.encrypt slot blocks).1

/-- FORCED_REKEY (R507): the device starts a rekey of a domain whose slot has reached AUTO_PCT. -/
def execForcedRekey (domain : Nat) (w : State) : Host.Outcome State Fault Refusal := finish w fun s =>
  let v := s.keys.slot (s.keys.dom domain).curSlot
  if v.reached (if v.autoPct = 0 then 100 else v.autoPct) then s.forceRekey domain else s

/-- REKEY_SCAN_DONE (R511). -/
def execRekeyScanDone (domain : Nat) (w : State) : Host.Outcome State Fault Refusal := finish w fun s => (s.endScan domain)

/-- KAT_FAIL (R493). -/
def execKatFail (core mode : Nat) (w : State) : Host.Outcome State Fault Refusal := finish w fun s => (s.katFail core mode)

/-- ENTROPY_HEALTH_FAIL (R496). -/
def execEntropyHealthFail (test : Nat) (w : State) : Host.Outcome State Fault Refusal := finish w fun s => (s.healthFail test)

/-- ENTROPY_RETEST (R496). -/
def execEntropyRetest (pass : Bool) (w : State) : Host.Outcome State Fault Refusal := finish w fun s => (s.retest pass)

/-- MASK_DEGRADE (R496). -/
def execMaskDegrade (w : State) : Host.Outcome State Fault Refusal := finish w fun s => s.degradeMasks

end Sys2Proof.Machine
end

