-- ==== Sys2Proof/Machine/Verbs.lean ====
section
/-!
DEFINITION. The verbs of R229, R259 and R515: their checks in order of their fields, their effects and their answers. The
mode and Impress verbs are in Modes.lean.
-/

namespace Sys2Proof.Machine

open Sys2Proof

/-- Answers a verb OK. -/
def Dev.verbOk (s : Dev) (c : Call) (body : List Byte) : Dev := s.reply c.who c.op c.tag 0 0 c.onum body

/-- Answers a verb OK once what it wrote to a status line is durable too (R233, R259). -/
def Dev.verbDone (s : Dev) (c : Call) (body : List Byte) : Dev := s.replyAfter s.ownWaiting c.who c.op c.tag 0 0 c.onum body

/-- Refuses a verb with a status and the offset of the first bad field (R224, R225). -/
def Dev.verbNo (s : Dev) (c : Call) (status detail : Nat) : Dev := s.reply c.who c.op c.tag status detail c.onum []

/-- The verb as a queue keeps it whose answer waits. -/
def Call.ref (c : Call) : VerbRef := { who := c.who, op := c.op, tag := c.tag }

/-- The first of a list of tests that fails: its status and offset. -/
def firstBad : List (Bool × Nat × Nat) → Option (Nat × Nat)
  | [] => none
  | (bad, st, d) :: t => if bad then some (st, d) else firstBad t

/-- A verb whose field checks come first: refused at the first bad field, else it acts. -/
def Dev.checked (s : Dev) (c : Call) (l : List (Bool × Nat × Nat)) (act : Dev → Dev) : Dev :=
  match firstBad l with
  | some (st, d) => s.verbNo c st d
  | none => act s

/-! ### Callers (R199, R229) -/

/-- The PD to which a caller that holds only CONTROL is bound; none for ADMIN. -/
def Dev.boundPd (s : Dev) (who : Caller) : Option Nat :=
  match who with
  | .qp i _ => if (s.callerCaps who).testBit 1 then none else (s.net.qps.get? i).map Qp.pd
  | _ => none

/-- A caller may not name a PD. -/
def Dev.foreign (s : Dev) (c : Call) (pd : Nat) : Bool :=
  match s.boundPd c.who with
  | some p => p != pd
  | none => false

/-- A PD field is wrong: 0, not allocated, or not the caller's (R225, R232). -/
def Dev.badPd (s : Dev) (c : Call) (pd : Nat) : Bool := pd == 0 || (s.rgn.pd pd).isNone || s.foreign c pd

/-! ### PDs (R198 to R200, R218, R229) -/

/-- PD_CREATE (R198, R200, R211, R496): the PD is allocated from the next boundary (R213). -/
def Dev.pdCreate (s : Dev) (c : Call) : Dev :=
  let caps := c.at_ 0 4
  if caps ≥ 4 then s.verbNo c 8 0
  else if s.bit .CIPHER_STATUS_ENTROPY_FAIL then s.verbNo c 7 0
  else match s.rgn.pds.firstGap 1 65536 with
    | none => s.verbNo c 4 0
    | some n =>
      match s.areaRegion n .eventq 2112 with
      | (_, none) => s.verbNo c 4 0
      | (t, some k) =>
        let (token, u) := t.random 64
        let p : Pd := { caps := caps, nextCaps := none, coming := true, token := token, evq := k, producer := 0, overflow := 0, records := [], marks := 0, dying := none }
        ((u.setPd n (some p)).post 0x9006 0 n 1 caps).verbOk c (leBytes 4 n ++ leBytes 8 token ++ leBytes 4 ((u.rgn.region k).key k))

/-- PD_DESTROY (R218): refused while a QP or a region is open. -/
def Dev.pdDestroy (s : Dev) (c : Call) : Dev :=
  let n := c.at_ 0 4
  let busy := s.net.qps.any (fun e => e.2.pd == n) ||
    s.rgn.regions.any (fun e => e.2.pd == n && (e.2.kind == .ordinary || e.2.kind == .log) && (e.2.state == .live || e.2.state == .revoking))
  match s.rgn.pd n with
  | none => s.verbNo c 5 0
  | some p =>
    if n = 0 then s.verbNo c 5 0
    else if busy ∨ p.dying.isSome = true then s.verbNo c 7 0
    else
      let open_ := s.rgn.regions.filter (fun e => e.2.pd == n && e.2.state == .live)
      let t := s.modRgn fun x => { x with pds := x.pds.put n { p with dying := some c.ref } }
      t.each open_ fun u e => u.beginRevoke e.1 none

/-- PD_SET_CAPS (R229): from the next boundary, which journals the change and answers it (R208, R228). -/
def Dev.pdSetCaps (s : Dev) (c : Call) : Dev :=
  let n := c.at_ 0 4
  s.checked c [(s.badPd c n, 5, 0), (decide (c.at_ 4 4 ≥ 4), 8, 4)] fun t =>
    t.modRgn fun x => { x with pds := x.pds.upd n fun p => { p with nextCaps := some (c.at_ 4 4) }, capsVerbs := x.capsVerbs ++ [c.ref] }

/-- The capabilities of a boundary take effect and are journaled; control QPs of a PD that has lost both are torn down (R229), and the verbs are
answered (R208). PDs created in the cycle that ends are allocated (R213). -/
def Dev.capsStep (s : Dev) : Dev :=
  let s0 := s.modRgn fun r => { r with pds := r.pds.map fun e => (e.1, { e.2 with coming := false }), capsVerbs := [] }
  let s1 := s0.each s0.rgn.pds fun t e =>
    match e.2.nextCaps with
    | none => t
    | some caps =>
      let u := t.setPd e.1 (some { e.2 with caps := caps, nextCaps := none })
      if caps = 0 then u.each (u.net.qps.filter (fun q => q.2.pd == e.1 && q.2.kind == 1)) (fun v q => v.teardown q.1) else u
  s1.each s.rgn.capsVerbs fun t v => t.reply v.who v.op v.tag 0 0 t.lastOnum []

/-! ### Regions and zones (R205, R206, R213, R214, R219, R223) -/

/-- Bytes of the exposed range. -/
def Dev.exposedBytes (s : Dev) : Nat := ((s.forme.run.map (fun f => f.fixed.exposed)).getD 0) * 4096

/-- Every extent that a span touches belongs to a domain (R206). -/
def Dev.extentsOf (s : Dev) (off len dom : Nat) : Bool :=
  let first := off / 2 ^ 26
  let n := ceilDiv (off + len) (2 ^ 26) - first
  if dom = 0 then !s.keys.extents.any (fun e => decide (first ≤ e.1 ∧ e.1 < first + n))
  else decide ((s.keys.extents.filter (fun e => decide (first ≤ e.1 ∧ e.1 < first + n) && e.2 == dom)).length = n)

/-- A domain in which a span may be registered (R206, R509). -/
def Dev.domainFor (s : Dev) (off len dom : Nat) : Bool := (s.keys.dom dom).serves && s.extentsOf off len dom

/-- The fields of REG_CREATE and LOG_CREATE up to KEY_DOMAIN, by offset (R224): PD, ACCESS, the byte after it, the domain. -/
def Dev.regionHead (s : Dev) (c : Call) (noAtomic badZone : Bool) : List (Bool × Nat × Nat) :=
  [(s.badPd c (c.at_ 0 4), 5, 0), (decide (c.at_ 4 1 ≥ 32) || (noAtomic && (c.at_ 4 1).testBit 2), 8, 4), (badZone, 8, 5),
   (decide (c.at_ 6 2 ≥ 8192), 8, 6)]

/-- LENGTH and RANGE_BASE in the exposed range (R205, R232). -/
def Dev.regionSpan (s : Dev) (c : Call) (badLen badBase : Bool) : List (Bool × Nat × Nat) :=
  [(c.at_ 16 8 == 0, 10, 16), (decide (c.at_ 16 8 > s.exposedBytes) || badLen, 8, 16),
   (decide (c.at_ 24 8 + c.at_ 16 8 > s.exposedBytes) || badBase, 8, 24)]

/-- The checks that follow them: the key domain of the span, and a free entry. -/
def Dev.regionPlaces (s : Dev) (c : Call) : List (Bool × Nat × Nat) :=
  [(!s.domainFor (c.at_ 24 8) (c.at_ 16 8) (c.at_ 6 2), 9, 6), (s.rgn.lowest.isNone, 4, 0)]

/-- The entry that a registration asks for. -/
def Call.region (c : Call) (kind : RKind) (zone : Nat) : Region :=
  { Region.free with
    kind := kind, access := c.at_ 4 1, zoneLog2 := zone, pd := c.at_ 0 4, domain := c.at_ 6 2, vaBase := c.at_ 8 8, length := c.at_ 16 8, base := c.at_ 24 8 }

/-- REG_CREATE (R202, R205, R206, R213). -/
def Dev.regCreate (s : Dev) (c : Call) : Dev :=
  s.checked c (s.regionHead c false (c.at_ 5 1 != 0) ++ s.regionSpan c false false ++ s.regionPlaces c) fun t =>
    let k := t.rgn.lowest.getD 0
    let u := t.makeRegion k (c.region .ordinary 0)
    u.verbOk c (leBytes 4 ((u.rgn.region k).key k))

/-- LOG_CREATE (R219). -/
def Dev.logCreate (s : Dev) (c : Call) : Dev :=
  let z := c.at_ 5 1
  let zb := 2 ^ z * 4096
  let span := s.regionSpan c (c.at_ 16 8 % zb != 0 || decide (c.at_ 16 8 > 65536 * zb)) (c.at_ 24 8 % zb != 0)
  s.checked c (s.regionHead c true (decide (z < 8 ∨ z > 16)) ++ [(c.at_ 8 8 % 4096 != 0, 8, 8)] ++ span ++ s.regionPlaces c) fun t =>
    let k := t.rgn.lowest.getD 0
    let u := t.makeRegion k (c.region .log z)
    u.verbOk c (leBytes 4 ((u.rgn.region k).key k) ++ leBytes 4 (c.at_ 16 8 / zb))

/-- The region index of an R_Key field. -/
def Call.index (c : Call) : Nat := c.at_ 0 4 / 4096 % regionEntries

/-- The generation of an R_Key field is not the entry's, or the entry was never used. -/
def Dev.staleKey (s : Dev) (c : Call) : Bool := (s.rgn.region c.index).gen != c.at_ 0 4 % 4096

/-- REG_REVOKE (R214, R215, R218): answered when the region is REVOKED. It meets the region's state at its stamp (R227): one that is not LIVE, or
not yet, is refused with STATE whatever the generation; one that another verb of the cycle revokes is LIVE still. No verb changes an event queue
(R211). -/
def Dev.regRevoke (s : Dev) (c : Call) : Dev :=
  let r := s.rgn.region c.index
  s.checked c
    [(r.state != .free && !r.coming && s.foreign c r.pd, 5, 0), (!r.liveNow || r.kind == .eventq, 7, 0), (s.staleKey c, 6, 0)] fun t =>
    t.beginRevoke c.index (some c.ref)

/-- REG_QUERY (R229): the entry in any state. -/
def Dev.regQuery (s : Dev) (c : Call) : Dev :=
  let r := s.rgn.region c.index
  if s.foreign c (leAt r.bytes 4 2) then s.verbNo c 5 0 else s.verbOk c (sliceAt r.bytes 0 60)

/-- The checks of a verb that names a zone: a LIVE LOG region of the caller's, and a first zone of it. -/
def Dev.zoneFields (s : Dev) (c : Call) : List (Bool × Nat × Nat) :=
  let r := s.rgn.region c.index
  [(!r.liveNow || s.staleKey c || r.kind != .log, 6, 0), (s.foreign c r.pd, 5, 0),
   (decide (c.at_ 4 4 ≥ r.length / (r.zoneFolios * 4096)), 13, 4)]

/-- ZONE_RESET (R223): at the next boundary. -/
def Dev.zoneReset (s : Dev) (c : Call) : Dev :=
  s.checked c (s.zoneFields c) fun t => t.modRgn fun x => { x with resets := x.resets ++ [(c.index, c.at_ 4 4, c.ref)] }

/-- ZONE_QUERY (R229): the write pointers of a run of zones, which may not pass the region's last zone. -/
def Dev.zoneQuery (s : Dev) (c : Call) : Dev :=
  let n := c.at_ 8 4
  let r := s.rgn.region c.index
  let zones := r.length / (r.zoneFolios * 4096)
  s.checked c (s.zoneFields c ++ [(n == 0, 10, 8), (decide (n > 1000), 8, 8), (decide (c.at_ 4 4 + n > zones), 13, 8)]) fun t =>
    t.verbOk c ((List.range n).flatMap fun j => leBytes 4 (t.rgn.wp c.index (c.at_ 4 4 + j)))

/-- A LIVE or REVOKING region of the range touches an extent, of a run of extents, that belongs to another domain than `d` (R207). -/
def Dev.extentsUsed (s : Dev) (first n d : Nat) : Bool :=
  s.rgn.regions.any fun e =>
    let lo := max first (e.2.base / 2 ^ 26)
    let hi := min (first + n) (ceilDiv (e.2.base + e.2.length) (2 ^ 26))
    (e.2.kind == .ordinary || e.2.kind == .log) && (e.2.state == .live || e.2.state == .revoking) &&
      decide (lo < hi) && !s.extentsOf (lo * 2 ^ 26) ((hi - lo) * 2 ^ 26) d

/-- KD_ASSIGN (R207, R509): at the next boundary. -/
def Dev.kdAssign (s : Dev) (c : Call) : Dev :=
  let first := c.at_ 0 4
  let n := c.at_ 4 4
  let d := c.at_ 8 2
  s.checked c
    [(decide (first * 2 ^ 26 ≥ s.exposedBytes), 8, 0), (n == 0, 10, 4), (decide ((first + n - 1) * 2 ^ 26 ≥ s.exposedBytes), 8, 4),
     (decide (d ≥ 8192), 8, 8), (c.at_ 10 2 != 0, 8, 10), (!(s.keys.dom d).serves, 9, 8), (s.extentsUsed first n d, 7, 0)] fun t =>
    t.modRgn fun x => { x with assigns := x.assigns ++ [(first, n, d, c.ref)] }

/-! ### QPs (R163, R170, R229, R230) -/

/-- SA_INSTALL (R230, R515): traffic is governed from the next boundary; until then by the SAs that the QP had. -/
def Dev.saInstall (s : Dev) (c : Call) : Dev :=
  let i := c.at_ 0 4
  match s.net.qps.get? i with
  | none => if i ≥ 131072 then s.verbNo c 8 0 else s.verbNo c 7 0
  | some q =>
    let slot := c.at_ 20 2
    let v := s.keys.slot slot
    let sa : EspSa :=
      { spiIn := c.at_ 4 4, spiOut := c.at_ 8 4, saltIn := c.at_ 12 4, saltOut := c.at_ 16 4, slot := slot, top := 0, window := 0, seqOut := 0, live := true }
    s.checked c
      [(s.foreign c q.pd, 5, 0), (!(q.state == 1 || q.state == 2), 7, 0), (sa.spiIn == 0, 10, 4), (sa.spiOut == 0, 10, 8),
       (sa.saltIn == sa.saltOut, 8, 16), (decide (slot ≥ allSlots) || v.state != .active || v.kind != 2 || !(v.owner == 0 || v.owner == q.pd), 8, 20),
       (c.at_ 22 2 != 0, 8, 22)] fun t => (t.updQp i fun x => { x with nextSa := some sa }).verbOk c []

/-- SAs installed in the cycle that ends govern traffic from the boundary (R230). -/
def Dev.saStep (s : Dev) : Dev :=
  s.each (s.net.qps.filter (fun e => e.2.nextSa.isSome)) fun t e => t.updQp e.1 fun q => { q with sa := q.nextSa, nextSa := none }

/-- QP_TEARDOWN (R229). -/
def Dev.qpTeardown (s : Dev) (c : Call) : Dev :=
  let i := c.at_ 0 4
  match s.net.qps.get? i with
  | none => if i ≥ 131072 then s.verbNo c 8 0 else s.verbNo c 7 0
  | some q => if s.foreign c q.pd then s.verbNo c 5 0 else (s.teardown i).verbOk c []

/-! ### Device queues (R247, R248, R259) -/

/-- DQ_CREATE (R247, R248, R259). -/
def Dev.dqCreate (s : Dev) (c : Call) : Dev :=
  let depth := c.at_ 4 4
  let base := c.at_ 16 8
  let span := 64 + 64 * depth
  let dom := c.at_ 12 2
  s.checked c
    [(s.badPd c (c.at_ 0 4), 5, 0), (depth == 0, 10, 4), (decide (depth < 16 ∨ depth > 4096) || depth != 2 ^ depth.log2, 8, 4),
     (decide (c.at_ 8 1 > 2), 8, 8), (c.at_ 9 3 != 0, 8, 9), (decide (dom ≥ 8192), 8, 12), (c.at_ 14 2 != 0, 8, 14),
     (base % 64 != 0 || decide (base + span > s.exposedBytes), 8, 16), (!s.domainFor base span dom, 9, 12),
     ((s.dq.firstGap 0 4096).isNone || s.rgn.lowest.isNone, 4, 0)] fun t =>
    let n := (t.dq.firstGap 0 4096).getD 0
    let k := t.rgn.lowest.getD 0
    let u := t.makeRegion k { Region.free with kind := .ordinary, access := aREAD, pd := c.at_ 0 4, domain := dom, length := 64, base := base }
    let q : DevQ :=
      { pd := c.at_ 0 4, depth := depth, cls := c.at_ 8 1, domain := dom, base := base, region := k, completed := 0, posted := 0, error := false,
        cause := 0, failedTag := 0, failedIndex := 0, qp := none, port := 0, run := none, imms := [], waiting := false, waitMs := 0, again := false,
        dying := none }
    let v := (u.setQueue n q).storeSpan .own q.cls c.onum base (List.replicate 64 0)
    v.verbDone c (leBytes 4 n ++ leBytes 4 ((u.rgn.region k).key k))

/-- A queue that a verb names: its number, or the refusal. -/
def Dev.namedQueue (s : Dev) (c : Call) : Except (Nat × Nat) DevQ :=
  let n := c.at_ 0 4
  if n ≥ 4096 then .error (8, 0)
  else match s.dq.get? n with
    | none => .error (7, 0)
    | some q => if s.foreign c q.pd then .error (5, 0) else .ok q

/-- The status-line region of a queue still stands. -/
def Dev.statusRegion (s : Dev) (q : DevQ) : Bool :=
  let r := s.rgn.region q.region
  (r.state == .live || r.state == .revoking) && r.pd == q.pd && r.base == q.base && r.length == 64

/-- DQ_DESTROY (R259): answered when the status region is REVOKED; at once where REG_REVOKE has revoked it before. -/
def Dev.dqDestroy (s : Dev) (c : Call) : Dev :=
  match s.namedQueue c with
  | .error e => s.verbNo c e.1 e.2
  | .ok q =>
    if q.dying.isSome = true ∨ q.qp.isSome = true ∨ !(q.error || q.posted == q.completed) = true then s.verbNo c 7 0
    else
      let t := s.updQueue (c.at_ 0 4) fun x => { x with dying := some c.ref }
      if s.statusRegion q then t.beginRevoke q.region none else t.finishQueue q.region

/-- DQ_RESET (R259). -/
def Dev.dqReset (s : Dev) (c : Call) : Dev :=
  match s.namedQueue c with
  | .error e => s.verbNo c e.1 e.2
  | .ok q =>
    if q.error = false then s.verbNo c 7 0
    else
      let n := c.at_ 0 4
      let t := s.updQueue n fun x => { x with posted := x.completed, error := false, cause := 0, run := none, waiting := false, again := false }
      ((t.writeStatus n c.onum).post 0x8021 0 n (q.posted - q.completed) 0).verbDone c []

/-- DQ_QUERY (R259). -/
def Dev.dqQuery (s : Dev) (c : Call) : Dev :=
  match s.namedQueue c with
  | .error e => s.verbNo c e.1 e.2
  | .ok q => s.verbOk c (s.statusBytes q ++ leBytes 4 q.depth ++ leBytes 1 q.cls ++ leBytes 3 0 ++ leBytes 8 q.base)

/-! ### Keys (R497 to R515) -/

/-- A slot is bound: to a domain, an SA, Flesal or the lease (R515). -/
def Dev.slotBound (s : Dev) (n : Nat) : Bool :=
  (s.keys.slot n).domain.isSome || s.net.qps.any (fun e => e.2.sa.any (fun a => a.slot == n) || e.2.nextSa.any (fun a => a.slot == n)) ||
    ((s.keys.slot n).kind == 2 && (s.get .TWIN_KEY_CFG_SLOT0 == n || s.get .TWIN_KEY_CFG_SLOT1 == n)) ||
    ((s.keys.slot n).kind == 3 && s.get .TWIN_LEASE_CFG_WITNESS_SLOT == n)

/-- A caller that holds only CONTROL may use a slot (R515): a GCM slot of its own PD. -/
def Dev.slotForeign (s : Dev) (c : Call) (kind owner : Nat) : Bool :=
  match s.boundPd c.who with
  | some p => kind != 2 || owner != p
  | none => false

/-- The field checks that KEY_GENERATE and KEY_IMPORT share: KIND, AUTO_PCT, OWNER and LIMIT, at their offsets. -/
def Dev.keyFields (s : Dev) (c : Call) (kind auto owner limit o : Nat) : List (Bool × Nat × Nat) :=
  [(s.slotForeign c kind owner, 3, 0), (decide (kind = 0 ∨ kind > 4), 8, o), (decide (auto ≠ 0 ∧ (auto < 50 ∨ auto > 99)), 8, o + 1),
   (owner != 0 && (s.rgn.pd owner).isNone, 5, o + 2), (limit == 0, 10, o + 6), (decide (limit < 2 ^ 37 ∨ limit ≥ 2 ^ 48), 8, o + 6)]

/-- A kind may not lie in a slot: only GCM keys may be volatile (R498). -/
def kindMisplaced (kind n : Nat) : Bool := decide (n ≥ allSlots) || (kind != 2 && decide (n ≥ nvSlots))

/-- A new key in a slot; what bound the slot binds it still (R506). -/
def Dev.putKey (s : Dev) (n kind key owner limit auto how : Nat) : Dev :=
  let old := s.keys.slot n
  s.installKey n { old with
    state := .active, kind := kind, key := key, owner := owner, usage := 0, limit := limit, autoPct := auto, refusedSeen := false } how

/-- KEY_GENERATE (R515, R496). -/
def Dev.keyGenerate (s : Dev) (c : Call) : Dev :=
  let kind := c.at_ 2 1
  let owner := c.at_ 4 2
  let want := c.at_ 0 2
  let slot := if want = 0xFFFF then (s.keys.lowestEmpty ((c.at_ 6 2).testBit 0)).getD allSlots else want
  s.checked c
    (s.keyFields c kind (c.at_ 3 1) owner (c.at_ 8 8) 2 ++
      [(decide (c.at_ 6 2 > 1), 8, 6), (want == 0xFFFF && slot == allSlots, 4, 0), (kindMisplaced kind slot, 8, 0),
       (s.bit .CIPHER_STATUS_ENTROPY_FAIL, 7, 0), ((s.keys.slot slot).state != .empty, 7, 0)]) fun t =>
    let (key, u) := t.random 256
    (u.putKey slot kind key owner (c.at_ 8 8) (c.at_ 3 1) 0).verbOk c (leBytes 2 slot)

/-- KEY_IMPORT (R506, R515): into an EMPTY slot, or into one in use of the same kind. -/
def Dev.keyImport (s : Dev) (c : Call) : Dev :=
  let slot := c.at_ 0 2
  let kek := s.keys.slot (c.at_ 2 2)
  let kind := c.at_ 4 1
  let owner := c.at_ 6 2
  let old := s.keys.slot slot
  let replaces := old.kind == kind && [2, 3, 4].contains kind && (kind == 4 || s.slotBound slot)
  s.checked c
    (s.keyFields c kind (c.at_ 5 1) owner (c.at_ 10 8) 4 ++
      [(kindMisplaced kind slot, 8, 0), (decide (c.at_ 2 2 ≥ allSlots), 8, 2), (c.at_ 8 2 != 0, 8, 8),
       (old.state != .empty && s.slotForeign c old.kind old.owner, 3, 0),
       (kek.kind != 4 || !(kek.state == .active || kek.state == .decryptOnly), 7, 2), (old.state != .empty && !replaces, 7, 0)]) fun t =>
    match Config.unwrap kek.key (sliceAt c.body 18 40) with
    | none => ((t.inc .KEY_UNWRAP_FAIL_UNWRAP).post 0xB00A 0 slot 0 0).verbNo c 8 18
    | some key => if key % 2 ^ 256 = 0 then t.verbNo c 8 18 else (t.putKey slot kind (key % 2 ^ 256) owner (c.at_ 10 8) (c.at_ 5 1) 1).verbOk c []

/-- KEY_DESTROY (R512, R515). -/
def Dev.keyDestroy (s : Dev) (c : Call) : Dev :=
  let n := c.at_ 0 2
  let v := s.keys.slot n
  s.checked c [(decide (n ≥ allSlots), 8, 0), (s.slotForeign c v.kind v.owner, 3, 0), (s.slotBound n, 7, 0)] fun t =>
    ((t.destroySlot n).retryRekeys).verbOk c []

/-- KEY_QUERY (R515): never key material. The layout of the answer is the model's (assumption 50). -/
def Dev.keyQuery (s : Dev) (c : Call) : Dev :=
  let n := c.at_ 0 2
  let v := s.keys.slot n
  s.checked c [(decide (n ≥ allSlots), 8, 0), (s.slotForeign c v.kind v.owner, 3, 0)] fun t =>
    t.verbOk c (leBytes 1 v.state.code ++ leBytes 1 v.kind ++ leBytes 2 v.owner ++ leBytes 8 v.usage ++ leBytes 8 v.limit ++ leBytes 1 v.autoPct ++
      leBytes 1 (b2n (s.slotBound n)))

/-- An ACTIVE AT_REST slot that nothing binds. -/
def Dev.atRestFree (s : Dev) (n : Nat) : Bool :=
  let v := s.keys.slot n
  v.state == .active && v.kind == 1 && v.domain.isNone

/-- KD_KEY (R515): the domain is KEYED from the next boundary. -/
def Dev.kdKey (s : Dev) (c : Call) : Dev :=
  let d := c.at_ 0 2
  let n := c.at_ 2 2
  s.checked c
    [(decide (d ≥ 8192), 8, 0), ((s.keys.dom d).state != .unkeyed || s.keys.busy d, 7, 0), (decide (n ≥ allSlots), 8, 2), (!s.atRestFree n, 7, 2)] fun t =>
    (t.queueRekey d n).verbOk c []

/-- KD_REKEY (R511, R515). -/
def Dev.kdRekey (s : Dev) (c : Call) : Dev :=
  let d := c.at_ 0 2
  let n := c.at_ 2 2
  let dom := s.keys.dom d
  s.checked c
    [(decide (d ≥ 8192), 8, 0), (dom.state != .keyed || s.keys.busy d || dom.curEpoch == 0xFFFFFFFF, 7, 0), (decide (n ≥ allSlots), 8, 2),
     (!s.atRestFree n, 7, 2)] fun t => (t.queueRekey d n).verbOk c []

/-- A LIVE or REVOKING region names a domain (R513). -/
def Dev.domainUsed (s : Dev) (d : Nat) : Bool :=
  s.rgn.regions.any fun e => (e.2.kind == .ordinary || e.2.kind == .log) && e.2.domain == d && (e.2.state == .live || e.2.state == .revoking)

/-- KD_DESTROY (R513): it takes effect, and is answered, at the next boundary. -/
def Dev.kdDestroy (s : Dev) (c : Call) : Dev :=
  let d := c.at_ 0 2
  let st := (s.keys.dom d).state
  s.checked c
    [(decide (d ≥ 8192), 8, 0),
     (d == 0 || st == .unkeyed || st == .purging || s.domainUsed d || s.keys.destroys.any (fun e => e.1 == d), 7, 0)] fun t =>
    t.modKeys fun k => { k with destroys := k.destroys ++ [(d, c.ref)] }

/-- The destructions of a boundary (R513). -/
def Dev.destroyStep (s : Dev) : Dev :=
  let l := s.keys.destroys
  (s.modKeys fun k => { k with destroys := [] }).each l fun t e =>
    let u := t.destroyDomain e.1
    u.reply e.2.who e.2.op e.2.tag 0 0 u.lastOnum []

/-- KD_QUERY (R515): the entry of R508 and the scan position, in the model's layout (assumption 50). -/
def Dev.kdQuery (s : Dev) (c : Call) : Dev :=
  let d := c.at_ 0 2
  if d ≥ 8192 then s.verbNo c 8 0
  else s.verbOk c ((s.keys.dom d).bytes ++ leBytes 8 (((s.keys.scans.get? d).map Prod.fst).getD 0))

/-! ### Execution (R226 to R228) -/

/-- What a verb's opcode does, past the screen. The mode and Impress verbs act by their own rows; as items
they only answer, the mode operations that SERVING_ACTIVE permits with OK (assumption 58). -/
def Dev.verbAct (s : Dev) (c : Call) : Dev :=
  match c.op with
  | 0x01 => s.pdCreate c
  | 0x02 => s.pdDestroy c
  | 0x03 => s.pdSetCaps c
  | 0x10 => s.regCreate c
  | 0x11 => s.logCreate c
  | 0x12 => s.regRevoke c
  | 0x13 => s.regQuery c
  | 0x20 => s.zoneReset c
  | 0x21 => s.zoneQuery c
  | 0x30 => s.kdAssign c
  | 0x40 => s.saInstall c
  | 0x41 => s.qpTeardown c
  | 0x60 => s.keyGenerate c
  | 0x61 => s.keyImport c
  | 0x62 => s.keyDestroy c
  | 0x63 => s.keyQuery c
  | 0x64 => s.kdKey c
  | 0x65 => s.kdRekey c
  | 0x66 => s.kdDestroy c
  | 0x67 => s.kdQuery c
  | 0x70 => s.dqCreate c
  | 0x71 => s.dqDestroy c
  | 0x72 => s.dqReset c
  | 0x73 => s.dqQuery c
  | 0x50 => if [0, 4, 5].contains (c.at_ 0 4) then s.verbOk c [] else s.verbNo c 12 0
  | _ => s.verbOk c []

/-- A verb at its stamp: the screen, then its effect. -/
def Dev.verbRun (s : Dev) (c : Call) (len : Nat) (item : Bool) : Dev :=
  match s.verbScreen c len item with
  | some st => s.verbNo c st 0
  | none => s.verbAct c

/-- The sender holds the verb, and it is the next of its path in the order of stamps (R227): the runtime copied it from the command window, or it is the QP's request (R226, R576). -/
def Dev.verbHeld (s : Dev) (who : Caller) (bytes : List Byte) : Bool :=
  match who with
  | .sp seq => match s.sp.submitted with
    | m :: _ => m.seq == seq && m.bytes == bytes
    | [] => false
  | .qp i n => match s.net.qps.get? i with
    | some q => q.kind == 1 && (match q.ring.get? n with | some e => e.1 == bytes | none => false) && q.ring.all (fun e => decide (n ≤ e.1) || e.2.1 == [])
    | none => false
  | .peer => false

/-- The verb begins: it cannot begin twice. A ring entry stays in use until its answer is written (R226). -/
def Dev.verbTake (s : Dev) (who : Caller) (bytes : List Byte) : Dev :=
  match who with
  | .sp seq => s.modSp fun x => { x with submitted := x.submitted.erase { seq := seq, bytes := bytes } }
  | .qp i n => s.updQp i fun q => { q with ring := q.ring.put n ([], none) }
  | .peer => s

/-- The caller as the standby sees it: an SP's answer stays on the active (R454). -/
def Caller.forwarded : Caller → Caller
  | .sp _ => .peer
  | w => w

/-! ### The command window (R575, R576) -/

/-- The first `n` bytes of the command window (R576). -/
def Dev.windowBytes (s : Dev) (n : Nat) : List Byte :=
  ((List.range (ceilDiv n 4)).flatMap fun i => leBytes 4 (s.get (.CMD_WINDOW_DATA i))).take n

/-- A malformed verb of the SP path, as the runtime copies it (R576). -/
def Dev.refuseVerb (s : Dev) (who : Caller) (bytes : List Byte) : Dev :=
  let (t, onum) := (s.verbTake who bytes).forward (.verb who.forwarded bytes) 3
  t.refuseMalformed who bytes onum false

/-- The runtime takes the words of the mailboxes toward the device (R575, R576, R580): it copies the window that mailbox 0 names and
clears the flags. A verb whose header its row could not name is answered here. While no core runs the words wait. The manual gives
the copy 50 µs; here it comes at the next boundary, or with the row of a verb or of a response (assumption 60). -/
def Dev.runtimeTakes (s : Dev) : Dev :=
  if s.coreRuns && s.get .MB_FLAGS_TO_DEV_FULL != 0 then
    let mail := (s.get .MB_FLAGS_TO_DEV_FULL).testBit 0
    let t := s.set .MB_FLAGS_TO_DEV_FULL 0
    if mail then
      let w := s.get (.MB_TO_DEV_WORD 0)
      let seq := bitsOf w 16 8
      let n := bitsOf w 0 13
      if n < 16 ∨ n > 4096 then
        let h := s.windowBytes 16
        t.reply (.sp seq) (leAt h 0 2) (leAt h 4 4) 2 0 0 []
      else
        let bytes := s.windowBytes n
        if verbMalformed bytes then t.refuseVerb (.sp seq) bytes
        else t.modSp fun x => { x with submitted := x.submitted ++ [{ seq := seq, bytes := bytes }] }
    else t
  else s

/-- A verb that a caller holds executes at its stamp (R227), forwarded first where the node forwards (R228): a verb of the SP path is a C3 request
of point 34 (R15, R16), one of a control QP has the stamp and class of its QP's packets. `f` gets the ONUM. -/
def Dev.verbAt (s : Dev) (who : Caller) (bytes : List Byte) (f : Dev → Nat → Dev) : Dev :=
  let r := s.runtimeTakes
  let act (cls : Nat) (t : Dev) : Dev :=
    let (u, onum) := (t.verbTake who bytes).forward (.verb who.forwarded bytes) cls
    f u onum
  if r.verbHeld who bytes then
    match who with
    | .qp i _ => act (((r.net.qps.get? i).map Qp.cls).getD 3) r
    | _ => r.atManagement (act 3)
  else r

/-- A verb row. Queries await no report. -/
def Dev.verbRow (s : Dev) (who : Caller) (op tag : Nat) (body : List Byte) : Dev :=
  s.verbAt who (verbRequest op tag body) fun t onum =>
    t.verbRun { who := who, op := op, tag := tag, body := body, onum := if verbQuery op then 0 else onum } body.length false

/-- A forwarded verb on the node that follows (R454). -/
def Dev.verbItem (s : Dev) (who : Caller) (bytes : List Byte) : Dev :=
  let c : Call := { who := who, op := leAt bytes 0 2, tag := leAt bytes 4 4, body := bytes.drop 16, onum := 0 }
  let t := s.verbTake who bytes
  if verbMalformed bytes then t.refuseMalformed who bytes 0 true else t.verbRun c (leAt bytes 2 2) true

/-! ### Commands -/

/-- PD_CREATE (R198). -/
def execPdCreate (who : Caller) (tag : Nat) (body : List Byte) (w : State) : Host.Outcome State Fault Refusal := finish w fun s => (s.verbRow who 0x01 tag body)
/-- PD_DESTROY (R218). -/
def execPdDestroy (who : Caller) (tag : Nat) (body : List Byte) (w : State) : Host.Outcome State Fault Refusal := finish w fun s => (s.verbRow who 0x02 tag body)
/-- PD_SET_CAPS (R229). -/
def execPdSetCaps (who : Caller) (tag : Nat) (body : List Byte) (w : State) : Host.Outcome State Fault Refusal := finish w fun s => (s.verbRow who 0x03 tag body)
/-- REG_CREATE (R213). -/
def execRegCreate (who : Caller) (tag : Nat) (body : List Byte) (w : State) : Host.Outcome State Fault Refusal := finish w fun s => (s.verbRow who 0x10 tag body)
/-- LOG_CREATE (R219). -/
def execLogCreate (who : Caller) (tag : Nat) (body : List Byte) (w : State) : Host.Outcome State Fault Refusal := finish w fun s => (s.verbRow who 0x11 tag body)
/-- REG_REVOKE (R214). -/
def execRegRevoke (who : Caller) (tag : Nat) (body : List Byte) (w : State) : Host.Outcome State Fault Refusal := finish w fun s => (s.verbRow who 0x12 tag body)
/-- REG_QUERY (R229). -/
def execRegQuery (who : Caller) (tag : Nat) (body : List Byte) (w : State) : Host.Outcome State Fault Refusal := finish w fun s => (s.verbRow who 0x13 tag body)
/-- ZONE_RESET (R223). -/
def execZoneReset (who : Caller) (tag : Nat) (body : List Byte) (w : State) : Host.Outcome State Fault Refusal := finish w fun s => (s.verbRow who 0x20 tag body)
/-- ZONE_QUERY (R229). -/
def execZoneQuery (who : Caller) (tag : Nat) (body : List Byte) (w : State) : Host.Outcome State Fault Refusal := finish w fun s => (s.verbRow who 0x21 tag body)
/-- KD_ASSIGN (R207). -/
def execKdAssign (who : Caller) (tag : Nat) (body : List Byte) (w : State) : Host.Outcome State Fault Refusal := finish w fun s => (s.verbRow who 0x30 tag body)
/-- SA_INSTALL (R230). -/
def execSaInstall (who : Caller) (tag : Nat) (body : List Byte) (w : State) : Host.Outcome State Fault Refusal := finish w fun s => (s.verbRow who 0x40 tag body)
/-- QP_TEARDOWN (R229). -/
def execQpTeardown (who : Caller) (tag : Nat) (body : List Byte) (w : State) : Host.Outcome State Fault Refusal := finish w fun s => (s.verbRow who 0x41 tag body)
/-- DQ_CREATE (R259). -/
def execDqCreate (who : Caller) (tag : Nat) (body : List Byte) (w : State) : Host.Outcome State Fault Refusal := finish w fun s => (s.verbRow who 0x70 tag body)
/-- DQ_DESTROY (R259). -/
def execDqDestroy (who : Caller) (tag : Nat) (body : List Byte) (w : State) : Host.Outcome State Fault Refusal := finish w fun s => (s.verbRow who 0x71 tag body)
/-- DQ_RESET (R259). -/
def execDqReset (who : Caller) (tag : Nat) (body : List Byte) (w : State) : Host.Outcome State Fault Refusal := finish w fun s => (s.verbRow who 0x72 tag body)
/-- DQ_QUERY (R259). -/
def execDqQuery (who : Caller) (tag : Nat) (body : List Byte) (w : State) : Host.Outcome State Fault Refusal := finish w fun s => (s.verbRow who 0x73 tag body)
/-- KEY_GENERATE (R515). -/
def execKeyGenerate (who : Caller) (tag : Nat) (body : List Byte) (w : State) : Host.Outcome State Fault Refusal := finish w fun s => (s.verbRow who 0x60 tag body)
/-- KEY_IMPORT (R515). -/
def execKeyImport (who : Caller) (tag : Nat) (body : List Byte) (w : State) : Host.Outcome State Fault Refusal := finish w fun s => (s.verbRow who 0x61 tag body)
/-- KEY_DESTROY (R512). -/
def execKeyDestroy (who : Caller) (tag : Nat) (body : List Byte) (w : State) : Host.Outcome State Fault Refusal := finish w fun s => (s.verbRow who 0x62 tag body)
/-- KEY_QUERY (R515). -/
def execKeyQuery (who : Caller) (tag : Nat) (body : List Byte) (w : State) : Host.Outcome State Fault Refusal := finish w fun s => (s.verbRow who 0x63 tag body)
/-- KD_KEY (R515). -/
def execKdKey (who : Caller) (tag : Nat) (body : List Byte) (w : State) : Host.Outcome State Fault Refusal := finish w fun s => (s.verbRow who 0x64 tag body)
/-- KD_REKEY (R511). -/
def execKdRekey (who : Caller) (tag : Nat) (body : List Byte) (w : State) : Host.Outcome State Fault Refusal := finish w fun s => (s.verbRow who 0x65 tag body)
/-- KD_DESTROY (R513). -/
def execKdDestroy (who : Caller) (tag : Nat) (body : List Byte) (w : State) : Host.Outcome State Fault Refusal := finish w fun s => (s.verbRow who 0x66 tag body)
/-- KD_QUERY (R515). -/
def execKdQuery (who : Caller) (tag : Nat) (body : List Byte) (w : State) : Host.Outcome State Fault Refusal := finish w fun s => (s.verbRow who 0x67 tag body)

end Sys2Proof.Machine
end

