-- ==== Sys2Proof/Machine/Twin.lean ====
section
/-!
DEFINITION. The twin: frames received, roles, the ledger, leases, switch-over, resynchronisation, mailboxes and tier moves'
forwarding (15_twin_mirroring.md). Forwarded items are in Items.lean.
-/

namespace Sys2Proof.Machine

open Sys2Proof

/-! ### Receiving frames (R448, R450) -/

/-- A frame of a type arrives in order: its ACK releases kept frames and its credits are added. None where it is out of order
(R450), or where the link carries only STATE and MAILBOX (R452, R463). -/
def Dev.accept (s : Dev) (h : FlHdr) (type : FlType) : Option Dev :=
  if s.bit .TWIN_STATUS_LINK_UP = false ∨ h.fseq ≠ s.twin.recv then none
  else
    let acked := if h.ack < s.twin.fseq then max s.twin.acked (h.ack + 1) else s.twin.acked
    let t := s.modTwin fun w =>
      { w with recv := w.recv + 1, acked := acked, kept := w.kept.drop (w.kept.length - (w.fseq - acked)), credit := w.credit + h.credit }
    if s.carries type then some t.sendItems else none

/-- A frame's row: what it does where it arrives in order. -/
def Dev.received (s : Dev) (h : FlHdr) (type : FlType) (f : Dev → Dev) : Dev :=
  match s.accept h type with
  | some t => f t
  | none => s

/-! ### The order ledger (R464, R478) -/

/-- ROLE of a granule written in a mode. -/
def Dev.ledgerRole (s : Dev) (mode : Nat) : Nat :=
  if s.bit .TWIN_STATUS_FENCED then 4
  else if mode = mACTIVE then 1
  else if mode = mSTANDBY ∨ mode = mSWITCHOVER then 2
  else if mode = mRESYNC then 3
  else 0

/-- Writes a granule in the role of a mode: `vigil` at the end of a Vigil, with BASE (R464). -/
def Dev.writeLedger (s : Dev) (mode : Nat) (vigil : Bool) : Dev :=
  let g : Ledger :=
    { role := s.ledgerRole mode, vigil := vigil, suspect := s.twin.suspect, pair := s.twin.pair, term := s.twin.term, onum := s.twin.onum,
      base := if vigil then s.twin.base else none, oseq := s.twin.oseq, takeover := s.twin.takeover, lseq := s.twin.lseq }
  (s.modTwin fun w =>
    { w with ledger := w.ledger.put (w.lseq % 65536) g, lseq := w.lseq + 1, ledgerAt := s.cal.count }).journal (.ledgerMark (s.twin.lseq % 65536)) .nothing

/-- The change bitmaps swap at a ledger write in SERVING_ACTIVE, once every ONUM of the older one has been reported (R478). -/
def Dev.swapBitmaps (s : Dev) : Dev :=
  match s.twin.keptFrom with
  | some k =>
    if s.modeOf = mACTIVE ∧ s.bit .TWIN_STATUS_FENCED = false ∧ s.twin.reported + 1 ≥ k then
      s.modTwin fun w => { w with old := w.cur, cur := [], base := some k, keptFrom := some (w.onum + 1) }
    else s
  | none => s

/-- LEDGER_WRITE (R464): every 1,024 cycles while the node serves, follows or resynchronises. -/
def Dev.ledgerDue (s : Dev) : Dev :=
  if s.calRuns = true ∧ s.inMode [mSOLO, mACTIVE, mSTANDBY, mRESYNC] = true ∧ s.cal.count ≥ s.twin.ledgerAt + 1024 then
    (s.writeLedger s.modeOf false).swapBitmaps
  else s

/-- A new TERM goes to the records partition and to the ledger (R471, R474, R475). -/
def Dev.raiseTerm (s : Dev) : Dev :=
  ((s.modTwin fun w => { w with term := (w.term + 1) % 2 ^ 32 }).writeLedger s.modeOf false).sendState

/-! ### Roles (R466, R467) -/

/-- Straps with which no role is settled (R467). -/
def Dev.strapConflict (s : Dev) (p : Partner) : Bool :=
  s.pwr.straps.roleStrap == p.strap || decide (s.pwr.straps.roleStrap ≥ 2) || decide (p.strap ≥ 2)

/-- The first rule of R466 that decides, and whether this node wins. -/
def Dev.roleRule (s : Dev) (p : Partner) : Nat × Bool :=
  let own := s.ledgerEnd
  let his := p.ledger.getD Ledger.empty
  let lead (r : Nat) : Bool := decide (r ≤ 1)
  if p.mode = mSOLO ∨ p.mode = mACTIVE then (1, false)
  else if s.twin.pair ≠ p.pair ∨ s.twin.pair = 0 then (2, s.pwr.straps.roleStrap == 0)
  else if s.twin.loss ≠ p.loss then (3, p.loss)
  else if s.twin.term ≠ p.term then (4, decide (s.twin.term > p.term))
  else if lead own.role ≠ lead his.role then (5, lead own.role)
  else if own.onum ≠ his.onum then (6, decide (own.onum > his.onum))
  else (7, s.pwr.straps.roleStrap == 0)

/-- The role that R466 gives: row of R46, target mode, and ROLE as the ledger numbers it. -/
def Dev.roleOf (s : Dev) (p : Partner) : Nat × Nat × Nat :=
  let (rule, win) := s.roleRule p
  let his := p.ledger.getD Ledger.empty
  let loserLoss := if win then p.loss else s.twin.loss
  let agree := decide (rule > 2) && s.ledgerEnd.onum == his.onum && s.twin.term == p.term && !loserLoss
  if win then (if agree then (6, mACTIVE, 1) else (5, mSOLO, 0)) else (if agree then (7, mSTANDBY, 2) else (8, mRESYNC, 3))

/-- A wait for the twin begins (R45, R48). -/
def Dev.waitTwin (s : Dev) : Dev :=
  if s.bit .MODE_STATE_WAIT_TWIN then s
  else (s.set .MODE_STATE_WAIT_TWIN 1).post 0xE020 0 (s.get .TWIN_STATUS_LANES_UP) (s.get .TWIN_LEASE_STATUS_PENDING) s.cycleLow

/-- Roles are settled from the partner's STATE (R466, R467); the winner goes on from the pair's highest ledger ONUM (R453); `prio` as R58 ranks what decides. -/
def Dev.settleRoles (s : Dev) (prio : Nat) : Dev :=
  match s.twin.partner with
  | none => s.waitTwin
  | some p =>
    if (s.mode.due.map fun t => decide (5 ≤ t.row ∧ t.row ≤ 8)).getD false then s
    else if s.digestsDiffer then s.trigger { row := 5, target := mSOLO, cause := 3, prio := prio, sub := 5 }
    else if s.strapConflict p then
      (s.waitTwin).when (!s.bit .TWIN_STATUS_STRAP_CONFLICT) fun t => (t.set .TWIN_STATUS_STRAP_CONFLICT 1).post 0xA011 0 s.pwr.straps.roleStrap p.strap 0
    else
      let (rule, win) := s.roleRule p
      let (row, target, role) := s.roleOf p
      let s1 := s.post 0xA00B 0 role ((p.ledger.getD Ledger.empty).onum % 2 ^ 32) rule
      let s2 :=
        if rule = 2 then
          if win then
            let (n, u) := s1.random 32
            ((u.modTwin fun w => { w with pair := n }).post 0xA012 0 s1.twin.pair n 0).sendState
          else s1.modTwin fun w => { w with full := true }
        else s1
      let top := (p.ledger.getD Ledger.empty).onum
      (s2.when (win && decide (rule > 2)) fun t => t.modTwin fun w => { w with onum := max w.onum top, reported := max w.reported top }).trigger
        { row := row, target := target, cause := 3, prio := prio, sub := 5 }

/-- RECOVERING has finished its work (R48, R466, R469): roles settle, or the node serves alone, or waits. -/
def Dev.recovered (s : Dev) : Dev :=
  if s.twinFitted = false then s.trigger { row := 5, target := mSOLO, cause := 3, prio := 6, sub := 0 }
  else if s.bit .TWIN_STATUS_LINK_UP then s.settleRoles 5
  else ((s.waitTwin).modTwin fun w => { w with leaseDue := true }).leaseRequest

/-! ### The fence and leases on Flesal's return (R474) -/

/-- A pending request is withdrawn (R474); the node that serves after it, or is selected active, raises TERM. -/
def Dev.withdraw (s : Dev) (raise : Bool) : Dev :=
  if s.twin.lease.isNone ∧ s.twin.leaseDue = false then s
  else
    let had := s.twin.lease.isSome
    let t := s.modTwin fun w => { w with lease := none, leaseDue := false }
    if had = false then t
    else
      let u := t.setL [(.TWIN_LEASE_STATUS_PENDING, 0), (.TWIN_LEASE_STATUS_WITHDRAWN, 1)]
      let v := u.when raise (·.raiseTerm)
      v.post 0xA015 0 s.twin.term v.twin.term s.modeOf

/-- What the return of Flesal does where a lease was needed (R473, R474): a standby resumes where its partner still serves as its active and the frames
it missed are among the last 128. -/
def Dev.flesalBack (s : Dev) (p : Partner) : Dev :=
  let late := s.modeOf == mSTANDBY && s.twin.denied == some s.twin.term
  if s.twin.leaseDue = false ∧ s.twin.lease.isNone = true ∧ late = false then s
  else if s.modeOf = mACTIVE then
    if p.mode = mSWITCHOVER ∨ p.mode = mSOLO ∨ p.mode = mACTIVE then s.fence 1
    else
      let t := (s.withdraw true).set .TWIN_STATUS_HOLDING 0
      if p.mode = mSTANDBY then t else t.twinTrigger 11 mSOLO 5
  else if s.modeOf = mSTANDBY then
    let t := s.withdraw false
    if late = false ∧ p.mode = mACTIVE ∧ p.onum ≤ t.twin.onum + 128 then t else t.twinTrigger 16 mRESYNC 5
  else if s.modeOf = mRECOVERING then
    let serves := match s.roleOf p with
      | (_, target, _) => target == mSOLO || target == mACTIVE
    s.withdraw serves
  else s.withdraw false

/-! ### Switch-over (R475) -/

/-- Announcements of one round: a gratuitous ARP for each IPv4 address, an unsolicited advertisement for each IPv6 one. -/
def Dev.announceAll (s : Dev) : Dev :=
  s.each s.ports fun t p =>
    let u := t.each (t.portAddrs p false) fun v i => v.emit (.eth p .gratuitousArp i)
    u.each (u.portAddrs p true) fun v i => v.emit (.eth p .neighbourAdvert i)

/-- The new active leaves SWITCHOVER: row 14 once its partner reports STANDBY after a handover, else row 15 (R475, R476). -/
def Dev.finishSwitch (s : Dev) : Dev :=
  if s.modeOf ≠ mSWITCHOVER ∨ s.twin.announce = 0 ∨ s.mode.due.isSome = true then s
  else if s.twin.swCause = 0 ∧ s.bit .TWIN_STATUS_LINK_UP = true then
    if (s.twin.partner.map Partner.mode) = some mSTANDBY then s.twinTrigger 14 mACTIVE 5 else s
  else s.twinTrigger 15 mSOLO 5

/-- SWITCHOVER: the steps of R475. -/
def Dev.switchOver (s : Dev) : Dev :=
  if s.modeOf ≠ mSWITCHOVER ∨ s.twin.announce ≠ 0 then s.finishSwitch
  else
    let s1 := s.modTwin fun w => { w with takeover := w.onum, tookOver := true, leaseDue := false }
    let s2 := s1.when (s.twin.swCause != 2) (·.raiseTerm)
    let s3 := s2.treatSent.announceAll
    let s4 := s3.each s3.ports fun t p => t.set (.PORT_STATUS_HELD p) 0
    let s5 := (s4.modTwin fun w => { w with announce := 2 }).set .TWIN_STATUS_TAKEOVER_SEEN 1
    (s5.post 0xA00A 0 (s5.twin.takeover % 2 ^ 32) s5.twin.term s5.twin.swCause).finishSwitch

/-- A handover's progress at a boundary (R476): admission stops, and once every stamped request is answered and reported,
HANDOVER goes out with the final ONUM. -/
def Dev.handoverStep (s : Dev) : Dev :=
  match s.twin.handover with
  | some none =>
    let t := if s.cal.stopped then s else s.modCal fun c => { c.shut with stopped := true }
    let open_ := !s.cal.openStamps.isEmpty || s.net.qps.any (fun e => !e.2.resps.isEmpty) || !s.twin.unsent.isEmpty || !s.gal.waiting.isEmpty || !s.rgn.answers.isEmpty
    if s.cal.stopped = true ∧ open_ = false ∧ s.twin.reported ≥ s.twin.onum then
      (t.modTwin fun w => { w with handover := some (some w.onum) }).sendFrame .handover [s.twin.onum] 8
    else t
  | _ => s

/-! ### Frames (R451) -/

/-- The first byte at which two digests differ. -/
def firstDiff (a b : List Byte) : Nat := (firstFree 48 (fun i => a[i]? != b[i]?)).getD 0

/-- What a STATE means for the mode the node is in (R46, R462, R474, R475, R483): the partner's mode before it and now. -/
def Dev.partnerMoved (s : Dev) (p : Partner) (before : Option Nat) : Dev :=
  if s.modeOf = mRECOVERING then (if s.bit .MODE_STATE_WAIT_TWIN then s.settleRoles 5 else s)
  else if s.digestsDiffer then s
  else if s.modeOf = mSOLO then
    if p.mode = mSTANDBY ∧ p.pair = s.twin.pair then s.twinTrigger 10 mACTIVE 5 else s
  else if s.modeOf = mACTIVE then
    if before = some mSTANDBY ∧ p.mode ≠ mSTANDBY then
      if p.mode = mSWITCHOVER ∧ s.twin.handover.isSome = true then s
      else if p.mode = mSWITCHOVER ∨ p.mode = mSOLO ∨ p.mode = mACTIVE then s.fence 1
      else s.twinTrigger 11 mSOLO 5
    else s
  else if s.modeOf = mSTANDBY then
    if before = some mACTIVE ∧ p.mode = mSOLO then (s.twinTrigger 16 mRESYNC 5) else s
  else if s.modeOf = mSWITCHOVER then s.finishSwitch
  else if s.modeOf = mRESYNC ∧ s.twin.resync.isSome = true ∧ p.mode ≠ mSOLO ∧ p.mode ≠ mACTIVE then s.abandonResync p.mode
  else s

/-- Doorbell bits that waited for Flesal go (R486). -/
def Dev.sendHeldBells (s : Dev) : Dev :=
  let held := s.get .TWIN_DB_OUT_RING
  if held = 0 ∨ s.carries .mailbox = false then s else (s.set .TWIN_DB_OUT_RING 0).sendFrame .mailbox [1, 0, held] 8

/-- STATE (R451, R466, R474): the partner's mode, digest, ledger end, OSEQ, TERM and PAIR. One that meets a transition is evaluated in the
mode it leads to as well, against the partner's mode before the first such (R57). -/
def Dev.stateIn (s : Dev) (p : Partner) : Dev :=
  let before := s.twin.partner.map Partner.mode
  let s0 := (s.modTwin fun w => { w with partner := some p }).set .TWIN_STATUS_PARTNER_MODE p.mode
  let s1 := if s0.digestsDiffer = true ∧ s.digestsDiffer = false then
      (s0.set .TWIN_STATUS_DIGEST_DIFF 1).post 0xA003 0 (firstDiff ((s0.forme.run.map Forme.digest).getD []) p.digest) 0 0
    else s0
  let s1 := s1.when before.isNone (·.sendHeldBells)
  if s1.bit .TWIN_STATUS_FENCED then s1
  else
    let s2 := s1.when before.isNone (fun t => t.flesalBack p)
    let s3 := s2.when ((p.mode == mSOLO || p.mode == mACTIVE) && decide (p.term > s2.twin.term) && !s2.serving && p.pair == s2.twin.pair)
      fun t => t.modTwin fun w => { w with term := p.term }
    let s4 := s3.when s3.mode.due.isSome fun t => t.modMode fun m => { m with recheck := some (m.recheck.getD (before.getD p.mode)) }
    s4.partnerMoved p before

/-- A STATE that arrived during the transition is evaluated in the mode entered (R57). -/
def Dev.recheckState (s : Dev) : Dev :=
  match s.mode.recheck, s.twin.partner with
  | some before, some p => (s.modMode fun m => { m with recheck := none }).partnerMoved p (some before)
  | _, _ => s.modMode fun m => { m with recheck := none }

/-- The node follows as STANDBY, or a transition leads it there: a trigger of row 13 then waits for that mode (R57). -/
def Dev.standsBy (s : Dev) : Bool := s.modeOf == mSTANDBY || (s.mode.due.map fun t => t.target == mSTANDBY).getD false

/-- FAULT (R57, R462): the standby takes over. -/
def Dev.faultIn (s : Dev) : Dev :=
  if s.standsBy then (s.modTwin fun w => { w with swCause := 1 }).twinTrigger 13 mSWITCHOVER 0 else s

/-- HANDOVER (R57, R476): the standby, which has executed through the final ONUM, answers and takes over. -/
def Dev.handoverIn (s : Dev) (final : Nat) : Dev :=
  if s.standsBy = true ∧ s.twin.onum ≥ final then
    ((s.modTwin fun w => { w with swCause := 0 }).sendFrame .handoverAck []).twinTrigger 13 mSWITCHOVER 1
  else s

/-- HANDOVER_ACK (R476): the old active follows. -/
def Dev.handoverAck (s : Dev) : Dev :=
  match s.twin.handover with
  | some (some _) => if s.modeOf = mACTIVE then s.twinTrigger 12 mSTANDBY 1 else s
  | _ => s

/-- VERDICT (R462). -/
def Dev.verdictIn (s : Dev) (window kind : Nat) (faulty : Bool) : Dev :=
  (s.modTwin fun w => { w with verdict := some (window, kind, faulty) }).settleVerdicts

/-- VERDICT_TIMEOUT (R462): the active treats a silent standby as diverged. -/
def Dev.verdictLate (s : Dev) : Dev :=
  match s.twin.mismatch, s.twin.verdict with
  | some m, none => if s.modeOf = mACTIVE then s.judge m.own true else s
  | _, _ => s

/-- DIGEST (R461). -/
def Dev.digestIn (s : Dev) (window kind digest : Nat) : Dev :=
  let k := window * 2 + kind % 2
  (s.modTwin fun w => { w with theirs := w.theirs.put k digest }).compareWindow k

/-- Queues whose descriptor is over try to advance. -/
def Dev.advanceAll (s : Dev) : Dev := s.each (s.dq.map Prod.fst) fun t n => t.advance n

/-- STANDBY_REPORT (R456): what the report covers may be acknowledged, answered and counted. -/
def Dev.reportIn (s : Dev) (onum : Nat) : Dev :=
  if s.modeOf = mACTIVE then
    let t := s.modTwin fun w => { w with reported := max w.reported onum, lines := w.lines.filter (fun e => decide (e.1 > max w.reported onum)) }
    t.releaseAnswers.advanceAll.pumpQps
  else s

/-- A mailbox word, doorbell bits, or the notice that a word was read (R486). -/
def Dev.mailboxIn (s : Dev) (what i word : Nat) : Dev :=
  match what with
  | 0 => ((s.set (.TWIN_MB_IN_WORD (i % 8)) word).orF .TWIN_MB_FLAGS_IN_FULL (2 ^ (i % 8)))
  | 1 =>
    let new := maskOff (maskOff word (s.get .TWIN_DB_MASK_MASK)) (s.get .TWIN_DB_IN_BITS)
    (s.orF .TWIN_DB_IN_BITS word).when (new != 0) (·.ring 0x20)
  | _ => s.set .TWIN_MB_FLAGS_OUT_FULL (maskOff (s.get .TWIN_MB_FLAGS_OUT_FULL) (2 ^ (i % 8)))

/-- TWIN_MB_OUT (R486); a word written while Flesal is lost is lost at once. -/
def Dev.mbOut (s : Dev) (i word : Nat) : Dev :=
  let b := 2 ^ (i % 8)
  if (s.get .TWIN_MB_FLAGS_OUT_FULL).testBit (i % 8) then s.orF .TWIN_MB_FLAGS_OVERRUN b
  else
    let t := s.set (.TWIN_MB_OUT_WORD (i % 8)) word
    if t.carries .mailbox then (t.orF .TWIN_MB_FLAGS_OUT_FULL b).sendFrame .mailbox [0, i % 8, word % 2 ^ 32] 8
    else (t.orF .TWIN_MB_FLAGS_LOST b).post 0xA013 0 b 0 0

/-- TWIN_DB_OUT (R486): bits wait while Flesal is down. -/
def Dev.dbOut (s : Dev) (bits : Nat) : Dev :=
  if s.carries .mailbox then s.sendFrame .mailbox [1, 0, bits % 2 ^ 32] 8 else s.orF .TWIN_DB_OUT_RING bits

/-- A read of TWIN_MB_IN (R486): the word is consumed and the partner told. -/
def Dev.mbInRead (s : Dev) (i : Nat) : Dev :=
  let b := 2 ^ (i % 8)
  let t := s.set (.TWIN_MB_IN_WORD (i % 8)) 0
  if (s.get .TWIN_MB_FLAGS_IN_FULL).testBit (i % 8) then
    (t.set .TWIN_MB_FLAGS_IN_FULL (maskOff (s.get .TWIN_MB_FLAGS_IN_FULL) b)).sendFrame .mailbox [2, i % 8, 0] 8
  else t

/-! ### The link (R446 to R452) -/

/-- FLESAL_UP (R446, R449, R452): the session counter advances first, the credits of point 32 are the sender's, frames that
the last session did not deliver wait again, and the STATE exchange starts. -/
def Dev.flesalUp (s : Dev) (lanes : Nat) : Dev :=
  if s.twinFitted = false ∨ s.bit .TWIN_STATUS_LINK_UP = true ∨ s.inMode [mRECOVERING, mSOLO, mACTIVE, mSTANDBY, mRESYNC, mSWITCHOVER, mQUIESCED] = false then s
  else
    let items := s.twin.kept.filterMap fun e => if e.1 = .item then some (e.2.getD 0 0, e.2) else none
    let s1 := s.modTwin fun w =>
      { w with session := (w.session + 1) % 2 ^ 31, fseq := 0, recv := 0, kept := [], acked := 0, unsent := items ++ w.unsent, give := 0,
               credit := ((s.admission 32).map AdmitDesc.depth).getD 0, partner := none }
    let s2 := (s1.setL [(.TWIN_STATUS_LINK_UP, 1), (.TWIN_STATUS_LANES_UP, lanes), (.TWIN_STATUS_SPARE_IN_USE, b2n (spareLaneUsed s.twin.deadLanes))]).post
      0xA002 0 lanes (s.get .TWIN_STATUS_PARTNER_MODE) 0
    (s2.orF .TWIN_DB_OUT_RING s.twin.ringing).sendState

/-- FLESAL_BAD_FRAME (R450, R451): 0 failed its FEC on a lane, 1 failed its tag, 2 of an unknown TYPE. -/
def Dev.badFrame (s : Dev) (why lane type fseq : Nat) : Dev :=
  if s.bit .TWIN_STATUS_LINK_UP = false then s
  else match why with
    | 0 =>
      let f : FaultOp :=
        { unit := 0x600 + lane % 9, kind := 12, recovered := true, tick := 0, bank := 0, row := 0, col := 0, pos := 0, synd := 0, sub := 0, la := none }
      (s.inc .TWIN_LINK_RETRIES_RETRIES).countFault f false false
    | 1 => s.inc .TWIN_TAG_FAILS_TAG_FAILS
    | _ =>
      if fseq = s.twin.recv then ((s.modTwin fun w => { w with recv := w.recv + 1 }).set .TWIN_STATUS_PROTOCOL_ERR 1).post 0xA010 0 type 0 (fseq % 2 ^ 32) else s

/-- FLESAL_RETRANSMIT (R450): the frames kept from ACK + 1 go out again. -/
def Dev.retransmit (s : Dev) : Dev :=
  if s.bit .TWIN_STATUS_LINK_UP then s.each s.twin.kept fun t e => t.emit (.flesal e.1 e.2) else s

/-- FLESAL_RTT (R446): a round trip in nanoseconds. -/
def Dev.rtt (s : Dev) (ns : Nat) : Dev :=
  if s.bit .TWIN_STATUS_LINK_UP = false then s
  else
    let v := min ns 65535
    ((s.set .TWIN_RTT_NS v).maxF .TWIN_RTT_MAX_NS v).when (decide (ns > 2000)) fun t => t.post 0xA014 0 ns 2000 0

/-- EGRESS_HOUR (R485): an hour out of serving. -/
def Dev.egressHour (s : Dev) : Dev :=
  if s.serving then s
  else
    let t := s.inc .TWIN_EGRESS_HOURS
    let days := s.get .TWIN_CFG_EGRESS_WARN_DAYS
    if days ≠ 0 ∧ t.get .TWIN_EGRESS_HOURS > days * 24 then
      let u := t.set .TWIN_STATUS_EGRESS_OLD 1
      if s.twin.egressTold then u else (u.modTwin fun w => { w with egressTold := true }).post 0xA00F 0 (t.get .TWIN_EGRESS_HOURS / 24) days 0
    else t

/-! ### Leases (R471, R473) -/

/-- Bytes of the grant registers. -/
def Dev.grantBytes (s : Dev) : List Byte := (List.range 16).flatMap fun i => leBytes 4 (s.get (.TWIN_LEASE_GRANT_GRANT i))

/-- Why a grant is rejected (R471, R483); 0 where it is accepted. -/
def Dev.grantFault (s : Dev) (l : Lease) : Nat :=
  let g := s.grantBytes
  let slot := s.keys.slot (s.get .TWIN_LEASE_CFG_WITNESS_SLOT)
  if sliceAt g 0 4 ≠ [0x4B, 0x4C, 0x47, 0x52].map (BitVec.ofNat 8) then 1
  else if leAt g 4 4 ≠ l.pair then 2
  else if leAt g 8 1 ≠ l.node then 3
  else if leAt g 12 4 ≠ l.term then 4
  else if leAt g 24 8 ≠ l.nonce then 5
  else if !(slot.state == .active || slot.state == .decryptOnly) || leAt g 48 16 != Config.cmac slot.key (sliceAt g 0 48) % 2 ^ 128 then 6
  else 0

/-- SUBMIT (R471): a grant is checked; an accepted one raises TERM and is the trigger of its mode. A fenced node ignores it (R473). -/
def Dev.submitGrant (s : Dev) (guard : Nat) : Dev :=
  let reject (why : Nat) : Dev := s.setL [(.TWIN_LEASE_STATUS_REJECTED, 1), (.TWIN_LEASE_STATUS_REASON, why)]
  if guard ≠ 0x4C ∨ s.bit .TWIN_STATUS_FENCED = true then s
  else match s.twin.lease with
    | none => reject 7
    | some l =>
      if s.grantFault l ≠ 0 then reject (s.grantFault l)
      else
        let t := (s.modTwin fun w => { w with lease := none, leaseDue := false }).raiseTerm
        let u := (t.setL [(.TWIN_LEASE_STATUS_PENDING, 0), (.TWIN_LEASE_STATUS_GRANTED, 1), (.TWIN_STATUS_HOLDING, 0)]).post 0xA007 0 l.term 0 0
        if s.modeOf = mACTIVE then u.twinTrigger 11 mSOLO 3
        else if s.modeOf = mSTANDBY then (u.modTwin fun w => { w with swCause := 2 }).twinTrigger 13 mSWITCHOVER 3
        else if s.modeOf = mRECOVERING then u.twinTrigger 5 mSOLO 3
        else u

/-- DENY (R473). -/
def Dev.denyLease (s : Dev) (guard : Nat) : Dev := if guard = 0x4C ∧ s.twin.lease.isSome = true then s.leaseRefused 0 else s

/-- LEASE_EXPIRED (R473). -/
def Dev.leaseExpired (s : Dev) : Dev := if s.twin.lease.isSome then s.leaseRefused 1 else s

/-! ### Resynchronisation (R478 to R483) -/

/-- Adds groups to an ascending list without repeats. -/
def addGroups (l : List Nat) (gs : List Nat) : List Nat := gs.foldl (fun (a : Tab Unit) g => a.put g ()) (l.map (fun g => (g, ()))) |>.map Prod.fst

/-- The resynchronisation is FULL (R479). -/
def Dev.resyncFull (s : Dev) (p : Partner) : Bool :=
  let his := p.ledger.getD Ledger.empty
  let c := if s.twin.tookOver then min his.onum s.twin.takeover else his.onum
  let kept := match s.twin.base with
    | some b => decide (b ≤ c)
    | none => false
  let theirs := decide (his.onum ≤ c) || (match his.base with
    | some b => decide (b ≤ c)
    | none => false)
  s.twin.full || s.twin.pair != p.pair || his.suspect || !kept || !theirs

/-- Shows the resynchronisation in its registers. -/
def Dev.showResync (s : Dev) : Dev :=
  match s.twin.resync with
  | none => s.setL [(.TWIN_RESYNC_PHASE, 0), (.TWIN_RESYNC_PASS, 0), (.TWIN_RESYNC_LEFT_GROUPS, 0)]
  | some r =>
    s.setL [(.TWIN_RESYNC_PHASE, r.phase), (.TWIN_RESYNC_FULL, b2n r.full), (.TWIN_RESYNC_PASS, min r.pass 255),
      (.TWIN_RESYNC_LEFT_GROUPS, r.left.length + (match r.bulk with | some (a, n) => n - a | none => 0))]

/-- The resynchronisation enters a phase: it is told to the partner and logged (R480). -/
def Dev.resyncTo (s : Dev) (r : Resync) : Dev :=
  let n := r.left.length + (match r.bulk with | some (a, k) => k - a | none => 0)
  let t := ((s.modTwin fun w => { w with resync := some r }).post 0xA00C 0 r.phase (b2n r.full) n).showResync
  t.sendFrame .resync ([r.phase, b2n r.full, r.pass] ++ r.left) (16 + 8 * r.left.length)

/-- A group may be read: no folio of it is latched (R481). -/
def Dev.groupClear (s : Dev) (g : Nat) : Bool := !s.tier.latches.any (fun e => e.1 / 512 == g)

/-- A folio's part of a GROUP (R481): number, STATE, TIER, LOC, and its lines that are not plain zeros, each with its place and its poison. A line's
content is the folio's current one, so the effect of items that R482 leaves to the copy is in it. -/
def Dev.groupFolio (s : Dev) (f : Nat) : List Nat :=
  let e := s.tier.entry f
  let lines := if e.state = .lost then [] else (List.range 64).flatMap fun i => match s.readLine (f * 64 + i) with
    | some v => if v.data = 0 ∧ v.poison = false then [] else [i, v.data.toNat, b2n v.poison]
    | none => [i, 0, 1]
  [f, e.state.code, b2n e.t0, e.loc, lines.length / 3] ++ lines

/-- Folios of a group that hold anything: an entry in the map or lines in the galley. -/
def Dev.groupFolios (s : Dev) (g : Nat) : List Nat :=
  let mapped := (s.tier.map.map Prod.fst).filter fun f => f / 512 == g
  mapped ++ ((s.gal.entries.map fun e => e.2.la / 64).filter fun f => f / 512 == g && !mapped.contains f).eraseDups

/-- Sends one group (R481). -/
def Dev.sendGroup (s : Dev) (g : Nat) : Dev :=
  let fs := s.groupFolios g
  (s.sendFrame .group (g :: fs.flatMap s.groupFolio) (16 + 4160 * fs.length)).modTwin fun w => { w with resync := w.resync.map fun r => { r with groups := r.groups + 1 } }

/-- The active sends up to `n` groups of the phase, ascending; it stops at one it may not read yet. -/
def Dev.sendGroups (s : Dev) : Nat → Dev
  | 0 => s
  | n + 1 =>
    match s.twin.resync with
    | none => s
    | some r =>
      match r.bulk, r.left with
      | some (a, k), _ =>
        if a < k then
          if s.groupClear a then
            ((s.modTwin fun w => { w with resync := some { r with bulk := some (a + 1, k) } }).sendGroup a).sendGroups n
          else s
        else s
      | none, g :: rest =>
        if s.groupClear g then ((s.modTwin fun w => { w with resync := some { r with left := rest } }).sendGroup g).sendGroups n else s
      | none, [] => s

/-- Nothing is left in the phase. -/
def Resync.isOver (r : Resync) : Bool :=
  match r.bulk with
  | some (a, k) => decide (a ≥ k)
  | none => r.left.isEmpty

/-- The active starts a resynchronisation of its partner at SNAPSHOT (R480). -/
def Dev.startResync (s : Dev) (p : Partner) : Dev :=
  let r : Resync :=
    { phase := 1, full := s.resyncFull p, pass := 0, left := [], bulk := none, next := [], final := false, ready := false, groups := 0, startMs := s.evt.islandMs }
  (s.modTwin fun w => { w with full := false }).resyncTo r

/-- TABLES leave at Sf (R482). -/
def Dev.sendTables (s : Dev) : Dev := s.sendFrame .tables [s.twin.onum, s.twin.oseq, s.twin.term, s.twin.pair] 4352

/-- Sf, the first boundary of FINAL at which the active holds no latch (R482): TABLES leave, the last groups are named, and regions that are REVOKING
are noted for R640. -/
def Dev.reachSf (s : Dev) : Dev :=
  match s.twin.resync with
  | some r =>
    if s.modeOf = mSOLO ∧ r.phase = 4 ∧ r.final = false ∧ s.carries .resync = true ∧ s.tier.latches.isEmpty = true then
      let r2 := { r with final := true, left := addGroups r.left r.next, next := [] }
      ((s.modTwin fun w => { w with resync := some r2, revokes := (s.rgn.regions.filter (fun e => e.2.state == .revoking)).map Prod.fst }).sendTables).resyncTo r2
    else s
  | none => s

/-- RESYNC_PHASE on the active (R480 to R482): up to `n` groups leave; where the phase has none left the next one begins. FINAL
waits for Sf. -/
def Dev.resyncPhase (s : Dev) (n : Nat) : Dev :=
  match s.twin.partner with
  | none => s
  | some p =>
    if s.modeOf ≠ mSOLO ∨ p.mode ≠ mRESYNC ∨ s.carries .resync = false then s
    else match s.twin.resync with
      | none => s.startResync p
      | some r =>
        if r.phase = 1 then
          if r.ready = false then s
          else
            let all := addGroups r.left (s.twin.cur ++ s.twin.old)
            s.resyncTo { r with phase := 2, left := if r.full then [] else all, bulk := if r.full then some (0, s.mapPages) else none, next := [] }
        else if r.phase = 4 ∧ r.final = false then s
        else
          let t := s.sendGroups n
          match t.twin.resync with
          | none => t
          | some q =>
            if q.isOver = false ∨ q.phase = 4 then t.showResync
            else if q.phase = 3 ∧ (q.next.length ≤ t.get .TWIN_RESYNC_CFG_CATCHUP_GROUPS ∨ q.pass ≥ t.get .TWIN_RESYNC_CFG_MAX_PASSES) then
              t.resyncTo { q with phase := 4, left := addGroups [] q.next, next := [] }
            else t.resyncTo { q with phase := 3, pass := q.pass + 1, left := addGroups [] q.next, bulk := none, next := [] }

/-- The resyncing node has drained its galley and holds no latch: it sends its bitmap, and SNAPSHOT can end (R480). -/
def Dev.resyncReady (s : Dev) : Dev :=
  match s.twin.resync with
  | none => s
  | some r =>
    if s.modeOf = mRESYNC ∧ r.phase = 1 ∧ r.ready = false ∧ s.gal.entries.isEmpty = true ∧ s.tier.latches.isEmpty = true then
      let mine := if r.full then [] else (s.twin.saved.getD []) ++ s.twin.cur ++ s.twin.old
      (s.modTwin fun w => { w with resync := some { r with ready := true } }).sendFrame .resync ([1, b2n r.full, 0] ++ mine) (16 + 8 * mine.length)
    else s

/-- RESYNC (R480): on the resyncing node the active's phase and groups; on the active the other node's bitmap. -/
def Dev.resyncIn (s : Dev) (phase : Nat) (full : Bool) (pass : Nat) (groups : List Nat) : Dev :=
  if s.modeOf = mRESYNC then
    let old := s.twin.resync.getD
      { phase := 0, full := full, pass := 0, left := [], bulk := none, next := [], final := false, ready := false, groups := 0, startMs := s.evt.islandMs }
    let r : Resync := { old with phase := phase, full := full, pass := pass, left := groups, bulk := none, ready := old.ready && phase != 1 }
    let t := s.modTwin fun w => { w with resync := some r, suspect := w.suspect || full }
    let u := if phase = 1 ∧ full = true then t.discardBy Dev.discardNow fun _ => true else t
    ((u.post 0xA00C 0 phase (b2n full) groups.length).showResync).resyncReady
  else if s.modeOf = mSOLO ∧ phase = 1 then
    s.modTwin fun w => { w with resync := w.resync.map fun r => if r.phase = 1 then { r with ready := true, left := addGroups r.left groups } else r }
  else s

/-- STATE of a map entry as R277 numbers it, in a GROUP. -/
def fstateOf (n : Nat) : FState :=
  match n with
  | 1 => .home
  | 2 => .clean
  | 3 => .dirty
  | 4 => .staged
  | 5 => .lost
  | _ => .unwritten

/-- The folio in a place that an installed folio needs moves out: HOME at its local T2 copy, or UNWRITTEN (R481). -/
def Dev.vacate (s : Dev) (folio : Nat) (d : Dest) : Dev :=
  let there := match d with
    | .t0 w => s.tier.t0.get? (s.tier.frameOf true folio w)
    | .t1 w => s.tier.t1.get? (s.tier.frameOf false folio w)
    | .stageFrame k => s.tier.stage.get? k
    | .t2 => none
  match there with
  | none => s
  | some f =>
    if f.folio = folio then s
    else
      let e := s.tier.entry f.folio
      let t := s.modTier fun x => x.freeResident f.folio e
      t.setMap f.folio (match e.home with | some h => { MapEntry.none with state := .home, home := some h } | none => MapEntry.none)

/-- Installs one folio of a GROUP in the active's state, tier, way and frame (R481). A CLEAN one is written to T2 and CLEAN once that
write commits. -/
def Dev.installFolio (s : Dev) (g : GroupFolio) : Dev :=
  let st := fstateOf g.state
  let lines : Folio := g.lines.foldl (fun a e => a.put e.1 ⟨BitVec.ofNat 512 e.2.1, e.2.2⟩) []
  let t := s.discardNow g.folio
  match st with
  | .unwritten => t.each g.lines fun u e => if u.groupHeld g.folio then u.galleyEnter
      { stamp := u.stamp, la := g.folio * 64 + e.1, data := BitVec.ofNat 512 e.2.1, mask := fullMask, cls := 3, owner := .own, evac := false, poison := e.2.2 } else u
  | .lost => t.setMap g.folio { MapEntry.none with state := .lost }
  | .home =>
    let (u, h) := t.sealTo .relocation g.folio lines
    match h with
    | some (home, _) => u.setMap g.folio { MapEntry.none with state := .home, home := some home }
    | none => u
  | _ =>
    let d : Dest := if st = .staged then .stageFrame g.loc else if g.t0 then .t0 g.loc else .t1 g.loc
    let u := (t.vacate g.folio d).modTier fun x => x.fillDest g.folio lines d
    let e : MapEntry := { state := if st = .clean then .dirty else st, t0 := g.t0, loc := g.loc, home := none }
    let v := u.setMap g.folio e
    if st = .clean then v.startToT2 g.folio .destage else v

/-- The last group is installed (R482): the node takes row 17, and is SUSPECT no longer. -/
def Dev.resyncDone (s : Dev) : Dev :=
  match s.twin.resync with
  | none => s
  | some r =>
    if s.modeOf = mRESYNC ∧ r.final = true ∧ r.left = [] ∧ s.tier.latches.isEmpty = true ∧ s.mode.due.isNone = true then
      let t := s.modTwin fun w => { w with suspect := false, full := false, digestFrom := ceilDiv w.oseq 4096 * 4096 }
      (t.post 0xA00D 0 r.groups r.pass (s.evt.islandMs - r.startMs)).twinTrigger 17 mSTANDBY 5
    else s

/-- GROUP (R481): the copies of one group are installed. -/
def Dev.groupIn (s : Dev) (g : Nat) (fs : List GroupFolio) : Dev :=
  match s.twin.resync with
  | none => s
  | some r =>
    if s.modeOf ≠ mRESYNC ∨ r.phase < 2 then s
    else
      let gone := (s.tier.map.filter (fun e => e.1 / 512 == g)).filter (fun e => !fs.any (fun x => x.folio == e.1))
      let t := (s.each gone fun u e => u.discardNow e.1).each fs fun u f => if f.folio / 512 = g then u.installFolio f else u
      ((t.modTwin fun w => { w with resync := w.resync.map fun q => { q with left := q.left.erase g, groups := q.groups + 1 } }).showResync).resyncDone

/-- TABLES (R482, R640): what the active holds at Sf. -/
def Dev.tablesIn (s : Dev) (n : Snapshot) : Dev :=
  match s.twin.resync with
  | none => s
  | some r =>
    if s.modeOf ≠ mRESYNC ∨ r.phase ≠ 4 then s
    else
      let t : Dev := { s with net := { s.net with qps := n.qps }, dq := n.queues }
      let t1 := t.modRgn fun x => { x with pds := n.pds, regions := n.regions, zones := n.zones }
      let t2 := t1.modKeys fun k => { k with extents := n.extents }
      let t3 := (t2.modTier fun x => { x with heat := n.heat }).modGal fun g => { g with entries := n.galley }
      (t3.modTwin fun w =>
        { w with oseq := n.oseq, term := n.term, pair := n.pair, onum := n.onum, wcrc := 2 ^ 64 - 1, wcount := 0, reports := [],
                 revokes := (n.regions.filter (fun e => e.2.state == .revoking)).map Prod.fst,
                 resync := some { r with final := true } }).dropCc.resyncDone

/-! ### Tier moves (R279, R289) -/

/-- MOVE_START (R279, R289, R638): a move that the node starts itself is stamped, and forwarded in SERVING_ACTIVE. Kinds are those
of R278: 2 promote, to T0 where `up`, which a touch has asked for (R287) and the governor does not hold (R560);
3 demote; 4 destage, of the next folio of R292, no faster than credit accrues while the wear governor limits it (R379); a STAGE is never forwarded. -/
def Dev.moveStart (s : Dev) (folio kind : Nat) (up : Bool) : Dev :=
  if kind = 1 then (if s.modeOf = mHOLDUP then s else s.startStage folio)
  else if s.startsMoves = false ∨ s.groupHeld folio = true ∨ s.groupNext folio = true ∨ s.bit .TWIN_STATUS_FENCED = true then s
  else if (kind == 2 && !(s.tier.asks.contains (folio, up) && s.deferrable)) || (kind == 4 && (s.destageNext != some folio || (s.bit .FM_STATUS_WEAR_LIMITED && decide (s.fm.credit < 4096000)))) then s
  else (s.forward (.move folio kind up) 3).1.startMove folio kind up

/-! ### Commands -/

/-- STANDBY_REPORT (R456). -/
def execStandbyReport (h : FlHdr) (onum : Nat) (w : State) : Host.Outcome State Fault Refusal := finish w fun s => (s.received h .report fun t => t.reportIn onum)

/-- MOVE_START (R279). -/
def execMoveStart (folio kind : Nat) (up : Bool) (w : State) : Host.Outcome State Fault Refusal := finish w fun s => (s.moveStart folio kind up)

/-- LEDGER_WRITE (R464). -/
def execLedgerWrite (w : State) : Host.Outcome State Fault Refusal := finish w fun s => s.ledgerDue

/-- STATE (R466). -/
def execState (h : FlHdr) (p : Partner) (w : State) : Host.Outcome State Fault Refusal := finish w fun s => (s.received h .state fun t => t.stateIn p)

/-- DIGEST (R461). -/
def execDigest (h : FlHdr) (window kind digest : Nat) (w : State) : Host.Outcome State Fault Refusal :=
  finish w fun s => (s.received h .digest fun t => t.digestIn window kind digest)

/-- VERDICT (R462). -/
def execVerdict (h : FlHdr) (window kind : Nat) (faulty : Bool) (w : State) : Host.Outcome State Fault Refusal :=
  finish w fun s => (s.received h .verdict fun t => t.verdictIn window kind faulty)

/-- VERDICT_TIMEOUT (R462). -/
def execVerdictTimeout (w : State) : Host.Outcome State Fault Refusal := finish w fun s => s.verdictLate

/-- FAULT (R462). -/
def execFault (h : FlHdr) (w : State) : Host.Outcome State Fault Refusal := finish w fun s => (s.received h .fault fun t => t.faultIn)

/-- HANDOVER_FRAME (R476). -/
def execHandoverFrame (h : FlHdr) (final : Nat) (w : State) : Host.Outcome State Fault Refusal := finish w fun s => (s.received h .handover fun t => t.handoverIn final)

/-- HANDOVER_ACK (R476). -/
def execHandoverAck (h : FlHdr) (w : State) : Host.Outcome State Fault Refusal := finish w fun s => (s.received h .handoverAck fun t => t.handoverAck)

/-- RESYNC (R480). -/
def execResync (h : FlHdr) (phase : Nat) (full : Bool) (pass : Nat) (groups : List Nat) (w : State) : Host.Outcome State Fault Refusal :=
  finish w fun s => (s.received h .resync fun t => t.resyncIn phase full pass groups)

/-- GROUP (R481). -/
def execGroup (h : FlHdr) (group : Nat) (folios : List GroupFolio) (w : State) : Host.Outcome State Fault Refusal :=
  finish w fun s => (s.received h .group fun t => t.groupIn group folios)

/-- TABLES (R482). -/
def execTables (h : FlHdr) (n : Snapshot) (w : State) : Host.Outcome State Fault Refusal := finish w fun s => (s.received h .tables fun t => t.tablesIn n)

/-- MAILBOX (R486). -/
def execMailbox (h : FlHdr) (what i word : Nat) (w : State) : Host.Outcome State Fault Refusal :=
  finish w fun s => (s.received h .mailbox fun t => t.mailboxIn what i word)

/-- BUDGET (R294). -/
def execBudget (h : FlHdr) (folios : Nat) (w : State) : Host.Outcome State Fault Refusal :=
  finish w fun s => (s.received h .budget fun t => t.modTier fun x => { x with partnerB := some folios })

/-- IDLE (R452). -/
def execIdle (h : FlHdr) (w : State) : Host.Outcome State Fault Refusal := finish w fun s => (s.received h .idle id)

/-- FLESAL_BAD_FRAME (R450). -/
def execFlesalBadFrame (why lane type fseq : Nat) (w : State) : Host.Outcome State Fault Refusal := finish w fun s => (s.badFrame why lane type fseq)

/-- FLESAL_RETRANSMIT (R450). -/
def execFlesalRetransmit (w : State) : Host.Outcome State Fault Refusal := finish w fun s => s.retransmit

/-- FLESAL_LOST (R452). -/
def execFlesalLost (w : State) : Host.Outcome State Fault Refusal := finish w fun s => s.flesalLost.finishSwitch

/-- FLESAL_RTT (R446). -/
def execFlesalRtt (ns : Nat) (w : State) : Host.Outcome State Fault Refusal := finish w fun s => (s.rtt ns)

/-- FLESAL_UP (R446). -/
def execFlesalUp (lanes : Nat) (w : State) : Host.Outcome State Fault Refusal := finish w fun s => (s.flesalUp lanes)

/-- LEASE_REQUEST (R470). -/
def execLeaseRequest (w : State) : Host.Outcome State Fault Refusal := finish w fun s => s.leaseRequest

/-- SUBMIT (R471). -/
def execSubmit (guard : Nat) (w : State) : Host.Outcome State Fault Refusal := finish w fun s => (s.regRow 0x90180 (·.submitGrant guard))

/-- DENY (R473). -/
def execDeny (guard : Nat) (w : State) : Host.Outcome State Fault Refusal := finish w fun s => (s.regRow 0x90180 (·.denyLease guard))

/-- LEASE_EXPIRED (R473). -/
def execLeaseExpired (w : State) : Host.Outcome State Fault Refusal := finish w fun s => s.leaseExpired

/-- SWITCHOVER (R475). -/
def execSwitchover (w : State) : Host.Outcome State Fault Refusal := finish w fun s => s.switchOver

/-- SWITCHOVER_ANNOUNCE_REPEAT (R475). -/
def execSwitchoverAnnounceRepeat (w : State) : Host.Outcome State Fault Refusal :=
  finish w fun s => (if s.twin.announce = 0 ∨ s.serving = false then s else (s.modTwin fun w => { w with announce := w.announce - 1 }).announceAll)

/-- RESYNC_PHASE (R480). -/
def execResyncPhase (n : Nat) (w : State) : Host.Outcome State Fault Refusal := finish w fun s => (s.resyncPhase n)

/-- RESYNC_DONE (R482). -/
def execResyncDone (w : State) : Host.Outcome State Fault Refusal := finish w fun s => s.resyncDone

/-- RESYNC_ABANDONED (R483): Flesal is lost, or a node has left its mode. -/
def execResyncAbandoned (w : State) : Host.Outcome State Fault Refusal :=
  finish w fun s => (if s.bit .TWIN_STATUS_LINK_UP = false ∨ !(s.modeOf == mSOLO || s.modeOf == mRESYNC) = true then s.abandonResync s.modeOf else s)

/-- EGRESS_HOUR (R485). -/
def execEgressHour (w : State) : Host.Outcome State Fault Refusal := finish w fun s => s.egressHour

/-- TWIN_MB_OUT (R486). -/
def execTwinMbOut (i word : Nat) (w : State) : Host.Outcome State Fault Refusal := finish w fun s => (s.regRow (0x90200 + 4 * i) (·.mbOut i word))

/-- TWIN_DB_OUT (R486). -/
def execTwinDbOut (bits : Nat) (w : State) : Host.Outcome State Fault Refusal := finish w fun s => (s.regRow 0x90244 (·.dbOut bits))

end Sys2Proof.Machine
end

