-- ==== Sys2Proof/Machine/Impress.lean ====
section
/-!
DEFINITION. Register stores, live-paired sets and Impress: 00_scope.md R9, R12 and R13, 03_forme.md R87 to R95,
19_management_interface.md R570 and R583.
-/

namespace Sys2Proof.Machine

open Sys2Proof

/-! ### Live-paired sets (R13) -/

/-- `I3C_SADDR` and its check agree (R570). -/
def Dev.saddrAgrees (s : Dev) : Bool := s.get .I3C_SADDR_CHK_CHECK == 2 ^ 32 - 1 - s.get .I3C_SADDR_ADDR

/-- What a write to the I3C address pair leads to (R570): an agreed address is kept; a pair that ceases to agree is
marked and logged. A mismatch bit that SP firmware clears while the pair still disagrees stays clear until the next write of the pair, which the
manual leaves open (assumption 123). `before`: it agreed before the write. -/
def Dev.saddrWritten (s : Dev) (before : Bool) : Dev :=
  if s.saddrAgrees then s.modSp fun p => { p with saddr := s.get .I3C_SADDR_ADDR }
  else
    let t := s.set .I3C_STATUS_SADDR_MISMATCH 1
    if before then t.postOpen 0x3020 0 [0, 0xA4] else t

/-- What a write to a slot's pair leads to (R583). -/
def Dev.sbWritten (s : Dev) (k : Nat) (before : Bool) : Dev :=
  if s.sbAgrees k then s.modSp fun p => { p with sbSel := p.sbSel.put k (s.get (.SB_SLOT_ADDR_SEL k)) }
  else
    let t := s.orF .SB_STATUS_MISMATCH (1 <<< k)
    if before then t.postOpen 0x3020 (0x0100 + k / 2) [0x0100 + k / 2, 0x200 + 8 * k] else t

/-- The checks of every live-paired set of the register map, once (R94). -/
def Dev.checkPairs (s : Dev) : Dev :=
  ((s.saddrWritten true).each (List.range 16) (fun t k => t.sbWritten k true)).injectWritten true

/-! ### Stores into fields (R9) -/

/-- Bits of a word that a field takes. -/
def Fld.of (f : Fld) (w : Nat) : Nat := bitsOf w f.lo f.width

/-- A store into one field by its type; `lost` masks W1C bits the device sets in the same tick (R10), none here. -/
def Dev.storeField (s : Dev) (w : Nat) (f : Fld) : Dev :=
  match f.ty with
  | .rw => s.set f (f.of w)
  | .w1c => s.set f (maskOff (s.get f) (f.of w))
  | .w1s => s.set f (s.get f ||| f.of w)
  | .rws => s.setShadow f (f.of w)
  | .ro | .wo | .rc => s

/-- A shadowed register was written (`IMPRESS_STATUS.WRITES`). -/
def Dev.noteShadow (s : Dev) (a : Nat) : Dev :=
  s.modCal fun c => if c.written.contains a then c else { c with written := a :: c.written }

/-- A word stored at a register address: every field takes its bits, reserved bits are ignored (R7, R8). DORMANT discards what goes
to a core field (R611), and a node that follows what goes to a shadow, which is logged (R93). -/
def Dev.storeWord (s : Dev) (a w : Nat) : Dev :=
  let fs := (fieldsAt a).filter fun f => f.dom != .core || s.modeOf != mDORMANT
  let shadowed := fs.any fun f => f.ty == .rws
  let t := s.each (fs.filter fun f => !(f.ty == .rws && s.follower)) fun t f => t.storeField w f
  if shadowed then (if s.follower then t.postOpen 0x3012 0 [] else t.noteShadow a) else t

/-- An entry of the register image (R75): RW fields at once, RWS fields to the shadow. -/
def Dev.imageWord (s : Dev) (a w : Nat) : Dev :=
  let t := s.each (fieldsAt a) fun t f => if f.ty = .rw ∨ f.ty = .rws then t.storeField w f else t
  if (fieldsAt a).any (fun f => f.ty == .rws) then t.noteShadow a else t

/-! ### Impress (R87 to R93) -/

/-- The pending fields: those whose shadow differs from the active copy. -/
def Dev.pendingFields (s : Dev) : List Fld := rwsFields.filter fun f => s.shadow f != s.get f

/-- Shadowed fields that are sizing fields: a pending zero refuses with ZERO (R89, R95 and the chapters' tables). -/
def sizingFields : List Fld :=
  [.EVT_RATE_COUNT, .EVT_RATE_WINDOW_S, .TWIN_LEASE_CFG_LEASE_WAIT_MS, .TWIN_RESYNC_CFG_CATCHUP_GROUPS,
   .TWIN_RESYNC_CFG_MAX_PASSES, .XPORT_ACK_COALESCE, .XPORT_ACK_TIMER, .KEY_CFG_REKEY_MBPS]

/-- A pending field holds a legal value. -/
def Dev.shadowLegal (s : Dev) (f : Fld) : Bool :=
  let v := s.shadow f
  if f = .GOV_CFG_SP_CAP_W then v == 0 || decide (50 ≤ v ∧ v ≤ 215)
  else if f = .GALLEY_CFG_HIGH_PCT then decide (50 ≤ v ∧ v ≤ 99)
  else if f = .TWIN_CFG_LOSS_US then decide (50 ≤ v ∧ v ≤ 50000)
  else if f = .XPORT_REQ_TIMEOUT then decide (8 ≤ v ∧ v ≤ 20)
  else if f = .TWIN_KEY_CFG_SLOT0 ∨ f = .TWIN_KEY_CFG_SLOT1 then s.shadow .TWIN_KEY_CFG_SLOT0 != s.shadow .TWIN_KEY_CFG_SLOT1
  else (List.range 8).all fun n =>
    !(f == .PORT_VLAN_VID n || f == .PORT_VLAN_TAGGED n) || s.shadow (.PORT_VLAN_TAGGED n) == 0 ||
    decide (1 ≤ s.shadow (.PORT_VLAN_VID n) ∧ s.shadow (.PORT_VLAN_VID n) ≤ 4094)

/-- The unit that a register belongs to, where it belongs to one that may be retired (R608, R614). -/
def unitOfReg (a : Nat) : Option Nat :=
  if 0x00100000 ≤ a ∧ a < 0x00180000 then some (0x0100 + (a - 0x00100000) / 0x10000)
  else if 0x00200000 ≤ a ∧ a < 0x00240000 then some (0x0200 + (a - 0x00200000) / 0x4000)
  else if 0x00300000 ≤ a ∧ a < 0x00400000 then some (0x0300 + (a - 0x00300000) / 0x8000)
  else if 0x00400000 ≤ a ∧ a < 0x00500000 then some (0x0400 + (a - 0x00400000) / 0x20000)
  else none

/-- A pending write belongs to a retired unit (R92). -/
def Dev.onRetired (s : Dev) (f : Fld) : Bool := ((unitOfReg f.reg).map s.unitRetired).getD false

/-- An Impress is refused (R86, R89). -/
def Dev.refuseImpress (s : Dev) (reason : Nat) : Dev :=
  let t := s.setL [(.IMPRESS_STATUS_REFUSED, 1), (.IMPRESS_STATUS_REASON, reason), (.CAL_CTRL_IMPRESS, 0)]
  (t.modCal fun c => { c with impress := false, impressWaits := false }).postOpen 0x3011 0 []

/-- IMPRESS_TRIGGER (R87, R91, R93): an Impress is due at the next boundary, or refused. -/
def Dev.impressTrigger (s : Dev) : Dev :=
  if s.inMode [mHOLDUP, mSANITIZING] then s.refuseImpress 3
  else if s.follower then s.refuseImpress 4
  else (s.set .CAL_CTRL_IMPRESS 1).modCal fun c => { c with impress := true, impressWaits := s.bit .MODE_STATE_TRANSIT && (!c.impress || c.impressWaits) }

/-- The cycle that the boundary at hand begins, 0 where CAL is stopped (R89, R455): a node that follows has taken it from the active already. -/
def Dev.commitCycle (s : Dev) : Nat :=
  if s.calRuns = false then 0 else if s.follower then s.cal.cycle % 2 ^ 32 else (s.cal.count + 1) % 2 ^ 32

/-- The word of a register's shadow copies. -/
def Dev.shadowWord (s : Dev) (a : Nat) : Nat :=
  (fieldsAt a).foldl (fun v f => if f.ty = .rws then v + s.shadow f * 2 ^ f.lo else v) 0

/-- IMPRESS_COMMIT at a boundary (R88, R89, R92, R93): pending writes of retired units are dropped, the rest is
checked, forwarded by an active, and committed together. -/
def Dev.impressCommit (s : Dev) : Dev :=
  if s.inMode [mHOLDUP, mSANITIZING] then s.refuseImpress 3
  else
    let gone := s.pendingFields.filter s.onRetired
    let pend := s.pendingFields.filter (fun f => !s.onRetired f)
    if pend.any (fun f => sizingFields.contains f && s.shadow f == 0) then s.refuseImpress 1
    else if pend.any (fun f => !s.shadowLegal f) then s.refuseImpress 2
    else
      let regs := (pend.map Fld.reg).eraseDups
      let fwd := s.when (s.modeOf == mACTIVE) (fun t => (t.forward (.impress (regs.map (fun a => (a, t.shadowWord a)))) 3).1)
      let cut := (fwd.each gone (fun t f => t.setShadow f (t.get f))).when (!gone.isEmpty) (·.set .IMPRESS_STATUS_DROPPED 1)
      let done := (cut.each pend (fun t f => t.set f (t.shadow f))).setL [(.IMPRESS_STATUS_DONE, 1), (.CAL_CTRL_IMPRESS, 0)]
      (done.modCal fun c => { c with impress := false, impressWaits := false, written := [] }).postOpen 0x3010 0 [s.commitCycle]

/-- The Impress of a boundary, if one is due (R87); one triggered during a transition waits for the mode's entry (R91). -/
def Dev.impressDue (s : Dev) : Dev := if s.cal.impress && !s.cal.impressWaits then s.impressCommit else s

/-- A forwarded Impress on a follower (R93): it commits at the boundary that follows its stamp. -/
def Dev.impressItem (s : Dev) (writes : List (Nat × Nat)) : Dev :=
  (s.each writes (fun t e => t.each (fieldsAt e.1) (fun u f => if f.ty = .rws then u.setShadow f (f.of e.2) else u))).modCal
    fun c => { c with impress := true }

/-- DISCARD (R90): every shadow takes its active value at once, and no write is left to count (assumption 131). -/
def Dev.discardShadow (s : Dev) : Dev :=
  (s.each s.pendingFields (fun t f => t.setShadow f (t.get f))).modCal fun c => { c with written := [] }

/-! ### Commands -/

/-- IMPRESS_COMMIT (R88): the commit of a boundary at which an Impress is due. -/
def execImpressCommit (w : State) : Host.Outcome State Fault Refusal := finish w fun s => s.impressDue

/-- DISCARD (R90). -/
def execDiscard (w : State) : Host.Outcome State Fault Refusal := finish w fun s => (s.regRow 0x50100 (·.discardShadow))

end Sys2Proof.Machine
end

