-- ==== Sys2Proof/Machine/Forme.lean ====
section
/-!
DEFINITION. The Forme loader of 03_forme.md: the container and its directory, the two passes over a slot, refusal
and acceptance, and the anti-rollback and key operations.
-/

namespace Sys2Proof.Machine

open Sys2Proof

/-! ### The container (R65 to R72) -/

/-- First byte of a slot: 1 A, 2 B (R65). -/
def slotBase (slot : Nat) : Nat := if slot = 2 then 0x04000000 else 0

/-- A byte of the boot store; an erased one reads 0xFF (assumption 5). -/
def FormeSt.byte (f : FormeSt) (a : Nat) : Byte := f.store.getD a 0xFF

/-- Bytes of a slot's container. -/
def FormeSt.bytes (f : FormeSt) (slot o n : Nat) : List Byte := (List.range n).map fun i => f.byte (slotBase slot + o + i)

/-- A field of a slot's container. -/
def FormeSt.at_ (f : FormeSt) (slot o n : Nat) : Nat := leNat (f.bytes slot o n)

/-- A directory entry (R69) with its offset. -/
structure DirEntry where
  pos  : Nat
  typ  : Nat
  inst : Nat
  off  : Nat
  len  : Nat
  crc  : Nat

/-- TOTAL_LENGTH of a slot. -/
def FormeSt.total (f : FormeSt) (slot : Nat) : Nat := f.at_ slot 8 4

/-- SECTION_COUNT. -/
def FormeSt.sections (f : FormeSt) (slot : Nat) : Nat := f.at_ slot 0x16 2

/-- The section directory. -/
def FormeSt.dir (f : FormeSt) (slot : Nat) : List DirEntry :=
  (List.range (f.sections slot)).map fun i =>
    let o := 256 + 32 * i
    ⟨o, f.at_ slot o 2, f.at_ slot (o + 2) 2, f.at_ slot (o + 4) 4, f.at_ slot (o + 8) 4, f.at_ slot (o + 0x0C) 4⟩

/-- The section of an entry. -/
def FormeSt.sec (f : FormeSt) (slot : Nat) (e : DirEntry) : Sec := ⟨e.off, f.bytes slot e.off e.len⟩

/-- Header checks (R68, R636). SECTION_COUNT, which R636 does not place, comes last, and the reserved bytes are not checked (assumption 107). -/
def FormeSt.headerChecks (f : FormeSt) (slot : Nat) : List Check :=
  let t := f.total slot
  let h := f.at_ slot 0x14 1
  [⟨f.bytes slot 0 4 == [0x4B, 0x46, 0x52, 0x4D], rMAGIC, 0⟩, ⟨f.at_ slot 4 2 == 1, rFORMAT, 4⟩, ⟨f.at_ slot 6 2 == 256, rFORMAT, 6⟩,
   ⟨decide (0 < t ∧ t ≤ 2 ^ 26) && t % 64 == 0, rLENGTH, 8⟩, ⟨f.at_ slot 0x10 4 == 0x60400A02, rCHIP, 0x10⟩,
   ⟨(h == 16 || h == 24) && decide (h ≤ Config.hbmGib), rHBM, 0x14⟩,
   ⟨within (f.sections slot) 1 64, rSECTION, 0x16⟩]

/-- Checks of one directory entry against R69, R70 and R95, in the order of its fields; `seen` are the entries before it. A repeated entry is reported at
its TYPE (assumption 107). A REGISTER_IMAGE may be empty (R95). -/
def dirChecks (total count : Nat) (seen : List DirEntry) (reserved : Nat) (e : DirEntry) : List Check :=
  let one := fun (d : DirEntry) => d.typ == e.typ && (d.inst == e.inst || [1, 3, 5, 6].contains e.typ)
  [⟨within e.typ 1 6 && !seen.any one, rSECTION, e.pos⟩,
   ⟨match e.typ with | 2 => decide (e.inst ≤ 15) | 4 => true | _ => e.inst == 0, rSECTION, e.pos + 2⟩,
   ⟨e.off % 64 == 0 && decide (256 + 32 * count ≤ e.off ∧ e.off + 256 ≤ total) && !(seen.any (fun d => decide (d.off < e.off + e.len ∧ e.off < d.off + d.len))), rSECTION, e.pos + 4⟩,
   ⟨(decide (0 < e.len) || e.typ == 5) && decide (e.off + e.len + 256 ≤ total), rSECTION, e.pos + 8⟩, ⟨reserved == 0, rSECTION, e.pos + 0x10⟩]

/-- The entries' checks in directory order. -/
def FormeSt.dirAll (f : FormeSt) (slot : Nat) (seen : List DirEntry) : List DirEntry → List Check
  | [] => []
  | e :: es => dirChecks (f.total slot) (f.sections slot) seen (f.at_ slot (e.pos + 0x10) 16) e ++ f.dirAll slot (e :: seen) es

/-- A table ID that R74 names. -/
def tableIdOk (id : Nat) : Bool := within id 1 6 || within id 0x10 0x1F || within id 0x20 0x2F

/-- The directory's checks (R636, step 1). -/
def FormeSt.directoryChecks (f : FormeSt) (slot : Nat) : List Check :=
  let es := f.dir slot
  let has := fun (t i : Nat) => es.any (fun e => e.typ == t && e.inst == i)
  let tbls := es.filter (fun e => e.typ == 4)
  f.dirAll slot [] es ++
  (es.filter (fun e => e.typ == 6)).map (fun e => ⟨decide (e.len ≤ 2 ^ 24), rRUNTIME, e.pos + 8⟩) ++
  tbls.flatMap (fun e => [⟨tableIdOk e.inst, rTABLE, e.pos + 2⟩, ⟨decide (e.len ≤ 32768), rTABLE, e.pos + 8⟩]) ++
  [⟨has 1 0 && has 2 0 && has 5 0 && has 6 0 && (has 3 0 || !(es.any (fun e => e.typ == 2 && e.inst != 0))), rSECTION, 256⟩] ++
  [⟨[1, 2, 3, 4, 5, 6, 0x10].all (has 4) && tbls.all (fun e => !within e.inst 0x10 0x1F || has 4 (e.inst + 0x10)), rTABLE, 256⟩]

/-- The signed hash: SHA-384 over what the signature covers (R72, R78). -/
def FormeSt.signedHash (f : FormeSt) (slot : Nat) : Nat := Config.sha384 (f.bytes slot 0 (f.total slot - 256))

/-- The checks at the end of pass 1 (R71, R72, R83): the signature block, the key, the signature, the SVN. A KEY_INDEX above 3 is KEY and an ALG other
than 1 is SIGNATURE at ALG, for which the manual names no reason (assumption 107). -/
def Dev.signatureChecks (s : Dev) (slot : Nat) : List Check :=
  let f := s.forme
  let b := f.total slot - 256
  let k := f.at_ slot (b + 4) 2
  let pub := f.bytes slot (b + 8) 97
  [⟨f.bytes slot b 4 == [0x4B, 0x53, 0x49, 0x47], rMAGIC, b⟩,
   ⟨decide (k < 4) && !(s.get .FORME_SVN_REVOKED).testBit k && Config.sha384 pub == Config.keyHash k, rKEY, b + 4⟩,
   ⟨f.at_ slot (b + 6) 2 == 1, rSIGNATURE, b + 6⟩,
   ⟨Config.ecdsaVerify pub (f.bytes slot (b + 0x70) 48) (f.bytes slot (b + 0xA0) 48) (f.signedHash slot), rSIGNATURE, b + 0x70⟩,
   ⟨decide (s.get .FORME_SVN_FUSED ≤ f.at_ slot 0x0C 4 ∧ f.at_ slot 0x0C 4 ≤ 64), rROLLBACK, 0x0C⟩]

/-! ### Pass 2 (R78, R636) -/

/-- Tables in ascending ID, put in place one by one. -/
def insertTbl (t : Tbl) : List Tbl → List Tbl
  | [] => [t]
  | u :: us => if t.id ≤ u.id then t :: u :: us else u :: insertTbl t us

/-- The tables of a slot in ascending ID. -/
def FormeSt.tables (f : FormeSt) (slot : Nat) : List Tbl :=
  ((f.dir slot).filter (fun e => e.typ == 4)).foldl (fun l e => insertTbl ⟨e.inst, f.sec slot e⟩ l) []

/-- The section of a type and instance. -/
def FormeSt.secOf (f : FormeSt) (slot typ inst : Nat) : Sec :=
  (((f.dir slot).find? (fun e => e.typ == typ && e.inst == inst)).map (f.sec slot)).getD ⟨0, []⟩

/-- The pages of a slot by number. -/
def FormeSt.pageSecs (f : FormeSt) (slot : Nat) : List (Nat × Sec) :=
  (List.range 16).filterMap fun n => ((f.dir slot).find? (fun e => e.typ == 2 && e.inst == n)).map (fun e => (n, f.sec slot e))

/-- MAPDIR_GIB holds the map directory (R267). -/
def mapdirFits (x : Sec) (ts : List Tbl) : Bool :=
  let f := x.fixed
  let tier := ((tblOf ts 6).map tierOf).map TierPolicy.stageFrames
  decide (mapdirBytes f.exposed (setCounts f (geoOf (x.record 0x0101)) (geoOf (x.record 0x0201)) (tier.getD 0) (popCount f.dimmMask 8) 8) ≤ f.mapdirGib * 2 ^ 30)

/-- EXPOSED_FOLIOS fits the flash of the NAND_CMD table 0x10 (R361). -/
def exposedFits (x : Sec) (ts : List Tbl) : Bool :=
  let f := x.fixed
  let p := flashPolicyOf (x.record 0x0302)
  let nand := (tblOf ts 0x10).getD ⟨0, []⟩
  let chs := popCount f.nandMask 32
  let w := min 16 chs
  let bands := chs * f.targets * f.luns * nand.at_ 0x1C 2 / max 1 w
  let folios := (bands - p.vigilBands - p.metaBands) * (nand.at_ 0x1E 2 * nand.at_ 0x18 1 * 4 * (w - 1))
  decide (f.exposed * (100 + p.opMinPct) ≤ folios * 100)

/-- The records as a whole: one that is missing (R156, R328, R360), reported at RECORD_COUNT (assumption 110), and the NAND geometry (R358). -/
def recordsWhole (x : Sec) (ts : List Tbl) : List Check :=
  let f := x.fixed
  let rs := x.records
  let big := ts.filter (fun t => within t.id 0x10 0x1F && !(decide (t.sec.at_ 0x18 1 * t.sec.at_ 0x1C 2 ≤ 8191 ∧ t.sec.at_ 0x1E 2 ≤ 2048)))
  [⟨[0x0101, 0x0201, 0x0302].all (fun t => rs.any (fun r => r.typ == t)) &&
    (rs.filter (fun r => r.typ == 0x0401)).length == f.portCount, rSTRUCTURE, x.off + 0x1C⟩] ++
  big.map (fun t => ⟨false, rSTRUCTURE, t.sec.off + (if t.sec.at_ 0x1E 2 ≤ 2048 then 0x1C else 0x1E)⟩)

/-- The STRUCTURE digest covers every section but the register image in directory order (R76). -/
def FormeSt.digestBytes (f : FormeSt) (slot : Nat) : List Byte :=
  ((f.dir slot).filter (fun e => e.typ != 5)).flatMap (fun e => (f.sec slot e).data)

/-- What pass 2 finds where the hash is unchanged (R636, step 4): reason and detail. -/
def FormeSt.pass2 (f : FormeSt) (slot : Nat) : Option (Nat × Nat) :=
  let es := f.dir slot
  let x := f.secOf slot 1 0
  let ts := f.tables slot
  let pages := f.pageSecs slot
  let plan : Plan := ⟨x.fixed, geoOf (x.record 0x0101), geoOf (x.record 0x0201)⟩
  let first := ((pages.find? (fun p => p.1 == 0)).map (fun p => p.2.page)).getD ⟨[], []⟩
  let crcs := es.map fun e => (⟨crc32 (f.sec slot e).data == e.crc, rSECTION, e.pos + 0x0C⟩ : Check)
  let early := crcs ++ x.fixedChecks pages.length (f.at_ slot 0x14 1) (exposedFits x ts) (mapdirFits x ts) ++ recordChecks x x.fixed [] x.records ++ recordsWhole x ts
  match firstBadCheck early with
  | some r => some r
  | none =>
    let viols := pages.flatMap (fun p => pageViols plan first p.1 p.2)
    let fm := (es.filter (fun e => e.typ == 3)).flatMap (fun e =>
      mapViols (pages.map (fun p => (p.1, if (p.2.headerViols p.1).isEmpty then p.2.page else ⟨[], []⟩))) (f.sec slot e))
    match firstViol (viols ++ fm) with
    | some v => match v.zero with
      | some o => some (rZERO, o)
      | none => some (rCALENDAR, v.place)
    | none =>
      firstBadCheck (ts.flatMap (tableChecks x.fixed ts) ++ (f.secOf slot 5 0).imageChecks ++
        [⟨Config.sha384 (f.digestBytes slot) == beNat (f.bytes slot 0x20 48), rDIGEST, 0x20⟩])

/-- The Forme of a slot that passed every check. -/
def FormeSt.accepted (f : FormeSt) (slot : Nat) : Forme :=
  let x := f.secOf slot 1 0
  let ts := f.tables slot
  let t := fun (id : Nat) => (tblOf ts id).getD ⟨0, []⟩
  { slot := slot, svn := f.at_ slot 0x0C 4, keyIndex := f.at_ slot (f.total slot - 252) 2, build := f.at_ slot 0x18 8,
    digest := f.bytes slot 0x20 48, hbmGib := f.at_ slot 0x14 1, fixed := x.fixed,
    records := x.records.map (fun r => (r.typ, r.body)), pages := (f.pageSecs slot).map (fun p => (p.1, p.2.page)),
    fallback := if (f.dir slot).any (fun e => e.typ == 3) then (f.secOf slot 3 0).fallback else [],
    tables := ts.map (fun e => (e.id, e.sec.data)), policy := policyOf (t 3), tiers := tierOf (t 6), cc := ccOf (t 2),
    dscp := (List.range 64).map (fun d => (t 1).at_ (16 + d) 1), dimm := geoOf (x.record 0x0101), hbm := geoOf (x.record 0x0201),
    flash := flashPolicyOf (x.record 0x0302),
    nands := (ts.filter (fun e => within e.id 0x10 0x1F)).map (fun e => nandOf e (tblOf ts (e.id + 0x10))),
    ports := (List.range x.fixed.portCount).filterMap (fun n =>
      ((x.records.filter (fun r => r.typ == 0x0401)).map (fun r => portRecOf r.body)).find? (fun p => p.port == n)),
    power := powerOf (t 4), curve := curveOf (t 5) }

/-! ### Loading (R77 to R82) -/

/-- The fields of a slot's refusal: flag, reason, detail. -/
def slotFields (slot : Nat) : Fld × Fld × Fld :=
  if slot = 2 then (.FORME_STATUS_B_REFUSED, .FORME_STATUS_B_REASON, .FORME_DETAIL_B_DETAIL)
  else (.FORME_STATUS_A_REFUSED, .FORME_STATUS_A_REASON, .FORME_DETAIL_A_DETAIL)

/-- The load ends: NEXT_SLOT returns to 0 (R77). -/
def Dev.endLoad (s : Dev) : Dev := (s.set .FORME_CTRL_NEXT_SLOT 0).modForme fun f => { f with load := none }

/-- A slot is refused (R81): the other slot is tried, or both are refused (R47, R79). -/
def Dev.refuseSlot (s : Dev) (l : FormeLoad) (reason detail : Nat) : Dev :=
  let g := slotFields l.slot
  let t := (s.setL [(g.1, 1), (g.2.1, reason), (g.2.2, detail)]).post 0x3001 0 (l.slot - 1) reason detail
  if l.other then t.modForme fun f => { f with load := some ⟨3 - l.slot, 1, false, 0⟩ } else t.endLoad

/-- A store that cannot run 8D-8D-8D, or is too small, refuses both slots (R586). -/
def Dev.refuseStore (s : Dev) : Dev :=
  match s.forme.load with
  | some l =>
    let t := s.refuseSlot l rREAD 0
    match t.forme.load with
    | some m => t.refuseSlot m rREAD 0
    | none => t
  | none => s

/-- A load starts (R77): the slot that NEXT_SLOT names first, or the one that BOOT_SEL chooses. -/
def Dev.startLoad (s : Dev) : Dev :=
  let n := s.get .FORME_CTRL_NEXT_SLOT
  let first := if n = 1 ∨ n = 2 then n else if s.pwr.straps.bootSel then 2 else 1
  let t := s.modForme fun f => { f with load := some ⟨first, 1, true, 0⟩ }
  if t.forme.storeGood then t else t.refuseStore

/-- FORME_PASS1_DONE (R78, R636): `err` is the container offset of a read error or time-out. The header and the directory
are checked before the rest is read. -/
def Dev.pass1Done (s : Dev) (err : Option Nat) : Dev :=
  match s.forme.load with
  | none => s
  | some l =>
    if l.pass ≠ 1 then s
    else
      let f := s.forme
      let failsBelow := fun (n : Nat) => err.filter (fun e => decide (e < n))
      let read := fun (e : Nat) => s.refuseSlot l rREAD e
      match failsBelow 256 with
      | some e => read e
      | none => match firstBadCheck (f.headerChecks l.slot) with
        | some r => s.refuseSlot l r.1 r.2
        | none => match failsBelow (256 + 32 * f.sections l.slot) with
          | some e => read e
          | none => match firstBadCheck (f.directoryChecks l.slot) with
            | some r => s.refuseSlot l r.1 r.2
            | none => match failsBelow (f.total l.slot) with
              | some e => read e
              | none => match firstBadCheck (s.signatureChecks l.slot) with
                | some r => s.refuseSlot l r.1 r.2
                | none => s.modForme fun g => { g with load := some { l with pass := 2, hash := g.signedHash l.slot } }

/-- What the core registers show of the running Forme. -/
def Dev.showForme (s : Dev) (f : Forme) : Dev :=
  (s.setL [(.FORME_STATUS_ACTIVE_SLOT, f.slot), (.FORME_SVN_RUNNING, f.svn), (.FORME_SVN_RUNNING_KEY, f.keyIndex),
    (.FORME_BUILD_LO_VALUE, f.build % 2 ^ 32), (.FORME_BUILD_HI_VALUE, f.build / 2 ^ 32)]).each (List.range 12)
    (fun t i => t.set (.FORME_DIGEST_VALUE i) (leAt f.digest (4 * i) 4))

/-- The accepted Forme's power table takes over at the Impress of CAL start, and the island keeps its copy (R523, R537). -/
def Dev.takePower (s : Dev) (f : Forme) : Dev :=
  (s.modPwr fun p => { p with table := f.power, copy := some f.power, savePower := some f.tiers.savePower }).set .PWR_STATUS_TABLE_SRC 1

/-- A slot is accepted (R79, R94): the register image is applied in list order with the live-paired checks held back to
its end, the runtime starts, and the loader's Impress commits before cycle 0 (R87). Row 2 of R46 follows. -/
def Dev.acceptSlot (s : Dev) (l : FormeLoad) : Dev :=
  let f := s.forme.accepted l.slot
  let g := slotFields l.slot
  let t := (s.setL [(g.1, 0), (g.2.1, 0), (g.2.2, 0)]).modForme fun x => { x with run := some f, runtime := true }
  let u := (t.showForme f).each (s.forme.secOf l.slot 5 0).image (fun v e => v.imageWord e.1 e.2)
  (((u.checkPairs.impressCommit).takePower f).endLoad).trigger ⟨2, mTRAINING, 1, 6, 0⟩

/-- FORME_PASS2_DONE (R78, R636): `err` is the offset of a read error, `changed` that the bytes read differ from those of pass 1, as they do where
the store itself changed between the passes. -/
def Dev.pass2Done (s : Dev) (err : Option Nat) (changed : Bool) : Dev :=
  match s.forme.load with
  | none => s
  | some l =>
    if l.pass ≠ 2 then s
    else match err with
      | some e => s.refuseSlot l rREAD e
      | none =>
        if changed = true ∨ s.forme.signedHash l.slot ≠ l.hash then s.refuseSlot l rCHANGED 0
        else match s.forme.pass2 l.slot with
          | some r => s.refuseSlot l r.1 r.2
          | none => s.acceptSlot l

/-- RELOAD (R43): the slots are tried again. -/
def Dev.reload (s : Dev) : Dev := s.startLoad

/-- CONFIGURING stands with both slots refused and no load running (R47). -/
def Dev.bothRefused (s : Dev) : Bool := s.modeOf == mCONFIGURING && s.forme.load.isNone && s.forme.run.isNone

/-! ### One-time-programmable operations (R84, R85) -/

/-- SVN_COMMIT (R84). -/
def Dev.svnCommit (s : Dev) (guard : Nat) : Dev :=
  let v := s.get .FORME_SVN_RUNNING
  if guard = 0xA5 ∧ s.inMode [mSOLO, mACTIVE, mSTANDBY, mQUIESCED] = true ∧ s.forme.run.isSome = true ∧ s.get .FORME_SVN_FUSED < v then
    (s.set .FORME_SVN_FUSED v).postOpen 0x3003 0 []
  else s

/-- KEY_REVOKE (R85): never the entry that signed the running Forme, nor the last one. One that is revoked already is revoked and logged again
(assumption 131). -/
def Dev.keyRevoke (s : Dev) (index guard : Nat) : Dev :=
  let r := s.get .FORME_SVN_REVOKED
  let after := setBit r index
  let signed := (s.forme.run.map (fun f => f.keyIndex == index)).getD false
  if guard = 0xA5 ∧ signed = false ∧ after ≠ 0xF ∧ index < 4 then (s.set .FORME_SVN_REVOKED after).postOpen 0x3004 0 []
  else s

/-! ### Commands -/

/-- SVN_COMMIT (R84). -/
def execSvnCommit (guard : Nat) (w : State) : Host.Outcome State Fault Refusal := finish w fun s => (s.regRow 0x50010 (·.svnCommit guard))

/-- KEY_REVOKE (R85). -/
def execKeyRevoke (index guard : Nat) (w : State) : Host.Outcome State Fault Refusal := finish w fun s => (s.regRow 0x50010 (·.keyRevoke index guard))

end Sys2Proof.Machine
end

