-- ==== Sys2Proof/Machine/Items.lean ====
section
/-!
DEFINITION. ITEM: what a node that follows executes of the active's forwarded items, in ONUM order (15_twin_mirroring.md
R453 to R457, R640).
-/

namespace Sys2Proof.Machine

open Sys2Proof

/-- A device-requester action of the active (R258, R454). -/
def Dev.requesterDo (s : Dev) (what object psn : Nat) : Dev :=
  match what with
  | 0 => if psn = 0xFFFFFF then s.advanceNow object 0 else s.descStep object psn (fun _ => true) true
  | 1 => s.probeNow object
  | 2 => (s.updQp object fun q => { q with rnrWait := none }).resend object psn
  | _ => s.retire object psn 0

/-- What an item's body does (R454). -/
def Dev.itemBody (s : Dev) (b : ItemBody) : Dev :=
  match b with
  | .host p => s.hostRequest p true
  | .cm r => s.connect r
  | .cmMsg what i => s.cmDo what i
  | .verb who bytes => s.verbItem who bytes
  | .move folio kind up => s.startMove folio kind up
  | .requester what object psn => s.requesterDo what object psn
  | .timeout n => s.failQueue n 20
  | .impress ws => s.impressItem ws
  | .budget b => s.modTier fun t => { t with nextB := some (b, s.get .TIER_STATUS_LIMIT) }
  | .revoked i => (s.regionRevoked i).brokenWaits

/-- An item in its turn (R453, R456): its stamp is the request's, and the report follows once its writes are durable (R233). -/
def Dev.runItem (s : Dev) (i : TwinItem) : Dev :=
  let t := ((s.modCal fun c => { c with lastStamp := some i.stamp }).itemBody i.body).inc .TWIN_ITEMS_ITEMS
  (t.modTwin fun w => { w with onum := i.onum, reports := w.reports ++ [(i.onum, i.stamp, t.twin.oseq)] }).sendReports

/-- An item passes point 32 (R110, R115): it joins the queue, and leaves it when the node serves it in its turn. -/
def Dev.itemArrives (s : Dev) (i : TwinItem) : Dev := s.arrive 32 ⟨i.onum, true, none, none, 0, false⟩ false

/-- The item leaves point 32, and its credit goes back with the next frame (R110, R448). -/
def Dev.itemLeaves (s : Dev) (i : TwinItem) : Dev :=
  (s.modCal fun c => c.setQueue 32 ((c.queue 32).filter fun a => a.id != i.onum)).modTwin fun w => { w with give := w.give + 1 }

/-- ITEM (R453): an item at or below the last one executed was executed before; one past the next waits for its turn, and in
a session without loss never comes. An item beyond the credits of point 32 is a protocol error (R110, R451). -/
def Dev.itemIn (s : Dev) (h : FlHdr) (i : TwinItem) : Dev :=
  let depth := ((s.admission 32).map AdmitDesc.depth).getD 0
  if s.twin.give + (s.cal.queue 32).length ≥ depth then (s.set .TWIN_STATUS_PROTOCOL_ERR 1).post 0xA010 0 2 1 (h.fseq % 2 ^ 32)
  else
    let t := s.itemArrives i
    if t.follower = true ∧ i.onum = t.twin.onum + 1 then (t.itemLeaves i).runItem i
    else if t.follower = true ∧ i.onum > t.twin.onum then t
    else t.itemLeaves i

/-- GALLEY_WAIT_PLACE (R316): a report that waited for the write may go. -/
def execGalleyWaitPlace (w : State) : Host.Outcome State Fault Refusal := finish w fun s => s.galleyPlace.sendReports

/-- ITEM (R453). -/
def execItem (h : FlHdr) (item : TwinItem) (w : State) : Host.Outcome State Fault Refusal :=
  finish w fun s => (s.received h .item fun t => t.itemIn h item)

end Sys2Proof.Machine
end

