-- ==== Sys2Proof/Machine/Faults.lean ====
section
/-!
DEFINITION. Faults as the device detects them (05_integrity.md R132 to R152, 11_dram_controller.md R343 to R351): what each kind's
transient action does, slot replay, injection, parity alerts, watchdogs, and the loss of context lines.
-/

namespace Sys2Proof.Machine

open Sys2Proof

/-! ### Requests that end in error (R29, R137, R346) -/

/-- A response of a QP that a request's end replaces: it leaves, and NAK Remote Operational Error takes its place
(R29, R183). -/
def Dev.endResponse (s : Dev) (i : Nat) (r : Resp) : Dev :=
  ((s.updQp i fun q => { q with resps := q.resps.erase r }).dropResp r).nak i 0x63 r.first none

/-- The request of an order stamp ends in error (R29): what its QP has not yet answered is answered with a NAK, and a descriptor that runs at that
stamp fails with cause OPERATIONAL (R254). -/
def Dev.endRequest (s : Dev) (stamp : Nat) : Dev :=
  let t := s.each s.net.qps fun t e => t.each (e.2.resps.filter (fun r => r.stamp == stamp && !r.mute && r.kind != .nak)) fun u r => u.endResponse e.1 r
  let runs (q : DevQ) : Bool := (q.run.map fun r => (r.start == stamp || r.last == stamp) && !r.ended).getD false
  t.each (t.dq.filter fun e => runs e.2) fun u e => u.failQueue e.1 16

/-! ### SRAM errors (R135) -/

/-- An uncorrectable in a galley entry poisons its line (R135). Answers whether it did. -/
def Dev.galleyPoison (s : Dev) (la unit : Nat) : Dev × Bool :=
  match s.gal.find la with
  | some (k, e) =>
    if e.poison then (s, false)
    else if s.gal.dead.testBit (k / 8192) then ((s.poisonLogged la unit).evacuateBad la, true)
    else ((s.modGal fun g => { g with entries := g.entries.put k { e with poison := true } }).poisonLogged la unit, true)
  | none => (s, false)

/-- A SECDED uncorrectable (R135): a line-cache line is invalidated and read from its next source, a galley entry is
poisoned, and a QP whose context it strikes (a transport station, `pos` its index) enters ERROR. -/
def Dev.sramUe (s : Dev) (f : FaultOp) (injected : Bool) : Dev :=
  match unitClass f.unit with
  | 9 =>
    let t := match f.la with | some la => s.lcInvalidate (· == la) | none => s
    t.countFault { f with recovered := true } false injected
  | 10 =>
    let (t, p) := match f.la with | some la => s.galleyPoison la f.unit | none => (s, false)
    t.countFault { f with recovered := false } p injected
  | 14 =>
    let c := s.countFault { f with recovered := false } false injected
    if 0x90 ≤ unitNum f.unit ∧ unitNum f.unit < 0xA0 then
      match s.net.qps.get? f.pos with
      | some q => c.qpError f.pos 0x8001 0 q.epsn
      | none => c
    else c
  | _ => s.countFault { f with recovered := false } false injected

/-! ### Detection (R136) -/

/-- The fault is one of a memory controller. -/
def FaultOp.ofMemory (f : FaultOp) : Bool := unitClass f.unit == 1 || unitClass f.unit == 2

/-- The transient action of a fault's kind, and its count (R136): `injected` marks its log entry (R151). -/
def Dev.faultAction (s : Dev) (f : FaultOp) (injected : Bool) : Dev :=
  match f.kind with
  | 4 => s.sramUe f injected
  | 5 => if f.ofMemory then s.dramCe f injected else s.countFault f false injected
  | 6 => if f.ofMemory then s.dramUe f injected else s.countFault f false injected
  | 7 =>
    if f.ofMemory then s.parityAlert f.pos (match f.req with | some r => [r] | none => []) 0 1 true else s.countFault f false injected
  | 10 => s.daybookCe (unitNum f.unit) f.row f.col f.synd injected
  | 11 => if f.recovered then s.countFault f false injected else s.daybookUe (unitNum f.unit) f.row f.col injected
  | _ => s.countFault f false injected

/-- Requests that a lost transport engine still has open end in error (R36, R119). -/
def Dev.endLost (s : Dev) : Dev :=
  s.each (s.net.qps.filter fun e => s.engineLost (e.1 + 0x100)) fun t e =>
    t.each (e.2.resps.filter fun r => !r.mute && r.kind != .nak) fun u r => u.endResponse e.1 r

/-- FAULT_DETECTED (R136): a check finds a fault (R127 to R133) of a unit that the structure enables, or of a management core, which needs none. -/
def Dev.faultDetected (s : Dev) (f : FaultOp) : Dev :=
  if f.shown = false then s
  else if s.unitPresent f.unit = true ∨ (unitClass f.unit = 8 ∧ unitNum f.unit < 5) then (s.faultAction f false).endLost else s

/-- INJECT (R150, R151): the next use of the armed unit meets one fault of its kind; while the pair disagrees nothing is injected. -/
def Dev.inject (s : Dev) (f : FaultOp) : Dev :=
  if s.injectAgrees = true ∧ s.integ.armed = some (f.unit, f.kind) then
    let t := ((s.modInteg fun i => { i with armed := none }).set .INTEG_SUMMARY_INJ_DONE 1).post 0x4021 f.unit f.unit f.kind 0
    if t.unitPresent f.unit = true ∨ unitClass f.unit = 8 then (t.faultAction f true).endLost else t
  else s

/-! ### Slot replay (R137) -/

/-- SLOT_REPLAY: the replayed execution of a request passes, or fails again: the third failure ends it. -/
def Dev.slotReplay (s : Dev) (stamp tick : Nat) (pass : Bool) : Dev :=
  match s.integ.replays.get? stamp with
  | none => s
  | some r =>
    let gone (t : Dev) : Dev := t.modInteg fun i => { i with replays := i.replays.del stamp }
    if pass then (gone s).inc (.INTEG_TRANS_TRANS r.kind)
    else
      let n := r.count + 1
      let f : FaultOp := { unit := r.unit, kind := r.kind, recovered := false, tick := tick, bank := 0, row := 0, col := 0, pos := 0, synd := 0, sub := 0,
                           la := none, req := some stamp }
      let t := if s.countsFaults r.unit then s.detected f false false n else s
      if n < 2 then t.modInteg fun i => { i with replays := i.replays.put stamp { r with count := n } }
      else (((gone t).inc (.INTEG_FAIL_FAIL r.kind)).post 0x4006 r.unit r.unit stamp r.kind).endRequest stamp

/-! ### Parity alerts whose command has left the buffer (R346) -/

/-- PARITY_ALERT: where the failing command is not in the retry buffer, the requests with a command lost end. -/
def Dev.parityRow (s : Dev) (st : Nat) (lost : List Nat) (refreshes commands : Nat) (held : Bool) : Dev :=
  let t := s.parityAlert st lost refreshes commands held
  if held then t else t.each lost fun u x => u.endRequest x

/-! ### The re-read of an uncorrectable read (R341) -/

/-- DRAM_UE_REREAD: where the re-read fails, the request that it serves ends; a scrub's ends none (R339). -/
def Dev.rereadRow (s : Dev) (unit bank row : Nat) (good : Bool) : Dev :=
  let req := (s.mem.rereads.find? (fun r => r.unit == unit && r.bank == bank && r.row == row)).bind Reread.req
  let t := s.rereadDone unit bank row good
  match good, req with
  | false, some x => t.endRequest x
  | _, _ => t

/-! ### Management cores (R580) -/

/-- WATCHDOG: a core missed its kick (R136, R580). -/
def Dev.watchdog (s : Dev) (core : Nat) : Dev :=
  if core < 5 ∧ s.modeOf ≠ mDORMANT then
    let f : FaultOp := { unit := 0x0800 + core, kind := 15, recovered := false, tick := s.stamp % 4096, bank := 0, row := 0, col := 0, pos := 0, synd := 0,
                         sub := 0, la := none }
    s.countFault f false false
  else s

/-! ### Context lines on a lost pseudo-channel (R351) -/

/-- The QPs whose context line has a byte on a unit (assumption 40). -/
def Dev.ctxOn (s : Dev) (unit : Nat) : List Nat :=
  match s.forme.run with
  | none => []
  | some f =>
    let base := (f.fixed.t0Gib + f.fixed.evbGib) * 2 ^ 30
    (s.net.qps.filter (fun e => s.touchesUnit true (base + e.1 * 512) 8 [unit])).map Prod.fst

/-- Heat-table entries with a byte on a unit are 0 (R351). The map-directory partition holds the directory, the residency table and the heat table in
the order of R267 (DEDUCED). -/
def Dev.coolOn (s : Dev) (unit : Nat) : Dev :=
  match s.forme.run with
  | none => s
  | some f =>
    let md := (f.fixed.t0Gib + f.fixed.evbGib + f.fixed.ctxGib) * 2 ^ 30
    let base := md + s.mapPages * 8 + (s.tier.setsT0 + s.tier.setsT1) * 8
    s.modTier fun t => { t with heat := t.heat.keep fun k _ => !s.touchesUnit true ((base + 8 * k) / 64 * 64) 1 [unit] }

/-- The boundary after the loss of an HBM2E pseudo-channel: its QPs enter ERROR and their indices are held, its heat entries
are 0; the other lines are reloaded or rebuilt, their number being open (R351). -/
def Dev.handleLostCtx (s : Dev) : Dev :=
  let t := s.each s.mem.lostCtx fun u unit =>
    let qs := u.ctxOn unit
    let v := u.each qs fun w i => ((w.qpError i 0x8001 0 ((w.net.qps.get? i).map Qp.epsn |>.getD 0)).modNet fun n => { n with held := i :: n.held })
    ((v.coolOn unit).post 0x500C unit unit (v.freeVal 32) qs.length).drawn
  t.modMem fun m => { m with lostCtx := [] }

/-! ### Commands -/

/-- FAULT_DETECTED (R136). -/
def execFaultDetected (f : FaultOp) (w : State) : Host.Outcome State Fault Refusal := finish w fun s => (s.faultDetected f)

/-- SLOT_REPLAY (R137). -/
def execSlotReplay (stamp tick : Nat) (pass : Bool) (w : State) : Host.Outcome State Fault Refusal := finish w fun s => (s.slotReplay stamp tick pass)

/-- INJECT (R151). -/
def execInject (f : FaultOp) (w : State) : Host.Outcome State Fault Refusal := finish w fun s => (s.inject f)

/-- PARITY_ALERT (R343 to R346). -/
def execParityAlert (station : Nat) (lost : List Nat) (refreshes commands : Nat) (held : Bool) (w : State) : Host.Outcome State Fault Refusal :=
  finish w fun s => (s.parityRow station lost refreshes commands held)

/-- DRAM_UE_REREAD (R341). -/
def execDramUeReread (unit bank row : Nat) (good : Bool) (w : State) : Host.Outcome State Fault Refusal := finish w fun s => (s.rereadRow unit bank row good)

/-- WATCHDOG (R580). -/
def execWatchdog (core : Nat) (w : State) : Host.Outcome State Fault Refusal := finish w fun s => (s.watchdog core)

end Sys2Proof.Machine
end

