-- ==== Sys2Proof/Machine/Power.lean ====
section
/-!
DEFINITION. The power supervisor of 17_power_and_holdup.md: rails and their steps, failures and lockout, the energy store and its
measurement, and the Vigil. Nothing here enters a mode: that is Modes.lean.
-/

namespace Sys2Proof.Machine

open Sys2Proof

/-! ### Pins and the on request (R524, R530, R581) -/

/-- Rail r and its unit ID (R519). -/
def railUnit (r : Nat) : Nat := 0x0C00 + r

/-- The record of a rail in the table in use (R521). -/
def PowerSeq.rail (p : PowerSeq) (r : Nat) : RailRec := p.rails.getD r ⟨0, 0, 1, 0, 0, 0, 0, 0, 0, 0⟩

/-- The sequencer's states (PWR_STATUS.SEQ). -/
def seqOFF : Nat := 0
def seqUP : Nat := 1
def seqON : Nat := 2
def seqDOWN : Nat := 3
def seqDWELL : Nat := 4
def seqLOCKOUT : Nat := 5

/-- The sequencer's state. -/
def Dev.seq (s : Dev) : Nat := s.get .PWR_STATUS_SEQ

/-- Pins as the island samples them: LOCKOUT ends where PWRGD_IN falls while the device does not pull PWR_FAULT_N
(R526). -/
def Dev.setPins (s : Dev) (p : Pins) : Dev :=
  let falls := s.pwr.pins.pwrgd && !p.pwrgd
  let t := (s.modPwr fun x => { x with pins := p }).setL [(.PWR_STATUS_PWRGD_IN, b2n p.pwrgd), (.PWR_STATUS_FAULT_EXT, b2n p.extFault)]
  if falls = true ∧ s.bit .PWR_STATUS_FAULT_OWN = false ∧ s.bit .PWR_STATUS_LOCKOUT = true then
    (t.set .PWR_STATUS_LOCKOUT 0).when (s.seq == seqLOCKOUT) (·.set .PWR_STATUS_SEQ seqOFF)
  else t

/-- An on request holds (R524). -/
def Dev.onRequest (s : Dev) : Bool :=
  let p := s.pwr.pins
  p.pwrgd && p.resetN && !p.extFault && !s.therm.trip && !s.bit .PWR_STATUS_LOCKOUT

/-- The device pulls PWR_FAULT_N low (R526, R527, R529, R551). -/
def Dev.pullFault (s : Dev) : Dev := s.set .PWR_STATUS_FAULT_OWN 1

/-! ### Shutdown (R527, R528) -/

/-- Rails 1 to 13. -/
def switched : List Nat := (List.range 14).drop 1

/-- Rails of a step that the device has enabled, by their down step. -/
def Dev.downRails (s : Dev) (step : Nat) : List Nat :=
  switched.filter (fun r => (s.pwr.table.rail r).downStep == step && s.bit (.PWR_RAIL_STATUS_EN r))

/-- Rail 12 goes down, and the ring with it (R600): records still queued are lost. -/
def Dev.ringOff (s : Dev) : Dev := ({ s with evt := s.evt.dropQueue }).set .EVT_STATUS_RUNNING 0

/-- A down step starts: the enables of its rails are released (R527). -/
def Dev.railStep (s : Dev) (step : Nat) : Dev :=
  ((s.when ((s.downRails step).contains 12) Dev.ringOff).each (s.downRails step) fun t r => t.setL [(.PWR_RAIL_STATUS_EN r, 0), (.PWR_RAIL_STATUS_STATE r, 4)]).setL
    [(.PWR_STATUS_SEQ, seqDOWN), (.PWR_STATUS_STEP, step)]

/-- The last down step has passed: HOLDUP_EN is released (R534) and the off dwell starts (R528). -/
def Dev.downOver (s : Dev) : Dev := s.setL [(.PWR_STATUS_SEQ, seqDWELL), (.PWR_STATUS_STEP, 0), (.PWR_STATUS_HOLDUP_EN, 0)]

/-- The next down step that holds an enabled rail starts, or shutdown is over (R525, R527). -/
def Dev.downFrom (s : Dev) (step : Nat) : Dev :=
  match (List.range 14).find? (fun n => decide (n ≥ step) && !(s.downRails n).isEmpty) with
  | some n => s.railStep n
  | none => s.downOver

/-- Sense readings of the rails in millivolts. -/
def Dev.sense (s : Dev) (mvs : List Nat) : Dev := s.each (List.range 14) (fun t r => t.set (.PWR_RAIL_STATUS_MV r) (mvs.getD r 0))

/-- A rail of a down step at its end: OFF below DIS_MV, else STUCK, counted and logged (R527). -/
def Dev.railDown (s : Dev) (step r : Nat) : Dev :=
  let mv := s.get (.PWR_RAIL_STATUS_MV r)
  if mv < (s.pwr.table.rail r).dis ∨ mv = 0 then s.set (.PWR_RAIL_STATUS_STATE r) 0
  else (((s.set (.PWR_RAIL_STATUS_STATE r) 5).inc (.PWR_RAIL_CNT_DIS_TO r)).set .PWR_STATUS_RAIL_FAULT_SEEN 1).pullFault.post 0x1004 (railUnit r)
    (railUnit r) mv step

/-- The Vigil holds the shutdown order after step 1 until its step 6 (R539). -/
def Dev.downHeld (s : Dev) : Bool := match s.pwr.vigil with
  | some v => decide (v.step < 6)
  | none => false

/-- DOWN_STEP_DONE (R527): the rails of the step have discharged or timed out. -/
def Dev.downStepDone (s : Dev) (mvs : List Nat) : Dev :=
  let step := s.get .PWR_STATUS_STEP
  if s.seq = seqDOWN ∧ step ≠ 0 then
    let rs := switched.filter (fun r => (s.pwr.table.rail r).downStep == step && s.get (.PWR_RAIL_STATUS_STATE r) == 4)
    let t := (s.sense mvs).each rs (fun u r => u.railDown step r)
    if t.downHeld then t.set .PWR_STATUS_STEP 0 else t.downFrom (step + 1)
  else s

/-! ### Power-up (R524 to R526) -/

/-- An up step starts: the enables of its rails are asserted together (R524). -/
def Dev.upStep (s : Dev) (step : Nat) : Dev :=
  (s.each (switched.filter (fun r => (s.pwr.table.rail r).upStep == step)) fun t r =>
    t.setL [(.PWR_RAIL_STATUS_EN r, 1), (.PWR_RAIL_STATUS_STATE r, 1)]).setL [(.PWR_STATUS_SEQ, seqUP), (.PWR_STATUS_STEP, step)]

/-- The power-up starts (R523, R524): with the island's copy of the table, or the boot-ROM default. -/
def Dev.beginUp (s : Dev) : Dev :=
  let t := (s.modPwr fun p => { p with table := p.copy.getD PowerSeq.default, offReq := none }).setB .PWR_STATUS_TABLE_SRC s.pwr.copy.isSome
  t.upStep 1

/-- POWER_UP (R524, R528): an on request in DORMANT after the off dwell starts the up steps; one during shutdown is
only logged. -/
def Dev.powerUp (s : Dev) (p : Pins) : Dev :=
  let t := s.setPins p
  if t.modeOf = mDORMANT ∧ t.seq = seqOFF ∧ t.onRequest then t.beginUp
  else if t.seq = seqDOWN ∧ t.onRequest then t.post 0x1008 0 (t.get .PWR_STATUS_STEP) 0 0
  else t

/-- OFF_DURING_UP (R525): the current step finishes first. Causes: 0 PWRGD_IN, 1 RESET_N, 2 PWR_FAULT_N, 3 THERMTRIP_N. -/
def Dev.offDuringUp (s : Dev) (cause : Nat) : Dev :=
  if s.seq = seqUP ∧ s.pwr.offReq.isNone then
    (s.modPwr fun p => { p with offReq := some cause }).post 0x1007 0 (s.get .PWR_STATUS_STEP) cause 0
  else s

/-- A power-up attempt fails (R526): counted, PWR_FAULT_N pulled, and after RETRY_MAX retries the device locks out;
the shutdown order runs. `unit` failed. -/
def Dev.upFails (s : Dev) (unit : Nat) : Dev :=
  let n := s.get .PWR_STATUS_RETRIES + 1
  let t := (s.set .PWR_STATUS_RETRIES (min n 7)).pullFault
  let u := if n > s.pwr.table.retryMax then (t.set .PWR_STATUS_LOCKOUT 1).post 0x1009 unit unit n 0 else t
  u.downFrom 1

/-- A rail counts a departure from its window and logs it (R526, R527, R529). -/
def Dev.railLeaves (s : Dev) (r mv : Nat) : Dev :=
  let uv := decide (mv < (s.pwr.table.rail r).uv)
  let c : Fld := if uv then .PWR_RAIL_CNT_UV r else .PWR_RAIL_CNT_OV r
  ((((s.when (r == 12) fun t => { t with evt := t.evt.dropQueue }).inc c).setL [(.PWR_RAIL_STATUS_STATE r, 3), (.PWR_RAIL_STATUS_MV r, mv), (.PWR_STATUS_RAIL_FAULT_SEEN, 1)]).pullFault).post
    (if uv then 0x1001 else 0x1002) (railUnit r) (railUnit r) mv s.modeOf

/-- A reading lies outside a rail's window. -/
def Dev.outside (s : Dev) (r mv : Nat) : Bool := decide (mv < (s.pwr.table.rail r).uv) || decide (mv > (s.pwr.table.rail r).ov)

/-- RAIL_UP_TIMEOUT (R526): a rail of the step in progress is not good in time. -/
def Dev.railUpTimeout (s : Dev) (r mv : Nat) : Dev :=
  if s.seq = seqUP ∧ r < 14 ∧ s.get (.PWR_RAIL_STATUS_STATE r) = 1 then
    let t := ((s.inc (.PWR_RAIL_CNT_UP_TO r)).setL [(.PWR_RAIL_STATUS_STATE r, 6), (.PWR_RAIL_STATUS_MV r, mv), (.PWR_STATUS_RAIL_FAULT_SEEN, 1)]).post
      0x1003 (railUnit r) (railUnit r) (s.get .PWR_STATUS_STEP) (s.get .PWR_STATUS_RETRIES + 1)
    t.upFails (railUnit r)
  else s

/-- The highest up step of the table. -/
def PowerSeq.lastUp (p : PowerSeq) : Nat := (p.rails.map RailRec.upStep).foldl max 0

/-- The rails of the current up step are all inside their windows (R524). -/
def Dev.stepGood (s : Dev) (mvs : List Nat) : Bool :=
  let step := s.get .PWR_STATUS_STEP
  switched.all (fun r => (s.pwr.table.rail r).upStep != step || !s.outside r (mvs.getD r 0))

/-- The end of a power-up (R524, R526, R532, R534): HOLDUP_EN, the power-cycle count, and the clocks that CONFIGURING
starts (R549). -/
def Dev.upOver (s : Dev) : Dev :=
  let t := s.setL [(.PWR_STATUS_SEQ, seqON), (.PWR_STATUS_STEP, 0), (.PWR_STATUS_HOLDUP_EN, 1), (.PWR_STATUS_RETRIES, 0), (.CLK_STATE_MASTER_LOCK, 1)]
  ((if s.pwr.cycleValid then t.set .PWR_CYCLES_COUNT (s.get .PWR_CYCLES_COUNT + 1) else t).orF .CLK_RUN_RUN (2 ^ 6 + 2 ^ 24))

/-- UP_STEP_SETTLED (R524, R525): the next step starts; an off request that met the power-up starts the shutdown
instead. Answers whether the power-up is over. -/
def Dev.upSettled (s : Dev) (mvs : List Nat) : Dev × Bool :=
  if s.seq = seqUP ∧ s.stepGood mvs = true then
    let step := s.get .PWR_STATUS_STEP
    let rs := switched.filter (fun r => (s.pwr.table.rail r).upStep == step)
    let t := (s.sense mvs).each rs (fun u r => u.set (.PWR_RAIL_STATUS_STATE r) 2)
    let v := if rs.contains 13 then (t.orF .CLK_RUN_RUN (2 ^ 3)).set .CLK_STATE_REF_PRESENT 1 else t
    let w := v.set (.PWR_RAIL_STATUS_STATE 0) (if v.outside 0 (mvs.getD 0 0) then 3 else 7)
    if w.pwr.offReq.isSome then (w.downFrom 1, false)
    else if step ≥ w.pwr.table.lastUp then (w.upOver, true)
    else (w.upStep (step + 1), false)
  else (s, false)

/-- OFF_DWELL_EXPIRY (R526, R528): the device releases its own pull, and powers up again where an on request holds. -/
def Dev.offDwell (s : Dev) (p : Pins) : Dev :=
  if s.seq = seqDWELL ∧ s.modeOf = mDORMANT then
    let t := (s.setPins p).set .PWR_STATUS_FAULT_OWN 0
    if t.bit .PWR_STATUS_LOCKOUT then t.set .PWR_STATUS_SEQ seqLOCKOUT
    else if t.onRequest then (t.set .PWR_STATUS_SEQ seqOFF).beginUp
    else t.set .PWR_STATUS_SEQ seqOFF
  else s

/-- CLEAR_LOCKOUT (R526, PWR_CTRL): LOCKOUT and RETRIES clear; a sequencer that stands in LOCKOUT is OFF. -/
def Dev.clearLockout (s : Dev) (guard : Nat) : Dev :=
  if guard = 0x9B then
    (s.setL [(.PWR_STATUS_LOCKOUT, 0), (.PWR_STATUS_RETRIES, 0)]).when (s.seq == seqLOCKOUT) (·.set .PWR_STATUS_SEQ seqOFF)
  else s

/-! ### The energy store (R535 to R538, R540) -/

/-- SAVE_POWER_W in force: the running Forme's, else the island's copy (R537). -/
def Dev.saveWatts (s : Dev) : Option Nat := match s.forme.run with
  | some f => some f.tiers.savePower
  | none => s.pwr.savePower

/-- v_floor of R537 in mV as a fraction: numerator and denominator. -/
def Dev.floorFrac (s : Dev) (watts : Nat) : Nat × Nat :=
  let t := s.pwr.table
  let b := t.eff * t.vCutoff
  (t.vCutoff * b + s.get .PWR_ESTORE_ESR_UOHM * watts * 100, b)

/-- E_usable in joules at a store voltage, rounded down (R537, R538): 0 before the first pulse after an island
power-on, and where no SAVE_POWER_W is known. -/
def Dev.eUsable (s : Dev) (mv : Nat) : Nat :=
  match s.saveWatts with
  | none => 0
  | some w =>
    let t := s.pwr.table
    let (vf, b) := s.floorFrac w
    if s.pwr.measured = false ∨ mv * b ≤ vf ∨ b = 0 then 0
    else if t.battery then
      if t.vFull * b ≤ vf then Config.batteryCorner t.vFull mv
      else min (t.eff * t.eRated * (mv * b - vf) / (100 * (t.vFull * b - vf))) (t.eff * t.eRated / 100)
    else t.eff * s.get .PWR_ESTORE_C_MF * ((mv * b) ^ 2 - vf ^ 2) / (200 * 10 ^ 9 * b ^ 2)

/-- A new E_usable is passed to the budget where it differs by 1 % of the last value passed or by 8 J (R538). -/
def Dev.passEnergy (s : Dev) (e : Nat) : Dev :=
  let o := s.pwr.passedE
  let d := if e ≥ o then e - o else o - e
  if (d ≠ 0 ∧ d * 100 ≥ o) ∨ d ≥ 8 then s.modPwr fun p => { p with passedE := e } else s

/-- ENERGY_RECOMPUTE (R538): E_usable from the live store voltage. -/
def Dev.recomputeEnergy (s : Dev) (mv : Nat) : Dev :=
  let e := s.eUsable mv
  let fl := match s.saveWatts with
    | some w => if s.pwr.measured then (s.floorFrac w).1 / max 1 (s.floorFrac w).2 else 0
    | none => 0
  (s.setL [(.PWR_ESTORE_V_MV, mv), (.PWR_ESTORE_V_FLOOR_MV, min fl 65535), (.PWR_ESTORE_E_JOULES, e)]).passEnergy e

/-- A measurement may run: from TRAINING onward, but not in HOLDUP_SAVE and SWITCHOVER (R535). -/
def Dev.mayMeasure (s : Dev) : Bool := s.inMode [2, 3, 4, 5, 6, 7, 10, 11] && s.pwr.pulse.isNone

/-- A measurement pulse starts: HOLDUP_EN is released and ESTORE_TEST asserted (R535). -/
def Dev.startPulse (s : Dev) : Dev :=
  if s.mayMeasure then
    (s.modPwr fun p => { p with pulse := some s.evt.islandMs }).setL [(.PWR_STATUS_HOLDUP_EN, 0), (.PWR_STATUS_ESTORE_TEST, 1)]
  else s

/-- MEASURE (PWR_CTRL). -/
def Dev.measure (s : Dev) (guard : Nat) : Dev := if guard = 0x9B then s.startPulse else s

/-- MEASURE_PERIODIC: MEAS_S seconds after the previous measurement (R535). -/
def Dev.measurePeriodic (s : Dev) : Dev := if s.pwr.ageMs ≥ s.pwr.table.measS * 1000 then s.startPulse else s

/-- A pulse broken off is discarded and HOLDUP_EN is high again (R534, R535). -/
def Dev.breakPulse (s : Dev) : Dev :=
  match s.pwr.pulse with
  | none => s
  | some at_ =>
    ((s.modPwr fun p => { p with pulse := none }).setL [(.PWR_STATUS_HOLDUP_EN, 1), (.PWR_STATUS_ESTORE_TEST, 0), (.PWR_STATUS_MEAS_ABORTED, 1)]).post
      0x100C 0 (s.evt.islandMs - at_) 0 0

/-- PULSE_END (R536): esr and c from V0, V1, the mean and the magnitude of the slope, all in µV and µV/s. Where V1 or
the slope is 0 the formula has no value, and the result is a free value. -/
def Dev.pulseEnd (s : Dev) (v0 v1 slope mean mv : Nat) : Dev :=
  if s.pwr.pulse.isNone then s
  else
    let t := s.pwr.table
    let esr := if v1 = 0 then s.freeVal 32 else min ((v0 - v1) * t.rTest * 1000 / v1) (2 ^ 32 - 1)
    let c := if t.battery then 0 else if slope = 0 then s.drawn.freeVal 32 else mean * 10 ^ 6 / (t.rTest * slope)
    let s1 := ((s.drawn.drawn.modPwr fun p => { p with pulse := none, measured := true, ageMs := 0 }).setL
      [(.PWR_STATUS_HOLDUP_EN, 1), (.PWR_STATUS_ESTORE_TEST, 0), (.PWR_ESTORE_C_MF, c), (.PWR_ESTORE_ESR_UOHM, esr), (.PWR_ESTORE_AGE_AGE_S, 0)]).recomputeEnergy mv
    let s2 := s1.post 0x100A 0 (s1.get .PWR_ESTORE_C_MF) esr (s1.get .PWR_ESTORE_E_JOULES)
    let s3 := if esr > t.esrMax then (s2.set .PWR_STATUS_ESTORE_FAULT 1).post 0x100B 0 1 esr t.esrMax else s2
    if t.battery = false ∧ c < t.cMin then (s3.set .PWR_STATUS_ESTORE_FAULT 1).post 0x100B 0 2 c t.cMin else s3

/-! ### The Vigil (R539 to R543) -/

/-- The modes from which a Vigil is limited (R54, R542). -/
def limitedFrom : List Nat := [mCONFIGURING, mTRAINING, mRECOVERING, mSANITIZING]

/-- A Vigil from a mode is limited; so is one from QUIESCED where no mode has consumed the images since the start-up, which R53 keeps as they
are (assumption 125). -/
def Dev.limitedAt (s : Dev) (from_ : Nat) : Bool := limitedFrom.contains from_ || (from_ == mQUIESCED && s.jrn.sealRec.state != 2)

/-- Domains 13 to 23 stop at the Vigil's step 1, 22 after the STATE frame (R550). -/
def vigilClocks : Nat := (List.range 11).foldl (fun a i => a + 2 ^ (13 + i)) 0

/-- Order stamps that the stop of admission finds unfinished (R234): requests not yet executed, and writes that wait at a galley bank. -/
def Dev.carryStamps (s : Dev) : List Nat := (s.cal.openStamps ++ s.gal.waiting.map GWait.stamp).eraseDups

/-- Step 1 of a Vigil at entry to HOLDUP_SAVE from a mode (R539, R418): admission stops, the NAND engines prepare,
shutdown step 1 runs. -/
def Dev.vigilStart (s : Dev) (from_ : Nat) : Dev :=
  let t := s.breakPulse
  let v : Vigil :=
    { step := 1, limited := s.limitedAt from_, from_ := from_, startMs := s.evt.islandMs, foldStart := none, foldMs := 0, noPrograms := false,
      saved := 0, sealed := false, stopCycle := s.cal.count, open_ := s.carryStamps.length }
  let u := ((t.modPwr fun p => { p with vigil := some v }).post 0x100D 0 from_ (s.dirtyD / 256) (s.get .PWR_ESTORE_E_JOULES)).modCal fun c =>
    { c.shut with stopped := true }
  ((u.set .CLK_RUN_RUN (maskOff (u.get .CLK_RUN_RUN) vigilClocks)).vigilNand).railStep 1

/-- Changes the Vigil in progress. -/
def Dev.modVigil (s : Dev) (f : Vigil → Vigil) : Dev := s.modPwr fun p => { p with vigil := p.vigil.map f }

/-- Step 6: the shutdown order goes on from step 2 (R527). -/
def Dev.vigilDown (s : Dev) : Dev :=
  let t := s.modVigil fun v =>
    { v with step := 6, foldMs := (match v.foldStart with | some b => if v.foldMs = 0 then s.evt.islandMs - b else v.foldMs | none => v.foldMs) }
  if t.get .PWR_STATUS_STEP = 0 then t.downFrom 2 else t

/-- VIGIL_CARRY_DONE (R234, R478, R539): what still waits ends without effect; the change bitmaps go to T2, in padded pages, and the galley
image to the Daybook. A limited Vigil goes on with step 6. -/
def Dev.carryDone (s : Dev) : Dev :=
  match s.pwr.vigil with
  | none => s
  | some v =>
    if v.step ≠ 1 then s
    else if v.limited then s.vigilDown
    else
      let left := s.carryStamps.length
      let t := ((s.modGal fun g => { g with waiting := [] }).modCal (·.endOpen)).post 0x8024 0 (v.stopCycle % 2 ^ 32) (v.open_ - left) left
      let kept := s.twin.keptFrom.isSome
      let ver := 1 - ((t.fm.ckpt.get? 3).map Prod.fst).getD 1
      let (p, home) := if kept then t.placeMeta (ckptIndex 3 ver 0) else (t, none)
      let u := p.modTwin fun w => { w with saved := if home.isSome then some (w.old ++ w.cur.filter (fun g => !w.old.contains g)) else none }
      ((u.each ((u.fm.bands.filter fun e => e.2.openFor .meta_).map Prod.fst) Dev.padBand).modVigil fun x => { x with step := 3 }).pumpAll

/-- The folios of the dirty index that have no vigil slot yet are sealed and placed in its order (R386). -/
def Dev.vigilPlace (s : Dev) : Dev :=
  let placed (t : Dev) (f : Nat) : Bool := t.fm.slots.any (fun e => !e.2.isMeta && e.2.index == f && !e.2.committed &&
    (t.fm.bands.get? e.2.band).any (fun b => b.stream == some .vigil))
  s.each s.tier.dirty fun t f =>
    if placed t f then t
    else match t.tier.resident f (t.tier.entry f) with
      | some d => (t.sealTo .vigil f d).1
      | none => t

/-- The final partial page of the Vigil's bands is programmed with the parity of the slots written (R386). -/
def Dev.vigilClose (s : Dev) : Dev :=
  s.each (s.fm.bands.filter (fun e => e.2.openFor .vigil)) fun t e =>
    let per := t.fm.pageSlots e.2
    if per ≠ 0 ∧ e.2.placed % per ≠ 0 then
      (t.modFm fun f => { f with bands := f.bands.upd e.1 (fun b => { b with placed := b.placed + (per - b.placed % per) }) }).queuePage e.1 (e.2.placed / per)
    else t

/-- VIGIL_IMAGE_WRITTEN (R323, R440, R539): the image is whole; the folio writes start, where programs may still start. -/
def Dev.imageWritten (s : Dev) : Dev :=
  match s.pwr.vigil with
  | none => s
  | some v =>
    if v.step ≠ 3 ∨ v.limited then s
    else
      let t := s.modGal fun g => { g with image := g.toImage }
      if v.noPrograms then t.modVigil fun x => { x with step := 5 }
      else ((t.modVigil fun x => { x with step := 4, foldStart := some s.evt.islandMs }).vigilPlace.vigilClose).pumpAll

/-- A program of a band of a stream. -/
def Dev.programFor (s : Dev) (st : Stream) (j : NandJob) : Bool := match j with
  | .program b _ _ => (s.fm.bands.get? b).any (fun x => x.stream == some st)
  | _ => false

/-- Programs of a band's stream `vigil` that a LUN runs or has waiting. -/
def Dev.vigilJob (s : Dev) (j : NandJob) : Bool := s.programFor .vigil j

/-- No new folio program starts (R540, R541): those that wait are withdrawn, those in progress complete. -/
def Dev.stopPrograms (s : Dev) : Dev :=
  (s.modNand fun n => { n with luns := n.luns.map fun e => (e.1, { e.2 with wait := e.2.wait.filter (fun w => !s.vigilJob w.2) }) }).modVigil fun v =>
    { v with noPrograms := true, foldMs := (match v.foldStart with | some b => s.evt.islandMs - b | none => 0), step := if v.step = 4 then 5 else v.step }

/-- The reserve is reached: E_usable at the live voltage is at most P × RESERVE_MS (R540). -/
def Dev.reserveReached (s : Dev) (mv : Nat) : Bool :=
  decide (s.eUsable mv * 1000 ≤ (s.saveWatts.getD 0) * s.pwr.table.reserveMs)

/-- VIGIL_RESERVE (R540). -/
def Dev.vigilReserve (s : Dev) (mv : Nat) : Dev :=
  match s.pwr.vigil with
  | none => s
  | some v =>
    if v.limited ∨ v.step > 4 ∨ v.noPrograms ∨ s.reserveReached mv = false then s
    else ((s.recomputeEnergy mv).stopPrograms.set .PWR_STATUS_RESERVE_HIT 1).post 0x100E 0 s.dirtyD mv 0

/-- No program of a stream runs or waits. -/
def Dev.streamIdle (s : Dev) (st : Stream) : Bool :=
  s.nand.luns.all (fun e => !(e.2.run.any (fun o => s.programFor st o.job)) && e.2.wait.all (fun w => !s.programFor st w.2))

/-- No vigil program is in progress, and the change bitmaps' programs have ended, unless no program may start any more (R539). -/
def Dev.vigilIdle (s : Dev) : Bool := s.streamIdle .vigil && (s.streamIdle .meta_ || s.pwr.vigil.any Vigil.noPrograms)

/-- Change bitmaps whose checkpoint page has not committed are not saved (R478). -/
def Dev.keepSaved (s : Dev) : Dev :=
  if s.fm.slots.any (fun e => e.2.isMeta && !e.2.committed && decide (e.2.index / 2 ^ 30 = ckptIndex 3 0 0 / 2 ^ 30)) then
    s.modTwin fun w => { w with saved := none, base := none }
  else s

/-- VIGIL_SEALED (R439, R440, R464, R539): with the folio writes at an end the journal tail, the ledger granule and the
seal are written, and the shutdown order goes on. -/
def Dev.vigilSealed (s : Dev) : Dev :=
  match s.pwr.vigil with
  | none => s
  | some v =>
    if v.limited ∨ v.step < 4 ∨ v.step > 5 ∨ s.vigilIdle = false then s
    else
      let t := (s.keepSaved.writeLedger v.from_ true).journalSeal.copyTime
      let u := t.modJrn fun j => { j with sealRec :=
        { state := 1, powerCycle := s.get .PWR_CYCLES_COUNT, groups := ceilDiv s.gal.image.length 4, endGseq := j.ring - 1, cycle := v.stopCycle,
          seq := j.sealRec.seq + 1 } }
      ((u.modVigil fun x => { x with sealed := true }).vigilDown).post 0x100F 0 (s.evt.islandMs - v.startMs) v.saved s.dirtyD

/-- A rail leaves its window during a Vigil (R541). -/
def Dev.vigilRail (s : Dev) (r : Nat) : Dev :=
  match s.pwr.vigil with
  | none => s
  | some v =>
    if v.step ≥ 6 ∨ v.limited ∨ r = 4 ∨ r = 5 then s
    else if 6 ≤ r ∧ r ≤ 11 then s.stopPrograms
    else s.vigilDown

/-- The end of a Vigil (R539, R543): PWR_VIGIL_LAST, and 0x1011 where its fixed part was too long. -/
def Dev.vigilOver (s : Dev) : Dev :=
  match s.pwr.vigil with
  | none => s
  | some v =>
    let ms := s.evt.islandMs - v.startMs
    let fixed := ms - v.foldMs
    let limit := (s.forme.run.map (fun f => f.tiers.vigilFixed)).getD (2 ^ 32)
    let t := s.setL [(.PWR_VIGIL_LAST_MS, min ms (2 ^ 20 - 1)), (.PWR_VIGIL_LAST_RESERVE, b2n (v.noPrograms && s.bit .PWR_STATUS_RESERVE_HIT)),
      (.PWR_VIGIL_LAST_SEALED, b2n v.sealed), (.PWR_VIGIL_LAST_LIMITED, b2n v.limited)]
    let u := if fixed > limit then t.post 0x1011 0 fixed limit 0 else t
    u.modPwr fun p => { p with vigil := none }

/-- A rail leaves its window (R526, R527, R529, R541): only a rail that was good, or rail 0. -/
def Dev.railFault (s : Dev) (r mv : Nat) : Dev :=
  let st := s.get (.PWR_RAIL_STATUS_STATE r)
  if r < 14 ∧ s.outside r mv = true ∧ (st = 2 ∨ st = 3 ∨ st = 7 ∨ (r = 0 ∧ s.seq ≠ seqOFF)) then
    let t := s.railLeaves r mv
    if s.seq = seqUP then t.upFails (railUnit r)
    else if s.modeOf = mHOLDUP then t.vigilRail r
    else t
  else s

/-! ### What a loss of supply leaves (R2, R52, R53, R531) -/

/-- Appends whose packets have not all come, with what was written of each (R221). -/
def NetSt.openAppends (n : NetSt) : List (Nat × Nat × Nat × Nat) :=
  n.qps.filterMap fun e => e.2.msg.bind fun m => m.region.map fun k => (k, m.off, m.len, m.got)

/-- The core rails are down: every part of the core loses its state; the media, the tables that the journal and the
checkpoints hold, and the island keep theirs. A journal tail that no Vigil wrote out is lost (R435). -/
def Dev.coreLost (s : Dev) : Dev :=
  let c := s.journalCut
  { c with
    cal := CalSt.reset,
    integ := { IntegSt.reset with records := c.integ.records },
    tier := { TierSt.reset with map := c.tier.map, wseq := c.tier.wseq, discards := c.tier.discards },
    lc := LcSt.reset,
    gal := { GalleySt.reset with image := c.gal.image },
    net := NetSt.reset,
    rgn := { c.rgn with resets := [], assigns := [], answers := [], capsVerbs := [], emptied := [], cuts := c.rgn.cuts ++ c.net.openAppends ++ c.dq.filterMap fun e => c.rgn.copyAppend e.2 },
    keys := { KeySt.reset with blobs := c.keys.blobs, domains := c.keys.domains, extents := c.keys.extents, starts := c.keys.starts,
                               scans := c.keys.scans.map fun e => (e.1, e.2.1 / 1024 * 1024, e.2.2) },
    mem := { MemSt.reset with rows := c.mem.rows, lanes := c.mem.lanes },
    fm := { c.fm with failed := [], table := none, rebuilds := [], relocate := [], gc := false, credit := 0, rate := 0, metaUs := [], purge := none,
                      purges := [] },
    nand := { NandSt.reset with rawPages := c.nand.rawPages },
    db := { c.db with copying := [], rowCe := [], dead := 0, swept := 0 },
    jrn := { c.jrn with writing := [], due := [], batchAt := none },
    twin := { TwinSt.reset with session := c.twin.session, term := c.twin.term, pair := c.twin.pair, ledger := c.twin.ledger, lseq := c.twin.lseq,
                                suspect := c.twin.suspect, saved := c.twin.saved, tookOver := c.twin.tookOver },
    forme := { c.forme with load := none, run := none, runtime := false },
    sp := { c.sp with submitted := [], verbOut := [], sbXfer := none, bsOp := none },
    therm := { c.therm with failed := 0, cap := none, seconds := [], sumP := 0, periods := 0, unmet := 0, acting := 0 },
    evt := { c.evt with archOn := false, cursorPending := none, archBusy := none } }

/-- Fields that are fused, and keep their value through every loss of supply: FORME_SVN.FUSED and REVOKED (R83 to R85). -/
def fusedFields : List Fld := [.FORME_SVN_FUSED, .FORME_SVN_REVOKED]

/-- The reset domain of a field by its key. -/
def domOf (key : Nat) : Option Dom := ((fieldsAt (key / 32)).find? (fun f => f.lo == key % 32)).map Fld.dom

/-- The register file with the fields of some reset domains alone; every other field is at its reset value (R611). -/
def RegFile.keepDoms (r : RegFile) (p : Dom → Bool) : RegFile :=
  { val := r.val.keep (fun k _ => (domOf k).any p), shad := r.shad.keep (fun k _ => (domOf k).any p) }

/-- VDD_AON collapses (R531): the island stops and releases its outputs, and everything but the media and the fuses is
lost. -/
def Dev.islandLost (s : Dev) : Dev :=
  let c := s.coreLost
  let r := c.evt
  let t : Dev := { c with
    regs := c.regs.keepDoms (· == .persist),
    evt := { Recorder.reset with ring := r.ring, archive := r.archive, clearPoint := r.clearPoint, archOldest := r.archOldest, archNext := r.archNext,
                                 archAt := r.archAt, head := r.head, opCopy := r.opCopy, gapDue := r.gapDue || !r.staging.isEmpty },
    sp := SpIf.reset, mode := { ModeSt.reset with sanitizeOpen := c.mode.sanitizeOpen },
    pwr := { PowerSt.reset with on := false, cycleCopy := c.pwr.cycleCopy }, therm := ThermalSt.reset }
  t.each fusedFields (fun u f => u.set f (s.get f))

/-- AON_POWER_ON (R531): the island starts with its reset values. -/
def Dev.islandStart (s : Dev) : Dev :=
  if s.pwr.on then s else (s.modPwr fun p => { p with on := true }).post 0x1010 0 (b2n (s.jrn.sealRec.state == 1)) 0 0

end Sys2Proof.Machine
end

