-- ==== Sys2Proof/Machine/Thermal.lean ====
section
/-!
DEFINITION. Clocks, temperature and the governors of 18_clocks_and_thermal.md.
-/

namespace Sys2Proof.Machine

open Sys2Proof

/-! ### Temperature (R553 to R555) -/

/-- A signed number in two's complement of `w` bits. -/
def twos (w : Nat) (x : Int) : Nat := (x % (2 ^ w : Int)).toNat

/-- Neighbours of a sensor: on the controller die a ring; the Daybook's sensor has 23 and 0 (assumption 53). -/
def neighbours (i : Nat) : Nat × Nat := if i = 24 then (23, 0) else ((i + 23) % 24, (i + 1) % 24)

/-- A reading marks its sensor failed (R553): outside −40 °C to 150 °C, or more than 20 °C from both neighbours. -/
def badReading (rs : List Int) (i : Nat) : Bool :=
  let x := rs.getD i 0
  let far (j : Nat) : Bool := decide ((x - rs.getD j 0).natAbs > 200)
  decide (x < -400) || decide (x > 1500) || (far (neighbours i).1 && far (neighbours i).2)

/-- Some memory unit shows REFRESH_SHORT (R337, R554). -/
def Dev.memoryHot (s : Dev) : Bool := (List.range 24).any (fun n => s.bit (.MEM_STATUS_REFRESH_SHORT n))

/-- Tj_gov in 0.1 °C (R554). -/
def Dev.tjGov (s : Dev) : Int := if s.memoryHot then max s.therm.tj 920 else s.therm.tj

/-- The running THERMAL_CURVE. -/
def Dev.thermCurve (s : Dev) : Option ThermalCurve := s.forme.run.map Forme.curve

/-- The entry that a temperature reaches: the last whose TEMP_C10 is at or below it (R558). -/
def ThermalCurve.entryFor (c : ThermalCurve) (t : Int) : Option Nat :=
  match (c.entries.filter (fun e => decide ((e.1 : Int) ≤ t))).length with
  | 0 => none
  | n + 1 => some n

/-- TEMP_C10 and CAP_W of an entry. -/
def ThermalCurve.entry (c : ThermalCurve) (i : Nat) : Nat × Nat := c.entries.getD i (0, 0)

/-- The entry in force (R558): a higher one takes over at once, and one in force stays until Tj_gov falls
TEMP_HYST_C10 below its temperature. -/
def ThermalCurve.next (c : ThermalCurve) (now : Option Nat) (t : Int) : Option Nat :=
  let want := c.entryFor t
  match now with
  | none => want
  | some i =>
    match want with
    | some j => if j > i then some j else if t ≤ ((c.entry i).1 : Int) - c.tempHyst then some j else some i
    | none => if t ≤ ((c.entry i).1 : Int) - c.tempHyst then none else some i

/-- The thermal cap follows Tj_gov; its start and its end are logged (R558; assumption 54). -/
def Dev.recap (s : Dev) : Dev :=
  match s.thermCurve with
  | none => s
  | some c =>
    let n := c.next s.therm.cap s.tjGov
    if n = s.therm.cap then s
    else
      let t := match s.therm.cap with
        | some i => s.post 0x2007 0 (twos 32 s.tjGov) (c.entry i).2 0
        | none => s
      let u := match n with
        | some j => t.post 0x2007 0 (twos 32 s.tjGov) (c.entry j).2 1
        | none => t
      (u.modTherm fun x => { x with cap := n }).setB .THERM_STATUS_CAPPED n.isSome

/-- On entry to DORMANT no sensor is excluded any more, and a cap in force ends (R553, R558). -/
def Dev.thermOff (s : Dev) : Dev :=
  let t := match s.therm.cap, s.thermCurve with
    | some i, some c => s.post 0x2007 0 (twos 32 s.tjGov) (c.entry i).2 0
    | _, _ => s
  t.setL [(.THERM_STATUS_FAILED, 0), (.THERM_STATUS_ASSUMED, 0), (.THERM_STATUS_CAPPED, 0)]

/-- The sensors that fail at a sample are excluded and logged (R553). -/
def Dev.failSensors (s : Dev) (rs : List Int) : Dev :=
  s.each ((List.range 25).filter (fun i => !s.therm.failed.testBit i && badReading rs i)) fun t i =>
    let u := t.modTherm fun x => { x with failed := setBit x.failed i }
    let n := popCount u.therm.failed 25
    (u.setL [(.THERM_STATUS_SENSOR_FAIL_SEEN, 1), (.THERM_STATUS_FAILED, n)]).post 0x2009 i i (twos 32 (rs.getD i 0)) n

/-- A millisecond of island time passes (R594, R597, PWR_ESTORE_AGE). -/
def Dev.islandTick (s : Dev) : Dev :=
  let t := (s.modEvt fun r => { r with islandMs := r.islandMs + 1, burst := min 4096 (r.burst + 1) }).modPwr fun p => { p with ageMs := p.ageMs + 1 }
  t.set .PWR_ESTORE_AGE_AGE_S (min 65535 (t.pwr.ageMs / 1000))

/-- The highest reading of the sensors that have not failed. -/
def Dev.topReading (s : Dev) (rs : List Int) : Option Int :=
  ((List.range 25).filter (fun i => !s.therm.failed.testBit i)).foldl (fun a i => match a with
    | none => some (rs.getD i 0)
    | some x => some (max x (rs.getD i 0))) none

/-- SENSOR_SAMPLE (R553): failed sensors are marked, Tj is the highest valid reading, and where more than 4 sensors have
failed at least 100 °C; the wear credit of the millisecond accrues (R379). -/
def Dev.sensorSample (s : Dev) (rs : List Int) : Dev :=
  if s.pwr.on = false then s
  else
    let t := s.islandTick.failSensors rs
    let many := decide (popCount t.therm.failed 25 > 4)
    let top := t.topReading rs
    let tj : Int := if many then max (top.getD 1000) 1000 else top.getD 1000
    let u := (t.modTherm fun x => { x with tj := tj, top := top }).setL
      [(.THERM_STATUS_FAILED, popCount t.therm.failed 25), (.THERM_STATUS_TJ, twos 12 tj), (.THERM_STATUS_ASSUMED, b2n many), (.THERM_STATUS_MEM_HOT, b2n t.memoryHot)]
    let pk := u.get .THERM_PEAK_PEAK
    let peak : Int := if pk ≥ 2048 then (pk : Int) - 4096 else pk
    ((if tj > peak then u.set .THERM_PEAK_PEAK (twos 12 tj) else u).recap).when s.calRuns (·.accrueCredit)

/-- THERMTRIP latches (R555), and is logged. -/
def Dev.latchTrip (s : Dev) (sensor : Nat) : Dev :=
  (((s.modTherm fun x => { x with trip := true }).setL [(.THERM_STATUS_THERMTRIP, 1), (.THERM_STATUS_TRIP_SEEN, 1)]).post 0x2008 sensor sensor
    (twos 32 s.therm.tj) s.modeOf)

/-- THERMTRIP_RELEASE (R555): in DORMANT with every valid sensor below 95 °C. -/
def Dev.releaseTrip (s : Dev) : Dev :=
  let cool : Bool := match s.therm.top with
    | some x => decide (x < 950)
    | none => true
  if s.modeOf = mDORMANT ∧ s.therm.trip = true ∧ cool = true then (s.modTherm fun x => { x with trip := false }).set .THERM_STATUS_THERMTRIP 0 else s

/-! ### The governors (R556 to R563) -/

/-- E at the start of the running second: excess seconds among the last WINDOW_S − 1 (R557). -/
def Dev.excessSeconds (s : Dev) (c : ThermalCurve) : Nat := ((s.therm.seconds.take (c.windowS - 1)).filter id).length

/-- The power limit of the running second is PEAK_W (R557). -/
def Dev.peakAllowed (s : Dev) (c : ThermalCurve) : Bool := decide (s.excessSeconds c + 1 ≤ c.peakS)

/-- The limit L in W (R559). -/
def Dev.govLimit (s : Dev) (c : ThermalCurve) : Nat :=
  let p := if s.peakAllowed c then c.peak else c.sustain
  let q := match s.therm.cap with
    | some i => min p (c.entry i).2
    | none => p
  let sp := s.get .GOV_CFG_SP_CAP_W
  if sp = 0 then q else min q sp

/-- The highest level a node takes (R560, R563). -/
def Dev.govMost (s : Dev) : Nat := if s.follower then 2 else 8

/-- The level after a period (R559, R563). -/
def Dev.govNext (s : Dev) (c : ThermalCurve) (l pEst : Nat) : Nat :=
  let g := min (s.get .GOV_STATUS_LEVEL) s.govMost
  if pEst > 10 * l then min (g + 1) s.govMost
  else if pEst + 10 * c.hystW < 10 * l then g - 1
  else g

/-- GOV_PERIOD (R556, R559, R562): the end of a control period whose P_est, in 0.1 W, the device has estimated. -/
def Dev.govPeriod (s0 : Dev) (pEst : Nat) : Dev :=
  match s0.thermCurve with
  | none => s0
  | some c =>
    if s0.calRuns = false then s0
    else
      let s := s0.recap
      let l := s.govLimit c
      let old := s.get .GOV_STATUS_LEVEL
      let g := s.govNext c l pEst
      let above_ := decide (old = s.govMost ∧ pEst > 10 * l)
      let s1 := (s.when (old != 0) (·.inc .GOV_LEVEL_PERIODS_PERIODS)).when s.therm.cap.isSome (·.inc .THERM_CAP_PERIODS_CAPPED)
      let s2 := (s1.modTherm fun x => { x with sumP := x.sumP + pEst, periods := x.periods + 1, unmet := if above_ then x.unmet + 1 else 0 }).setL
        [(.GOV_POWER_P_EST, min pEst 65535), (.GOV_POWER_LIMIT, 10 * l), (.GOV_STATUS_LEVEL, g)]
      let s3 := if g = old then s2 else (s2.post 0x2004 0 old g pEst).when (old == 0) (·.set .GOV_STATUS_LEVEL_SEEN 1)
      if s3.therm.unmet = 16 then (s3.setL [(.GOV_STATUS_CAP_UNMET, 1), (.GOV_STATUS_UNMET_SEEN, 1)]).post 0x2005 0 (10 * l) pEst s.modeOf
      else if above_ then s3 else s3.set .GOV_STATUS_CAP_UNMET 0

/-- POWER_SECOND (R557): a second ends; it was an excess second where its mean P_est exceeded SUSTAIN_W. -/
def Dev.powerSecond (s : Dev) : Dev :=
  match s.thermCurve with
  | none => s
  | some c =>
    if s.calRuns = false then s
    else
      let ex := decide (s.therm.sumP > 10 * c.sustain * s.therm.periods)
      let t := s.modTherm fun x => { x with seconds := (ex :: x.seconds).take 3600, sumP := 0, periods := 0 }
      let u := t.setL [(.GOV_STATUS_EXCESS_S, t.excessSeconds c), (.GOV_STATUS_PEAK_ALLOWED, b2n (t.peakAllowed c))]
      if ex then u.inc .GOV_EXCESS_S_PEAK_S else u

/-! ### Clocks (R549 to R552) -/

/-- Holdover begins (R551): counted, and PWR_FAULT_N is pulled. -/
def Dev.holdover (s : Dev) : Dev :=
  if s.bit .CLK_STATE_HOLDOVER then s.pullFault else ((s.set .CLK_STATE_HOLDOVER 1).inc .CLK_HOLDOVERS_HOLDOVERS).pullFault

/-- The master PLL has started: every mode above DORMANT. -/
def Dev.pllRuns (s : Dev) : Bool := s.modeOf != mDORMANT

/-- REF_LOSS (R551): REF is missing, or measured `ppm` off. -/
def Dev.refLoss (s : Dev) (missing : Bool) (ppm : Int) : Dev :=
  if s.pllRuns then (s.holdover.when missing (·.set .CLK_STATE_REF_PRESENT 0)).post 0x2002 0 (twos 32 ppm) s.modeOf 0 else s

/-- PLL_UNLOCK (R551): handled in the same way. Which domain number the event carries, and so which bit of CLK_FAULT shows the lost lock,
the manual does not say: a free value below 25 (assumption 2). -/
def Dev.pllUnlock (s : Dev) : Dev :=
  let d := s.freeVal 32 % 25
  if s.pllRuns then (((s.holdover.set .CLK_STATE_MASTER_LOCK 0).orF .CLK_FAULT_FAULT (2 ^ d)).post 0x2003 (0x0D00 + d) d s.modeOf 0).drawn else s

/-- The units that a divider clocks (R546). -/
def clockedUnits (domain : Nat) : List Nat :=
  if domain = 7 ∨ domain = 8 then (List.range 16).map (0x0200 + ·)
  else if domain = 9 ∨ domain = 10 then (List.range 8).map (0x0100 + ·)
  else if domain = 11 ∨ domain = 12 then (List.range 32).map (0x0300 + ·)
  else if domain = 13 then (List.range 8).map (0x0400 + ·)
  else if domain = 22 then (List.range 9).map (0x0600 + ·)
  else []

/-- A unit fails training (R138). -/
def trainFault (unit : Nat) : FaultOp :=
  { unit := unit, kind := 14, recovered := false, tick := 0, bank := 0, row := 0, col := 0, pos := 0, synd := 0, sub := 0, la := none }

/-- LOCK_FAIL (R549): during power-up it fails the attempt; a divider in TRAINING fails the units it clocks. -/
def Dev.lockFail (s : Dev) (domain : Nat) (absent : Bool) : Dev :=
  let t := (s.orF .CLK_FAULT_FAULT (2 ^ (min domain 24))).post 0x2001 (0x0D00 + domain) domain (b2n (!absent)) s.modeOf
  if s.seq = seqUP then t.upFails (0x0D00 + domain)
  else if s.modeOf = mCONFIGURING then t
  else if s.modeOf = mTRAINING then t.each ((clockedUnits domain).filter s.unitPresent) (fun u x => u.countFault (trainFault x) false false)
  else s

/-- XTAL_FAIL (R552). -/
def Dev.xtalFail (s : Dev) : Dev :=
  if s.pwr.on = false ∨ s.bit .CLK_STATE_XTAL_FAIL = true then s else (s.set .CLK_STATE_XTAL_FAIL 1).post 0x200A 0 0 0 0

/-- CLK_RUN in DORMANT, and the clock states there (R550). -/
def Dev.clocksOff (s : Dev) : Dev :=
  s.setL [(.CLK_RUN_RUN, 3), (.CLK_STATE_REF_PRESENT, 0), (.CLK_STATE_MASTER_LOCK, 0), (.CLK_STATE_HOLDOVER, 0)]

/-- CLK_RUN: the recovered clocks run while a port, or Flesal, has lock (R546, R549). -/
def Dev.clocksRun (s : Dev) : Nat :=
  s.get .CLK_RUN_RUN ||| ((List.range 8).map fun p => b2n (s.bit (.PORT_STATUS_LINK_UP p)) * 2 ^ (14 + p)).sum |||
    b2n (s.bit .TWIN_STATUS_LINK_UP) * 2 ^ 23

/-- The domains that TRAINING starts (R546, R549): those of enabled units, and Flesal's where it trains. -/
def Dev.trainClocks (s : Dev) : Dev :=
  let d := s.unitPresent
  let any (l : List Nat) : Bool := l.any d
  let m := 2 ^ 4 + 2 ^ 5 + b2n (any (clockedUnits 7)) * (2 ^ 7 + 2 ^ 8) + b2n (any (clockedUnits 9)) * (2 ^ 9 + 2 ^ 10) +
    b2n (any (clockedUnits 11)) * (2 ^ 11 + 2 ^ 12) + b2n (any (clockedUnits 13)) * 2 ^ 13 + b2n s.twinFitted * 2 ^ 22
  s.orF .CLK_RUN_RUN m

/-! ### Commands that enter no mode -/

/-- SENSOR_SAMPLE (R553). -/
def execSensorSample (readings : List Int) (w : State) : Host.Outcome State Fault Refusal := finish w fun s => (s.sensorSample readings)

/-- THERMTRIP_RELEASE (R555). -/
def execThermtripRelease (w : State) : Host.Outcome State Fault Refusal := finish w fun s => s.releaseTrip

/-- GOV_PERIOD (R559). -/
def execGovPeriod (pEst : Nat) (w : State) : Host.Outcome State Fault Refusal := finish w fun s => (s.govPeriod pEst)

/-- POWER_SECOND (R557). -/
def execPowerSecond (w : State) : Host.Outcome State Fault Refusal := finish w fun s => s.powerSecond

/-- REF_LOSS (R551). -/
def execRefLoss (missing : Bool) (ppm : Int) (w : State) : Host.Outcome State Fault Refusal := finish w fun s => (s.refLoss missing ppm)

/-- PLL_UNLOCK (R551). -/
def execPllUnlock (w : State) : Host.Outcome State Fault Refusal := finish w fun s => s.pllUnlock

/-- XTAL_FAIL (R552). -/
def execXtalFail (w : State) : Host.Outcome State Fault Refusal := finish w fun s => s.xtalFail

end Sys2Proof.Machine
end

