-- ==== Sys2Proof/Machine/Training.lean ====
section
/-!
DEFINITION. TRAINING: what it does on entry and at its end (02_operating_modes.md R63, 04_calendar.md R109 and R121, 05_integrity.md
R144, 11_dram_controller.md R335, R336, R348 and R349, 12_flash_management.md R356 and R361, 13_flash_channels.md R419).
-/

namespace Sys2Proof.Machine

open Sys2Proof

/-! ### What the structure shows -/

/-- `_CFG` and `_TEMP.REF_TEMP` of the memory controllers (R352). -/
def Dev.showMem (s : Dev) (f : Forme) : Dev :=
  s.each (List.range 24) fun t n =>
    let g := if n < 8 then f.dimm else f.hbm
    if t.unitPresent (memUnitId n) then
      t.setL [(.MEM_CFG_GEN n, g.gen), (.MEM_CFG_ENABLED n, 1), (.MEM_CFG_DPC n, if n < 8 then f.fixed.dpc else 0), (.MEM_CFG_MT_S n, g.mtS),
        (.MEM_TEMP_REF_TEMP n, g.refTemp)]
    else t

/-- `_CFG` of the ports (R155, R156). -/
def Dev.showPorts (s : Dev) (f : Forme) : Dev :=
  s.each f.ports fun t r =>
    t.setL [(.PORT_CFG_SPEED r.port, r.speed), (.PORT_CFG_LANE_BASE r.port, r.laneBase), (.PORT_CFG_LANES r.port, r.lanes),
      (.PORT_CFG_FEC r.port, r.fec), (.PORT_CFG_ENABLED r.port, 1), (.PORT_CFG_MAX_FRAME r.port, r.maxFrame)]

/-- The NAND channels that the structure enables. -/
def FixedPart.nandChannels (f : FixedPart) : List Nat := (List.range 32).filter (fun n => f.nandMask.testBit n)

/-- `_CFG` of the NAND channels, with the table in use (R419). -/
def Dev.showNand (s : Dev) (f : Forme) (tbl : NandTable) : Dev :=
  s.each f.fixed.nandChannels fun t n =>
    t.setL [(.NANDC_CFG_TABLE n, tbl.family), (.NANDC_CFG_IFACE n, tbl.iface), (.NANDC_CFG_ENABLED n, 1), (.NANDC_CFG_TARGETS n, f.fixed.targets),
      (.NANDC_CFG_LUNS n, f.fixed.luns), (.NANDC_CFG_MT_S n, tbl.mtS)]

/-! ### Entry -/

/-- The first failing step of a unit (R335, R419): memory controllers and NAND channels show one. -/
def Dev.setStep (s : Dev) (unit step : Nat) : Dev :=
  match unitClass unit with
  | 1 | 2 => s.set (.MEM_STATUS_TRAIN_STEP (memIndex unit)) step
  | 3 => s.set (.NANDC_STATUS_TRAIN_STEP (unitNum unit)) step
  | _ => s

/-- The step that names a recorded unit, and one whose record is short (R335, R419). -/
def stepRECORDED (unit : Nat) : Nat := if unitClass unit = 3 then 9 else 11
def stepTIMING (unit : Nat) : Nat := if unitClass unit = 3 then 8 else 9

/-- The power-cycle count and the operating time resume from their Daybook copies after an island power-on, and the
copy takes the count (R532, R594). -/
def Dev.resumeCounts (s : Dev) : Dev :=
  let t := if s.pwr.cycleValid then s else s.set .PWR_CYCLES_COUNT (s.pwr.cycleCopy + 1)
  (t.modPwr fun p => { p with cycleValid := true, cycleCopy := t.get .PWR_CYCLES_COUNT }).resumeTime

/-- Keys of non-volatile slots are unwrapped from their blobs (R502); a blob holds no mark of 0xB003. -/
def Dev.loadBlobs (s : Dev) : Dev := s.modKeys fun k => { k with slots := k.blobs.map fun e => (e.1, { e.2 with refusedSeen := false }) }

/-- TRAINING begins: recorded units are skipped (R144), the erase-state records are gone (R384, R406), a measurement
starts (R535). -/
def Dev.trainBegin (s : Dev) : Dev :=
  match s.forme.run with
  | none => s
  | some f =>
    let t := (((s.modMode fun m => { m with uncovered := false }).calStart.trainClocks).showMem f).showPorts f
    let u := t.each s.integ.records fun v r => (v.retireUnit r 14 0 true).setStep r (stepRECORDED r)
    u.forgetErased.resumeCounts.loadBlobs.startPulse.showSpares.showClusters.showLc.showGalley

/-! ### Repairs (R348, R349) -/

/-- Hard post-package repair of the recorded rows, at most one for each bank group of a device, so of a rank of a subchannel or of a stack (R348): `out` are those for
which no resource remains, `groups` those repaired already. -/
def Dev.repairRows (s : Dev) (out : List (Nat × Nat × Nat)) (groups : List (Nat × Nat)) : List RowRec → Dev
  | [] => s
  | r :: rs =>
    let n := memIndex r.unit
    let g := ((s.geoOf n).map fun g => (memStation n r.sub * 8 + (if g.gen = 2 then 0 else (g.unflat r.bank).1), (g.unflat r.bank).2.2.1)).getD (0, 0)
    if out.contains (r.unit, r.bank, r.row) ∨ r.exhausted then
      (((s.modMem fun m => { m with rows := m.rows.map (fun x => if x.unit = r.unit ∧ x.bank = r.bank ∧ x.row = r.row then { x with exhausted := true } else x) }).post
        0x5008 r.unit r.unit r.bank r.row).showRepair n).repairRows out groups rs
    else if groups.contains g then s.repairRows out groups rs
    else
      (((s.modMem fun m => { m with rows := m.rows.erase r }).inc (.MEM_REPAIR_DONE n)).post 0x5007 r.unit r.unit r.bank r.row |>.showRepair n).repairRows
        out (g :: groups) rs

/-- A lane takes a spare of its pseudo-channel (R349). The manual does not number the spares: which one is a free
value (assumption 2). -/
def Dev.mapLane (s : Dev) (e : Nat × Nat) : Dev :=
  let n := memIndex e.1
  if n < 8 ∨ s.mem.remapped.contains e then s
  else
    let t := (s.modMem fun m => { m with remapped := m.remapped ++ [e] }).post 0x5009 e.1 e.1 e.2 (s.freeVal 2)
    let used := (t.mem.remapped.filter (fun x => x.1 == e.1)).length
    (t.drawn.setL [(.MEM_LANE_REMAPPED n, min used 4), (.MEM_LANE_SPARES_LEFT n, 4 - used)])

/-- The lane test's repairs: every failed lane and every lane recorded since the last pass (R349). -/
def Dev.repairLanes (s : Dev) (failed : List (Nat × Nat)) : Dev :=
  let u := s.each ((List.range 16).filter (fun n => s.unitPresent (0x0200 + n))) fun t n =>
    t.set (.MEM_LANE_SPARES_LEFT (8 + n)) (4 - min 4 ((t.mem.remapped.filter (fun x => x.1 == 0x0200 + n)).length))
  let t := u.each (failed ++ s.mem.lanes) Dev.mapLane
  (t.modMem fun m => { m with lanes := [] }).each (List.range 24) (fun v n => v.showRepair n)

/-! ### Units that fail (R109, R335, R419) -/

/-- A unit fails training: its step is recorded and logged, and it counts as TRAIN_FAIL (R136, R138). -/
def Dev.failUnit (s : Dev) (unit step where_ : Nat) : Dev :=
  if s.unitPresent unit = false ∨ s.unitRetired unit = true then s
  else
    let t := s.setStep unit step
    let u := match unitClass unit with
      | 1 | 2 => t.post 0x500B unit unit step where_
      | 3 => t.post 0x6024 unit unit step where_
      | _ => t
    u.countFault (trainFault unit) false false

/-- A DIMM channel with a slot that its pair holds fails as ABSENT (R583); the subchannel of the event is open (assumption 2). -/
def Dev.failHeld (s : Dev) (f : Forme) : Dev :=
  s.each ((List.range 8).filter fun n => s.unitPresent (0x0100 + n) && (List.range f.fixed.dpc).any fun d => !s.sbAgrees (2 * n + d)) fun t n =>
    (t.failUnit (0x0100 + n) 1 (t.freeVal 1)).drawn

/-- A unit needs more ticks than a field of the record of one of its stations on the running page allows (R109). -/
def Dev.shortOf (s : Dev) (unit field need : Nat) : Bool :=
  (unitStations unit).any fun st => (s.table st).any fun x => x.param.isSome && decide (x.prm field < need)

/-- Every unit of a report that fails: those whose record is short are logged as such (R109). -/
def Dev.failUnits (s : Dev) (r : TrainReport) : Dev :=
  let t := s.each r.failed (fun u e => u.failUnit e.1 e.2.1 e.2.2)
  t.each (r.short.filter fun e => s.shortOf e.1 e.2.1 e.2.2) fun u e => (if u.unitPresent e.1 ∧ u.unitRetired e.1 = false then u.post 0x3034 e.1 e.1 e.2.1 e.2.2 else u).failUnit e.1 (stepTIMING e.1) 0

/-! ### Interleave and capacity (R336) -/

/-- A controller that trained good. -/
def Dev.memGood (s : Dev) (n : Nat) : Bool := s.unitPresent (memUnitId n) && !s.unitRetired (memUnitId n)

/-- CH_LIST of the DIMM and of the HBM2E interleave: an HBM2E channel needs both its pseudo-channels (R336). -/
def Dev.chLists (s : Dev) : List Nat × List Nat :=
  ((List.range 8).filter s.memGood, (List.range 8).filter (fun c => s.memGood (8 + 2 * c) && s.memGood (8 + 2 * c + 1)))

/-- Lays the tiers out over the channels that trained good. -/
def Dev.layOut (s : Dev) (f : Forme) : Dev :=
  let (d, h) := s.chLists
  let (t0, t1) := setCounts f.fixed f.dimm f.hbm f.tiers.stageFrames d.length h.length
  let t := (s.modMem fun m => { m with chDimm := d, chHbm := h, lostCtx := [] }).modTier fun r => { r with setsT0 := t0, setsT1 := t1, lostUnits := [], mapFrames := [], rebuildAt := 0 }
  t.each (List.range 24) fun u n =>
    let slot := if n < 8 then d.idxOf? n else h.idxOf? ((n - 8) / 2)
    u.setL [(.MEM_STATUS_TRAINED n, b2n (u.memGood n)), (.MEM_CFG_IN_INTERLEAVE n, b2n slot.isSome), (.MEM_CFG_SLOT n, slot.getD 0)]

/-! ### Flash (R356, R361, R419) -/

/-- NAND channels that trained good. -/
def Dev.nandGood (s : Dev) (f : Forme) : List Nat := f.fixed.nandChannels.filter (fun n => !s.unitRetired (0x0300 + n))

/-- The LUN indices of the channels. -/
def lunsOf (f : FixedPart) (chs : List Nat) : List Nat :=
  chs.flatMap fun c => (List.range f.targets).flatMap fun t => (List.range f.luns).map fun l => c * 32 + t * 4 + l

/-- W is fixed, the LUNs are those of the channels that trained good, and bands form of their erased members (R356,
R365). -/
def Dev.trainFlash (s : Dev) (f : Forme) (family : Nat) : Dev :=
  match f.nands.find? (fun t => t.family == family) with
  | none => s
  | some tbl =>
    let good := s.nandGood f
    let t := (s.showNand f tbl).modFm fun x => { x with width := min 16 good.length, luns := lunsOf f.fixed good, table := some tbl }
    let u := t.each good (fun v n => v.set (.NANDC_STATUS_TRAINED n) 1)
    ((u.modFm fun x => x.formBands (x.bandsTotal - x.bands.length)).set .FM_STATUS_WIDTH u.fm.width)

/-- The capacities that the pass leaves suffice (R336, R356, R361). -/
def Dev.capacityOk (s : Dev) : Bool :=
  let (have_, need) := s.tlcCapacity
  decide (s.tier.setsT0 ≥ 1 ∧ s.tier.setsT1 ≥ 1 ∧ s.fm.width ≥ 3 ∧ have_ ≥ need)

/-! ### The page (R63, R121) -/

/-- Inserts into an ascending list. -/
def insertAsc (n : Nat) : List Nat → List Nat
  | [] => [n]
  | m :: ms => if n ≤ m then n :: m :: ms else m :: insertAsc n ms

/-- The pages that the losses lead to, in ascending order of unit ID, from a page with its pairs (R121): none where a
lookup fails. -/
def Dev.pageFor (s : Dev) (page : Nat) (pairs : List (Nat × Nat)) : List Nat → Option (Nat × List (Nat × Nat))
  | [] => some (page, pairs)
  | u :: us => match s.fallback u page with
    | some e => s.pageFor e.toPage e.pairs us
    | none => none

/-- A page covers the losses of TRAINING, and runs from the next boundary, or none does (R121). -/
def Dev.selectPage (s : Dev) : Dev × Bool :=
  let losses := (s.cal.losses.eraseDups).foldr insertAsc []
  let t := s.modCal fun c => { c with losses := [] }
  match s.pageFor 0 [] losses with
  | some (p, pairs) => (t.modCal fun c => { c with chosen := some (p, pairs, losses) }, true)
  | none =>
    let u := t.each losses (fun v x => v.setUnit x 3)
    ((u.modMode fun m => { m with uncovered := losses != [] }).degraded, false)

/-- TRAINING_COMPLETE (R46 rows 3 and 4, R121): repairs, failures, layout, capacity and page. -/
def Dev.trainDone (s : Dev) (r : TrainReport) : Dev :=
  match s.forme.run with
  | none => s
  | some f =>
    if s.modeOf ≠ mTRAINING then s
    else
      let t := ((((s.repairRows r.exhausted [] s.mem.rows).repairLanes r.lanes).failHeld f).failUnits r).layOut f
      let (u, found) := (t.trainFlash f r.family).selectPage
      if found = true ∧ u.capacityOk = true then u.trigger ⟨3, mRECOVERING, 2, 6, 0⟩ else u.trigger ⟨4, mQUIESCED, 10, 6, 0⟩

end Sys2Proof.Machine
end

