-- ==== Sys2Proof/Machine/Modes.lean ====
section
/-!
DEFINITION. Mode entries and mode operations: 02_operating_modes.md R43 to R64, with what each mode's entry does (03_forme.md R77,
09_tiers_and_migration.md R297 to R299, 12_flash_management.md R392, 14_daybook.md R437 to R440, 15_twin_mirroring.md R464 to R478,
16_cipher_and_keys.md R503, R504, R509 and R514).
-/

namespace Sys2Proof.Machine

open Sys2Proof

/-! ### What leaving a mode does -/

/-- What ends when a mode is left by a row of R46 (R40, R48, R61, R476, R483). -/
def Dev.leaveMode (s : Dev) (t : Trigger) : Dev :=
  let m := s.modeOf
  let s1 := if m = mRECOVERING then
      ((s.setL [(.MODE_STATE_WAIT_TWIN, 0), (.TWIN_LEASE_STATUS_PENDING, 0)]).modTwin fun w => { w with leaseDue := false, lease := none })
    else s
  let s3 := if m = mACTIVE ∨ m = mSTANDBY then (s1.setL [(.TWIN_STATUS_PAIRED, 0), (.TWIN_STATUS_HOLDING, 0)]).modTwin fun w =>
      { w with handover := none, mismatch := none, verdict := none } else s1
  let s4 := if (m = mSOLO ∧ t.row ≠ 10) ∨ (m = mRESYNC ∧ t.row ≠ 17) then s3.abandonResync m else s3
  if t.row = 10 ∨ t.row = 17 then (s4.modTwin fun w => { w with resync := none }).showResync else s4

/-! ### RECOVERING (R297 to R299, R436 to R440, R464, R465, R503, R504, R509) -/

/-- The tiers after a pass through DORMANT (R297): nothing is resident, so a CLEAN folio is HOME and a DIRTY or STAGED
one is LOST. -/
def Dev.recoverMap (s : Dev) : Dev :=
  let s := s.each s.tier.discards Dev.discardNow
  let t := s.modTier fun x => { x with dirty := [], dirLoaded := 0, mapLoaded := 0, demand := [], fetches := 0, rootMs := some s.evt.islandMs }
  s.tier.map.foldl (fun u e => match e.2.state with
    | .clean => u.setMap e.1 { MapEntry.none with state := .home, home := e.2.home }
    | .dirty | .staged => u.loseFolio e.1 1 0
    | _ => u) t

/-- A record lies above a granule of the ring (R438). -/
def JRec.above (r : JRec) (x : Nat) : Bool := decide (r.first / granuleBytes > x)

/-- Folios that depend on a journal granule that replay could not read (R438): no record above it names the folio, and its map page was last HOMED
through an earlier one. Of a page never HOMED, those of its folios that the map names (assumption 137). -/
def Dev.gapFolios (s : Dev) (x : Nat) : List Nat :=
  let named (f : Nat) : Bool := s.jrn.recs.any fun r => r.above x && (match r.body with
    | .map g false _ => g == f
    | _ => false)
  let pages := (s.jrn.homed.filter fun e => decide (e.1 < 2 ^ 31 ∧ e.2.2 < x)).flatMap fun e => (List.range 512).map (e.1 * 512 + ·)
  let bare := (s.tier.map.map Prod.fst).filter fun f => (s.jrn.homed.get? (f / 512)).isNone
  ((pages.filter fun f => decide (f < s.exposedBytes / 4096)) ++ bare).filter fun f => !named f

/-- Two records state the same table entry. -/
def JBody.sameEntry : JBody → JBody → Bool
  | .table i n _, .table k m _ => i == k && n == m
  | .zone r z _, .zone q y _ => r == q && z == y
  | _, _ => false

/-- The table entries of R208 at a gap (R438): each from its last checkpoint, and from a record above the gap where one names it. -/
def Dev.tablesBack (s : Dev) (x : Nat) : Dev :=
  s.each (s.jrn.recs.filter fun r => r.body.sameEntry r.body && !(s.jrn.recs.any fun y => y.above x && y.body.sameEntry r.body)).reverse
    fun t r => t.undo r.undo

/-- Journal granules that replay could not read (R438): on a node without a partner, folios that depend on them are LOST and tables go back; with
one the node carries LOSS into role selection (R465). -/
def Dev.replayGaps (s : Dev) : Dev :=
  (s.each s.jrn.lost fun t x =>
    let fs := if t.twinFitted then [] else t.gapFolios x
    let u := (((t.each fs fun v f => v.loseFolio f 1 0).when (!t.twinFitted) (·.tablesBack x)).set .DB_STATUS_GAP 1).post 0xD008 0 x fs.length (b2n t.twinFitted)
    u.modTwin fun w => { w with loss := true }).modJrn fun j => { j with lost := [] }

/-- The seal (R437, R440): the image is loaded where it is SEALED, without the groups whose header and mirror cannot be read, which count as a gap at
END_GSEQ (R438); else the start is UNSEALED. -/
def Dev.recoverSeal (s : Dev) : Dev :=
  if s.jrn.sealRec.state = 1 then
    let n := s.gal.image.length
    let gone := (List.range (ceilDiv n 4)).filter s.db.headerGone
    if gone = [] then s.loadImage
    else
      let whole := ((s.gal.image.zip (List.range n)).filter fun e => !gone.contains (e.2 / 4)).map Prod.fst
      ((s.modGal fun g => { g with image := whole }).loadImage).modJrn fun j => { j with lost := j.lost ++ [j.sealRec.endGseq] }
  else ((s.set .DB_STATUS_UNSEALED 1).post 0xD004 0 ((s.jrn.ring + 2 ^ 32 - 1) % 2 ^ 32) s.jrn.sealRec.state 0).modTwin fun w => { w with loss := true }

/-- The intent ring is read (R442): entries of an unrecoverable granule are absent, and a block is half-erased where its member's OPEN is in
force (R383). -/
def Dev.recoverIntents (s : Dev) : Dev :=
  let t := s.modJrn fun j => { j with force := j.force.filter fun e => !s.db.unreadable (intentAt e.2.2.2) }
  let half := t.jrn.force.filterMap fun e => if e.1 = 1 then some e.2.1 else none
  t.modFm fun f => { f with blocks := f.blocks.map fun e =>
    (e.1, { e.2 with intent := e.2.intent && half.any fun k => k / 8192 == e.1 / 8192 && (k % 8192) / max 1 f.planes == (e.1 % 8192) / max 1 f.planes }) }

/-- A non-volatile slot after RECOVERING: its usage is the checkpoint and 2³⁶ more, at most LIMIT (R503). -/
def KeySlot.restored (v : KeySlot) : KeySlot := { v with usage := min (v.usage + 2 ^ 36) v.limit }

/-- A slot resumes its usage, with what the crossing of its thresholds brings (R503, R505). -/
def Dev.resumeSlot (s : Dev) (n : Nat) : Dev :=
  let v := s.keys.slot n
  if v.state = .lost then s else (s.modKeys fun k => k.putSlot n v.restored).usageCrossed n v

/-- A slot whose blob failed in both copies is LOST, and with it every domain that names it (R504, R508). -/
def Dev.slotLost (s : Dev) (n : Nat) : Dev :=
  let t := (s.post 0xB00A 0 n 1 0).set .CIPHER_STATUS_LOST_SEEN 1
  t.each (t.keys.domains.filter fun e => e.2.serves && (e.2.curSlot == n || (e.2.state == .rekeying && e.2.prevSlot == n))) fun u e =>
    u.setDomain e.1 { e.2 with state := .keyLost }

/-- The key store at RECOVERING (R503, R504, R507): slots are LOST or resume their usage, and a domain whose slot has used up its share is to be
rekeyed. -/
def Dev.recoverKeys (s : Dev) : Dev :=
  let t := s.each ((s.keys.slots.filter fun e => e.2.state == .lost).map Prod.fst) Dev.slotLost
  let u := t.each (t.keys.slots.map Prod.fst) Dev.resumeSlot
  let due (e : Nat × KeyDomain) : Bool :=
    let v := u.keys.slot e.2.curSlot
    e.2.serves && !u.keys.busy e.1 && !u.keys.waits.contains e.1 && v.reached (if v.autoPct = 0 then 100 else v.autoPct)
  u.modKeys fun k => { k with waits := k.waits ++ (u.keys.domains.filter due).map Prod.fst }

/-- Domain 0 is keyed with a generated AT_REST key (R509): at format, which is the first RECOVERING that finds it never keyed
(assumption 57), and at the end of SANITIZING. -/
def Dev.keyDomain0 (s : Dev) : Dev :=
  match s.keys.lowestEmpty true with
  | none => s
  | some n =>
    let (key, t) := s.random 256
    let v : KeySlot := { KeySlot.none with state := .active, kind := 1, key := key, limit := 2 ^ 48 - 1, autoPct := 90, domain := some 0 }
    (t.installKey n v 0).setDomain 0 { state := .keyed, curSlot := n, curEpoch := (t.keys.dom 0).curEpoch + 1, prevSlot := 0, prevEpoch := 0 }

/-- The persistent tables at RECOVERING (R208, R257): a region that was REVOKING is REVOKED with its generation advanced, event
queues restart empty, and queues with work resume when the node serves. -/
def Dev.recoverTables (s : Dev) : Dev :=
  let t := s.each (s.rgn.regions.filter fun e => e.2.state == .revoking) fun u e =>
    u.setRegion e.1 { e.2 with state := .revoked, gen := nextGen e.2.gen, inFlight := 0, waiters := [], going := false }
  (t.modRgn fun r => { r with
    pds := r.pds.map fun e => (e.1, { e.2 with producer := 0, overflow := 0, records := [], marks := 0, nextCaps := none,
                                                   coming := false, dying := none }),
    regions := r.regions.map fun e => (e.1, { e.2 with inFlight := 0, coming := false, before := [], going := false, waiters := [] }),
    resets := [], assigns := [], capsVerbs := [], emptied := [] }).modDq fun d =>
      d.map fun e => (e.1, { e.2 with run := none, qp := none, dying := none, waiting := false })

/-- What the order ledger gives back (R464, R465): ONUM, OSEQ and TAKEOVER of its end, and LOSS where its end is SUSPECT or
FENCED. -/
def Dev.recoverLedger (s : Dev) : Dev :=
  let g := s.ledgerEnd
  s.modTwin fun w => { w with onum := g.onum, reported := g.onum, oseq := g.oseq, takeover := g.takeover, base := g.base,
                              loss := w.loss || g.suspect || g.role == 4 }

/-- Ring slots, by index, in unrecoverable granules of the event partition (R432, R599). -/
def DbSt.ringSlotsLost (d : DbSt) : List Nat :=
  d.bad.flatMap fun k => match placeIn (k / 4) (k % 4) with
    | some p =>
      let g := 3 * (k / 4) + p
      if d.unreadable g = true ∧ (partitionOf g).map Prod.fst = some 6 then [2 * (g - 0x11200000 / 64), 2 * (g - 0x11200000 / 64) + 1] else []
    | none => []

/-- RECOVERING after a pass through DORMANT (R297). -/
def Dev.recoverAll (s : Dev) : Dev :=
  let t := (s.sweepBanks.recoverLedger.recoverSeal.replayGaps.recoverMap.recoverTables.cutAppends.recoverKeys.recoverIntents.recoverFlash).recoverRing
    s.db.ringSlotsLost
  let lostAny := t.tier.map.any fun e => e.2.state == .lost && (s.tier.entry e.1).state != .lost
  let u := t.modTwin fun w => { w with loss := w.loss || lostAny }
  if (u.keys.dom 0).state = .unkeyed ∧ (u.keys.dom 0).curEpoch = 0 then u.keyDomain0 else u

/-- RECOVERING is entered (R49, R50, R257, R297, R299): where the directory root is loaded since DORMANT, as after QUIESCED, the
memories kept what they hold, the journal written since is replayed and the root is loaded again. -/
def Dev.enterRecovering (s : Dev) : Dev :=
  let t := (if s.tier.rootMs.isSome then (s.replayGaps.recoverRing s.db.ringSlotsLost).modTier fun x => { x with rootMs := some s.evt.islandMs } else s.recoverAll).modDq fun d => d.map fun e => (e.1, { e.2 with again := decide (e.2.posted > e.2.completed) && !e.2.error })
  if t.mode.sanitizeOpen then t.trigger ⟨9, mSANITIZING, 12, 6, 0⟩ else t

/-! ### SANITIZING (R50, R392, R509, R514, R639) -/

/-- SANITIZING is entered: the record is open, every AT_REST slot is destroyed, every folio discarded, every band purged, and Flesal is off
(R39). -/
def Dev.enterSanitizing (s : Dev) : Dev :=
  let t := s.modMode fun m => { m with sanitizeOpen := true }
  let u := t.each ((t.keys.slots.filter fun e => e.2.kind == 1).map Prod.fst) Dev.destroySlot
  let v := u.each u.keys.domains fun x e => x.setDomain e.1 { e.2 with state := .purging }
  let w := (v.modKeys fun k => { k with scans := [], starts := [], waits := [], destroys := [] }).discardBy Dev.discardNow fun _ => true
  let x := ((w.modFm fun f => { f with purge := none, purges := [] }).startPurge none).setL [(.TWIN_STATUS_LINK_UP, 0), (.TWIN_STATUS_LANES_UP, 0)]
  x.each x.ports fun u p => u.linkDown p 0

/-- A band's entry as SANITIZING leaves it (R392). -/
def Band.wiped (b : Band) : Band :=
  { b with state := .erased, slc := false, stream := none, placed := 0, upto := 0, done := [], domains := [], closedMs := 0, reads := [],
           checked := 0, finalStep := false, cut := none, why := 0 }

/-- The tables after a sanitize (R639), each change journaled (R208): PDs, regions and queues are FREE, zones empty, extents of domain 0, and every
generation advanced, also those of entries never used. -/
def Dev.wipeTables (s : Dev) : Dev :=
  let t := s.each s.rgn.regions fun u e => u.setRegion e.1 { Region.free with gen := nextGen e.2.gen }
  let u := t.each s.rgn.pds fun v e => v.setPd e.1 none
  let v := u.each s.rgn.zones fun w e => w.setZone (e.1 / 65536) (e.1 % 65536) 0
  let w := v.each s.keys.extents fun x e =>
    (x.modKeys fun k => { k with extents := k.extents.del e.1 }).journal (.table 0xA2 e.1 [0, 0]) (.extent e.1 (some e.2))
  let x := w.each s.dq fun y e => (y.modDq fun d => d.del e.1).journal (.table 0xA3 e.1 []) (.queue e.1 (some e.2))
  let y := x.modRgn fun r => { r with resets := [], assigns := [], answers := [], capsVerbs := [], emptied := [], cuts := [], baseGen := nextGen r.baseGen }
  y.journal (.table 0xA1 0xFFFFFFFF (leBytes 2 y.rgn.baseGen)) (.baseGen s.rgn.baseGen)

/-- What a finished sanitize leaves (R50, R392, R514, R639): no slot, map, log or bitmap, every table free and every domain unkeyed but
domain 0, which is keyed again; the record is cleared. -/
def Dev.sanitized (s : Dev) (p : Purge) : Dev :=
  let t := (s.endPurge p).modFm fun f =>
    { f with slots := [], bands := f.bands.map fun e => (e.1, e.2.wiped), relocate := [], rebuilds := [], logBand := [], ckpt := [], gc := false }
  let u := ((t.modTier fun x => { TierSt.reset with setsT0 := x.setsT0, setsT1 := x.setsT1, lostUnits := x.lostUnits, dirLoaded := x.dirLoaded,
                                                             mapLoaded := x.mapLoaded, fetches := x.fetches, rootMs := x.rootMs }).modGal fun g =>
    { GalleySt.reset with bankmap := g.bankmap, dead := g.dead }).modLc fun c => { c with ways := [], fills := [] }
  let v := ((u.modJrn fun j => { j with homed := [], writing := [] }).modTwin fun w => { w with saved := none, cur := [], old := [], base := none, keptFrom := none }).modEvt
    fun r => { r with archive := [], archAt := [], archBusy := none, archOldest := r.archNext }
  let w := (v.wipeTables.each v.keys.domains fun x e => x.setDomain e.1 { e.2 with state := .unkeyed, curSlot := 0, prevSlot := 0 }).keyDomain0
  w.modMode fun m => { m with sanitizeOpen := false }

/-- PURGE_COMPLETE (R50, R392, R514, R639): once every band is erased and verified and the memories are zeroed, the node takes
row 21. -/
def Dev.purgeComplete (s : Dev) : Dev :=
  match s.fm.purge with
  | none => s
  | some p =>
    if s.modeOf ≠ mSANITIZING ∨ p.left ≠ [] ∨ p.zeroing = true ∨ p.domain.isSome = true then s
    else (s.sanitized p).trigger ⟨21, mQUIESCED, 11, 6, 0⟩

/-! ### The twin's part of an entry (R458, R475 to R478, R482) -/

/-- The digest windows start again (R482). -/
def Dev.startWindows (s : Dev) : Dev :=
  s.modTwin fun w => { w with digestFrom := ceilDiv w.oseq 4096 * 4096, own := [], theirs := [], jsend := [], jspans := [], jcount := 0, jwin := 0,
                              jcrc := 2 ^ 64 - 1, jfrom := ceilDiv w.oseq 4096 * 4096, reported := max w.reported w.onum }

/-- The change bitmaps that a node starts to keep (R478): those the last Vigil saved, else new ones. -/
def Dev.keepBitmaps (s : Dev) : Dev :=
  if s.twin.keptFrom.isSome then s
  else s.modTwin fun w => match w.saved, w.base with
    | some g, some _ => { w with cur := g, old := [], keptFrom := some (w.onum + 1), saved := none }
    | _, _ => { w with cur := [], old := [], base := some (w.onum + 1), keptFrom := some (w.onum + 1), saved := none }

/-- A node that follows keeps no bitmaps (R478). -/
def Dev.dropBitmaps (s : Dev) : Dev := s.modTwin fun w => { w with cur := [], old := [], keptFrom := none }

/-- The boundary of R53: the seal is CONSUMED (R440). -/
def Dev.consumeSeal (s : Dev) : Dev :=
  if s.jrn.sealRec.state = 2 then s else s.modJrn fun j => { j with sealRec := { j.sealRec with state := 2, seq := j.sealRec.seq + 1 } }

/-- A mode that serves is entered (R475, R478, R485, R601). -/
def Dev.enterServing (s : Dev) : Dev :=
  let t := ((s.modCal fun c => { c with stopped := false, stopStamp := none }).setL [(.TWIN_EGRESS_HOURS, 0), (.TWIN_STATUS_EGRESS_OLD, 0)]).modTwin fun w => { w with egressTold := false }
  (t.modEvt fun r => { r with archOn := true }).keepBitmaps.consumeSeal

/-- STANDBY is entered (R458, R476, R482), without congestion state (R195): the node takes the active's OSEQ, where it has not executed items since Sf. -/
def Dev.enterStandby (s : Dev) (row : Nat) : Dev :=
  let t := if row = 17 then s else match s.twin.partner with
    | some p => s.modTwin fun w => { w with oseq := p.oseq, wcrc := 2 ^ 64 - 1, wcount := 0 }
    | none => s
  ((t.set .TWIN_STATUS_PAIRED 1).startWindows.dropBitmaps.dropCc.consumeSeal).modCal fun c => { c with stopped := false, stopStamp := none }

/-- Latches end where RESYNC is entered (R289): the active's moves decide from here. -/
def Dev.enterResync (s : Dev) : Dev :=
  (s.each s.tier.latches fun t e => t.failMove e.1 0).consumeSeal.dropBitmaps

/-! ### HOLDUP_SAVE and DORMANT -/

/-- HOLDUP_SAVE is entered (R89, R539, R595, R601): the final STATE frame, and the link is off. -/
def Dev.enterHoldup (s : Dev) (from_ : Nat) : Dev :=
  let t := ((s.repeatFlush.modEvt fun r => { r with archOn := false }).sendState).setL [(.TWIN_STATUS_LINK_UP, 0), (.TWIN_STATUS_LANES_UP, 0)]
  (t.each t.ports fun u p => u.linkDown p 0).vigilStart from_

/-- The static address that the next entry to DORMANT or RSTDAA puts in use (R568, R570). -/
def Dev.staticAddr (s : Dev) : Nat := if s.sp.saddr ≠ 0 then s.sp.saddr else 0x3C + s.sp.addrStrap

/-- The dynamic address is gone, and the target answers in I2C mode at its static address (R568). -/
def Dev.dropAddress (s : Dev) : Dev :=
  s.setL [(.I3C_STATUS_BUSMODE, 0), (.I3C_STATUS_DYN_ADDR, 0), (.I3C_STATUS_STATIC_ADDR, s.staticAddr)]

/-- DORMANT is entered (R550, R568, R581, R611): the core is lost, CAL stops, and the address strap is read. -/
def Dev.enterDormant (s : Dev) : Dev :=
  let t := (s.thermOff.coreLost.calStop.clocksOff.set .EVT_STATUS_RUNNING 0).modSp fun p => { p with addrStrap := s.pwr.pins.addrStrap, hotJoin := false, ibiPending := false }
  (t.dropAddress).modMode fun m => { m with waiting := [], recheck := none, quiescing := false }

/-- CONFIGURING is entered (R77, R568, R581, R611): the core registers take their reset values, the straps are read, and a load
starts. The address in use is the island's. -/
def Dev.enterConfiguring (s : Dev) : Dev :=
  let join := s.bit .I3C_STATUS_HJ_EN
  let t : Dev := { s with regs := s.regs.keepDoms (· != .core), pwr := { s.pwr with straps := s.pwr.pins } }
  let u := (t.setL [(.MODE_STATE_ROLE, s.pwr.pins.roleStrap), (.I3C_STATUS_STATIC_ADDR, s.get .I3C_STATUS_STATIC_ADDR)]).modSp fun p => { p with hotJoin := join }
  u.startLoad

/-! ### Entering a mode (R45, R51, R57) -/

/-- What the target mode's entry does. -/
def Dev.entered (s : Dev) (t : Trigger) (from_ : Nat) : Dev :=
  if t.target = mCONFIGURING then s.enterConfiguring
  else if t.target = mTRAINING then s.trainBegin
  else if t.target = mRECOVERING then s.enterRecovering
  else if t.target = mSOLO then s.enterServing
  else if t.target = mACTIVE then ((s.enterServing.set .TWIN_STATUS_PAIRED 1).startWindows).modTwin fun w => { w with tookOver := false }
  else if t.target = mSTANDBY then s.enterStandby t.row
  else if t.target = mRESYNC then s.enterResync
  else if t.target = mSWITCHOVER then s.modTwin fun w => { w with announce := 0 }
  else if t.target = mHOLDUP then s.enterHoldup from_
  else if t.target = mSANITIZING then s.enterSanitizing
  else if t.target = mQUIESCED then
    if t.row = 18 then (s.modMode fun m => { m with quiescing := true }).modCal (·.shut) else s.modMode fun m => { m with quiescing := false }
  else s.enterDormant

/-- Ports at a mode entry (R39 to R41): a switch-over holds what they advertise. -/
def Dev.portsAt (s : Dev) : Dev :=
  if s.modeOf = mSWITCHOVER then s.each s.ports fun t p => t.set (.PORT_STATUS_HELD p) 1
  else s.each s.ports fun t p => (t.set (.PORT_STATUS_HELD p) 0).advertise p

/-- The Impress that waited for a mode is due at the first boundary after its entry (R91), unless the mode commits none of its own (R89, R93). -/
def Dev.impressAt (s : Dev) : Dev :=
  if s.cal.impressWaits = false then s
  else if s.follower then s.refuseImpress 4
  else if s.inMode [mHOLDUP, mSANITIZING] then s.refuseImpress 3
  else s.modCal fun c => { c with impressWaits := false }

/-- The mode of a trigger is entered (R45, R51): `MODE_STATE.MODE`, `MODE_ENTRY`, CHANGED, its event and its doorbell, and the
doorbells that a switch-over held (R579). -/
def Dev.enterMode (s : Dev) (t : Trigger) : Dev :=
  let from_ := s.modeOf
  let a := (s.leaveMode t).setL [(.MODE_STATE_MODE, t.target), (.MODE_STATE_TARGET, t.target), (.MODE_STATE_TRANSIT, 0), (.MODE_ENTRY_FROM, from_),
    (.MODE_ENTRY_CAUSE, t.cause), (.MODE_RESULT_CHANGED, 1)]
  let b := (a.modMode fun m => { m with due := none, fresh := true, quiescing := false }).post (0xE000 + t.target) 0 from_ t.cause s.cycleLow
  let c := b.when (!s.bit .MODE_RESULT_CHANGED) (·.ring 8)
  let held := c.sp.dbHeld
  let d := if c.modeOf = mSWITCHOVER ∨ held = 0 then c else (c.modSp fun p => { p with dbHeld := 0 }).ring held
  let e := (d.entered t from_).portsAt.impressAt
  if e.inMode [mDORMANT, mHOLDUP] then e else e.sendState

/-- Where CAL is stopped a transition takes effect at once (R51). -/
def Dev.takeNow (s : Dev) : Dev :=
  match s.mode.due with
  | some t => if s.calRuns then s else s.enterMode t
  | none => s

/-- The modes that a row of R46 leaves. -/
def rowFrom (row : Nat) : List Nat :=
  match row with
  | 1 => [mDORMANT]
  | 2 => [mCONFIGURING]
  | 3 | 4 => [mTRAINING]
  | 5 | 6 | 7 | 8 | 9 => [mRECOVERING]
  | 10 => [mSOLO]
  | 11 | 12 => [mACTIVE]
  | 13 | 16 => [mSTANDBY]
  | 14 | 15 => [mSWITCHOVER]
  | 17 => [mRESYNC]
  | 18 => [mSOLO, mSTANDBY, mRESYNC]
  | 19 | 20 => [mQUIESCED]
  | 21 => [mSANITIZING]
  | 22 => row22From
  | 23 => [mHOLDUP]
  | _ => []

/-- The triggers that waited are evaluated in the mode entered, at the first boundary after its entry, and so is a STATE that arrived meanwhile
(R57, R58). -/
def Dev.evaluateWaiting (s : Dev) : Dev :=
  if s.mode.fresh then
    let ws := s.mode.waiting
    let t := s.modMode fun m => { m with fresh := false, waiting := [] }
    (t.each ws fun u w => if (rowFrom w.row).contains u.modeOf then u.trigger w else u).recheckState
  else s

/-- A row-22 trigger (R46, R52): ignored in HOLDUP_SAVE and DORMANT. -/
def Dev.rowTwentyTwo (s : Dev) (cause prio : Nat) : Dev :=
  if row22From.contains s.modeOf then (s.trigger ⟨22, mHOLDUP, cause, prio, 0⟩).takeNow else s

/-! ### Mode operations (R43, R44, R47 to R50, R55, R463) -/

/-- Why a mode operation is refused; none where it is accepted. R55 comes first of the reasons of a mode; where several of the others apply the
model takes an OP above 7, then LOCKED, then what the operation needs, an order that the manual leaves open (assumption 75). -/
def Dev.opRefusal (s : Dev) (op : Nat) : Option Nat :=
  if op > 7 then some rNOT_PERMITTED
  else if op = 0 then none
  else if op = 5 then
    if s.inMode [mDORMANT, mHOLDUP] then some rNOT_PERMITTED
    else match s.mode.due with
      | some d => if d.prio ≤ 4 then some rBUSY else none
      | none => none
  else if s.bit .MODE_STATE_TRANSIT then some rBUSY
  else if s.modeOf = mSANITIZING ∨ s.bit .TWIN_STATUS_FENCED = true then some rLOCKED
  else
    let ok : Bool := match op with
      | 1 => s.inMode [mSOLO, mSTANDBY, mRESYNC]
      | 2 | 3 => s.modeOf == mQUIESCED
      | 4 => s.modeOf == mACTIVE
      | 6 => s.modeOf == mRECOVERING && s.bit .MODE_STATE_WAIT_TWIN
      | _ => s.bothRefused
    if ok then none else if (op = 1 ∨ op = 3) ∧ s.modeOf = mACTIVE then some rTWIN else some rNOT_PERMITTED

/-- What an accepted mode operation starts; `cause` is SP_OP or HOST_OP (R42). -/
def Dev.opStart (s : Dev) (op cause : Nat) : Dev :=
  match op with
  | 1 => s.trigger ⟨18, mQUIESCED, cause, 7, 0⟩
  | 2 => s.trigger ⟨19, mRECOVERING, cause, 7, 0⟩
  | 3 => s.trigger ⟨20, mSANITIZING, cause, 7, 0⟩
  | 4 => if s.twin.handover.isSome then s else s.modTwin fun w => { w with handover := some none }
  | 5 => s.trigger ⟨22, mHOLDUP, cause, 4, 0⟩
  | 6 => s.trigger ⟨5, mSOLO, cause, 7, 0⟩
  | 7 => s.reload
  | _ => s

/-- A mode operation from `MODE_CMD`, or from a verb, which needs no GUARD (R43): the state after, and whether it was accepted. -/
def Dev.modeOp (s : Dev) (op cause : Nat) (guarded : Bool) : Dev × Bool :=
  if guarded = false then (s.refuseOp op rGUARD, false)
  else match s.opRefusal op with
    | some r => (s.refuseOp op r, false)
    | none => (((s.set .MODE_RESULT_LAST_OP op).opStart op cause).takeNow, true)

/-- A write of `MODE_CMD` (R43). -/
def Dev.modeCmd (s : Dev) (op guard : Nat) : Dev := (s.modeOp op 5 (guard == 0x5A)).1

/-- The MODE_OP verb of a caller (R229): the operation, and the answer OK, or MODE where it is refused (assumption 58). -/
def Dev.modeVerb (s : Dev) (who : Caller) (tag op : Nat) : Dev :=
  let body := leBytes 4 op
  s.verbAt who (verbRequest 0x50 tag body) fun t onum =>
    let c : Call := { who := who, op := 0x50, tag := tag, body := body, onum := onum }
    match t.verbScreen c 4 false with
    | some st => t.verbNo c st 0
    | none =>
      let (u, ok) := t.modeOp op (match who with | .sp _ => 5 | _ => 6) true
      if ok then u.verbOk c [] else u.verbNo c 12 0

/-- A mode operation's row. -/
def Dev.modeRow (s : Dev) (src : ModeSrc) (op guard : Nat) : Dev :=
  match src with
  | .reg => s.regRow 0x28 (·.modeCmd op guard)
  | .verb who tag => s.modeVerb who tag op

/-- The IMPRESS verb of a caller (R87, R229). -/
def Dev.impressVerb (s : Dev) (who : Caller) (tag : Nat) : Dev :=
  s.verbAt who (verbRequest 0x51 tag []) fun t onum =>
    let c : Call := { who := who, op := 0x51, tag := tag, body := [], onum := onum }
    match t.verbScreen c 0 false with
    | some st => t.verbNo c st 0
    | none => t.impressTrigger.verbOk c []

/-- Requests still open 50 ms after QUIESCE stopped admission end in error (R52). -/
def Dev.quiesceDeadline (s : Dev) : Dev :=
  if s.mode.quiescing then
    let stamps := (s.net.qps.flatMap fun e => if e.2.kind = 1 ∧ s.controlQps = true then [] else e.2.resps.map Resp.stamp).eraseDups
    ((s.each stamps Dev.endRequest).modMode fun m => { m with quiescing := false }).modCal (·.endOpen)
  else s

/-- RECOVERY_COMPLETE (R297, R48, R466): the work of RECOVERING is over, where nothing else decides its row. -/
def Dev.recoveryComplete (s : Dev) : Dev :=
  if s.modeOf = mRECOVERING ∧ s.mode.due.isNone = true ∧ s.bit .MODE_STATE_WAIT_TWIN = false then s.recovered else s

/-! ### Commands -/

/-- NOP (R43). -/
def execNop (src : ModeSrc) (guard : Nat) (w : State) : Host.Outcome State Fault Refusal := finish w fun s => (s.modeRow src 0 guard)

/-- QUIESCE (R46 row 18, R49). -/
def execQuiesce (src : ModeSrc) (guard : Nat) (w : State) : Host.Outcome State Fault Refusal := finish w fun s => (s.modeRow src 1 guard)

/-- RESUME (R46 row 19). -/
def execResume (src : ModeSrc) (guard : Nat) (w : State) : Host.Outcome State Fault Refusal := finish w fun s => (s.modeRow src 2 guard)

/-- SANITIZE (R46 row 20). -/
def execSanitize (src : ModeSrc) (guard : Nat) (w : State) : Host.Outcome State Fault Refusal := finish w fun s => (s.modeRow src 3 guard)

/-- HANDOVER (R476). -/
def execHandover (src : ModeSrc) (guard : Nat) (w : State) : Host.Outcome State Fault Refusal := finish w fun s => (s.modeRow src 4 guard)

/-- POWER_OFF (R46 row 22). -/
def execPowerOff (src : ModeSrc) (guard : Nat) (w : State) : Host.Outcome State Fault Refusal := finish w fun s => (s.modeRow src 5 guard)

/-- SOLO_OVERRIDE (R48). -/
def execSoloOverride (src : ModeSrc) (guard : Nat) (w : State) : Host.Outcome State Fault Refusal := finish w fun s => (s.modeRow src 6 guard)

/-- RELOAD (R47). -/
def execReload (src : ModeSrc) (guard : Nat) (w : State) : Host.Outcome State Fault Refusal := finish w fun s => (s.modeRow src 7 guard)

/-- QUIESCE_DEADLINE (R52). -/
def execQuiesceDeadline (w : State) : Host.Outcome State Fault Refusal := finish w fun s => s.quiesceDeadline

/-- PURGE_COMPLETE (R392). -/
def execPurgeComplete (w : State) : Host.Outcome State Fault Refusal := finish w fun s => s.purgeComplete

/-- TRAINING_COMPLETE (R121). -/
def execTrainingComplete (r : TrainReport) (w : State) : Host.Outcome State Fault Refusal := finish w fun s => (s.trainDone r)

/-- RECOVERY_COMPLETE (R297). -/
def execRecoveryComplete (w : State) : Host.Outcome State Fault Refusal := finish w fun s => s.recoveryComplete

/-- FORME_PASS1_DONE (R78). -/
def execFormePass1Done (err : Option Nat) (w : State) : Host.Outcome State Fault Refusal := finish w fun s => (s.pass1Done err).takeNow

/-- FORME_PASS2_DONE (R78). -/
def execFormePass2Done (err : Option Nat) (changed : Bool) (w : State) : Host.Outcome State Fault Refusal := finish w fun s => (s.pass2Done err changed).takeNow

/-- IMPRESS_TRIGGER (R87): a write of `CAL_CTRL.IMPRESS`, or the IMPRESS verb. -/
def execImpressTrigger (src : ModeSrc) (w : State) : Host.Outcome State Fault Refusal :=
  finish w fun s => (match src with
    | .reg => s.regRow 0x50100 (·.impressTrigger)
    | .verb who tag => s.impressVerb who tag)

end Sys2Proof.Machine
end

