-- ==== Sys2Proof/Machine/PowerRows.lean ====
section
/-!
DEFINITION. The commands of the power supervisor, with the mode entries they lead to (17_power_and_holdup.md, R46 rows 1, 22 and 23,
R555). The island answers none of them while VDD_AON has collapsed (R531).
-/

namespace Sys2Proof.Machine

open Sys2Proof

/-- UP_STEP_SETTLED (R524, R525): after the last step the device takes row 1. -/
def Dev.upRow (s : Dev) (mvs : List Nat) : Dev :=
  let (t, last) := s.upSettled mvs
  if last then (t.trigger ⟨1, mCONFIGURING, 0, 6, 0⟩).takeNow else t

/-- EXT_FAULT (R530): another party pulls PWR_FAULT_N. -/
def Dev.extFault (s : Dev) : Dev :=
  let t := s.setPins { s.pwr.pins with extFault := true }
  if t.seq = seqUP then t.offDuringUp 2
  else if t.modeOf = mDORMANT then t
  else (t.set .PWR_STATUS_EXT_FAULT_SEEN 1).post 0x1005 0 t.modeOf t.seq 0

/-- The input is lost, from a source (R533): 0 PWRGD_IN fell, 1 the store-side sense is below its threshold while HOLDUP_EN is
high and no pulse runs. -/
def Dev.inputLoss (s : Dev) (source mv : Nat) : Dev :=
  let new : Bool := if source = 0 then s.pwr.pins.pwrgd
    else s.bit .PWR_STATUS_HOLDUP_EN && s.pwr.pulse.isNone && decide (mv < s.pwr.table.inLoss)
  if new = false then s
  else
    let t := if source = 0 then s.setPins { s.pwr.pins with pwrgd := false } else s
    let u := (t.post 0x1006 0 source mv t.modeOf).breakPulse
    if u.seq = seqUP then u.offDuringUp 0 else u.rowTwentyTwo 7 1

/-- RESET_ASSERTED (R46, R60): RESET_N is low. -/
def Dev.resetLow (s : Dev) : Dev :=
  let t := s.setPins { s.pwr.pins with resetN := false }
  if t.seq = seqUP then t.offDuringUp 1 else t.rowTwentyTwo 9 2

/-- THERMTRIP (R555): a comparator has latched THERMTRIP_N. -/
def Dev.thermtrip (s : Dev) (sensor : Nat) : Dev :=
  if s.therm.trip then s
  else
    let t := s.latchTrip sensor
    if t.seq = seqUP then t.offDuringUp 3 else t.rowTwentyTwo 8 3

/-- OFF_DURING_UP (R525): the end of a condition of R524 meets a power-up, with the pin that shows it. -/
def Dev.offRow (s : Dev) (cause : Nat) : Dev :=
  let p := s.pwr.pins
  match cause with
  | 0 => (s.setPins { p with pwrgd := false }).offDuringUp 0
  | 1 => (s.setPins { p with resetN := false }).offDuringUp 1
  | 2 => (s.setPins { p with extFault := true }).offDuringUp 2
  | 3 => if s.therm.trip then s.offDuringUp 3 else s
  | _ => s

/-- VIGIL_DONE (R46 row 23, R539): the save is complete and the rails are down. -/
def Dev.vigilDone (s : Dev) : Dev :=
  match s.pwr.vigil with
  | none => s
  | some v =>
    if s.modeOf = mHOLDUP ∧ v.step = 6 ∧ s.seq = seqDWELL then s.vigilOver.calStop.enterMode ⟨23, mDORMANT, 13, 6, 0⟩ else s

/-- A boot-store operation that runs at entry to HOLDUP_SAVE completes before step 6 (R588). -/
def Dev.storeIdle (s : Dev) : Bool := s.sp.bsOp.isNone

/-! ### Commands -/

/-- POWER_UP (R524): the pins as they stand. -/
def execPowerUp (pins : Pins) (w : State) : Host.Outcome State Fault Refusal := finish w fun s => (s.onIsland fun t => t.powerUp pins)

/-- UP_STEP_SETTLED (R524): the sense readings of the rails in millivolts. -/
def execUpStepSettled (mvs : List Nat) (w : State) : Host.Outcome State Fault Refusal := finish w fun s => (s.onIsland fun t => t.upRow mvs)

/-- RAIL_UP_TIMEOUT (R526). -/
def execRailUpTimeout (rail mv : Nat) (w : State) : Host.Outcome State Fault Refusal := finish w fun s => (s.onIsland fun t => t.railUpTimeout rail mv)

/-- OFF_DURING_UP (R525). -/
def execOffDuringUp (cause : Nat) (w : State) : Host.Outcome State Fault Refusal := finish w fun s => (s.onIsland fun t => t.offRow cause)

/-- DOWN_STEP_DONE (R527). -/
def execDownStepDone (mvs : List Nat) (w : State) : Host.Outcome State Fault Refusal := finish w fun s => (s.onIsland fun t => t.downStepDone mvs)

/-- OFF_DWELL_EXPIRY (R528). -/
def execOffDwellExpiry (pins : Pins) (w : State) : Host.Outcome State Fault Refusal := finish w fun s => (s.onIsland fun t => t.offDwell pins)

/-- A rail that leaves its window (R529, R541); outside HOLDUP_SAVE the ports and Flesal lose their links with rail 4 or 5. -/
def Dev.railRow (s : Dev) (rail mv : Nat) : Dev :=
  let t := s.railFault rail mv
  if (rail = 4 ∨ rail = 5) ∧ t.get (.PWR_RAIL_STATUS_STATE rail) = 3 ∧ s.inMode [mDORMANT, mHOLDUP] = false then
    (t.each t.ports fun u p => u.linkDown p 0).flesalLost.finishSwitch
  else t

/-- Row 1 undone: the power-up that had reached CONFIGURING fails, and the node is back in DORMANT (R549, assumption 138). -/
def Dev.abandonUp (s : Dev) : Dev := s.enterDormant.setL [(.MODE_STATE_MODE, mDORMANT), (.MODE_STATE_TARGET, mDORMANT), (.MODE_STATE_TRANSIT, 0)]

/-- LOCK_FAIL with the power-up it fails (R549, R526): the master PLL, MGMT and TRNG start on entry to CONFIGURING. -/
def Dev.lockRow (s : Dev) (domain : Nat) (absent : Bool) : Dev :=
  let t := s.lockFail domain absent
  if s.modeOf = mCONFIGURING then t.abandonUp.upFails (0x0D00 + domain) else t

/-- LOCK_FAIL (R549). -/
def execLockFail (domain : Nat) (absent : Bool) (w : State) : Host.Outcome State Fault Refusal := finish w fun s => (s.lockRow domain absent)

/-- RAIL_FAULT (R529, R541). -/
def execRailFault (rail mv : Nat) (w : State) : Host.Outcome State Fault Refusal := finish w fun s => (s.onIsland fun t => t.railRow rail mv)

/-- EXT_FAULT (R530). -/
def execExtFault (w : State) : Host.Outcome State Fault Refusal := finish w fun s => (s.onIsland Dev.extFault)

/-- INPUT_LOSS (R533). -/
def execInputLoss (source mv : Nat) (w : State) : Host.Outcome State Fault Refusal := finish w fun s => (s.onIsland fun t => t.inputLoss source mv)

/-- RESET_ASSERTED (R46). -/
def execResetAsserted (w : State) : Host.Outcome State Fault Refusal := finish w fun s => (s.onIsland Dev.resetLow)

/-- CLEAR_LOCKOUT (R526). -/
def execClearLockout (guard : Nat) (w : State) : Host.Outcome State Fault Refusal := finish w fun s => (s.regRow 0x10004 (·.clearLockout guard))

/-- MEASURE (R535). -/
def execMeasure (guard : Nat) (w : State) : Host.Outcome State Fault Refusal := finish w fun s => (s.regRow 0x10004 (·.measure guard))

/-- MEASURE_PERIODIC (R535). -/
def execMeasurePeriodic (w : State) : Host.Outcome State Fault Refusal := finish w fun s => (s.onIsland Dev.measurePeriodic)

/-- PULSE_END (R536): V0 and V1, the magnitude of the slope and the mean, in µV and µV/s, and the live store voltage in mV. -/
def execPulseEnd (v0 v1 slope mean mv : Nat) (w : State) : Host.Outcome State Fault Refusal := finish w fun s => (s.onIsland fun t => t.pulseEnd v0 v1 slope mean mv)

/-- ENERGY_RECOMPUTE (R538). -/
def execEnergyRecompute (mv : Nat) (w : State) : Host.Outcome State Fault Refusal := finish w fun s => (s.onIsland fun t => t.recomputeEnergy mv)

/-- AON_COLLAPSE (R531). -/
def execAonCollapse (w : State) : Host.Outcome State Fault Refusal := finish w fun s => (s.onIsland Dev.islandLost)

/-- AON_POWER_ON (R531). -/
def execAonPowerOn (w : State) : Host.Outcome State Fault Refusal := finish w fun s => s.islandStart

/-- VIGIL_CARRY_DONE (R234, R539). -/
def execVigilCarryDone (w : State) : Host.Outcome State Fault Refusal := finish w fun s => s.carryDone

/-- VIGIL_IMAGE_WRITTEN (R539). -/
def execVigilImageWritten (w : State) : Host.Outcome State Fault Refusal := finish w fun s => s.imageWritten

/-- VIGIL_RESERVE (R540). -/
def execVigilReserve (mv : Nat) (w : State) : Host.Outcome State Fault Refusal := finish w fun s => (s.vigilReserve mv)

/-- VIGIL_SEALED (R539, R588). -/
def execVigilSealed (w : State) : Host.Outcome State Fault Refusal := finish w fun s => (if s.storeIdle then s.vigilSealed else s)

/-- VIGIL_DONE (R46 row 23). -/
def execVigilDone (w : State) : Host.Outcome State Fault Refusal := finish w fun s => s.vigilDone

/-- THERMTRIP (R555). -/
def execThermtrip (sensor : Nat) (w : State) : Host.Outcome State Fault Refusal := finish w fun s => (s.onIsland fun t => t.thermtrip sensor)

end Sys2Proof.Machine
end

