-- ==== Sys2Proof/Machine/Views.lean ====
section
/-!
DEFINITION. What the registers show: values that follow the machine's state, the snapshots of the SEL registers, and
reads with their side effects (00_scope.md R6 to R11, 21_register_map.md R608 to R613, and the register tables of the
chapters).
-/

namespace Sys2Proof.Machine

open Sys2Proof

/-! ### Values that follow the state -/

/-- Twice-tripled data rate in MT/s of a rate code, times 3, exact (R547). -/
def rate3 (r : Nat) : Nat :=
  match r with
  | 266 => 800
  | 333 => 1000
  | 533 => 1600
  | 667 => 2000
  | 1066 => 3200
  | 2666 => 8000
  | 2933 => 8800
  | n => 3 * n

/-- Three times the frequency of a domain in MHz; 0 where it has no ratio to CAL (R546, R547). -/
def Dev.domain3 (s : Dev) (d : Nat) : Nat :=
  match d, s.forme.run with
  | 4, _ => 6000
  | 5, _ => 3000
  | 6, _ => 4500
  | 7, some f => rate3 f.hbm.mtS / 4
  | 8, some f => rate3 f.hbm.mtS / 2
  | 9, some f => rate3 f.dimm.mtS / 8
  | 10, some f => rate3 f.dimm.mtS / 2
  | 11, _ => 1800
  | 12, some f => rate3 ((f.nands.head?.map NandTable.mtS).getD 0) / 2
  | 13, _ | 22, _ => 3750
  | _, _ => 0

/-- Nominal frequency in MHz, rounded down, of the domains without a ratio (R546); that of a recovered clock the manual
does not give. -/
def plainMhz (d : Nat) : Nat :=
  if d = 1 then 16 else if d = 2 then 12 else if d = 3 then 100 else if d = 24 then 400
  else if d = 23 ∨ (14 ≤ d ∧ d ≤ 21) then Config.rxMhz d else 0

/-- `CLK_RATIO` of the selected domain: N, M and MHZ (R547). -/
def Dev.clkRatio (s : Dev) : List (Fld × Nat) :=
  let d := s.get .CLK_RATIO_SEL_DOMAIN
  let f := s.domain3 d
  let k := Nat.gcd f 6000
  if f = 0 then [(.CLK_RATIO_N, 0), (.CLK_RATIO_M, 0), (.CLK_RATIO_MHZ, plainMhz d)]
  else [(.CLK_RATIO_N, f / k), (.CLK_RATIO_M, 6000 / k), (.CLK_RATIO_MHZ, f / 3)]

/-- Erase counts of the blocks in service: sum and number (R379). -/
def FlashSt.ecSum (f : FlashSt) (luns : List Nat) : Nat × Nat :=
  let mine := f.blocks.filter (fun e => luns.contains (e.1 / 8192) && !e.2.retired)
  (mine.map (fun e => e.2.ec) |>.sum,
   luns.length * f.planes * f.perPlane - f.blocks.count (fun k b => b.retired && luns.contains (k / 8192)))

/-- A mean, 0 of nothing. -/
def meanOf (p : Nat × Nat) : Nat := if p.2 = 0 then 0 else p.1 / p.2

/-- Live values of the identity, recorder and calendar blocks. -/
def Dev.liveLow (s : Dev) (a : Nat) : List (Fld × Nat) :=
  if a = 0x20000 then [(.CLK_RUN_RUN, s.clocksRun)]
  else if a = 0x20020 then [(.THERM_STATUS_MEM_HOT, b2n s.memoryHot)]
  else if a = 0x20030 then
    match s.thermCurve with
    | some c => if s.calRuns then [(.GOV_STATUS_EXCESS_S, s.excessSeconds c), (.GOV_STATUS_PEAK_ALLOWED, b2n (s.peakAllowed c))] else []
    | none => []
  else if a = 0x4 then [(.ID_HBM_GIB, Config.hbmGib), (.ID_HBM_HEIGHT, if Config.hbmGib = 24 then 12 else 8)]
  else if a = 0x8 then [(.ID_SERIAL_LO_SERIAL_LO, Config.serial % 2 ^ 32)]
  else if a = 0xC then [(.ID_SERIAL_HI_SERIAL_HI, Config.serial / 2 ^ 32 % 2 ^ 32)]
  else if a = 0x40 then [(.INT_SUMMARY_SUMMARY, s.intSummary)]
  else if a = 0x48 then [(.INT_PENDING_PENDING, s.intPending)]
  else if a = 0x50 then [(.INT_DRAM_SRC_UNITS, s.intDram)]
  else if a = 0x54 then [(.INT_NAND_SRC_UNITS, s.intNand)]
  else if a = 0x58 then [(.INT_PORT_SRC_UNITS, s.intPort)]
  else if a = 0x20014 then s.clkRatio
  else if a = 0x30000 then [(.EVT_STATUS_ARCHIVING, b2n s.evt.archBusy.isSome), (.EVT_STATUS_QUEUE, s.evt.staging.length)]
  else if a = 0x30004 then [(.EVT_HEAD_HEAD, s.evt.head)]
  else if a = 0x30008 then [(.EVT_OLDEST_OLDEST, s.evt.oldest)]
  else if a = 0x3000C then [(.EVT_ARCH_OLDEST_ARCH_OLDEST, s.evt.archOldest)]
  else if a = 0x30010 then [(.EVT_ARCH_NEXT_ARCH_NEXT, s.evt.archNext)]
  else if a = 0x30044 then [(.EVT_FOLDED_FOLDED, s.evt.folded)]
  else if a = 0x30048 then [(.EVT_SUPPRESSED_SUPPRESSED, s.evt.supp)]
  else if a = 0x3004C then [(.EVT_LOST_LOST, s.evt.lost)]
  else if a = 0x40098 then [(.DB_PENDING_PENDING, s.dbPending)]
  else if a = 0x50100 then [(.CAL_CTRL_IMPRESS, b2n s.cal.impress)]
  else if a = 0x50104 then
    [(.IMPRESS_STATUS_PENDING, b2n (!s.pendingFields.isEmpty)), (.IMPRESS_STATUS_WRITES, min s.cal.written.length 0xFFFF)]
  else if a = 0x50110 then [(.CAL_CYCLE_LO_CYCLE_LO, s.cal.count % 2 ^ 32)]
  else if 0x50200 ≤ a ∧ a < 0x50430 ∧ a % 16 = 0 then
    let k := (a - 0x50200) / 16
    [(.ADMIT_STAT_OCC k, (s.cal.queue k).length), (.ADMIT_STAT_DEPTH k, ((s.admission k).map AdmitDesc.depth).getD 0)]
  else []

/-- Live values of the integrity, key, Daybook and twin blocks. -/
def Dev.liveMid (s : Dev) (a : Nat) : List (Fld × Nat) :=
  if a = 0x60014 then
    let u := s.get .INTEG_QUERY_UNIT
    [(.INTEG_QUERY_RESULT_STATE, s.unitState u), (.INTEG_QUERY_RESULT_LAST_KIND, s.integ.lastKind.getD u 0),
     (.INTEG_QUERY_RESULT_COUNT, min (s.integ.countOf u) 0xFFFF)]
  else if 0x60210 ≤ a ∧ a ≤ 0x6021C then
    match s.integ.log.get? (s.get .INTEG_LOG_CURSOR_INDEX) with
    | none => []
    | some e => [(.INTEG_LOG_DATA0_OSEQ, e.oseq % 2 ^ 32), (.INTEG_LOG_DATA1_UNIT, e.unit), (.INTEG_LOG_DATA1_KIND, e.kind),
        (.INTEG_LOG_DATA1_CORRECTED, b2n e.corrected), (.INTEG_LOG_DATA1_POISONED, b2n e.poisoned),
        (.INTEG_LOG_DATA1_INJECTED, b2n e.injected), (.INTEG_LOG_DATA2_CYCLE, e.cycle % 2 ^ 32), (.INTEG_LOG_DATA3_TICK, e.tick)]
  else if a = 0x70000 then [(.CIPHER_STATUS_REKEY_ACTIVE, b2n s.keys.rekeyActive)]
  else if a = 0x70008 then
    let used := s.keys.slots.filter fun e => e.2.state != .empty
    [(.KEY_COUNT_USED, used.length), (.KEY_COUNT_NV_FREE, nvSlots - (used.filter fun e => decide (e.1 < nvSlots)).length)]
  else if a = 0x80000 then
    [(.DB_STATUS_BANKS, if s.modeOf = mDORMANT then 0 else 15 - s.db.dead % 16), (.DB_STATUS_JOURNAL_HIGH, b2n s.jrn.high), (.DB_STATUS_JOURNAL_FULL, b2n s.jrn.full),
     (.DB_STATUS_SEAL_STATE, s.jrn.sealRec.state)]
  else if a = 0x8000C then
    let b := s.get .DB_BANK_SEL_BANK
    [(.DB_BANK_VIEW_SPARES_LEFT, s.db.sparesLeft b), (.DB_BANK_VIEW_RETIRED, b2n (s.db.dead.testBit b))]
  else if a = 0x80010 then [(.DB_JOURNAL_FILL_RETAINED, s.jrn.retained)]
  else if a = 0x80014 then [(.DB_GSEQ_LO_GSEQ_LO, s.jrn.ring % 2 ^ 32)]
  else if a = 0x8001C then [(.DB_TAIL_TAIL, s.jrn.tail)]
  else if a = 0x90244 then [(.TWIN_DB_OUT_RING, s.get .TWIN_DB_OUT_RING ||| s.twin.ringing)]
  else if a = 0x90014 then [(.TWIN_TERM_TERM, s.twin.term)]
  else if a = 0x90018 then [(.TWIN_PAIR_PAIR, s.twin.pair)]
  else if a = 0x90020 then [(.TWIN_ONUM_LO_ONUM, s.twin.onum % 2 ^ 32)]
  else if a = 0x90028 then [(.TWIN_REPORTED_LO_REPORTED, s.twin.reported % 2 ^ 32)]
  else if a = 0x90030 then [(.TWIN_OSEQ_LO_OSEQ, s.twin.oseq % 2 ^ 32)]
  else if a = 0x90048 then [(.TWIN_TAKEOVER_LO_TAKEOVER, s.twin.takeover % 2 ^ 32)]
  else []

/-- Live values of the tier manager, the line cache and the galley. -/
def Dev.liveTier (s : Dev) (a : Nat) : List (Fld × Nat) :=
  if a = 0xA0008 then [(.TIER_DIRTY_LO_FOLIOS, s.dirtyD % 2 ^ 32)]
  else if a = 0xA0010 then [(.TIER_BUDGET_LO_FOLIOS, s.tier.budget % 2 ^ 32)]
  else if a = 0xA0018 then [(.TIER_ENERGY_JOULES, s.pwr.passedE)]
  else if a = 0xA001C then [(.TIER_RSAVE_MBPS, s.tier.rSave)]
  else if a = 0xA0020 then [(.TIER_VIGIL_CAP_LO_FOLIOS, s.cVigil % 2 ^ 32)]
  else if a = 0xA0028 then [(.TIER_STAGE_USED, s.tier.stage.length)]
  else if a = 0xA002C then [(.TIER_EVB_USED, s.tier.evb.length)]
  else if a = 0xA0030 then [(.TIER_LATCH_USED, s.tier.latches.length)]
  else if a = 0xA0034 then [(.TIER_MAP_LOAD_PAGES, if s.bit .TIER_STATUS_MAP_WARM then s.mapPages else s.tier.mapLoaded + s.tier.demand.length)]
  else if a = 0xA0038 then [(.TIER_SEASON_SEASON, s.season % 2 ^ 32)]
  else if a = 0xA1014 then [(.LC_LFSR_VALUE, s.lc.lfsr.getD (s.get .LC_LFSR_SEL_BANK) 0)]
  else if a = 0xA2004 then [(.GALLEY_STATUS_OCC, s.gal.entries.length)]
  else if a = 0xA2010 then [(.GALLEY_BANK_OCC_OCC, s.gal.occ (s.get .GALLEY_BANK_SEL_BANK))]
  else if a = 0xA2014 then [(.GALLEY_BANK_PEAK_PEAK, s.gal.peak.getD (s.get .GALLEY_BANK_SEL_BANK) 0)]
  else []

/-- Live values of the transport globals and of flash management. -/
def Dev.liveHigh (s : Dev) (a : Nat) : List (Fld × Nat) :=
  if a = 0x500010 then [(.XPORT_STATUS_QPS_OPEN, s.net.qps.length), (.XPORT_STATUS_HOSTS, s.net.hosts.length)]
  else if a = 0x501060 then [(.REGION_LIVE_LIVE, s.rgn.regions.count fun _ r => r.liveNow)]
  else if a = 0x501064 then [(.REGION_REVOKING_REVOKING, s.rgn.regions.count fun _ r => r.state == .revoking)]
  else if a = 0x501068 then [(.PD_COUNT_PDS, s.rgn.pds.count fun _ p => !p.coming)]
  else if a = 0x502040 then [(.DQ_COUNT_QUEUES, s.dq.length)]
  else if a = 0x600004 then [(.FM_BANDS_FREE_FREE, s.fm.freeCount)]
  else if a = 0x600008 then [(.FM_BANDS_VIGIL_VIGIL, s.fm.vigilCount)]
  else if a = 0x60000C then [(.FM_BANDS_OPEN_OPEN, s.fm.openCount), (.FM_BANDS_OPEN_LOG_OPEN, s.fm.logOpen)]
  else if a = 0x600010 then [(.FM_BANDS_TOTAL_TOTAL, s.fm.bandsTotal)]
  else if a = 0x600014 then [(.FM_EC_MEAN, meanOf (s.fm.ecSum s.fm.luns)), (.FM_EC_MAX, s.fm.ecRange.2)]
  else if a = 0x600018 then [(.FM_EC_MIN_MIN, s.fm.ecRange.1)]
  else if a = 0x60001C then [(.FM_ALLOW_MBPS, s.fm.rate / 1000000)]
  else if a = 0x600020 then [(.FM_CREDIT_MIB, s.fm.credit / (1000 * 2 ^ 20))]
  else if a = 0x600024 then [(.FM_LIFE_LEFT, s.wearLife.1), (.FM_LIFE_WANT, s.wearLife.2)]
  else []

/-- Live values of the indexed blocks: corrections by position, and reads by retry step. -/
def Dev.liveUnit (s : Dev) (a : Nat) : List (Fld × Nat) :=
  if 0x300000 ≤ a then
    let n := (a - 0x300000) / 0x8000
    if a = nandBase n + 0x54 then
      [(.NANDC_RETRY_HIST_COUNT n, s.nand.hist.getD (n * 256 + s.get (.NANDC_RETRY_HIST_SEL_SLC n) * 128 + s.get (.NANDC_RETRY_HIST_SEL_STEP n)) 0)]
    else []
  else
    let n := if a < 0x200000 then (a - 0x100000) / 0x10000 else 8 + (a - 0x200000) / 0x4000
    if a = memBase n + 0x44 then [(.MEM_DEV_CE_DEV_CE n, s.mem.devCe.getD (n * 64 + s.get (.MEM_DEV_SEL_POSITION n)) 0)] else []

/-- The fields of a register that follow the machine's state. -/
def Dev.live (s : Dev) (a : Nat) : List (Fld × Nat) :=
  if a < 0x60000 then s.liveLow a else if a < 0xA0000 then s.liveMid a else if a < 0x100000 then s.liveTier a
  else if a < 0x400000 then s.liveUnit a else s.liveHigh a

/-- The HI register that a read of a LO register latches: the value behind the pair, and the HI field. -/
def Dev.hiOf (s : Dev) (a : Nat) : Option (Nat × Fld) :=
  if a = Fld.CAL_CYCLE_LO_CYCLE_LO.reg then some (s.cal.count, .CAL_CYCLE_HI_CYCLE_HI)
  else if a = Fld.DB_GSEQ_LO_GSEQ_LO.reg then some (s.jrn.ring, .DB_GSEQ_HI_GSEQ_HI)
  else if a = Fld.TWIN_ONUM_LO_ONUM.reg then some (s.twin.onum, .TWIN_ONUM_HI_ONUM)
  else if a = Fld.TWIN_REPORTED_LO_REPORTED.reg then some (s.twin.reported, .TWIN_REPORTED_HI_REPORTED)
  else if a = Fld.TWIN_OSEQ_LO_OSEQ.reg then some (s.twin.oseq, .TWIN_OSEQ_HI_OSEQ)
  else if a = Fld.TWIN_TAKEOVER_LO_TAKEOVER.reg then some (s.twin.takeover, .TWIN_TAKEOVER_HI_TAKEOVER)
  else if a = Fld.TIER_DIRTY_LO_FOLIOS.reg then some (s.dirtyD, .TIER_DIRTY_HI_FOLIOS)
  else if a = Fld.TIER_BUDGET_LO_FOLIOS.reg then some (s.tier.budget, .TIER_BUDGET_HI_FOLIOS)
  else if a = Fld.TIER_VIGIL_CAP_LO_FOLIOS.reg then some (s.cVigil, .TIER_VIGIL_CAP_HI_FOLIOS)
  else none

/-- What a read of a register latches (04_calendar.md `CAL_CYCLE_HI`, 09, 14 and 15 likewise). -/
def Dev.latchHi (s : Dev) (a : Nat) : Dev :=
  match s.hiOf a with
  | some (v, f) => s.set f (v / 2 ^ 32)
  | none => s

/-- A field as a read finds it (R7, R9): the shadow of a shadowed one, 0 of a write-only one, and 0 where it holds the one reserved encoding
that a writable field has. -/
def Dev.shown (s : Dev) (f : Fld) : Nat :=
  if f.ty = .wo then 0
  else match (s.live f.reg).find? (fun e => decide (e.1 = f)) with
    | some e => e.2 % 2 ^ f.width
    | none => if f.ty = .rws then s.shadow f else if f = .FORME_CTRL_NEXT_SLOT ∧ s.get f = 3 then 0 else s.get f

/-! ### Snapshots (the SEL registers) -/

/-- STATE of a QP or 0, and the rest of its context (XPORT_QP_VIEW). -/
def Dev.qpView (s : Dev) (q : Qp) : List (Fld × Nat) :=
  let ms := ((s.curve).map CcCurve.windowMs).getD 0
  [(.XPORT_QP_VIEW0_STATE, q.state), (.XPORT_QP_VIEW0_KIND, q.kind), (.XPORT_QP_VIEW0_CLASS, if q.fixed then q.cls else 0), (.XPORT_QP_VIEW0_ESP, b2n (q.sa.isSome || q.nextSa.isSome)),
   (.XPORT_QP_VIEW0_PORT, q.port), (.XPORT_QP_VIEW0_MTU, q.mtu), (.XPORT_QP_VIEW0_IPV6, b2n q.ipv6),
   (.XPORT_QP_VIEW0_NAK_SENT, b2n q.nakSent), (.XPORT_QP_VIEW0_PD, q.pd), (.XPORT_QP_VIEW1_REMOTE_QPN, q.remoteQpn),
   (.XPORT_QP_VIEW2_EPSN, q.epsn), (.XPORT_QP_VIEW3_MSN, q.msn), (.XPORT_QP_VIEW4_SPSN, q.spsn), (.XPORT_QP_VIEW5_UNACKED, q.unacked),
   (.XPORT_QP_VIEW6_PKEY, q.pkey), (.XPORT_QP_VIEW6_TIMEOUT, q.timeout), (.XPORT_QP_VIEW6_RETRY, q.retry),
   (.XPORT_QP_VIEW6_RNR_RETRY, q.rnrRetry), (.XPORT_QP_VIEW6_MIN_RNR, q.minRnr), (.XPORT_QP_VIEW7_DSCP, q.dscp),
   (.XPORT_QP_VIEW7_OUTSTANDING, q.outstanding), (.XPORT_QP_VIEW7_ACACHE, q.acache.length), (.XPORT_QP_VIEW7_HOST, q.host),
   (.XPORT_QP_VIEW8_RATE, q.rate), (.XPORT_QP_VIEW9_RTT_MIN, (leastOf (q.window s.evt.islandMs ms)).getD 0),
   (.XPORT_QP_VIEW10_RTT_LAST, q.rttLast), (.XPORT_QP_VIEW11_IMM_LAST, q.immLast), (.XPORT_QP_VIEW12_IMM_COUNT, q.immCount),
   (.XPORT_QP_VIEW13_DUPS, q.dups), (.XPORT_QP_VIEW14_KEY_SLOT, ((q.nextSa.or q.sa).map EspSa.slot).getD 0), (.XPORT_QP_VIEW15_RETRIES, q.retries)]

/-- A region entry (REGION_VIEW). -/
def Region.view (r : Region) : List (Fld × Nat) :=
  [(.REGION_VIEW0_STATE, r.state.code), (.REGION_VIEW0_KIND, r.kind.code), (.REGION_VIEW0_ACCESS, r.access),
   (.REGION_VIEW0_ZONE_LOG2, if r.kind = .log then r.zoneLog2 - 4 else 0), (.REGION_VIEW0_PD, r.pd), (.REGION_VIEW1_GEN, r.gen),
   (.REGION_VIEW1_KEY_DOMAIN, r.domain), (.REGION_VIEW2_VA_BASE, r.vaBase), (.REGION_VIEW3_VA_BASE, r.vaBase / 2 ^ 32),
   (.REGION_VIEW4_LENGTH, r.length), (.REGION_VIEW5_LENGTH, r.length / 2 ^ 32), (.REGION_VIEW6_RANGE_BASE, r.base),
   (.REGION_VIEW7_RANGE_BASE, r.base / 2 ^ 32), (.REGION_VIEW8_IN_FLIGHT, r.inFlight), (.REGION_VIEW9_VIOLATIONS, r.violations)]

/-- A PD (PD_VIEW). -/
def Dev.pdView (s : Dev) (n : Nat) : List (Fld × Nat) :=
  match s.rgn.pd n with
  | none => [(.PD_VIEW0_VALID, 0), (.PD_VIEW0_CAPS, 0), (.PD_VIEW0_QPS, 0), (.PD_VIEW1_REGIONS, 0), (.PD_VIEW2_EVQ_RKEY, 0)]
  | some p =>
    [(.PD_VIEW0_VALID, 1), (.PD_VIEW0_CAPS, p.caps), (.PD_VIEW0_QPS, s.net.qps.count fun _ q => q.pd == n),
     (.PD_VIEW1_REGIONS, s.rgn.regions.count fun _ r => r.pd == n && (r.state == .live || r.state == .revoking)),
     (.PD_VIEW2_EVQ_RKEY, (s.rgn.region p.evq).key p.evq)]

/-- A device queue (DQ_VIEW). -/
def Dev.dqView (s : Dev) (n : Nat) : List (Fld × Nat) :=
  match s.queue n with
  | none => [(.DQ_VIEW0_STATE, 0), (.DQ_VIEW0_CLASS, 0), (.DQ_VIEW0_CAUSE, 0), (.DQ_VIEW0_PD, 0), (.DQ_VIEW1_DEPTH, 0), (.DQ_VIEW2_RING_BASE, 0),
      (.DQ_VIEW3_RING_BASE, 0), (.DQ_VIEW4_COMPLETED, 0), (.DQ_VIEW5_COMPLETED, 0), (.DQ_VIEW6_POSTED, 0), (.DQ_VIEW7_POSTED, 0),
      (.DQ_VIEW8_DEVQ_QP, 0), (.DQ_VIEW8_BOUND, 0)]
  | some q =>
    [(.DQ_VIEW0_STATE, s.queueState q), (.DQ_VIEW0_CLASS, q.cls), (.DQ_VIEW0_CAUSE, q.cause), (.DQ_VIEW0_PD, q.pd), (.DQ_VIEW1_DEPTH, q.depth),
     (.DQ_VIEW2_RING_BASE, q.base), (.DQ_VIEW3_RING_BASE, q.base / 2 ^ 32), (.DQ_VIEW4_COMPLETED, q.completed),
     (.DQ_VIEW5_COMPLETED, q.completed / 2 ^ 32), (.DQ_VIEW6_POSTED, q.posted), (.DQ_VIEW7_POSTED, q.posted / 2 ^ 32),
     (.DQ_VIEW8_DEVQ_QP, q.qp.getD 0), (.DQ_VIEW8_BOUND, b2n q.qp.isSome)]

/-- A key slot (KEY_VIEW). -/
def Dev.keyView (s : Dev) (n : Nat) : List (Fld × Nat) :=
  let v := s.keys.slot n
  [(.KEY_VIEW0_STATE, v.state.code), (.KEY_VIEW0_KIND, v.kind), (.KEY_VIEW0_NV, b2n (decide (n < nvSlots))), (.KEY_VIEW0_BOUND, b2n (s.slotBound n)),
   (.KEY_VIEW0_AUTO_PCT, v.autoPct), (.KEY_VIEW0_OWNER, v.owner), (.KEY_VIEW1_USAGE_LO, v.usage), (.KEY_VIEW2_USAGE_HI, v.usage / 2 ^ 32),
   (.KEY_VIEW2_LIMIT_HI, v.limit / 2 ^ 32), (.KEY_VIEW3_LIMIT_LO, v.limit)]

/-- Extents that a domain holds: domain 0 those that no other one does (R206). -/
def Dev.extentCount (s : Dev) (d : Nat) : Nat :=
  if d = 0 then ceilDiv s.exposedBytes (2 ^ 26) - s.keys.extents.length else s.keys.extents.count fun _ e => e == d

/-- A key domain (KD_VIEW). -/
def Dev.kdView (s : Dev) (d : Nat) : List (Fld × Nat) :=
  let v := s.keys.dom d
  let left := match s.keys.scans.get? d with
    | some (from_, _) => min (s.domainFolios d from_).length 0xFFFFFFFF
    | none => 0
  [(.KD_VIEW0_STATE, v.state.code), (.KD_VIEW0_CUR_SLOT, v.curSlot), (.KD_VIEW1_CUR_EPOCH, v.curEpoch), (.KD_VIEW2_PREV_SLOT, v.prevSlot),
   (.KD_VIEW2_PREV_VALID, b2n (v.state == .rekeying)), (.KD_VIEW3_PREV_EPOCH, v.prevEpoch), (.KD_VIEW4_LEFT, left),
   (.KD_VIEW5_EXTENTS, s.extentCount d)]

/-- A LUN as flash management sees it (FM_LUN_VIEW). -/
def Dev.lunView (s : Dev) (l : Nat) : List (Fld × Nat) :=
  let ecs := (s.fm.blocks.filter (fun e => e.1 / 8192 == l && !e.2.retired)).map fun e => e.2.ec
  [(.FM_LUN_VIEW0_ENABLED, b2n (s.fm.luns.contains l)), (.FM_LUN_VIEW0_FAILED, b2n (s.fm.failed.contains l)),
   (.FM_LUN_VIEW0_RETIRED, s.fm.retiredOf l), (.FM_LUN_VIEW1_EC_MEAN, meanOf (s.fm.ecSum [l])), (.FM_LUN_VIEW1_EC_MAX, ecs.foldl max 0),
   (.FM_LUN_VIEW2_ERASED, s.fm.erasedOf l)]

/-- STATE of a band (R362). -/
def BState.code : BState → Nat
  | .erased => 0
  | .free => 1
  | .vigil => 2
  | .open_ => 3
  | .closed => 4
  | .log => 5
  | .degraded => 6
  | .reclaim => 7

/-- A band (FM_BAND_VIEW). -/
def Dev.bandView (s : Dev) (n : Nat) : List (Fld × Nat) :=
  match s.fm.bands.get? n with
  | none => [(.FM_BAND_VIEW0_STATE, 0), (.FM_BAND_VIEW0_SLC, 0), (.FM_BAND_VIEW0_WIDTH, 0), (.FM_BAND_VIEW0_STREAM, 0), (.FM_BAND_VIEW1_VALID, 0)]
  | some b => [(.FM_BAND_VIEW0_STATE, b.state.code), (.FM_BAND_VIEW0_SLC, b2n b.slc), (.FM_BAND_VIEW0_WIDTH, b.width),
      (.FM_BAND_VIEW0_STREAM, (b.stream.map Stream.code).getD 0), (.FM_BAND_VIEW1_VALID, s.validCount n)]

/-- A LUN of a channel's engine (NANDC `_LUN_VIEW`). -/
def Dev.engineView (s : Dev) (n i : Nat) : List (Fld × Nat) :=
  let l := s.nand.lun (n * 32 + i)
  let cur := l.run.orElse fun _ => l.susp
  [(.NANDC_LUN_VIEW0_OP n, (l.run.map NandOp.seq).getD 0xF), (.NANDC_LUN_VIEW0_SUSP_OP n, (l.susp.map NandOp.seq).getD 0xF),
   (.NANDC_LUN_VIEW0_STARVED n, (cur.map fun o => b2n o.starved).getD 0),
   (.NANDC_LUN_VIEW0_SUSPENDS n, (cur.map fun o => min o.suspends 0xFFFF).getD 0),
   (.NANDC_LUN_VIEW1_ELAPSED_US n, (cur.map fun o => (s.nowTicks - o.start) / 2000).getD 0)]

/-- A folio, or with META a map page (TIER_FOLIO_VIEW; assumption 59). -/
def Dev.folioView (s : Dev) : List (Fld × Nat) :=
  let n := s.get .TIER_FOLIO_SEL_LO_INDEX_LO + s.get .TIER_FOLIO_SEL_HI_INDEX_HI * 2 ^ 32
  if s.bit .TIER_FOLIO_SEL_HI_META then
    let h := (s.jrn.homed.get? n).map Prod.fst
    let e : MapEntry := { state := if h.isSome then .home else .unwritten, t0 := false, loc := 0, home := h }
    [(.TIER_FOLIO_VIEW0_ENTRY_LO, e.bits), (.TIER_FOLIO_VIEW1_ENTRY_HI, e.bits / 2 ^ 32), (.TIER_FOLIO_VIEW2_HEAT, 0), (.TIER_FOLIO_VIEW2_LATCH, 0),
     (.TIER_FOLIO_VIEW2_REDIRTY, 0), (.TIER_FOLIO_VIEW2_MAP_COLD, b2n (!s.mapLoaded1 n)),
     (.TIER_FOLIO_VIEW3_WSEQ, ((h.bind s.fm.slots.get?).map T2Slot.wseq).getD 0)]
  else
    let e := s.tier.entry n
    let l := s.tier.latches.get? n
    [(.TIER_FOLIO_VIEW0_ENTRY_LO, e.bits), (.TIER_FOLIO_VIEW1_ENTRY_HI, e.bits / 2 ^ 32), (.TIER_FOLIO_VIEW2_HEAT, min (s.heatOf n) 0xFFFF),
     (.TIER_FOLIO_VIEW2_LATCH, (l.map fun x => x.kind.code).getD 0), (.TIER_FOLIO_VIEW2_REDIRTY, (l.map fun x => b2n x.redirty).getD 0),
     (.TIER_FOLIO_VIEW2_MAP_COLD, b2n (!s.mapLoaded1 (n / 512))), (.TIER_FOLIO_VIEW3_WSEQ, s.tier.wseq.getD n 0)]

/-- A QP that is in RESET. -/
def Fld.qpViews : List Fld :=
  (List.range 16).flatMap fun i => fieldsAt (0x500040 + 4 * i)

/-- The READY field of a SEL register that snapshots at a boundary; none where the address is no such register. -/
def readyOf (a : Nat) : Option Fld :=
  if a = 0x70010 then some .KEY_SEL_READY
  else if a = 0x70030 then some .KD_SEL_READY
  else if a = 0xA0104 then some .TIER_FOLIO_SEL_HI_READY
  else if a = 0x500014 then some .XPORT_QP_SEL_READY
  else if a = 0x501000 then some .REGION_SEL_READY
  else if a = 0x501040 then some .PD_SEL_READY
  else if a = 0x502000 then some .DQ_SEL_READY
  else if a = 0x600100 then some .FM_LUN_SEL_READY
  else if a = 0x600110 then some .FM_BAND_SEL_READY
  else if 0x300000 ≤ a ∧ a < 0x400000 ∧ a % 0x8000 = 0x10 then some (.NANDC_LUN_SEL_READY ((a - 0x300000) / 0x8000))
  else none

/-- What the snapshot of a SEL register shows now. -/
def Dev.viewOf (s : Dev) (a : Nat) : List (Fld × Nat) :=
  if a = 0x70010 then s.keyView (s.get .KEY_SEL_INDEX)
  else if a = 0x70030 then s.kdView (s.get .KD_SEL_INDEX)
  else if a = 0xA0104 then s.folioView
  else if a = 0x500014 then
    match s.net.qps.get? (s.get .XPORT_QP_SEL_INDEX) with
    | some q => s.qpView q
    | none => Fld.qpViews.map fun f => (f, 0)
  else if a = 0x501000 then (s.rgn.region (s.get .REGION_SEL_INDEX)).view
  else if a = 0x501040 then s.pdView (s.get .PD_SEL_INDEX)
  else if a = 0x502000 then s.dqView (s.get .DQ_SEL_INDEX)
  else if a = 0x600100 then s.lunView (s.get .FM_LUN_SEL_INDEX)
  else if a = 0x600110 then s.bandView (s.get .FM_BAND_SEL_INDEX)
  else
    let n := (a - 0x300000) / 0x8000
    s.engineView n (s.get (.NANDC_LUN_SEL_INDEX n))

/-- A write of a SEL register asks for a snapshot: READY falls until the next boundary. -/
def Dev.askView (s : Dev) (a : Nat) : Dev :=
  match readyOf a with
  | none => s
  | some f => (s.set f 0).modCal fun c => if c.sel.contains a then c else { c with sel := c.sel ++ [a] }

/-- The boundary's snapshot of one SEL register. -/
def Dev.takeView (s : Dev) (a : Nat) : Dev :=
  match readyOf a with
  | none => s
  | some f => (s.setL (s.viewOf a)).set f 1

/-- The boundary takes every snapshot that is due. -/
def Dev.takeViews (s : Dev) : Dev := (s.each s.cal.sel Dev.takeView).modCal fun c => { c with sel := [] }

end Sys2Proof.Machine
end

