-- ==== Sys2Proof/Machine/Boundary.lean ====
section
/-!
DEFINITION. The boundary between two calendar cycles: what 04_calendar.md R96 and R97, 02_operating_modes.md R51 and R57,
03_forme.md R87, 09_tiers_and_migration.md R291 to R296 and 15_twin_mirroring.md R451, R452 and R455 make happen there. The order of
these actions within one boundary, where no rule gives it, is the model's (assumption 61).
-/

namespace Sys2Proof.Machine

open Sys2Proof

/-! ### Pages, Impress and modes at a boundary -/

/-- The page step of a boundary (R62, R119): a loss that a transition held takes effect at the first boundary after the mode
is entered, and in HOLDUP_SAVE at the next one. -/
def Dev.pageAt (s : Dev) : Dev :=
  let t := s.takeTables
  if (t.cal.load.isNone && t.mode.fresh) || t.modeOf == mHOLDUP then t.nextLoss.pageSwitch else t.pageStep

/-- The mode entry of a boundary (R51). -/
def Dev.modeAt (s : Dev) : Dev :=
  match s.mode.due with
  | some t => s.enterMode t
  | none => s

/-- The actions of a boundary that R455 places, on a node that follows, at the active's CYCLE: an Impress that is due, the
triggers that waited, and the mode entry (R51, R57, R87). -/
def Dev.stampedModes (s : Dev) : Dev := s.impressDue.evaluateWaiting.modeAt

/-! ### The dirty budget (R290 to R296) -/

/-- R_save in B/s of the running page (R291). -/
def Dev.rSaveNow (s : Dev) : Nat :=
  let chs := (s.fm.luns.map (· / 32)).eraseDups
  s.rSaveOf ((chs.map fun c => s.opTicks (0x20 + c) [2, 3]).sum)

/-- The node's own B and the term that sets it (R290). -/
def Dev.ownBudget (s : Dev) (p : TierPolicy) (r : Nat) : Nat × Nat :=
  budgetOf p ((s.forme.run.map fun f => f.fixed.dirtyCap).getD 0) s.pwr.passedE r s.cVigil

/-- A B that an earlier stamp carried takes effect (R294). -/
def Dev.stampedBudget (s : Dev) : Dev :=
  match s.tier.nextB with
  | some (b, l) => (s.modTier fun t => { t with nextB := none }).applyBudget b l s.pwr.passedE ((s.tier.partnerB.map fun p => decide (p < s.tier.ownB)).getD false)
  | none => s

/-- The active stamps the lesser of the two budgets where it differs from the one in force (R294). -/
def Dev.pairBudget (s : Dev) (limit : Nat) : Dev :=
  let b := min s.tier.ownB (s.tier.partnerB.getD s.tier.ownB)
  if b = s.tier.budget then s
  else ((s.forward (.budget b) 3).1).modTier fun t => { t with nextB := some (b, limit) }

/-- The budget step of a boundary (R291, R294, R295): a node alone applies its own B at once; twins tell each other. -/
def Dev.budgetStep (s : Dev) : Dev :=
  match s.policy with
  | none => s
  | some p =>
    if s.inMode [mSOLO, mACTIVE, mSTANDBY, mRESYNC, mQUIESCED] then
      let r := s.rSaveNow
      let bl := s.ownBudget p r
      let a := (s.modTier fun t => { t with rSave := r / 1000000 }).checkShort p s.pwr.passedE
      if a.modeOf = mACTIVE ∨ a.modeOf = mSTANDBY then
        let b := if a.tier.ownB = bl.1 then a else (a.modTier fun t => { t with ownB := bl.1 }).sendFrame .budget [bl.1] 8
        if b.modeOf = mACTIVE then b.pairBudget bl.2 else b
      else (a.modTier fun t => { t with ownB := bl.1 }).applyBudget bl.1 bl.2 s.pwr.passedE false
    else s

/-! ### What the boundary makes of verbs, tables and queues -/

/-- The actions of a boundary that follow stamps (R213, R229, R230, R455, R511, R513): the tables, the key scans, the budget, the
queue pairs and the device queues. -/
def Dev.stampedTables (s : Dev) : Dev :=
  let a := ((s.regionStep.brokenWaits.capsStep.saStep.destroyStep.downStep.startRekeys.retryRekeys.when s.deferrable (·.scanStep)).endScans.stampedBudget.finishInvalidate).fillBuckets
  let b := a.each (a.net.qps.map Prod.fst) fun t i => t.ackTimer i
  b.pumpQps.releaseAnswers.advanceAll.restartQueues

/-! ### The twin at a boundary (R451, R452, R455) -/

/-- A node that follows takes the stamped actions of a boundary from the active's CYCLE (R455): in STANDBY, and in RESYNC from
Sf on. -/
def Dev.follows (s : Dev) : Bool :=
  s.bit .TWIN_STATUS_LINK_UP && (s.modeOf == mSTANDBY || (s.modeOf == mRESYNC && (s.twin.resync.map Resync.final).getD false))

/-- The frame that every cycle carries (R452, R455), and STATE every 1,024 cycles (R451). -/
def Dev.cycleFrames (s : Dev) : Dev :=
  let t := if s.forwards then s.sendFrame .cycle [s.cal.cycle] 8 else s.sendFrame .idle [] 0
  t.when (t.cal.count % 1024 == 0) (·.sendState)

/-! ### The boundary -/

/-- The two counters advance (R96): 48 bits each; a node that follows takes the cycle it executes from the active. -/
def Dev.countCycle (s : Dev) : Dev :=
  s.modCal fun c => { c with count := (c.count + 1) % 2 ^ 48, cycle := if s.follows then c.cycle else (c.cycle + 1) % 2 ^ 48 }

/-- Galley banks that evacuate read out one entry in each READ and DRAIN entry of their table (R322). -/
def Dev.evacuations (s : Dev) : Dev := s.each (s.gal.evac.map Prod.fst) fun t b => t.evacuate b (t.opTicks (0x80 + b) [1, 4])

/-- The flash work of a boundary: background work, or in HOLDUP_SAVE the Vigil stream alone, in step 4 (R386, R539, R638). -/
def Dev.flashAt (s : Dev) : Dev :=
  if s.modeOf = mHOLDUP then (s.when (s.pwr.vigil.any fun v => v.step == 4 && !v.noPrograms) (·.vigilPlace)).pumpAll else s.flashWork

/-- What each node does at its own boundary whatever the pair does. -/
def Dev.localAt (s : Dev) : Dev :=
  let a := (s.keyLoads.katSteps.sweepBanks.pauseCycle.windowsAt.writeBacks.handleLostCtx.evacuations.flashAt.when (s.get .TIER_STATUS_THROTTLE != 0) (·.inc .TIER_THROTTLE_CYCLES_CYCLES)).budgetStep
  (a.ledgerDue.flushDigests.resyncReady.reachSf.handoverStep.takeViews.runtimeTakes.finishCursor.sendReports).cycleFrames

/-- The mode entries that a node which follows makes at its own boundary: those that leave the pair, after which no CYCLE need
come (assumption 61). -/
def Dev.leavesPair (s : Dev) : Bool := (s.mode.due.map fun t => t.target == mSWITCHOVER || t.target == mHOLDUP).getD false

/-- CYCLE_BOUNDARY (R96, R97): the end of a cycle, where CAL runs. -/
def Dev.boundary (s : Dev) : Dev :=
  if s.calRuns then
    let a := s.serveCycle.pageAt
    let b := if a.follows then a.when a.leavesPair (·.modeAt) else a.stampedModes
    if b.calRuns then
      let c := b.countCycle.modTherm fun x => { x with acting := b.get .GOV_STATUS_LEVEL }
      let d := if c.follows || c.modeOf == mSWITCHOVER then c else c.stampedTables
      d.localAt
    else b
  else s

/-- CYCLE (R455): the active enters cycle `c`, and the node that follows makes that boundary's actions. -/
def Dev.cycleIn (s : Dev) (c : Nat) : Dev :=
  if s.follows then
    let a := s.when (s.cal.load.isNone && s.mode.fresh) (·.pageAt)
    ((a.modCal fun x => { x with cycle := c % 2 ^ 48 }).stampedModes).stampedTables
  else s

/-! ### Commands -/

/-- CYCLE_BOUNDARY (R96). -/
def execCycleBoundary (w : State) : Host.Outcome State Fault Refusal := finish w fun s => s.boundary

/-- CYCLE (R455). -/
def execCycle (h : FlHdr) (cycle : Nat) (w : State) : Host.Outcome State Fault Refusal := finish w fun s => (s.received h .cycle fun t => t.cycleIn cycle)

end Sys2Proof.Machine
end

