-- ==== Sys2Proof/Machine/SpIf.lean ====
section
/-!
DEFINITION. The service-processor interface of 19_management_interface.md: the register window, mailboxes, doorbells and in-band
interrupts, the I3C common command codes, the DIMM sideband and the boot store, with the decoding of 21_register_map.md R608 to R612.
-/

namespace Sys2Proof.Machine

open Sys2Proof

/-! ### What an address decodes (R8, R39, R608 to R612) -/

/-- Registers of an indexed instance that keep reporting once it is retired (R610): status, error capture and counters, by class
and offset. -/
def reports (cls off : Nat) : Bool :=
  if cls = 1 ∨ cls = 2 then off == 4 || decide (0x10 ≤ off ∧ off ≤ 0x18) || decide (0x20 ≤ off ∧ off ≤ 0x3C) || [0x44, 0x50, 0x54].contains off
  else if cls = 3 then off == 4 || decide (0x20 ≤ off ∧ off ≤ 0x4C) || off == 0x54 || decide (0x60 ≤ off ∧ off ≤ 0x68)
  else off == 4 || decide (0x200 ≤ off ∧ off ≤ 0x228)

/-- Offset of a register in its instance (R608). -/
def instOffset (a : Nat) : Nat :=
  if a < 0x00200000 then a % 0x10000 else if a < 0x00300000 then a % 0x4000 else if a < 0x00400000 then a % 0x8000 else a % 0x20000

/-- The instance that a register belongs to is enabled and in service, or the register is one that keeps reporting (R610). Before a
Forme runs no structure has disabled an instance (assumption 63). -/
def Dev.instOpen (s : Dev) (a : Nat) : Bool :=
  match unitOfReg a with
  | none => true
  | some u => s.forme.run.isNone || (s.unitPresent u && (!s.unitRetired u || reports (u / 256) (instOffset a)))

/-- An address is read now (R39, R612): in DORMANT only the always-on blocks are. -/
def Dev.readsAt (s : Dev) (a : Nat) : Bool := s.pwr.on && (s.modeOf != mDORMANT || decide (a < 0x30000)) && s.instOpen a

/-- A field as a read of its register finds it (R611): in DORMANT a core field reads 0, and before the Daybook is read a field kept
there reads its reset value. -/
def Dev.fieldNow (s : Dev) (f : Fld) : Nat :=
  if f.dom = .core ∧ s.modeOf = mDORMANT then 0 else if f.dom = .persist ∧ s.evt.timeKnown = false then f.reset else s.shown f

/-- A word of a table window (R609): 0 where the ID names no accepted table. -/
def Dev.tableWord (s : Dev) (a : Nat) : Nat :=
  let o := a - 0x00800000
  match s.forme.run.bind (fun f => f.tables.get? (o / 0x8000)) with
  | some bs => leAt bs (o % 0x8000) 4
  | none => 0

/-- The word that a read of an address returns (R7, R8). -/
def Dev.wordAt (s : Dev) (a : Nat) : Nat :=
  if s.readsAt a = false then 0
  else if 0x00800000 ≤ a ∧ a < 0x01000000 then s.tableWord a
  else (fieldsAt a).foldl (fun v f => v + s.fieldNow f * 2 ^ f.lo) 0

/-! ### Reads (R9, R572) -/

/-- Read-clear registers whose value the model keeps beside the register file, after the read (R9). -/
def Dev.clearKept (s : Dev) (a : Nat) : Dev :=
  if a = 0x30044 then s.modEvt fun r => { r with folded := 0 }
  else if a = 0x30048 then s.modEvt fun r => { r with supp := 0 }
  else if a = 0x3004C then s.modEvt fun r => { r with lost := 0 }
  else if a = 0xA2014 then s.modGal fun g => { g with peak := g.peak.del (s.get .GALLEY_BANK_SEL_BANK) }
  else match unitOfReg a with
    | some u =>
      let off := instOffset a
      let n := u % 256
      let m := if u / 256 = 1 then n else 8 + n
      if (u / 256 = 1 ∨ u / 256 = 2) ∧ off = 0x44 then s.modMem fun x => { x with devCe := x.devCe.del (m * 64 + s.get (.MEM_DEV_SEL_POSITION m)) }
      else if u / 256 = 3 ∧ off = 0x54 then
        s.modNand fun x => { x with hist := x.hist.del (n * 256 + s.get (.NANDC_RETRY_HIST_SEL_SLC n) * 128 + s.get (.NANDC_RETRY_HIST_SEL_STEP n)) }
      else s
    | none => s

/-- The side effects of a read (R9, R486, R575): read-clear fields, latched halves, and mailboxes. -/
def Dev.readEffects (s : Dev) (a : Nat) : Dev :=
  let t := (s.latchHi a).clearKept a
  let u := if 0x40040 ≤ a ∧ a < 0x40080 then t.set .MB_FLAGS_TO_SP_FULL (clearBit (t.get .MB_FLAGS_TO_SP_FULL) ((a - 0x40040) / 4))
    else if 0x90220 ≤ a ∧ a < 0x90240 then t.mbInRead ((a - 0x90220) / 4)
    else t
  u.each ((fieldsAt a).filter fun f => f.ty == .rc && (f.dom != .core || s.modeOf != mDORMANT)) fun v f => v.set f f.reset

/-- One word read, through point 34 (R572): the state after, and the word. -/
def Dev.readWord (s : Dev) (a : Nat) : Dev × Nat := (if s.readsAt a then s.atManagement (·.readEffects a) else s, s.wordAt a)

/-- Consecutive words read in ascending order. -/
def Dev.readWords (s : Dev) (a : Nat) : Nat → Dev × List Nat
  | 0 => (s, [])
  | n + 1 =>
    let (t, w) := s.readWord a
    let (u, ws) := t.readWords (a + 4) n
    (u, w :: ws)

/-! ### Sideband transfers (R583 to R585) -/

/-- Bytes of the transfer data registers. -/
def Dev.sbBytes (s : Dev) (n : Nat) : List Byte :=
  ((leBytes 4 (s.get (.SB_XFER_DATA_DATA 0))) ++ (leBytes 4 (s.get (.SB_XFER_DATA_DATA 1)))).take n

/-- Address of a sideband device (R582): DDR5 has the hub, the PMIC and two sensors, DDR4 the SPD device and one sensor, each ORed with
SEL. Before a Forme runs the slots are taken as DDR5 (assumption 64). -/
def sbAddress (ddr4 : Bool) (dev sel : Nat) : Option Nat :=
  match dev with
  | 0 => some (0x50 ||| sel)
  | 1 => if ddr4 then none else some (0x48 ||| sel)
  | 2 => some ((if ddr4 then 0x18 else 0x10) ||| sel)
  | _ => if ddr4 then none else some (0x30 ||| sel)

/-- The structure has DDR4 DIMMs. -/
def Dev.ddr4 (s : Dev) : Bool := (s.forme.run.map fun f => f.fixed.dimmGen == 4).getD false

/-- A transfer is refused (R585). -/
def Dev.sbRefuse (s : Dev) (slot dev : Nat) : Dev := (s.set .SB_XFER_CTRL_RESULT 2).post 0xC006 0 slot dev s.modeOf

/-- The mode refuses a transfer (R585): a write outside QUIESCED, and every one in HOLDUP_SAVE. -/
def Dev.sbBarred (s : Dev) (write : Bool) : Bool := (write && s.modeOf != mQUIESCED) || s.modeOf == mHOLDUP

/-- GO of `SB_XFER_CTRL` (R585, R590): refused outside QUIESCED where it writes, and in HOLDUP_SAVE; a length of 0 has no effect.
A GO while a transfer waits has none either (assumption 64). -/
def Dev.sbGo (s : Dev) (w : Nat) : Dev :=
  let slot := bitsOf w 0 4
  let dev := bitsOf w 4 2
  let write := bitOf w 6
  if bitOf w 7 = false ∨ bitsOf w 8 4 = 0 ∨ s.sp.sbXfer.isSome = true then s
  else if s.sbBarred write = true ∨ bitsOf w 8 4 > 8 then s.sbRefuse slot dev
  else (s.set .SB_XFER_CTRL_RESULT 3).modSp fun p => { p with sbXfer := some w }

/-- The end of the transfer that waits (R584, R585): `ack` where an attempt of the three succeeded, with the bytes read. A slot whose
pair disagrees holds it (R583), and one that a mode entered meanwhile bars is refused. -/
def Dev.sbEnd (s : Dev) (ack : Bool) (data : List Byte) : Dev :=
  match s.sp.sbXfer with
  | none => s
  | some w =>
    let slot := bitsOf w 0 4
    let dev := bitsOf w 4 2
    let n := bitsOf w 8 4
    if s.sbBarred (bitOf w 6) then ((s.modSp fun p => { p with sbXfer := none }).sbRefuse slot dev).ring 0x80
    else if s.sbAgrees slot = false then s
    else
      let place := sbAddress s.ddr4 dev (s.sp.sbSel.getD slot (slot % 8))
      let good := ack && place.isSome
      let t := (s.modSp fun p => { p with sbXfer := none }).set .SB_XFER_CTRL_RESULT (b2n (!good))
      let u := match place with
        | some a => t.emit (.sideband (slot / 8) a slot (bitsOf w 16 16) (if bitOf w 6 then some (s.sbBytes n) else none))
        | none => t
      let v := if good = false then u.post 0xC005 0 slot dev (b2n (bitOf w 6))
        else if bitOf w 6 then u
        else u.setL [(.SB_XFER_DATA_DATA 0, leAt (data.take n) 0 4), (.SB_XFER_DATA_DATA 1, leAt (data.take n) 4 4)]
      v.ring 0x80

/-- A transfer of the device's own (R583, R584): `nacks` attempts failed, three at most. An SPD read that fails in TRAINING fails the
channel as ABSENT; the subchannel of its event is open (assumption 2). -/
def Dev.sbPoll (s : Dev) (slot dev : Nat) (write : Bool) (nacks : Nat) : Dev :=
  if s.sbAgrees slot = false ∨ s.modeOf = mDORMANT ∨ slot ≥ 16 then s
  else if nacks < 3 then s.orF .SB_STATUS_PRESENT (2 ^ slot)
  else
    let t := (s.set .SB_STATUS_PRESENT (clearBit (s.get .SB_STATUS_PRESENT) slot)).post 0xC005 0 slot dev (b2n write)
    if s.modeOf = mTRAINING ∧ dev = 0 ∧ write = false then (t.failUnit (0x0100 + slot / 2) 1 (t.freeVal 1)).drawn else t

/-! ### The boot store (R66, R586 to R588) -/

/-- Slot of a boot-store address: 1 A, 2 B (R65). -/
def slotAt (a : Nat) : Nat := if a < 0x04000000 then 1 else 2

/-- R66 refuses an operation: writes while a load runs, and in every mode but QUIESCED writes to the running Forme's slot. -/
def Dev.slotClosed (s : Dev) (op addr last : Nat) : Bool :=
  let own := match s.forme.run with
    | some f => slotAt addr == f.slot || slotAt last == f.slot
    | none => false
  op != 1 && !s.bothRefused && (s.forme.load.isSome || (s.modeOf != mQUIESCED && own))

/-- GO of `BS_CTRL` with its fields stored (R587, R590). An OP that the manual does not list has no effect, as 0 has none. -/
def Dev.bsGo (s : Dev) (guard : Nat) : Dev :=
  let op := s.get .BS_CTRL_OP
  let a := s.get .BS_ADDR_ADDR
  let n := s.get .BS_CTRL_LENGTH + 1
  let last := if op = 1 ∨ op = 2 then a + n - 1 else a
  if guard ≠ 0xB5 ∨ op = 0 ∨ op > 4 then s
  else if s.sp.bsOp.isSome then s.post 0xC008 0 op a s.modeOf
  else if last > 0x07FFFFFF ∨ s.slotClosed op a last = true then (s.set .BS_STATUS_RESULT 2).post 0xC008 0 op a s.modeOf
  else (s.set .BS_STATUS_BUSY 1).modSp fun p => { p with bsOp := some { op := op, addr := a, len := n } }

/-- Bytes of the boot-store window. -/
def Dev.bsBytes (s : Dev) (n : Nat) : List Byte :=
  ((List.range (ceilDiv n 4)).flatMap fun i => leBytes 4 (s.get (.BS_WINDOW_DATA i))).take n

/-- A byte of the store changes; an erased one is not listed. -/
def FormeSt.putByte (f : FormeSt) (a : Nat) (b : Byte) : FormeSt :=
  { f with store := if b = 0xFF then f.store.del a else f.store.put a b }

/-- What a program leaves in a byte: the new value over an erased byte; over any other it is open, as is every byte of an operation
that failed (assumption 2). -/
def programmed (old new : Byte) (pass : Bool) (free : Nat) : Byte :=
  if pass && (old == 0xFF || old == new) then new else BitVec.ofNat 8 (Config.freeValue free)

/-- PROGRAM changes the store. -/
def Dev.bsProgram (s : Dev) (o : BsOp) (pass : Bool) : Dev :=
  let bs := s.bsBytes o.len
  let t := s.each bs.zipIdx fun t e =>
    t.modForme fun f => f.putByte (o.addr + e.2) (programmed (f.byte (o.addr + e.2)) e.1 pass (s.free + e.2))
  { t with free := s.free + o.len }

/-- ERASE and ERASE_SLOT change the bytes of [lo, hi): erased, or open where the operation failed. -/
def Dev.bsErase (s : Dev) (lo hi : Nat) (pass : Bool) : Dev :=
  let inside (a : Nat) : Bool := decide (lo ≤ a ∧ a < hi)
  if pass then s.modForme fun f => { f with store := f.store.keep fun a _ => !inside a }
  else
    let hit := (s.forme.store.filter fun e => inside e.1).map Prod.fst
    let t := s.each hit.zipIdx fun t e => t.modForme fun f => f.putByte e.1 (BitVec.ofNat 8 (Config.freeValue (s.free + e.2)))
    { t with free := s.free + hit.length }

/-- READ fills the window. -/
def Dev.bsRead (s : Dev) (o : BsOp) : Dev :=
  let bs := (List.range o.len).map fun i => s.forme.byte (o.addr + i)
  s.each (List.range (ceilDiv o.len 4)) fun t i => t.set (.BS_WINDOW_DATA i) (leAt bs (4 * i) 4)

/-- BS_OP_DONE (R587): the operation that runs ends with a result; a READ that fails leaves the window open in the bytes that it
would have filled. -/
def Dev.bsDone (s : Dev) (result : Nat) : Dev :=
  match s.sp.bsOp with
  | none => s
  | some o =>
    let pass := result % 4 == 0
    let t := if o.op = 1 then
        (if pass then s.bsRead o
         else (s.each (List.range (ceilDiv o.len 4)) fun t i => (t.set (.BS_WINDOW_DATA i) (t.freeVal 32)).drawn))
      else if o.op = 2 then s.bsProgram o pass
      else if o.op = 3 then s.bsErase (o.addr / 65536 * 65536) (o.addr / 65536 * 65536 + 65536) pass
      else s.bsErase (o.addr / 2 ^ 26 * 2 ^ 26) (o.addr / 2 ^ 26 * 2 ^ 26 + 2 ^ 26) pass
    let u := (t.setL [(.BS_STATUS_BUSY, 0), (.BS_STATUS_DONE, 1), (.BS_STATUS_RESULT, result)]).modSp fun p => { p with bsOp := none }
    (u.when (o.op != 1) fun v => v.post 0xC007 0 o.op o.addr (result % 4)).ring 0x40

/-! ### Mailboxes (R575, R576) -/

/-- A word written to `MB_TO_DEV[i]` (R575): a full mailbox discards it. -/
def Dev.mailIn (s : Dev) (i w : Nat) : Dev :=
  let full := s.get .MB_FLAGS_TO_DEV_FULL
  if full.testBit i then (s.orF .MB_STATUS_OVERRUN (2 ^ i)).post 0xC002 0 i 0 0
  else s.setL [(.MB_TO_DEV_WORD i, w), (.MB_FLAGS_TO_DEV_FULL, full ||| 2 ^ i)]

/-- A word written to the command window (R576): discarded while the verb before it waits. -/
def Dev.windowIn (s : Dev) (i w : Nat) : Dev :=
  if (s.get .MB_FLAGS_TO_DEV_FULL).testBit 0 then s.set .MB_STATUS_CMDWIN_BUSY 1 else s.set (.CMD_WINDOW_DATA i) w

/-- VERB_RESPONSE (R576, R577): the runtime writes the oldest answer that waits, once `MB_TO_SP[0]` has been read. -/
def Dev.verbResponse (s : Dev) : Dev :=
  let t := s.runtimeTakes
  match t.sp.verbOut with
  | [] => t
  | m :: rest =>
    if t.coreRuns = false ∨ (t.get .MB_FLAGS_TO_SP_FULL).testBit 0 = true then t
    else
      let u := t.each (List.range (ceilDiv m.bytes.length 4)) fun v i => v.set (.RESP_WINDOW_DATA i) (leAt m.bytes (4 * i) 4)
      ((u.modSp fun p => { p with verbOut := rest }).setL
        [(.MB_TO_SP_WORD 0, m.bytes.length % 2 ^ 13 + m.seq % 256 * 2 ^ 16), (.MB_FLAGS_TO_SP_FULL, t.get .MB_FLAGS_TO_SP_FULL ||| 1)]).ring 1

/-! ### Writes (R9, R39, R573) -/

/-- A register of a live-paired set (R13), with what a write to it leads to. -/
def livePair (a : Nat) : Bool :=
  a == 0x400A4 || a == 0x400A8 || decide (0x40200 ≤ a ∧ a < 0x40280 ∧ a % 4 = 0) || a == 0x60300 || a == 0x60304

/-- A write to a live-paired field (R13, R150, R570, R583). -/
def Dev.pairWrite (s : Dev) (a w : Nat) : Dev :=
  let t := s.storeWord a w
  if a = 0x400A4 ∨ a = 0x400A8 then t.saddrWritten s.saddrAgrees
  else if a = 0x60300 ∨ a = 0x60304 then t.injectWritten s.injectAgrees
  else t.sbWritten ((a - 0x40200) / 8) (s.sbAgrees ((a - 0x40200) / 8))

/-- A write of `CAL_CTRL` (R87, R90). -/
def Dev.calCtrl (s : Dev) (w : Nat) : Dev := (s.when (bitOf w 1) (·.discardShadow)).when (bitOf w 0) (·.impressTrigger)

/-- A write of `FORME_CTRL` (R84, R85). -/
def Dev.formeCtrl (s : Dev) (w : Nat) : Dev :=
  let g := bitsOf w 16 8
  ((s.storeWord 0x50010 w).when (bitOf w 8) (·.svnCommit g)).when (bitOf w 9) (·.keyRevoke (bitsOf w 10 2) g)

/-- A write of `PWR_CTRL` (R526, R535). -/
def Dev.pwrCtrl (s : Dev) (w : Nat) : Dev :=
  (s.when (bitOf w 0) (·.measure (bitsOf w 8 8))).when (bitOf w 1) (·.clearLockout (bitsOf w 8 8))

/-- A write of `TWIN_LEASE_CTRL` (R471, R473). -/
def Dev.leaseCtrl (s : Dev) (w : Nat) : Dev :=
  (s.when (bitOf w 0) (·.submitGrant (bitsOf w 8 8))).when (bitOf w 1) (·.denyLease (bitsOf w 8 8))

/-- A write of `DB_MASK` (R578): a bit that it unmasks may raise an interrupt. -/
def Dev.dbMaskWrite (s : Dev) (w : Nat) : Dev := (s.storeWord 0x40094 w).raiseIbi s.dbPending

/-- A write of `_RAW_CTRL` of a NAND channel (R420). -/
def Dev.rawCtrl (s : Dev) (ch w : Nat) : Dev :=
  let t := s.storeWord (nandBase ch + 0x80) w
  t.when (bitOf w 8) (·.rawStart ch (bitsOf w 0 4) (bitsOf w 16 8))

/-- What a word written at an address does (R9): a register with an act of its own acts, every other one by its fields. -/
def Dev.writeAct (s : Dev) (a w : Nat) : Dev :=
  if a = 0x28 then s.modeCmd (bitsOf w 0 4) (bitsOf w 8 8)
  else if a = 0x10004 then s.pwrCtrl w
  else if a = 0x30014 then s.when (bitOf w 0) (·.clearRing (bitsOf w 8 8))
  else if a = 0x30020 then s.cursorWrite w
  else if 0x40000 ≤ a ∧ a < 0x40040 ∧ a % 4 = 0 then s.mailIn ((a - 0x40000) / 4) w
  else if a = 0x40094 then s.dbMaskWrite w
  else if livePair a then s.pairWrite a w
  else if a = 0x40104 then (s.storeWord a w).sbGo w
  else if 0x41000 ≤ a ∧ a < 0x42000 ∧ a % 4 = 0 then s.windowIn ((a - 0x41000) / 4) w
  else if a = 0x50010 then s.formeCtrl w
  else if a = 0x50100 then s.calCtrl w
  else if a = 0x50800 then (s.storeWord a w).when (bitOf w 3) (·.bsGo (bitsOf w 16 8))
  else if a = 0x60010 then s.integQuery (bitsOf w 0 16)
  else if a = 0x60018 then s.integClear (bitsOf w 0 16) (bitsOf w 16 8)
  else if a = 0x90180 then s.leaseCtrl w
  else if 0x90200 ≤ a ∧ a < 0x90220 ∧ a % 4 = 0 then s.mbOut ((a - 0x90200) / 4) w
  else if a = 0x90244 then s.dbOut w
  else if a = 0xA1004 then (s.storeWord a w).askInvalidate (bitOf w 0) (bitsOf w 8 8)
  else if 0x300000 ≤ a ∧ a < 0x400000 ∧ a % 0x8000 = 0x80 then s.rawCtrl ((a - 0x300000) / 0x8000) w
  else (s.storeWord a w).askView a

/-- A word written at an address (R8), where the mode and the instance let it: it enters through point 34 (R572). -/
def Dev.writeWord (s : Dev) (a w : Nat) : Dev := if s.instOpen a then s.regRow a (·.writeAct a w) else s

/-- Words written to consecutive addresses in ascending order (R572). -/
def Dev.writeWords (s : Dev) (a : Nat) : List Nat → Dev
  | [] => s
  | w :: ws => (s.writeWord a w).writeWords (a + 4) ws

/-! ### Frames (R571 to R573) -/

/-- A write at an address meets a mode that makes it read only (R39, R573). -/
def Dev.readOnlyAt (s : Dev) (a : Nat) : Bool := s.modeOf == mHOLDUP || (s.modeOf == mSANITIZING && a != 0x28)

/-- Why a frame is refused, 0 where it is accepted (R573). Where several reasons hold the first of CMD, ALIGN, COUNT, LENGTH and MODE
is taken (assumption 62). -/
def Dev.frameRefusal (s : Dev) (f : SpFrame) : Nat :=
  let n := if f.cmd = 1 then 1 else f.count
  if f.cmd = 0 ∨ f.cmd > 3 then 3
  else if f.addr % 4 ≠ 0 then 1
  else if n = 0 ∨ n > 64 then 2
  else if f.whole = false ∨ (f.cmd ≠ 2 ∧ f.data.length ≠ n) then 4
  else if f.cmd ≠ 2 ∧ (List.range n).any (fun k => s.readOnlyAt (f.addr + 4 * k)) = true then 5
  else 0

/-- A frame is refused whole (R6, R573). -/
def Dev.refuseFrame (s : Dev) (f : SpFrame) (why : Nat) : Dev :=
  let t := ((s.inc .I3C_REFUSED_REFUSED).setL [(.I3C_LAST_REFUSAL_REASON, why), (.I3C_LAST_REFUSAL_ADDR, f.addr)]).post 0xC001 0 f.cmd f.addr why
  t.modSp fun p => { p with frameRefused := true, readBuf := if f.cmd = 2 then { status := 4, addr := f.addr, words := [] } else p.readBuf }

/-- An accepted READ (R572): its words are in the buffer before the next command (assumption 65). -/
def Dev.readFrame (s : Dev) (a n : Nat) : Dev :=
  let (t, ws) := s.readWords a n
  t.modSp fun p => { p with readBuf := { status := 1, addr := a, words := ws } }

/-- A private write's frame (R571 to R573). -/
def Dev.spFrame (s : Dev) (f : SpFrame) : Dev :=
  let why := s.frameRefusal f
  if why ≠ 0 then s.refuseFrame f why
  else if f.cmd = 2 then s.readFrame f.addr f.count
  else s.writeWords f.addr f.data

/-- A private read (R571, R572). -/
def Dev.privateRead (s : Dev) : Dev :=
  let b := s.sp.readBuf
  let words := if b.status = 1 then b.words.flatMap (leBytes 4) else []
  s.emit (.i3c (leBytes 1 b.status ++ (leBytes 3 b.addr).reverse ++ words))

/-! ### I3C (R567 to R570, R578) -/

/-- A common command code meets a target that runs I3C: the device is out of DORMANT and not in HDR mode, whose bus carries none
(assumption 66). -/
def Dev.onI3c (s : Dev) (f : Dev → Dev) : Dev :=
  if s.pwr.on && s.modeOf != mDORMANT && s.get .I3C_STATUS_BUSMODE != 2 then f s else s

/-- A directed code meets a target with a dynamic address, in SDR. -/
def Dev.onSdr (s : Dev) (f : Dev → Dev) : Dev := s.onI3c fun t => if t.get .I3C_STATUS_BUSMODE = 1 then f t else t

/-- A dynamic address is assigned (R568, R569): `how` as 0xC003 carries it. -/
def Dev.assign (s : Dev) (addr how : Nat) : Dev :=
  ((s.setL [(.I3C_STATUS_BUSMODE, 1), (.I3C_STATUS_DYN_ADDR, addr), (.I3C_STATUS_IBI_EN, 1), (.I3C_STATUS_HJ_EN, 1)]).modSp
    fun p => { p with hotJoin := false }).post 0xC003 0 (addr % 128) how 0

/-- ALERT_N is driven low (R579): outside DORMANT, while `DB_PENDING` is not zero. -/
def Dev.alertLow (s : Dev) : Bool := s.pwr.on && s.modeOf != mDORMANT && s.dbPending != 0

/-- Bytes that the target returns in SDR. -/
def Dev.answers (s : Dev) (f : Dev → List Byte) : Dev := s.onSdr fun t => t.emit (.i3c (f t))

/-- A big-endian field of a code's answer. -/
def beBytes (n v : Nat) : List Byte := (leBytes n v).reverse

/-- The provisional ID (R569): manufacturer field [47:33], part [31:16], instance [15:12], extra [11:0], the layout of the I3C
standard (assumption 66). -/
def Dev.provisionalId (s : Dev) : Nat := 0x2B9 * 2 ^ 33 + 0x6040 * 2 ^ 16 + s.sp.addrStrap * 2 ^ 12 + 0x0A2

/-- IBI (R578): the interrupt that waits is raised; where it is not acknowledged it waits on. -/
def Dev.raiseNow (s : Dev) (ack : Bool) : Dev :=
  if s.sp.ibiPending && s.modeOf != mDORMANT && s.get .I3C_STATUS_BUSMODE != 0 && s.bit .I3C_STATUS_IBI_EN && ack then
    (s.modSp fun p => { p with ibiPending := false, lastIbi := s.dbPending }).emit (.ibi s.dbPending)
  else s

/-! ### Commands: registers and frames -/

/-- EVT_CURSOR (R602). -/
def execEvtCursor (seq : Nat) (w : State) : Host.Outcome State Fault Refusal := finish w fun s => (s.regRow 0x30020 (·.cursorWrite seq))

/-- CLEAR (R603). -/
def execClear (guard : Nat) (w : State) : Host.Outcome State Fault Refusal := finish w fun s => (s.regRow 0x30014 (·.clearRing guard))

/-- LC_INVALIDATE: the guarded write of `LC_CTRL` (R310, LC_CTRL). -/
def execLcInvalidate (invalidate : Bool) (guard : Nat) (w : State) : Host.Outcome State Fault Refusal :=
  finish w fun s => (s.regRow 0xA1004 (·.askInvalidate invalidate guard))

/-- LIVE_PAIR_WRITE (R13). -/
def execLivePairWrite (addr word : Nat) (w : State) : Host.Outcome State Fault Refusal :=
  finish w fun s => (if livePair addr then s.writeWord addr word else s)

/-- REGISTER_WRITE (R9). -/
def execRegisterWrite (addr word : Nat) (w : State) : Host.Outcome State Fault Refusal := finish w fun s => (s.writeWord addr word)

/-- VIEW_SELECT (R209): a write of a SEL register. -/
def execViewSelect (addr word : Nat) (w : State) : Host.Outcome State Fault Refusal :=
  finish w fun s => (if (readyOf addr).isSome then s.writeWord addr word else s)

/-- WRITE (R571). -/
def execWrite (f : SpFrame) (w : State) : Host.Outcome State Fault Refusal := finish w fun s => (s.onIsland (·.spFrame f))

/-- READ (R572). -/
def execRead (f : SpFrame) (w : State) : Host.Outcome State Fault Refusal := finish w fun s => (s.onIsland (·.spFrame f))

/-- WRITE_BURST (R571). -/
def execWriteBurst (f : SpFrame) (w : State) : Host.Outcome State Fault Refusal := finish w fun s => (s.onIsland (·.spFrame f))

/-- PRIVATE_READ (R571). -/
def execPrivateRead (w : State) : Host.Outcome State Fault Refusal := finish w fun s => (s.onIsland (·.privateRead))

/-! ### Commands: I3C -/

/-- ENEC (R569): the events that it enables. -/
def execEnec (int hj : Bool) (w : State) : Host.Outcome State Fault Refusal :=
  finish w fun s => (s.onI3c fun t => (t.when int (·.set .I3C_STATUS_IBI_EN 1)).when hj (·.set .I3C_STATUS_HJ_EN 1))

/-- DISEC (R569). -/
def execDisec (int hj : Bool) (w : State) : Host.Outcome State Fault Refusal :=
  finish w fun s => (s.onI3c fun t => (t.when int (·.set .I3C_STATUS_IBI_EN 0)).when hj (·.set .I3C_STATUS_HJ_EN 0))

/-- RSTDAA (R568, R570). -/
def execRstdaa (w : State) : Host.Outcome State Fault Refusal := finish w fun s => (s.onI3c (·.dropAddress))

/-- ENTDAA (R568): a target without a dynamic address takes one. -/
def execEntdaa (addr : Nat) (w : State) : Host.Outcome State Fault Refusal :=
  finish w fun s => (s.onI3c fun t => if t.get .I3C_STATUS_BUSMODE = 0 then t.assign addr 1 else t)

/-- SETDASA (R568), to a static address. -/
def execSetdasa (static addr : Nat) (w : State) : Host.Outcome State Fault Refusal :=
  finish w fun s => (s.onI3c fun t => if t.get .I3C_STATUS_BUSMODE = 0 ∧ static = t.get .I3C_STATUS_STATIC_ADDR then t.assign addr 0 else t)

/-- SETNEWDA (R568). -/
def execSetnewda (addr : Nat) (w : State) : Host.Outcome State Fault Refusal := finish w fun s => (s.onSdr (·.assign addr 2))

/-- GETPID (R569). -/
def execGetpid (w : State) : Host.Outcome State Fault Refusal := finish w fun s => (s.answers fun t => beBytes 6 t.provisionalId)

/-- GETBCR (R569). -/
def execGetbcr (w : State) : Host.Outcome State Fault Refusal := finish w fun s => (s.answers fun _ => [0x26])

/-- GETDCR (R569). -/
def execGetdcr (w : State) : Host.Outcome State Fault Refusal := finish w fun s => (s.answers fun _ => [0x00])

/-- GETSTATUS (R569): the frame bit is of the frames since the last one. -/
def execGetstatus (w : State) : Host.Outcome State Fault Refusal :=
  finish w fun s => (s.onSdr fun t => (t.emit (.i3c (beBytes 2 (b2n t.sp.ibiPending + b2n t.sp.frameRefused * 32)))).modSp fun p => { p with frameRefused := false })

/-- GETMWL (R569). -/
def execGetmwl (w : State) : Host.Outcome State Fault Refusal := finish w fun s => (s.answers fun t => beBytes 2 t.sp.mwl)

/-- SETMWL (R569): a length of at most 261 is recorded. -/
def execSetmwl (len : Nat) (w : State) : Host.Outcome State Fault Refusal :=
  finish w fun s => (s.onI3c fun t => if len ≤ 261 then t.modSp fun p => { p with mwl := len } else t)

/-- GETMRL (R569). -/
def execGetmrl (w : State) : Host.Outcome State Fault Refusal := finish w fun s => (s.answers fun _ => beBytes 2 260 ++ [5])

/-- GETMXDS (R569): no read turnaround limit, and full speed both ways (assumption 66). -/
def execGetmxds (w : State) : Host.Outcome State Fault Refusal := finish w fun s => (s.answers fun _ => [0, 0])

/-- ENTHDR0 (R569). -/
def execEnthdr0 (w : State) : Host.Outcome State Fault Refusal := finish w fun s => (s.onSdr (·.set .I3C_STATUS_BUSMODE 2))

/-- HDR_EXIT (R567). -/
def execHdrExit (w : State) : Host.Outcome State Fault Refusal :=
  finish w fun s => (if s.get .I3C_STATUS_BUSMODE = 2 then s.set .I3C_STATUS_BUSMODE 1 else s)

/-- IBI (R578): `ack` where the SP acknowledges it. -/
def execIbi (ack : Bool) (w : State) : Host.Outcome State Fault Refusal := finish w fun s => (s.raiseNow ack)

/-! ### Commands: mailboxes, sideband and boot store -/

/-- TWIN_MB_IN_READ (R486): a read of incoming twin mailbox `i`. -/
def execTwinMbInRead (i : Nat) (w : State) : Host.Outcome State Fault Refusal :=
  finish w fun s => (if i < 8 then (s.readWord (0x90220 + 4 * i)).1 else s)

/-- MB_TO_DEV (R575): a write of mailbox `i`. -/
def execMbToDev (i word : Nat) (w : State) : Host.Outcome State Fault Refusal :=
  finish w fun s => (if i < 16 then s.writeWord (0x40000 + 4 * i) word else s)

/-- MB_TO_SP_READ (R575): a READ of mailbox `i`. -/
def execMbToSpRead (i : Nat) (w : State) : Host.Outcome State Fault Refusal :=
  finish w fun s => (if i < 16 then s.onIsland (·.readFrame (0x40040 + 4 * i) 1) else s)

/-- VERB_RESPONSE (R576). -/
def execVerbResponse (w : State) : Host.Outcome State Fault Refusal := finish w fun s => s.verbResponse

/-- CMD_WINDOW_WRITE (R576): a write of word `i`. -/
def execCmdWindowWrite (i word : Nat) (w : State) : Host.Outcome State Fault Refusal :=
  finish w fun s => (if i < 1024 then s.writeWord (0x41000 + 4 * i) word else s)

/-- SIDEBAND_POLL (R584). -/
def execSidebandPoll (slot dev : Nat) (write : Bool) (nacks : Nat) (w : State) : Host.Outcome State Fault Refusal :=
  finish w fun s => (s.sbPoll slot dev write nacks)

/-- SIDEBAND_XFER (R585): a write of `SB_XFER_CTRL`, where no transfer waits, and the transfer's end. -/
def execSidebandXfer (ctrl : Nat) (ack : Bool) (data : List Byte) (w : State) : Host.Outcome State Fault Refusal :=
  finish w fun s => ((if s.sp.sbXfer.isSome then s else s.writeWord 0x40104 ctrl).sbEnd ack data)

/-- A boot-store row: `BS_ADDR`, then `BS_CTRL` with GO (R587). -/
def Dev.bsRow (s : Dev) (op addr len guard : Nat) : Dev :=
  (s.writeWord 0x50804 addr).writeWord 0x50800 (op + 8 + len % 4096 * 16 + guard % 256 * 65536)

/-- BS_READ (R587): `len` is LENGTH, bytes less 1. -/
def execBsRead (addr len guard : Nat) (w : State) : Host.Outcome State Fault Refusal := finish w fun s => (s.bsRow 1 addr len guard)

/-- BS_PROGRAM (R587). -/
def execBsProgram (addr len guard : Nat) (w : State) : Host.Outcome State Fault Refusal := finish w fun s => (s.bsRow 2 addr len guard)

/-- BS_ERASE (R587). -/
def execBsErase (addr guard : Nat) (w : State) : Host.Outcome State Fault Refusal := finish w fun s => (s.bsRow 3 addr 0 guard)

/-- ERASE_SLOT (R587). -/
def execEraseSlot (addr guard : Nat) (w : State) : Host.Outcome State Fault Refusal := finish w fun s => (s.bsRow 4 addr 0 guard)

/-- BS_OP_DONE (R587): 0 pass, 1 device error, 3 time-out. -/
def execBsOpDone (result : Nat) (w : State) : Host.Outcome State Fault Refusal := finish w fun s => (s.bsDone result)

end Sys2Proof.Machine
end

