-- ==== Sys2Proof/Machine/Tap.lean ====
section
/-!
DEFINITION. The test access port of 22_package_and_electrical.md R630 to R632.
-/

namespace Sys2Proof.Machine

open Sys2Proof

/-- The TAP pair agrees (R631). -/
def TapSt.agrees (t : TapSt) : Bool := t.chk == 2 ^ 32 - 1 - t.mode

/-- BOUNDARY is in effect (R632). -/
def State.boundaryOn (w : State) : Bool := w.tap.agrees && w.tap.mode % 256 == 1 && w.dev.modeOf == mQUIESCED

/-- A TAP instruction's outcome: the value that leaves at TDO, the port's registers after it, and what the device makes of it. The port
works only while VDD_IO is good (R630); driving ends with any instruction but EXTEST (assumption 67). -/
def State.tapRow (w : State) (ir tdo : Nat) (g : TapSt → TapSt) (f : Dev → Dev) : Host.Outcome State Fault Refusal :=
  if w.dev.vddIo then
    finish { w with tap := g { w.tap with ir := ir, driving := false } } fun s => f (s.emit (.tdo tdo))
  else finish w id

/-- A register of the pair has been shifted (R631, R632): the pair as it stands after its check. The reset of R632 meets a pair that
stops agreeing while BOUNDARY is in effect; otherwise the two registers could never be shifted one after the other
(assumption 67). -/
def State.tapPair (w : State) (t : TapSt) : TapSt := if t.agrees || !w.boundaryOn then t else t.pairReset

/-- What the device makes of a shifted register (R631): a pair that disagrees is marked, and one that ceases to agree is logged. -/
def Dev.tapCheck (s : Dev) (before now : TapSt) : Dev :=
  if now.agrees then s
  else (s.set .INTEG_SUMMARY_TAP_MISMATCH 1).when before.agrees fun v => v.postOpen 0x3020 0 [0, 0xFFFF0020]

/-- TEST_MODE or TEST_MODE_CHK is shifted to a new value (R631). -/
def State.tapShift (w : State) (ir old : Nat) (put : TapSt → TapSt) : Host.Outcome State Fault Refusal :=
  w.tapRow ir old (fun t => w.tapPair (put t)) (fun s => s.tapCheck w.tap (put w.tap))

/-! ### Commands -/

/-- BYPASS (R630). -/
def execBypass (w : State) : Host.Outcome State Fault Refusal := w.tapRow 0xFF 0 id id

/-- IDCODE (R630). -/
def execIdcode (w : State) : Host.Outcome State Fault Refusal := w.tapRow 0x01 0x16040A5F id id

/-- SAMPLE/PRELOAD (R630): the balls as sampled leave, and the boundary register is loaded. It drives nothing, and runs while the TAP pair
disagrees too, where R631 names the boundary-scan controller as the held unit (assumption 124). -/
def execSamplePreload (pins value : Nat) (w : State) : Host.Outcome State Fault Refusal :=
  w.tapRow 0x02 pins (fun t => { t with boundary := value }) id

/-- EXTEST (R632): drives the boundary register where BOUNDARY is in effect, otherwise acts as BYPASS. -/
def execExtest (pins value : Nat) (w : State) : Host.Outcome State Fault Refusal :=
  if w.boundaryOn then w.tapRow 0x00 pins (fun t => { t with boundary := value, driving := true }) id
  else w.tapRow 0x00 0 id id

/-- TEST_MODE (R631). -/
def execTestMode (value : Nat) (w : State) : Host.Outcome State Fault Refusal :=
  w.tapShift 0x20 w.tap.mode fun t => { t with mode := value % 2 ^ 32 }

/-- TEST_MODE_CHK (R631). -/
def execTestModeChk (value : Nat) (w : State) : Host.Outcome State Fault Refusal :=
  w.tapShift 0x21 w.tap.chk fun t => { t with chk := value % 2 ^ 32 }

end Sys2Proof.Machine
end

