-- ==== Sys2Proof/Machine/Dispatch.lean ====
section
/-!
DEFINITION. What each command does: one arm per constructor of Instr, each a direct call of its meaning.
-/

namespace Sys2Proof.Machine

open Sys2Proof

/-- A command's effect on everything but the queue. -/
def exec (i : Instr) (s : State) : Host.Outcome State Fault Refusal :=
  match i with
  | .nop src guard => Sys2Proof.Machine.execNop src guard s
  | .quiesce src guard => Sys2Proof.Machine.execQuiesce src guard s
  | .resume src guard => Sys2Proof.Machine.execResume src guard s
  | .sanitize src guard => Sys2Proof.Machine.execSanitize src guard s
  | .handover src guard => Sys2Proof.Machine.execHandover src guard s
  | .powerOff src guard => Sys2Proof.Machine.execPowerOff src guard s
  | .soloOverride src guard => Sys2Proof.Machine.execSoloOverride src guard s
  | .reload src guard => Sys2Proof.Machine.execReload src guard s
  | .powerUp pins => Sys2Proof.Machine.execPowerUp pins s
  | .upStepSettled mvs => Sys2Proof.Machine.execUpStepSettled mvs s
  | .railUpTimeout rail mv => Sys2Proof.Machine.execRailUpTimeout rail mv s
  | .offDuringUp cause => Sys2Proof.Machine.execOffDuringUp cause s
  | .downStepDone mvs => Sys2Proof.Machine.execDownStepDone mvs s
  | .offDwellExpiry pins => Sys2Proof.Machine.execOffDwellExpiry pins s
  | .railFault rail mv => Sys2Proof.Machine.execRailFault rail mv s
  | .extFault => Sys2Proof.Machine.execExtFault s
  | .inputLoss source mv => Sys2Proof.Machine.execInputLoss source mv s
  | .resetAsserted => Sys2Proof.Machine.execResetAsserted s
  | .clearLockout guard => Sys2Proof.Machine.execClearLockout guard s
  | .measure guard => Sys2Proof.Machine.execMeasure guard s
  | .measurePeriodic => Sys2Proof.Machine.execMeasurePeriodic s
  | .pulseEnd v0 v1 slope mean mv => Sys2Proof.Machine.execPulseEnd v0 v1 slope mean mv s
  | .energyRecompute mv => Sys2Proof.Machine.execEnergyRecompute mv s
  | .aonCollapse => Sys2Proof.Machine.execAonCollapse s
  | .aonPowerOn => Sys2Proof.Machine.execAonPowerOn s
  | .vigilCarryDone => Sys2Proof.Machine.execVigilCarryDone s
  | .vigilImageWritten => Sys2Proof.Machine.execVigilImageWritten s
  | .vigilReserve mv => Sys2Proof.Machine.execVigilReserve mv s
  | .vigilSealed => Sys2Proof.Machine.execVigilSealed s
  | .vigilDone => Sys2Proof.Machine.execVigilDone s
  | .thermtrip sensor => Sys2Proof.Machine.execThermtrip sensor s
  | .thermtripRelease => Sys2Proof.Machine.execThermtripRelease s
  | .sensorSample readings => Sys2Proof.Machine.execSensorSample readings s
  | .govPeriod pEst => Sys2Proof.Machine.execGovPeriod pEst s
  | .powerSecond => Sys2Proof.Machine.execPowerSecond s
  | .refLoss missing ppm => Sys2Proof.Machine.execRefLoss missing ppm s
  | .pllUnlock => Sys2Proof.Machine.execPllUnlock s
  | .lockFail domain absent => Sys2Proof.Machine.execLockFail domain absent s
  | .xtalFail => Sys2Proof.Machine.execXtalFail s
  | .formePass1Done err => Sys2Proof.Machine.execFormePass1Done err s
  | .formePass2Done err changed => Sys2Proof.Machine.execFormePass2Done err changed s
  | .svnCommit guard => Sys2Proof.Machine.execSvnCommit guard s
  | .keyRevoke index guard => Sys2Proof.Machine.execKeyRevoke index guard s
  | .impressTrigger src => Sys2Proof.Machine.execImpressTrigger src s
  | .impressCommit => Sys2Proof.Machine.execImpressCommit s
  | .discard => Sys2Proof.Machine.execDiscard s
  | .livePairWrite addr word => Sys2Proof.Machine.execLivePairWrite addr word s
  | .registerWrite addr word => Sys2Proof.Machine.execRegisterWrite addr word s
  | .cycleBoundary => Sys2Proof.Machine.execCycleBoundary s
  | .admitArrival point a internal => Sys2Proof.Machine.execAdmitArrival point a internal s
  | .sample point tick => Sys2Proof.Machine.execSample point tick s
  | .faultDetected f => Sys2Proof.Machine.execFaultDetected f s
  | .slotReplay stamp tick pass => Sys2Proof.Machine.execSlotReplay stamp tick pass s
  | .pageSwitch => Sys2Proof.Machine.execPageSwitch s
  | .faultWindowStart log2 => Sys2Proof.Machine.execFaultWindowStart log2 s
  | .integClear unit guard => Sys2Proof.Machine.execIntegClear unit guard s
  | .integQuery unit => Sys2Proof.Machine.execIntegQuery unit s
  | .inject f => Sys2Proof.Machine.execInject f s
  | .frameReceived f => Sys2Proof.Machine.execFrameReceived f s
  | .arpRequest port target => Sys2Proof.Machine.execArpRequest port target s
  | .neighbourSolicitation port target => Sys2Proof.Machine.execNeighbourSolicitation port target s
  | .echoRequest port id => Sys2Proof.Machine.execEchoRequest port id s
  | .pauseFrame port mask => Sys2Proof.Machine.execPauseFrame port mask s
  | .linkDown port locked => Sys2Proof.Machine.execLinkDown port locked s
  | .linkUp port => Sys2Proof.Machine.execLinkUp port s
  | .cmReq r => Sys2Proof.Machine.execCmReq r s
  | .cmRtu qp => Sys2Proof.Machine.execCmRtu qp s
  | .cmDreq qp => Sys2Proof.Machine.execCmDreq qp s
  | .qpResetTimeout qp => Sys2Proof.Machine.execQpResetTimeout qp s
  | .qpErrorDreq qp => Sys2Proof.Machine.execQpErrorDreq qp s
  | .send p => Sys2Proof.Machine.execSend p s
  | .rdmaWrite p => Sys2Proof.Machine.execRdmaWrite p s
  | .rdmaReadRequest p => Sys2Proof.Machine.execRdmaReadRequest p s
  | .cmpSwap p => Sys2Proof.Machine.execCmpSwap p s
  | .fetchAdd p => Sys2Proof.Machine.execFetchAdd p s
  | .rdmaFlush p => Sys2Proof.Machine.execRdmaFlush p s
  | .atomicWrite p => Sys2Proof.Machine.execAtomicWrite p s
  | .acknowledge p ns => Sys2Proof.Machine.execAcknowledge p ns s
  | .cnp p => Sys2Proof.Machine.execCnp p s
  | .invalidOpcode p => Sys2Proof.Machine.execInvalidOpcode p s
  | .ackTimer qp => Sys2Proof.Machine.execAckTimer qp s
  | .requesterTimeout qp => Sys2Proof.Machine.execRequesterTimeout qp s
  | .rnrTimer qp => Sys2Proof.Machine.execRnrTimer qp s
  | .probe qp => Sys2Proof.Machine.execProbe qp s
  | .pdCreate who tag body => Sys2Proof.Machine.execPdCreate who tag body s
  | .pdDestroy who tag body => Sys2Proof.Machine.execPdDestroy who tag body s
  | .pdSetCaps who tag body => Sys2Proof.Machine.execPdSetCaps who tag body s
  | .regCreate who tag body => Sys2Proof.Machine.execRegCreate who tag body s
  | .logCreate who tag body => Sys2Proof.Machine.execLogCreate who tag body s
  | .regRevoke who tag body => Sys2Proof.Machine.execRegRevoke who tag body s
  | .regionRevoked region => Sys2Proof.Machine.execRegionRevoked region s
  | .revokeForced region => Sys2Proof.Machine.execRevokeForced region s
  | .regQuery who tag body => Sys2Proof.Machine.execRegQuery who tag body s
  | .zoneReset who tag body => Sys2Proof.Machine.execZoneReset who tag body s
  | .zoneQuery who tag body => Sys2Proof.Machine.execZoneQuery who tag body s
  | .kdAssign who tag body => Sys2Proof.Machine.execKdAssign who tag body s
  | .saInstall who tag body => Sys2Proof.Machine.execSaInstall who tag body s
  | .qpTeardown who tag body => Sys2Proof.Machine.execQpTeardown who tag body s
  | .dqCreate who tag body => Sys2Proof.Machine.execDqCreate who tag body s
  | .dqDestroy who tag body => Sys2Proof.Machine.execDqDestroy who tag body s
  | .dqReset who tag body => Sys2Proof.Machine.execDqReset who tag body s
  | .dqQuery who tag body => Sys2Proof.Machine.execDqQuery who tag body s
  | .descNop queue => Sys2Proof.Machine.execDescNop queue s
  | .descCopy queue lines => Sys2Proof.Machine.execDescCopy queue lines s
  | .descPush queue => Sys2Proof.Machine.execDescPush queue s
  | .descFlush queue => Sys2Proof.Machine.execDescFlush queue s
  | .descDiscard queue => Sys2Proof.Machine.execDescDiscard queue s
  | .descWait queue => Sys2Proof.Machine.execDescWait queue s
  | .completionAdvance queue => Sys2Proof.Machine.execCompletionAdvance queue s
  | .waitTimeout queue => Sys2Proof.Machine.execWaitTimeout queue s
  | .dqRestart => Sys2Proof.Machine.execDqRestart s
  | .standbyReport h onum => Sys2Proof.Machine.execStandbyReport h onum s
  | .galleyWaitPlace => Sys2Proof.Machine.execGalleyWaitPlace s
  | .drain bank => Sys2Proof.Machine.execDrain bank s
  | .drainDone la => Sys2Proof.Machine.execDrainDone la s
  | .drainFail la => Sys2Proof.Machine.execDrainFail la s
  | .lineFill la => Sys2Proof.Machine.execLineFill la s
  | .lcInvalidate invalidate guard => Sys2Proof.Machine.execLcInvalidate invalidate guard s
  | .moveStart folio kind up => Sys2Proof.Machine.execMoveStart folio kind up s
  | .moveCommit folio => Sys2Proof.Machine.execMoveCommit folio s
  | .moveFailed folio unit => Sys2Proof.Machine.execMoveFailed folio unit s
  | .mapPageLoad n => Sys2Proof.Machine.execMapPageLoad n s
  | .parityAlert station lost refreshes commands held => Sys2Proof.Machine.execParityAlert station lost refreshes commands held s
  | .replayEntry station => Sys2Proof.Machine.execReplayEntry station s
  | .dramUeReread unit bank row good => Sys2Proof.Machine.execDramUeReread unit bank row good s
  | .memTempRead n temp => Sys2Proof.Machine.execMemTempRead n temp s
  | .trainRun n sub drift => Sys2Proof.Machine.execTrainRun n sub drift s
  | .slotCommit home => Sys2Proof.Machine.execSlotCommit home s
  | .padTimeout band => Sys2Proof.Machine.execPadTimeout band s
  | .programRefused lun => Sys2Proof.Machine.execProgramRefused lun s
  | .programFail lun planes => Sys2Proof.Machine.execProgramFail lun planes s
  | .eraseFail lun planes => Sys2Proof.Machine.execEraseFail lun planes s
  | .stripeRebuild home opens => Sys2Proof.Machine.execStripeRebuild home opens s
  | .lunFailed lun => Sys2Proof.Machine.execLunFailed lun s
  | .gcStart => Sys2Proof.Machine.execGcStart s
  | .relocationCommit home => Sys2Proof.Machine.execRelocationCommit home s
  | .bandRefresh band => Sys2Proof.Machine.execBandRefresh band s
  | .wearCreditEmpty => Sys2Proof.Machine.execWearCreditEmpty s
  | .tableCheckpoint => Sys2Proof.Machine.execTableCheckpoint s
  | .purge => Sys2Proof.Machine.execPurge s
  | .purgeComplete => Sys2Proof.Machine.execPurgeComplete s
  | .nandStatus lun r => Sys2Proof.Machine.execNandStatus lun r s
  | .statusTimeout lun => Sys2Proof.Machine.execStatusTimeout lun s
  | .suspend home cls => Sys2Proof.Machine.execSuspend home cls s
  | .resumeOperation lun => Sys2Proof.Machine.execResumeOperation lun s
  | .starved lun => Sys2Proof.Machine.execStarved lun s
  | .contRead home pages failed => Sys2Proof.Machine.execContRead home pages failed s
  | .readRetry home step weight zeros bits opens => Sys2Proof.Machine.execReadRetry home step weight zeros bits opens s
  | .readRaw ch guard => Sys2Proof.Machine.execReadRaw ch guard s
  | .readDecoded ch guard => Sys2Proof.Machine.execReadDecoded ch guard s
  | .programRaw ch guard => Sys2Proof.Machine.execProgramRaw ch guard s
  | .rawErase ch guard => Sys2Proof.Machine.execRawErase ch guard s
  | .rawReadId ch guard => Sys2Proof.Machine.execRawReadId ch guard s
  | .getFeature ch guard => Sys2Proof.Machine.execGetFeature ch guard s
  | .eraseCheck ch guard => Sys2Proof.Machine.execEraseCheck ch guard s
  | .daybookUe bank row granule => Sys2Proof.Machine.execDaybookUe bank row granule s
  | .rowRemap bank row n => Sys2Proof.Machine.execRowRemap bank row n s
  | .journalWait cls => Sys2Proof.Machine.execJournalWait cls s
  | .intentBatch => Sys2Proof.Machine.execIntentBatch s
  | .ledgerWrite => Sys2Proof.Machine.execLedgerWrite s
  | .trainingComplete r => Sys2Proof.Machine.execTrainingComplete r s
  | .recoveryComplete => Sys2Proof.Machine.execRecoveryComplete s
  | .state h p => Sys2Proof.Machine.execState h p s
  | .item h item => Sys2Proof.Machine.execItem h item s
  | .cycle h cycle => Sys2Proof.Machine.execCycle h cycle s
  | .digest h window kind digest => Sys2Proof.Machine.execDigest h window kind digest s
  | .verdict h window kind faulty => Sys2Proof.Machine.execVerdict h window kind faulty s
  | .verdictTimeout => Sys2Proof.Machine.execVerdictTimeout s
  | .fault h => Sys2Proof.Machine.execFault h s
  | .handoverFrame h final => Sys2Proof.Machine.execHandoverFrame h final s
  | .handoverAck h => Sys2Proof.Machine.execHandoverAck h s
  | .resync h phase full pass groups => Sys2Proof.Machine.execResync h phase full pass groups s
  | .group h group folios => Sys2Proof.Machine.execGroup h group folios s
  | .tables h n => Sys2Proof.Machine.execTables h n s
  | .mailbox h what i0 word => Sys2Proof.Machine.execMailbox h what i0 word s
  | .budget h folios => Sys2Proof.Machine.execBudget h folios s
  | .idle h => Sys2Proof.Machine.execIdle h s
  | .flesalBadFrame why lane type fseq => Sys2Proof.Machine.execFlesalBadFrame why lane type fseq s
  | .flesalRetransmit => Sys2Proof.Machine.execFlesalRetransmit s
  | .flesalLost => Sys2Proof.Machine.execFlesalLost s
  | .flesalRtt ns => Sys2Proof.Machine.execFlesalRtt ns s
  | .leaseRequest => Sys2Proof.Machine.execLeaseRequest s
  | .submit guard => Sys2Proof.Machine.execSubmit guard s
  | .deny guard => Sys2Proof.Machine.execDeny guard s
  | .leaseExpired => Sys2Proof.Machine.execLeaseExpired s
  | .switchover => Sys2Proof.Machine.execSwitchover s
  | .switchoverAnnounceRepeat => Sys2Proof.Machine.execSwitchoverAnnounceRepeat s
  | .resyncPhase n => Sys2Proof.Machine.execResyncPhase n s
  | .resyncDone => Sys2Proof.Machine.execResyncDone s
  | .resyncAbandoned => Sys2Proof.Machine.execResyncAbandoned s
  | .egressHour => Sys2Proof.Machine.execEgressHour s
  | .twinMbOut i0 word => Sys2Proof.Machine.execTwinMbOut i0 word s
  | .twinDbOut bits => Sys2Proof.Machine.execTwinDbOut bits s
  | .twinMbInRead i0 => Sys2Proof.Machine.execTwinMbInRead i0 s
  | .katFail core mode => Sys2Proof.Machine.execKatFail core mode s
  | .entropyHealthFail test => Sys2Proof.Machine.execEntropyHealthFail test s
  | .entropyRetest pass => Sys2Proof.Machine.execEntropyRetest pass s
  | .maskDegrade => Sys2Proof.Machine.execMaskDegrade s
  | .usageThreshold slot blocks => Sys2Proof.Machine.execUsageThreshold slot blocks s
  | .forcedRekey domain => Sys2Proof.Machine.execForcedRekey domain s
  | .rekeyScanDone domain => Sys2Proof.Machine.execRekeyScanDone domain s
  | .keyGenerate who tag body => Sys2Proof.Machine.execKeyGenerate who tag body s
  | .keyImport who tag body => Sys2Proof.Machine.execKeyImport who tag body s
  | .keyDestroy who tag body => Sys2Proof.Machine.execKeyDestroy who tag body s
  | .keyQuery who tag body => Sys2Proof.Machine.execKeyQuery who tag body s
  | .kdKey who tag body => Sys2Proof.Machine.execKdKey who tag body s
  | .kdRekey who tag body => Sys2Proof.Machine.execKdRekey who tag body s
  | .kdDestroy who tag body => Sys2Proof.Machine.execKdDestroy who tag body s
  | .kdQuery who tag body => Sys2Proof.Machine.execKdQuery who tag body s
  | .write f => Sys2Proof.Machine.execWrite f s
  | .read f => Sys2Proof.Machine.execRead f s
  | .writeBurst f => Sys2Proof.Machine.execWriteBurst f s
  | .privateRead => Sys2Proof.Machine.execPrivateRead s
  | .enec int hj => Sys2Proof.Machine.execEnec int hj s
  | .disec int hj => Sys2Proof.Machine.execDisec int hj s
  | .rstdaa => Sys2Proof.Machine.execRstdaa s
  | .entdaa addr => Sys2Proof.Machine.execEntdaa addr s
  | .setdasa static addr => Sys2Proof.Machine.execSetdasa static addr s
  | .setnewda addr => Sys2Proof.Machine.execSetnewda addr s
  | .getpid => Sys2Proof.Machine.execGetpid s
  | .getbcr => Sys2Proof.Machine.execGetbcr s
  | .getdcr => Sys2Proof.Machine.execGetdcr s
  | .getstatus => Sys2Proof.Machine.execGetstatus s
  | .getmwl => Sys2Proof.Machine.execGetmwl s
  | .setmwl len => Sys2Proof.Machine.execSetmwl len s
  | .getmrl => Sys2Proof.Machine.execGetmrl s
  | .getmxds => Sys2Proof.Machine.execGetmxds s
  | .enthdr0 => Sys2Proof.Machine.execEnthdr0 s
  | .hdrExit => Sys2Proof.Machine.execHdrExit s
  | .ibi ack => Sys2Proof.Machine.execIbi ack s
  | .mbToDev i0 word => Sys2Proof.Machine.execMbToDev i0 word s
  | .mbToSpRead i0 => Sys2Proof.Machine.execMbToSpRead i0 s
  | .verbResponse => Sys2Proof.Machine.execVerbResponse s
  | .cmdWindowWrite i0 word => Sys2Proof.Machine.execCmdWindowWrite i0 word s
  | .watchdog core => Sys2Proof.Machine.execWatchdog core s
  | .sidebandPoll slot dev write nacks => Sys2Proof.Machine.execSidebandPoll slot dev write nacks s
  | .sidebandXfer ctrl ack data => Sys2Proof.Machine.execSidebandXfer ctrl ack data s
  | .bsRead addr len guard => Sys2Proof.Machine.execBsRead addr len guard s
  | .bsProgram addr len guard => Sys2Proof.Machine.execBsProgram addr len guard s
  | .bsErase addr guard => Sys2Proof.Machine.execBsErase addr guard s
  | .eraseSlot addr guard => Sys2Proof.Machine.execEraseSlot addr guard s
  | .bsOpDone result => Sys2Proof.Machine.execBsOpDone result s
  | .eventPosting code unit p0 p1 p2 => Sys2Proof.Machine.execEventPosting code unit p0 p1 p2 s
  | .recordWrite => Sys2Proof.Machine.execRecordWrite s
  | .rateWindowClose code => Sys2Proof.Machine.execRateWindowClose code s
  | .repeatFlush => Sys2Proof.Machine.execRepeatFlush s
  | .archiveSegment => Sys2Proof.Machine.execArchiveSegment s
  | .evtCursor seq => Sys2Proof.Machine.execEvtCursor seq s
  | .clear guard => Sys2Proof.Machine.execClear guard s
  | .operatingTimeCopy => Sys2Proof.Machine.execOperatingTimeCopy s
  | .viewSelect addr word => Sys2Proof.Machine.execViewSelect addr word s
  | .bypass => Sys2Proof.Machine.execBypass s
  | .idcode => Sys2Proof.Machine.execIdcode s
  | .samplePreload pins value => Sys2Proof.Machine.execSamplePreload pins value s
  | .extest pins value => Sys2Proof.Machine.execExtest pins value s
  | .testMode value => Sys2Proof.Machine.execTestMode value s
  | .testModeChk value => Sys2Proof.Machine.execTestModeChk value s
  | .quiesceDeadline => Sys2Proof.Machine.execQuiesceDeadline s
  | .flesalUp lanes => Sys2Proof.Machine.execFlesalUp lanes s
  | .scrub daybook n row granule err => Sys2Proof.Machine.execScrub daybook n row granule err s
  | .pauseQuantaExpiry port mask => Sys2Proof.Machine.execPauseQuantaExpiry port mask s
  | .wearCreditRestored => Sys2Proof.Machine.execWearCreditRestored s
  | .temperatureStale n => Sys2Proof.Machine.execTemperatureStale n s

end Sys2Proof.Machine
end

