-- ==== Sys2Proof/WellFormed.lean ====
section
/-!
DEFINITION. Which commands are well formed: every operand lies within the field that carries it, and the operand selects what the row is
about. The meanings do not rest on it; it says what a sender may put on the queue.
-/

namespace Sys2Proof

open Sys2Proof.Machine

/-- A number within a field of so many bits. -/
def fits (bits v : Nat) : Bool := decide (v < 2 ^ bits)

/-- Numbers within fields of so many bits. -/
def allFit (bits : Nat) (l : List Nat) : Bool := l.all (fits bits)

/-- The sender of a verb: the sequence number is 8 bits (R576), a QP index 17 bits (R169). -/
def callerWf : Caller → Bool
  | .sp seq => fits 8 seq
  | .qp index _ => fits 17 index
  | .peer => true

/-- The source of a mode operation (R43). -/
def srcWf : ModeSrc → Bool
  | .reg => true
  | .verb who tag => callerWf who && fits 32 tag

/-- A verb: its caller, its tag, and a body within one window (R224, R226). -/
def verbWf (who : Caller) (tag : Nat) (body : List Byte) : Bool := callerWf who && fits 32 tag && decide (body.length ≤ 4080)

/-- An ESP header (R163). -/
def espWf (e : Esp) : Bool := fits 32 e.spi && fits 64 e.seq

/-- A packet: a port, the fields of BTH, RETH, AtomicETH and AETH, and a payload of one packet (R164, R167). -/
def pktWf (p : Pkt) : Bool :=
  fits 3 p.port && fits 24 p.qpn && fits 8 p.op && fits 24 p.psn && fits 4 p.tver && fits 16 p.pkey && p.esp.all espWf && fits 64 p.va &&
  fits 32 p.rkey && fits 32 p.len && fits 64 p.swap && fits 64 p.cmp && p.imm.all (fits 32) && decide (p.payload.length ≤ 4096) && fits 8 p.synd && fits 6 p.dscp

/-- A packet of one of some opcodes (R172). -/
def pktOf (ops : List Nat) (p : Pkt) : Bool := pktWf p && ops.contains p.op

/-- The fields of an IP and a UDP header (R162). -/
def ipWf (h : IpHdr) : Bool :=
  fits 4 h.ihl && fits 8 h.next && fits 16 h.dport && fits 16 h.udpSum && fits 6 h.dscp && fits 2 h.ecn

/-- What a frame carries (R159 to R162). -/
def kindWf : FrameKind → Bool
  | .arp t => fits 32 t
  | .neighbour t => fits 128 t
  | .echo id => fits 16 id
  | .roce h _ qpn op esp => ipWf h && fits 24 qpn && fits 8 op && esp.all espWf
  | .pause => true
  | .other => true

/-- A frame at a port (R159). -/
def frameWf (f : EthFrame) : Bool := fits 3 f.port && fits 48 f.dst && f.vid.all (fits 12) && fits 16 f.len && kindWf f.kind

/-- A Communication Manager REQ (R165, R200). -/
def cmReqWf (r : CmReq) : Bool :=
  fits 3 r.port && fits 64 r.service && decide (r.host.length = 16) && fits 24 r.qpn && fits 24 r.psn && fits 16 r.mtu && fits 16 r.pkey &&
  fits 6 r.dscp && fits 16 r.pd && fits 64 r.token && fits 32 r.queue

/-- What a check met (R127 to R133): residues of 6 bits, words of 64 bits and fields of at most that. -/
def seenWf : Seen → Bool
  | .word x res => fits 64 x && fits 6 res
  | .line ws res => decide (ws.length = 8) && allFit 64 ws && fits 6 res
  | .arith _ _ n a b result => decide (n ≤ 64) && fits n a && fits n b && fits 64 result
  | .copies _ x y => fits 64 x && fits 64 y
  | .errors n => fits 16 n
  | .report => true

/-- A fault: its unit, one of the kinds of R136, its tick and place. -/
def faultWf (f : FaultOp) : Bool :=
  fits 16 f.unit && fits 8 f.kind && fits 12 f.tick && fits 1 f.sub && f.la.all (fits 40) && f.req.all (fits 64) && seenWf f.seen

/-- A frame of the register window of one CMD (R571): its address and COUNT, and words of 32 bits. -/
def spFrameWf (cmds : List Nat) (f : SpFrame) : Bool :=
  cmds.contains f.cmd && fits 8 f.cmd && fits 32 f.addr && fits 8 f.count && allFit 32 f.data

/-- The pins and straps. -/
def pinsWf (p : Pins) : Bool := fits 2 p.roleStrap && fits 2 p.addrStrap

/-- Training's findings: units and fields of 16 bits. -/
def reportWf (r : TrainReport) : Bool :=
  r.failed.all (fun e => fits 16 e.1) && r.short.all (fun e => fits 16 e.1) && fits 8 r.family && r.exhausted.all (fun e => fits 16 e.1) &&
  r.lanes.all (fun e => fits 16 e.1)

/-- A status record: one of the results of R403, a plane mask and a status byte. -/
def nandResWf (r : NandRes) : Bool := fits 4 r.result && fits 4 r.planes && fits 8 r.status

/-- The header of a Flesal frame (R448). -/
def hdrWf (h : FlHdr) : Bool := fits 32 h.fseq && fits 32 h.ack && fits 16 h.credit

/-- What a forwarded item carries (R454). -/
def bodyWf : ItemBody → Bool
  | .host p => pktWf p
  | .cm r => cmReqWf r
  | .cmMsg what qp => decide (what < 4) && fits 17 qp
  | .verb who bytes => callerWf who && decide (bytes.length ≤ 4096)
  | .move folio kind _ => fits 34 folio && fits 4 kind
  | .requester what object psn => decide (what < 4) && fits 17 object && fits 24 psn
  | .timeout queue => fits 12 queue
  | .impress writes => writes.all fun e => fits 24 e.1 && fits 32 e.2
  | .budget folios => fits 32 folios
  | .revoked region => fits 20 region

/-- A forwarded item (R453, R454). -/
def itemWf (t : TwinItem) : Bool := fits 64 t.onum && fits 64 t.stamp && fits 2 t.cls && bodyWf t.body

/-- A folio of a GROUP frame (R481). -/
def groupFolioWf (g : GroupFolio) : Bool := fits 34 g.folio && decide (g.state < 6) && g.lines.all fun e => decide (e.1 < 64) && fits 512 e.2.1

/-- An arrival at an admission point (R111, R112). -/
def arrivalWf (a : Arrival) : Bool := a.folio.all (fits 34) && a.qpn.all (fits 24) && fits 6 a.dscp

/-- A command is well formed. -/
def Instr.wf : Instr → Bool
  | .nop src guard => srcWf src && fits 8 guard
  | .quiesce src guard => srcWf src && fits 8 guard
  | .resume src guard => srcWf src && fits 8 guard
  | .sanitize src guard => srcWf src && fits 8 guard
  | .handover src guard => srcWf src && fits 8 guard
  | .powerOff src guard => srcWf src && fits 8 guard
  | .soloOverride src guard => srcWf src && fits 8 guard
  | .reload src guard => srcWf src && fits 8 guard
  | .powerUp pins => pinsWf pins
  | .upStepSettled mvs => allFit 64 mvs
  | .railUpTimeout rail mv => fits 4 rail && fits 32 mv
  | .offDuringUp cause => fits 4 cause
  | .downStepDone mvs => allFit 64 mvs
  | .offDwellExpiry pins => pinsWf pins
  | .railFault rail mv => fits 4 rail && fits 32 mv
  | .extFault => true
  | .inputLoss source mv => fits 8 source && fits 32 mv
  | .resetAsserted => true
  | .clearLockout guard => fits 8 guard
  | .measure guard => fits 8 guard
  | .measurePeriodic => true
  | .pulseEnd v0 v1 slope mean mv => fits 32 v0 && fits 32 v1 && fits 32 slope && fits 32 mean && fits 32 mv
  | .energyRecompute mv => fits 32 mv
  | .aonCollapse => true
  | .aonPowerOn => true
  | .vigilCarryDone => true
  | .vigilImageWritten => true
  | .vigilReserve mv => fits 32 mv
  | .vigilSealed => true
  | .vigilDone => true
  | .thermtrip sensor => fits 5 sensor
  | .thermtripRelease => true
  | .sensorSample readings => decide (readings.length ≤ 25)
  | .govPeriod pEst => fits 32 pEst
  | .powerSecond => true
  | .refLoss _ _ => true
  | .pllUnlock => true
  | .lockFail domain _ => fits 5 domain
  | .xtalFail => true
  | .formePass1Done err => err.all (fits 32)
  | .formePass2Done err _ => err.all (fits 32)
  | .svnCommit guard => fits 8 guard
  | .keyRevoke index guard => fits 2 index && fits 8 guard
  | .impressTrigger src => srcWf src
  | .impressCommit => true
  | .discard => true
  | .livePairWrite addr word => fits 24 addr && fits 32 word && livePair addr
  | .registerWrite addr word => fits 24 addr && fits 32 word && decide (addr % 4 = 0)
  | .cycleBoundary => true
  | .admitArrival point a _ => fits 6 point && arrivalWf a
  | .sample point tick => fits 6 point && fits 12 tick
  | .faultDetected f => faultWf f
  | .slotReplay stamp tick _ => fits 64 stamp && fits 12 tick
  | .pageSwitch => true
  | .faultWindowStart log2 => fits 5 log2
  | .integClear unit guard => fits 16 unit && fits 8 guard
  | .integQuery unit => fits 16 unit
  | .inject f => faultWf f
  | .frameReceived f => frameWf f
  | .arpRequest port target => fits 3 port && fits 128 target
  | .neighbourSolicitation port target => fits 3 port && fits 128 target
  | .echoRequest port id => fits 3 port && fits 16 id
  | .pauseFrame port mask => fits 3 port && fits 8 mask
  | .linkDown port locked => fits 3 port && fits 8 locked
  | .linkUp port => fits 3 port
  | .cmReq r => cmReqWf r
  | .cmRtu qp => fits 17 qp
  | .cmDreq qp => fits 17 qp
  | .qpResetTimeout qp => fits 17 qp
  | .qpErrorDreq qp => fits 17 qp
  | .send p => pktWf p && (opKind p.op == .send)
  | .rdmaWrite p => pktWf p && (opKind p.op == .write)
  | .rdmaReadRequest p => pktWf p && (opKind p.op == .read)
  | .cmpSwap p => pktWf p && (opKind p.op == .cmpSwap)
  | .fetchAdd p => pktWf p && (opKind p.op == .fetchAdd)
  | .rdmaFlush p => pktWf p && (opKind p.op == .flush)
  | .atomicWrite p => pktWf p && (opKind p.op == .atomicWrite)
  | .acknowledge p ns => pktWf p && (p.op == 0x11) && fits 32 ns
  | .cnp p => pktWf p && (opKind p.op == .cnp)
  | .invalidOpcode p => pktWf p
  | .ackTimer qp => fits 17 qp
  | .requesterTimeout qp => fits 17 qp
  | .rnrTimer qp => fits 17 qp
  | .probe qp => fits 17 qp
  | .pdCreate who tag body => verbWf who tag body
  | .pdDestroy who tag body => verbWf who tag body
  | .pdSetCaps who tag body => verbWf who tag body
  | .regCreate who tag body => verbWf who tag body
  | .logCreate who tag body => verbWf who tag body
  | .regRevoke who tag body => verbWf who tag body
  | .regionRevoked region => fits 20 region
  | .revokeForced region => fits 20 region
  | .regQuery who tag body => verbWf who tag body
  | .zoneReset who tag body => verbWf who tag body
  | .zoneQuery who tag body => verbWf who tag body
  | .kdAssign who tag body => verbWf who tag body
  | .saInstall who tag body => verbWf who tag body
  | .qpTeardown who tag body => verbWf who tag body
  | .dqCreate who tag body => verbWf who tag body
  | .dqDestroy who tag body => verbWf who tag body
  | .dqReset who tag body => verbWf who tag body
  | .dqQuery who tag body => verbWf who tag body
  | .descNop queue => fits 12 queue
  | .descCopy queue lines => fits 12 queue && fits 32 lines
  | .descPush queue => fits 12 queue
  | .descFlush queue => fits 12 queue
  | .descDiscard queue => fits 12 queue
  | .descWait queue => fits 12 queue
  | .completionAdvance queue => fits 12 queue
  | .waitTimeout queue => fits 12 queue
  | .dqRestart => true
  | .standbyReport h onum => hdrWf h && fits 64 onum
  | .galleyWaitPlace => true
  | .drain bank => fits 8 bank
  | .drainDone la => fits 40 la
  | .drainFail la => fits 40 la
  | .lineFill la => fits 40 la
  | .lcInvalidate _ guard => fits 8 guard
  | .moveStart folio kind _ => fits 34 folio && fits 4 kind
  | .moveCommit folio => fits 34 folio
  | .moveFailed folio unit => fits 34 folio && fits 16 unit
  | .mapPageLoad n => fits 32 n
  | .parityAlert station lost refreshes commands _ => fits 6 station && allFit 64 lost && fits 16 refreshes && fits 16 commands
  | .replayEntry station => fits 6 station
  | .dramUeReread unit bank row _ => fits 16 unit && fits 10 bank && fits 32 row
  | .memTempRead n temp => fits 5 n && fits 16 temp
  | .trainRun n sub _ => fits 5 n && fits 3 sub
  | .slotCommit home => fits 33 home
  | .padTimeout band => fits 20 band
  | .programRefused lun => fits 10 lun
  | .programFail lun planes => fits 10 lun && fits 4 planes
  | .eraseFail lun planes => fits 10 lun && fits 4 planes
  | .stripeRebuild home _ => fits 33 home
  | .lunFailed lun => fits 10 lun
  | .gcStart => true
  | .relocationCommit home => fits 33 home
  | .bandRefresh band => fits 20 band
  | .wearCreditEmpty => true
  | .tableCheckpoint => true
  | .purge => true
  | .purgeComplete => true
  | .nandStatus lun r => fits 10 lun && nandResWf r
  | .statusTimeout lun => fits 10 lun
  | .suspend home cls => fits 33 home && fits 2 cls
  | .resumeOperation lun => fits 10 lun
  | .starved lun => fits 10 lun
  | .contRead home pages _ => fits 33 home && fits 16 pages
  | .readRetry home step weight zeros bits _ => fits 33 home && fits 7 step && fits 32 weight && fits 32 zeros && fits 32 bits
  | .readRaw ch guard => fits 5 ch && fits 8 guard
  | .readDecoded ch guard => fits 5 ch && fits 8 guard
  | .programRaw ch guard => fits 5 ch && fits 8 guard
  | .rawErase ch guard => fits 5 ch && fits 8 guard
  | .rawReadId ch guard => fits 5 ch && fits 8 guard
  | .getFeature ch guard => fits 5 ch && fits 8 guard
  | .eraseCheck ch guard => fits 5 ch && fits 8 guard
  | .daybookUe bank row granule => fits 8 bank && fits 32 row && fits 32 granule
  | .rowRemap bank row n => fits 8 bank && fits 32 row && fits 32 n
  | .journalWait cls => fits 2 cls
  | .intentBatch => true
  | .ledgerWrite => true
  | .trainingComplete r => reportWf r
  | .recoveryComplete => true
  | .state h _ => hdrWf h
  | .item h t => hdrWf h && itemWf t
  | .cycle h cyclev => hdrWf h && fits 52 cyclev
  | .digest h window kind digestv => hdrWf h && fits 52 window && fits 4 kind && fits 64 digestv
  | .verdict h window kind _ => hdrWf h && fits 52 window && fits 4 kind
  | .verdictTimeout => true
  | .fault h => hdrWf h
  | .handoverFrame h final => hdrWf h && fits 64 final
  | .handoverAck h => hdrWf h
  | .resync h phase _ pass groups => hdrWf h && fits 3 phase && fits 32 pass && allFit 64 groups
  | .group h groupv folios => hdrWf h && fits 32 groupv && folios.all groupFolioWf
  | .tables h _ => hdrWf h
  | .mailbox h what i word => hdrWf h && fits 1 what && fits 4 i && fits 32 word
  | .budget h folios => hdrWf h && fits 32 folios
  | .idle h => hdrWf h
  | .flesalBadFrame why lane type fseq => fits 2 why && fits 3 lane && fits 8 type && fits 32 fseq
  | .flesalRetransmit => true
  | .flesalLost => true
  | .flesalRtt ns => fits 32 ns
  | .leaseRequest => true
  | .submit guard => fits 8 guard
  | .deny guard => fits 8 guard
  | .leaseExpired => true
  | .switchover => true
  | .switchoverAnnounceRepeat => true
  | .resyncPhase n => fits 3 n
  | .resyncDone => true
  | .resyncAbandoned => true
  | .egressHour => true
  | .twinMbOut i word => fits 4 i && fits 32 word
  | .twinDbOut bits => fits 32 bits
  | .twinMbInRead i => fits 4 i
  | .katFail core mode => fits 6 core && fits 8 mode
  | .entropyHealthFail test => decide (test = 1 ∨ test = 2)
  | .entropyRetest _ => true
  | .maskDegrade => true
  | .usageThreshold slot blocks => fits 13 slot && fits 64 blocks
  | .forcedRekey domain => fits 13 domain
  | .rekeyScanDone domain => fits 13 domain
  | .keyGenerate who tag body => verbWf who tag body
  | .keyImport who tag body => verbWf who tag body
  | .keyDestroy who tag body => verbWf who tag body
  | .keyQuery who tag body => verbWf who tag body
  | .kdKey who tag body => verbWf who tag body
  | .kdRekey who tag body => verbWf who tag body
  | .kdDestroy who tag body => verbWf who tag body
  | .kdQuery who tag body => verbWf who tag body
  | .write f => spFrameWf [1] f
  | .read f => spFrameWf [2] f
  | .writeBurst f => spFrameWf [3] f
  | .privateRead => true
  | .enec _ _ => true
  | .disec _ _ => true
  | .rstdaa => true
  | .entdaa addr => fits 7 addr
  | .setdasa static addr => fits 7 static && fits 7 addr
  | .setnewda addr => fits 7 addr
  | .getpid => true
  | .getbcr => true
  | .getdcr => true
  | .getstatus => true
  | .getmwl => true
  | .setmwl len => fits 16 len
  | .getmrl => true
  | .getmxds => true
  | .enthdr0 => true
  | .hdrExit => true
  | .ibi _ => true
  | .mbToDev i word => fits 4 i && fits 32 word
  | .mbToSpRead i => fits 4 i
  | .verbResponse => true
  | .cmdWindowWrite i word => fits 10 i && fits 32 word
  | .watchdog core => fits 6 core
  | .sidebandPoll slot dev _ nacks => fits 4 slot && fits 7 dev && fits 8 nacks
  | .sidebandXfer ctrl _ data => fits 32 ctrl && decide (data.length ≤ 8)
  | .bsRead addr len guard => fits 32 addr && fits 32 len && fits 8 guard
  | .bsProgram addr len guard => fits 32 addr && fits 32 len && fits 8 guard
  | .bsErase addr guard => fits 32 addr && fits 8 guard
  | .eraseSlot addr guard => fits 32 addr && fits 8 guard
  | .bsOpDone result => fits 8 result
  | .eventPosting code unit p0 p1 p2 => fits 16 code && fits 16 unit && fits 32 p0 && fits 32 p1 && fits 32 p2
  | .recordWrite => true
  | .rateWindowClose code => fits 16 code
  | .repeatFlush => true
  | .archiveSegment => true
  | .evtCursor seq => fits 32 seq
  | .clear guard => fits 8 guard
  | .operatingTimeCopy => true
  | .viewSelect addr word => fits 24 addr && fits 32 word && (readyOf addr).isSome
  | .bypass => true
  | .idcode => true
  | .samplePreload pins value => fits 4096 pins && fits 4096 value
  | .extest pins value => fits 4096 pins && fits 4096 value
  | .testMode value => fits 32 value
  | .testModeChk value => fits 32 value
  | .quiesceDeadline => true
  | .flesalUp lanes => fits 8 lanes
  | .scrub _ n row granule err => fits 5 n && fits 32 row && fits 32 granule && err.all faultWf
  | .pauseQuantaExpiry port mask => fits 3 port && fits 8 mask
  | .wearCreditRestored => true
  | .temperatureStale n => fits 5 n

end Sys2Proof
end

