-- ==== Sys2Proof/Safety.lean ====
section
/-!
DEFINITION. What the statements are made of: what a command's outcome holds, what it leaves alone, and the invariants that every step
keeps.
-/

namespace Sys2Proof.Machine

open Sys2Proof

/-- A command answers a next state of which something holds; the queue is as it was, and the test access port follows the device as R630
and R632 say, from the port the command left. -/
def Answers (i : Instr) (w : State) (P : Dev → Prop) : Prop :=
  ∃ t, exec i w = .next t ∧ t.pending = w.pending ∧ t.tap = w.tap.after w.dev t.dev ∧ P t.dev

/-- Doorbell bits have reached `DB_TO_SP`, or are held there until SWITCHOVER ends (R577, R579). -/
def Dev.rung (s : Dev) (bits : Nat) : Prop := (s.get .DB_TO_SP_BITS ||| s.sp.dbHeld) &&& bits = bits

/-- Two devices agree in every register field but some: the active and the shadow copies. -/
def Dev.sameFields (s t : Dev) (but : List Fld) : Prop :=
  (∀ f : Fld, (∀ g ∈ but, f.key ≠ g.key) → t.get f = s.get f) ∧ ∀ f : Fld, t.shadow f = s.shadow f

/-- A device is another but for its register fields and for what a doorbell leaves in the service-processor interface. -/
def Dev.rest (t d : Dev) : Prop :=
  t = { d with regs := t.regs, sp := { d.sp with dbHeld := t.sp.dbHeld, ibiPending := t.sp.ibiPending } }

/-- A counter after one more, staying at the greatest value it holds. -/
def Dev.counted (s : Dev) (f : Fld) : Nat := min (s.get f + 1) (2 ^ f.width - 1)

/-- What a command leaves: fields at their values; every other field as it was, but for `DB_TO_SP`, whose bits stay set and which the
interrupt summary may ring (R617); and every part of the device beside the registers as in `d`. -/
def Leaves (i : Instr) (w : State) (flds : List (Fld × Nat)) (d : Dev) : Prop :=
  Answers i w fun t =>
    (∀ e ∈ flds, t.get e.1 = e.2) ∧ w.dev.sameFields t (.DB_TO_SP_BITS :: flds.map (·.1)) ∧
    t.get .DB_TO_SP_BITS &&& w.dev.get .DB_TO_SP_BITS = w.dev.get .DB_TO_SP_BITS ∧ t.rest d

/-- The same with doorbell bits that ring (R577). -/
def LeavesRung (i : Instr) (w : State) (flds : List (Fld × Nat)) (d : Dev) (bits : Nat) : Prop :=
  Leaves i w flds d ∧ Answers i w fun t => t.rung bits

/-- A command makes a device of the one it found, on which the interrupt summary may then ring (R617): for rows whose effect is several
operations of the manual in turn. -/
def Makes (i : Instr) (w : State) (d : Dev) : Prop := Answers i w fun t => t = d.summaryRing w.dev.intPending

/-- An instruction of the test access port leaves the port's registers and makes a device of the one it found, on which the interrupt
summary may then ring (R617). -/
def Taps (i : Instr) (w : State) (g : TapSt) (d : Dev) : Prop := exec i w = .next { w with tap := g, dev := d.summaryRing w.dev.intPending }

/-- The device as a packet takes its turn, at its stamp (R24, R98, R112). -/
def Dev.turn (s : Dev) (p : Pkt) : Dev := s.admitted (s.packetPoint p.port p.qpn p.dscp) (fun r => r.qpn == some p.qpn)

/-- A request packet has reached a QP that executes it now and passed R164 and the ESP checks of R163. -/
def Dev.reached (s : Dev) (i : Nat) (q : Qp) (p : Pkt) : Bool :=
  s.net.qpOf p.qpn == some (i, q) && (s.turn p).executes q false && Dev.packetOk q p && p.icrc && q.espBad p == none

/-- The same of a packet without ESP on a QP in RTS without an SA and with its class fixed, whose transport engine stands, on a node that does not
forward (R112, R163, R168). -/
def Dev.plain (s : Dev) (i : Nat) (q : Qp) (p : Pkt) : Bool :=
  s.reached i q p && q.sa.isNone && p.esp.isNone && !s.forwards && q.state == 3 && q.fixed && !s.engineLost p.qpn

/-- A plain packet is the request that its QP expects next and may execute (R172, R174, R177). -/
def Dev.isNext (s : Dev) (i : Nat) (q : Qp) (p : Pkt) : Bool :=
  s.plain i q p && psnSub p.psn q.epsn == 0 && opAllowed p.op q.kind && !q.badRequest p

/-- A QP that may send has nothing waiting to leave and nothing acknowledged beyond the expected PSN, and no output window closes (R185, R461). -/
def Dev.quiet (s : Dev) (q : Qp) : Bool :=
  s.maySend q && !s.silent && q.resps.isEmpty && q.reqs.isEmpty && !q.ackDue && q.reAck.isNone && q.sa.isNone && s.gal.waiting.isEmpty &&
    s.twin.oseq % 4096 != 4095 && psnLe q.lastAck q.epsn && psnLe q.ackable q.epsn

/-- The SP has submitted a verb of the right length, no mailbox word waits, the mode executes verbs and the node does not forward (R228, R575,
R576). -/
def Dev.holdsVerb (s : Dev) (seq op tag : Nat) (body : List Byte) : Bool :=
  s.get .MB_FLAGS_TO_DEV_FULL == 0 && s.verbHeld (.sp seq) (verbRequest op tag body) && s.inMode [mSOLO, mQUIESCED] && !s.forwards &&
    verbLength op == some body.length

/-- The device once that verb has begun. -/
def Dev.tookVerb (s : Dev) (seq op tag : Nat) (body : List Byte) : Dev := s.verbTake (.sp seq) (verbRequest op tag body)

/-- What an SP's verb does, once begun, as a C3 request of point 34 (R15, R16, R227). -/
def Dev.atVerb (s : Dev) (seq op tag : Nat) (body : List Byte) (f : Dev → Dev) : Dev := s.atManagement fun t => f (t.tookVerb seq op tag body)

/-- Answers are written at once: none waits, every change is journaled (R208, R228, R233). -/
def Dev.answersGo (s : Dev) : Bool := s.rgn.answers.isEmpty && s.journalClear

/-- That verb as it executes. -/
def spCall (seq op tag : Nat) (body : List Byte) : Call := { who := .sp seq, op := op, tag := tag, body := body, onum := 0 }

/-- The device as an internal request of a queue takes its turn, at the point of the queue's class on its port (R253). -/
def Dev.queueTurn (s : Dev) (n : Nat) (q : DevQ) : Dev := s.admitted (s.queuePoint q) (fun r => r.qpn.isNone && r.id == n)

/-- A queue with a descriptor to execute has its turn, on a node that neither follows nor forwards (R252, R253, R254, R258). -/
def Dev.queueServed (s : Dev) (n : Nat) (q : DevQ) : Bool :=
  s.queue n == some q && (s.queueTurn n q).queueReady q && !s.queueStalls n q && !s.follower && !s.forwards

/-- A descriptor as it starts. -/
def Dev.descStart (s : Dev) (q : DevQ) (b : List Byte) : DescRun :=
  { index := q.completed, bytes := b, start := s.stamp, done := 0, regions := [], last := s.stamp, ended := false, onum := 0 }

/-- A Flesal frame is the next in order, and Flesal carries its type now (R450, R452, R463). -/
def Dev.inTurn (s : Dev) (h : FlHdr) (type : FlType) : Bool := s.bit .TWIN_STATUS_LINK_UP && h.fseq == s.twin.recv && s.carries type

/-- The device once a frame in order is counted: its ACK has released kept frames, its credits are added and the items that waited for them
leave (R450, R110). -/
def Dev.afterFrame (s : Dev) (h : FlHdr) : Dev :=
  let acked := if h.ack < s.twin.fseq then max s.twin.acked (h.ack + 1) else s.twin.acked
  (s.modTwin fun w =>
    { w with recv := w.recv + 1, acked := acked, kept := w.kept.drop (w.kept.length - (w.fseq - acked)), credit := w.credit + h.credit }).sendItems

/-- The port's outputs and the agreement of its pair (R630, R632): what every step keeps. -/
def State.portSafe (w : State) : Prop :=
  (w.tap.driving = true → w.boundaryOn = true) ∧ (w.dev.vddIo = false → w.tap = TapSt.reset)

end Sys2Proof.Machine
end

