-- ==== Sys2Proof/Certificates/Slice0/Obligations.lean ====
section
/-!
DEFINITION. The statements for the provers, by chapter of the manual. Each clause says under which state and operands a command completes,
and with which effect; `Leaves` also says what it leaves alone.
-/

open Sys2Proof Sys2Proof.Machine

/-! ### Operating modes (02_operating_modes.md) and the Forme (03_forme.md) -/

/-- The mode operations of `MODE_CMD` in their guarded form (02_operating_modes.md R43, R46): while CAL runs and nothing is in transition, each begins the
transition of its row toward its mode, NOP only records itself, HANDOVER marks the handover, and RELOAD starts a load. A mode operation is refused
with GUARD where its guard is not 0x5A, with BUSY during a transition, else with LOCKED in SANITIZING and on a fenced node, and QUIESCE with TWIN on
an active node (R43, R44, R49, R55). A write of `MODE_CMD` is a request of admission point 34 (R572); the refusal is recorded, logged as 0xE010 and rings doorbell 3 where REFUSED was 0.
The MODE_OP verb of the SP needs no guard (R43) and answers OK, or MODE where the operation is refused. Other reasons, and an operation that a
higher trigger beats before its boundary, are no part of this statement.
These forms are shown to answer a next state with their own effect, under conditions on the state and the operands alone: nop, quiesce, resume,
sanitize, handover, powerOff, soloOverride, reload. -/
def Obligations.ModeOperationsBeginTheirTransitionsOrAreRefused : Prop :=
  (∀ w, w.dev.reaches 0x28 = true → w.dev.calRuns = true →
    Leaves (.nop .reg 0x5A) w [(.MODE_RESULT_LAST_OP, 0)] (w.dev.atManagement id)) ∧
  (∀ w c op row target from_, (c, op, row, target, from_) ∈
      [(Instr.quiesce .reg 0x5A, 1, 18, mQUIESCED, [mSOLO, mSTANDBY, mRESYNC]), (.resume .reg 0x5A, 2, 19, mRECOVERING, [mQUIESCED]),
       (.sanitize .reg 0x5A, 3, 20, mSANITIZING, [mQUIESCED])] →
    w.dev.pwr.on = true → w.dev.calRuns = true → w.dev.mode.due = none → w.dev.bit .MODE_STATE_TRANSIT = false →
    w.dev.bit .TWIN_STATUS_FENCED = false → w.dev.inMode from_ = true →
    Leaves c w [(.MODE_RESULT_LAST_OP, op), (.MODE_STATE_TRANSIT, 1), (.MODE_STATE_TARGET, target)]
      (w.dev.atManagement fun s => { s with mode := { s.mode with due := some ⟨row, target, 5, 7, 0⟩ } })) ∧
  (∀ w, w.dev.pwr.on = true → w.dev.calRuns = true → w.dev.mode.due = none → w.dev.bit .MODE_STATE_TRANSIT = false →
    w.dev.bit .TWIN_STATUS_FENCED = false → w.dev.modeOf = mRECOVERING → w.dev.bit .MODE_STATE_WAIT_TWIN = true →
    Leaves (.soloOverride .reg 0x5A) w [(.MODE_RESULT_LAST_OP, 6), (.MODE_STATE_TRANSIT, 1), (.MODE_STATE_TARGET, mSOLO)]
      (w.dev.atManagement fun s => { s with mode := { s.mode with due := some ⟨5, mSOLO, 5, 7, 0⟩ } })) ∧
  (∀ w, w.dev.pwr.on = true → w.dev.calRuns = true → w.dev.mode.due = none → w.dev.inMode [mDORMANT, mHOLDUP] = false →
    Leaves (.powerOff .reg 0x5A) w [(.MODE_RESULT_LAST_OP, 5), (.MODE_STATE_TRANSIT, 1), (.MODE_STATE_TARGET, mHOLDUP)]
      (w.dev.atManagement fun s => { s with mode := { s.mode with due := some ⟨22, mHOLDUP, 5, 4, 0⟩ } })) ∧
  (∀ w, w.dev.pwr.on = true → w.dev.calRuns = true → w.dev.bit .MODE_STATE_TRANSIT = false → w.dev.bit .TWIN_STATUS_FENCED = false →
    w.dev.modeOf = mACTIVE → w.dev.twin.handover = none →
    Leaves (.handover .reg 0x5A) w [(.MODE_RESULT_LAST_OP, 4)]
      (w.dev.atManagement fun s => { s with twin := { s.twin with handover := some none } })) ∧
  (∀ w, w.dev.pwr.on = true → w.dev.mode.due = none → w.dev.bit .MODE_STATE_TRANSIT = false → w.dev.bit .TWIN_STATUS_FENCED = false →
    w.dev.modeOf = mCONFIGURING → w.dev.forme.load = none → w.dev.forme.run = none → w.dev.forme.storeGood = true →
    Leaves (.reload .reg 0x5A) w [(.MODE_RESULT_LAST_OP, 7)]
      (w.dev.atManagement fun s => { s with forme := { s.forme with load := some ⟨
          if w.dev.get .FORME_CTRL_NEXT_SLOT = 1 ∨ w.dev.get .FORME_CTRL_NEXT_SLOT = 2 then w.dev.get .FORME_CTRL_NEXT_SLOT
          else if w.dev.pwr.straps.bootSel then 2 else 1, 1, true, 0⟩ } })) ∧
  (∀ w c op reason, w.dev.reaches 0x28 = true → w.dev.bit .MODE_RESULT_REFUSED = false →
    (((c, op) ∈ [(Instr.nop .reg 0, 0), (.quiesce .reg 0, 1), (.resume .reg 0, 2), (.sanitize .reg 0, 3), (.handover .reg 0, 4),
        (.powerOff .reg 0, 5), (.soloOverride .reg 0, 6), (.reload .reg 0, 7)] ∧ reason = 3) ∨
     ((c, op) ∈ [(Instr.quiesce .reg 0x5A, 1), (.resume .reg 0x5A, 2), (.sanitize .reg 0x5A, 3), (.handover .reg 0x5A, 4),
        (.soloOverride .reg 0x5A, 6), (.reload .reg 0x5A, 7)] ∧ reason = 5 ∧ w.dev.bit .MODE_STATE_TRANSIT = false ∧
        (w.dev.modeOf = mSANITIZING ∨ w.dev.bit .TWIN_STATUS_FENCED = true)) ∨
     ((c, op) ∈ [(Instr.quiesce .reg 0x5A, 1), (.resume .reg 0x5A, 2), (.sanitize .reg 0x5A, 3), (.handover .reg 0x5A, 4),
        (.soloOverride .reg 0x5A, 6), (.reload .reg 0x5A, 7)] ∧ reason = 1 ∧ w.dev.bit .MODE_STATE_TRANSIT = true) ∨
     (c = .quiesce .reg 0x5A ∧ op = 1 ∧ reason = 4 ∧ w.dev.modeOf = mACTIVE ∧ w.dev.bit .MODE_STATE_TRANSIT = false ∧
        w.dev.bit .TWIN_STATUS_FENCED = false)) →
    LeavesRung c w [(.MODE_RESULT_REFUSED, 1), (.MODE_RESULT_REASON, reason), (.MODE_RESULT_LAST_OP, op)]
      (w.dev.atManagement fun s => s.post 0xE010 0 op reason s.modeOf) 8) ∧
  (∀ w c op seq tag guard, let by_ : ModeSrc := .verb (.sp seq) tag
    (c, op) ∈ [(Instr.nop by_ guard, 0), (.quiesce by_ guard, 1), (.resume by_ guard, 2), (.sanitize by_ guard, 3), (.handover by_ guard, 4),
      (.powerOff by_ guard, 5), (.soloOverride by_ guard, 6), (.reload by_ guard, 7)] →
    w.dev.holdsVerb seq 0x50 tag (leBytes 4 op) = true →
    Makes c w (w.dev.atVerb seq 0x50 tag (leBytes 4 op) fun d =>
      let call := spCall seq 0x50 tag (leBytes 4 op)
      match d.opRefusal op with
      | none => ((d.set .MODE_RESULT_LAST_OP op).opStart op 5).takeNow.verbOk call []
      | some r => (d.refuseOp op r).verbNo call 12 0))

/-- The completions of the device's own work (R46, R52, R78, R81, R121, R392): a first pass that meets no bad check asks for the
second, with the hash of what it read; a second whose bytes differ is refused with CHANGED, and one that meets no bad check accepts the slot (the
runtime starts, and where CAL is stopped TRAINING is entered at once); a bad check or a read error refuses the slot with its place, and the other is tried; training, recovery and a finished purge begin their rows; 50 ms
after QUIESCE the wait for open requests ends, and those that were stamped and not yet executed with it.
These forms are shown to answer a next state with their own effect, under conditions on the state and the operands alone: formePass1Done,
formePass2Done, purgeComplete, trainingComplete, recoveryComplete, quiesceDeadline. -/
def Obligations.OwnCompletionsBeginTheirRows : Prop :=
  (∀ w l, w.dev.mode.due = none → w.dev.forme.load = some l → l.pass = 1 →
    let bad := firstBadCheck (w.dev.forme.headerChecks l.slot) <|> firstBadCheck (w.dev.forme.directoryChecks l.slot) <|>
      firstBadCheck (w.dev.signatureChecks l.slot)
    Makes (.formePass1Done none) w (match bad with
      | none => { w.dev with forme := { w.dev.forme with load := some { l with pass := 2, hash := w.dev.forme.signedHash l.slot } } }
      | some r => w.dev.refuseSlot l r.1 r.2)) ∧
  (∀ w l e, w.dev.mode.due = none → w.dev.forme.load = some l → l.pass = 2 → l.other = true → l.slot = 1 → e < 2 ^ 32 →
    Leaves (.formePass2Done (some e) false) w
      [(.FORME_STATUS_A_REFUSED, 1), (.FORME_STATUS_A_REASON, rREAD), (.FORME_DETAIL_A_DETAIL, e)]
      (Dev.post { w.dev with forme := { w.dev.forme with load := some ⟨2, 1, false, 0⟩ } } 0x3001 0 0 rREAD e)) ∧
  (∀ w l changed, w.dev.mode.due = none → w.dev.forme.load = some l → l.pass = 2 → l.other = true → l.slot = 1 →
    changed = true ∨ w.dev.forme.signedHash 1 ≠ l.hash →
    Leaves (.formePass2Done none changed) w
      [(.FORME_STATUS_A_REFUSED, 1), (.FORME_STATUS_A_REASON, rCHANGED), (.FORME_DETAIL_A_DETAIL, 0)]
      (Dev.post { w.dev with forme := { w.dev.forme with load := some ⟨2, 1, false, 0⟩ } } 0x3001 0 0 rCHANGED 0)) ∧
  (∀ w l, w.dev.forme.load = some l → l.pass = 2 → w.dev.forme.signedHash l.slot = l.hash →
    Makes (.formePass2Done none false) w (Dev.takeNow (match w.dev.forme.pass2 l.slot with
      | none => w.dev.acceptSlot l
      | some r => w.dev.refuseSlot l r.1 r.2))) ∧
  (∀ w r f, w.dev.modeOf = mTRAINING → w.dev.forme.run = some f →
    let v := ((((((w.dev.repairRows r.exhausted [] w.dev.mem.rows).repairLanes r.lanes).failHeld f).failUnits r).layOut f).trainFlash f r.family).selectPage
    Makes (.trainingComplete r) w
      (Dev.trigger v.1 (if v.2 = true ∧ v.1.capacityOk = true then ⟨3, mRECOVERING, 2, 6, 0⟩ else ⟨4, mQUIESCED, 10, 6, 0⟩))) ∧
  (∀ w r, w.dev.modeOf = mTRAINING → w.dev.forme.run.isSome = true → w.dev.mode.due = none → w.dev.calRuns = true →
    Answers (.trainingComplete r) w fun t => t.get .MODE_STATE_TRANSIT = 1 ∧
      (t.get .MODE_STATE_TARGET = mRECOVERING ∨ t.get .MODE_STATE_TARGET = mQUIESCED)) ∧
  (∀ w, w.dev.modeOf = mRECOVERING → w.dev.mode.due = none → w.dev.bit .MODE_STATE_WAIT_TWIN = false → w.dev.twinFitted = false →
    Leaves .recoveryComplete w [(.MODE_STATE_TRANSIT, 1), (.MODE_STATE_TARGET, mSOLO)]
      { w.dev with mode := { w.dev.mode with due := some ⟨5, mSOLO, 3, 6, 0⟩ } }) ∧
  (∀ w p, w.dev.modeOf = mSANITIZING → w.dev.fm.purge = some p → p.left = [] → p.zeroing = false → p.domain = none →
    Makes .purgeComplete w ((w.dev.sanitized p).trigger ⟨21, mQUIESCED, 11, 6, 0⟩) ∧ (w.dev.sanitized p).mode.sanitizeOpen = false) ∧
  (∀ w, w.dev.mode.quiescing = true → w.dev.net.qps = [] →
    Leaves .quiesceDeadline w [] { w.dev with mode := { w.dev.mode with quiescing := false }, cal := w.dev.cal.endOpen }) ∧
  (∀ w, w.dev.mode.quiescing = true →
    Answers .quiesceDeadline w fun t => t.mode.quiescing = false ∧ t.cal.openStamps = [])

/-- The Forme's one-time operations (R84, R85): SVN_COMMIT raises FUSED to RUNNING and KEY_REVOKE sets a revocation bit, each with its event whose
parameters are open; a wrong guard, a revocation of the signing key or one that would revoke the last does nothing. Impress (R87, R88, R90, R93): a
trigger is due at the next boundary, or refused with MODE in HOLDUP_SAVE and SANITIZING and with FOLLOWER on a node that follows; a commit with
nothing pending marks DONE, and one whose pending fields are legal gives every shadowed field its shadow value; the IMPRESS verb triggers as the register does and answers OK; DISCARD gives every shadowed field its active value.
These forms are shown to answer a next state with their own effect, under conditions on the state and the operands alone: svnCommit, keyRevoke,
impressTrigger, impressCommit, discard. -/
def Obligations.CommitsRevocationsAndImpressChangeOnlyTheirOwn : Prop :=
  (∀ w, w.dev.reaches 0x50010 = true → w.dev.inMode [mSOLO, mACTIVE, mSTANDBY, mQUIESCED] = true → w.dev.forme.run.isSome = true →
    w.dev.get .FORME_SVN_FUSED < w.dev.get .FORME_SVN_RUNNING →
    Leaves (.svnCommit 0xA5) w [(.FORME_SVN_FUSED, w.dev.get .FORME_SVN_RUNNING)] (w.dev.atManagement (·.postOpen 0x3003 0 []))) ∧
  (∀ w guard, guard ≠ 0xA5 ∨ w.dev.get .FORME_SVN_RUNNING ≤ w.dev.get .FORME_SVN_FUSED →
    Leaves (.svnCommit guard) w [] (w.dev.regRow 0x50010 id)) ∧
  (∀ w index, w.dev.reaches 0x50010 = true → index < 4 → (w.dev.forme.run.map fun f => f.keyIndex) ≠ some index →
    setBit (w.dev.get .FORME_SVN_REVOKED) index ≠ 0xF →
    Leaves (.keyRevoke index 0xA5) w [(.FORME_SVN_REVOKED, setBit (w.dev.get .FORME_SVN_REVOKED) index)]
      (w.dev.atManagement (·.postOpen 0x3004 0 []))) ∧
  (∀ w index guard, guard ≠ 0xA5 ∨ (w.dev.forme.run.map fun f => f.keyIndex) = some index ∨
    setBit (w.dev.get .FORME_SVN_REVOKED) index = 0xF → Leaves (.keyRevoke index guard) w [] (w.dev.regRow 0x50010 id)) ∧
  (∀ w, w.dev.reaches 0x50100 = true → w.dev.inMode [mHOLDUP, mSANITIZING, mSTANDBY, mRESYNC] = false →
    Leaves (.impressTrigger .reg) w [(.CAL_CTRL_IMPRESS, 1)]
      (w.dev.atManagement fun s => { s with cal := { s.cal with
        impress := true, impressWaits := w.dev.bit .MODE_STATE_TRANSIT && (!w.dev.cal.impress || w.dev.cal.impressWaits) } })) ∧
  (∀ w, w.dev.pwr.on = true → w.dev.follower = true →
    Leaves (.impressTrigger .reg) w [(.IMPRESS_STATUS_REFUSED, 1), (.IMPRESS_STATUS_REASON, 4), (.CAL_CTRL_IMPRESS, 0)]
      (w.dev.atManagement fun s => Dev.postOpen { s with cal := { s.cal with impress := false, impressWaits := false } } 0x3011 0 [])) ∧
  (∀ w, w.dev.cal.impress = true → w.dev.cal.impressWaits = false → w.dev.inMode [mHOLDUP, mSANITIZING, mACTIVE] = false →
    w.dev.pendingFields = [] →
    Leaves .impressCommit w [(.IMPRESS_STATUS_DONE, 1), (.CAL_CTRL_IMPRESS, 0)]
      (Dev.postOpen { w.dev with cal := { w.dev.cal with impress := false, impressWaits := false, written := [] } } 0x3010 0 [w.dev.commitCycle])) ∧
  (∀ w, w.dev.cal.impress = true → w.dev.cal.impressWaits = false → w.dev.inMode [mHOLDUP, mSANITIZING, mACTIVE] = false →
    (∀ f ∈ w.dev.pendingFields, w.dev.onRetired f = false ∧ w.dev.shadowLegal f = true ∧ ¬ (f ∈ sizingFields ∧ w.dev.shadow f = 0)) →
    Answers .impressCommit w fun t => (∀ f ∈ rwsFields, t.get f = w.dev.shadow f) ∧ t.get .IMPRESS_STATUS_DONE = 1 ∧ t.get .CAL_CTRL_IMPRESS = 0 ∧
      t.cal.impress = false) ∧
  (∀ w, w.dev.cal.impress = false ∨ w.dev.cal.impressWaits = true → Leaves .impressCommit w [] w.dev) ∧
  (∀ w, w.dev.reaches 0x50100 = true →
    Answers .discard w fun t => (∀ f ∈ rwsFields, t.shadow f = t.get f) ∧
      (∀ f : Fld, f.key ≠ Fld.DB_TO_SP_BITS.key → t.get f = w.dev.get f) ∧ 
      t.rest (w.dev.atManagement fun s => { s with cal := { s.cal with written := [] } })) ∧
  (∀ w seq tag, w.dev.holdsVerb seq 0x51 tag [] = true →
    Makes (.impressTrigger (.verb (.sp seq) tag)) w (w.dev.atVerb seq 0x51 tag [] fun d => d.impressTrigger.verbOk (spCall seq 0x51 tag []) []))
/-! ### Power and holdup (17_power_and_holdup.md) -/

/-- Power-up (R523 to R528): an on request in DORMANT after the off dwell enables the rails of the first up step; a settled step enables the next; after
the last the device takes row 1 with HOLDUP_EN high, and stands in CONFIGURING with the power cycle counted; an on request during shutdown is only
logged; the off dwell ends in OFF, LOCKOUT or a new power-up. What goes wrong on the way up and the way
down (R525 to R527): an off request during power-up is kept and logged; a rail that is not good in time is counted, marked and logged and fails the
attempt, which is counted, locks the device out beyond RETRY_MAX and starts the shutdown order; a down step ends with its rails OFF or STUCK, and the next
one that holds an enabled rail starts, or the off dwell where there is none.
These forms are shown to answer a next state with their own effect, under conditions on the state and the operands alone: powerUp, upStepSettled,
railUpTimeout, offDuringUp, downStepDone, offDwellExpiry. -/
def Obligations.PowerUpRunsStepByStepAndFailuresShutDown : Prop :=
  (∀ w p, w.dev.pwr.on = true → w.dev.modeOf = mDORMANT → w.dev.seq = seqOFF → w.dev.therm.trip = false → w.dev.bit .PWR_STATUS_LOCKOUT = false →
    p.pwrgd = true → p.resetN = true → p.extFault = false →
    let table := w.dev.pwr.copy.getD PowerSeq.default
    Leaves (.powerUp p) w
      ((switched.filter fun r => (table.rail r).upStep == 1).flatMap (fun r => [(.PWR_RAIL_STATUS_EN r, 1), (.PWR_RAIL_STATUS_STATE r, 1)]) ++
        [(.PWR_STATUS_PWRGD_IN, 1), (.PWR_STATUS_FAULT_EXT, 0), (.PWR_STATUS_TABLE_SRC, b2n w.dev.pwr.copy.isSome), (.PWR_STATUS_SEQ, seqUP),
         (.PWR_STATUS_STEP, 1)])
      { w.dev with pwr := { w.dev.pwr with pins := p, table := table, offReq := none } }) ∧
  (∀ w mvs, w.dev.pwr.on = true → w.dev.seq = seqUP → w.dev.stepGood mvs = true → w.dev.pwr.offReq = none →
    w.dev.get .PWR_STATUS_STEP < w.dev.pwr.table.lastUp → w.dev.get .PWR_STATUS_STEP < 15 →
    (w.dev.pwr.table.rail 13).upStep ≠ w.dev.get .PWR_STATUS_STEP →
    Leaves (.upStepSettled mvs) w
      ((List.range 14).map (fun r => (.PWR_RAIL_STATUS_MV r, mvs.getD r 0 % 2 ^ 16)) ++
        (switched.filter fun r => (w.dev.pwr.table.rail r).upStep == w.dev.get .PWR_STATUS_STEP).map (fun r => (.PWR_RAIL_STATUS_STATE r, 2)) ++
        (switched.filter fun r => (w.dev.pwr.table.rail r).upStep == w.dev.get .PWR_STATUS_STEP + 1).flatMap
          (fun r => [(.PWR_RAIL_STATUS_EN r, 1), (.PWR_RAIL_STATUS_STATE r, 1)]) ++
        [(.PWR_RAIL_STATUS_STATE 0, if w.dev.outside 0 (mvs.getD 0 0) then 3 else 7), (.PWR_STATUS_SEQ, seqUP),
         (.PWR_STATUS_STEP, w.dev.get .PWR_STATUS_STEP + 1)])
      w.dev) ∧
  (∀ w mvs, w.dev.pwr.on = true → (w.dev.upSettled mvs).2 = true →
    (w.dev.upSettled mvs).1.get .PWR_STATUS_HOLDUP_EN = 1 ∧
    Makes (.upStepSettled mvs) w (((w.dev.upSettled mvs).1.trigger ⟨1, mCONFIGURING, 0, 6, 0⟩).takeNow)) ∧
  (∀ w mvs, w.dev.pwr.on = true → w.dev.seq = seqUP → w.dev.stepGood mvs = true → w.dev.pwr.offReq = none →
    w.dev.pwr.table.lastUp ≤ w.dev.get .PWR_STATUS_STEP → w.dev.calRuns = false → w.dev.mode.due = none →
    Answers (.upStepSettled mvs) w fun t => t.modeOf = mCONFIGURING ∧ t.get .PWR_STATUS_SEQ = seqON ∧ t.get .PWR_STATUS_STEP = 0 ∧
      t.get .PWR_STATUS_RETRIES = 0 ∧ t.get .PWR_STATUS_HOLDUP_EN = 1 ∧
      t.get .PWR_CYCLES_COUNT = (if w.dev.pwr.cycleValid then (w.dev.get .PWR_CYCLES_COUNT + 1) % 2 ^ 32 else w.dev.get .PWR_CYCLES_COUNT)) ∧
  (∀ w p, w.dev.pwr.on = true → w.dev.seq = seqDOWN → w.dev.therm.trip = false → w.dev.bit .PWR_STATUS_LOCKOUT = false →
    p.pwrgd = true → p.resetN = true → p.extFault = false →
    Leaves (.powerUp p) w [(.PWR_STATUS_PWRGD_IN, 1), (.PWR_STATUS_FAULT_EXT, 0)]
      (Dev.post { w.dev with pwr := { w.dev.pwr with pins := p } } 0x1008 0 (w.dev.get .PWR_STATUS_STEP) 0 0)) ∧
  (∀ w p, w.dev.pwr.on = true → w.dev.modeOf = mDORMANT → w.dev.seq = seqDWELL → w.dev.therm.trip = false →
    w.dev.bit .PWR_STATUS_LOCKOUT = false → p.pwrgd = true → p.resetN = true → p.extFault = false →
    let table := w.dev.pwr.copy.getD PowerSeq.default
    Leaves (.offDwellExpiry p) w
      ((switched.filter fun r => (table.rail r).upStep == 1).flatMap (fun r => [(.PWR_RAIL_STATUS_EN r, 1), (.PWR_RAIL_STATUS_STATE r, 1)]) ++
        [(.PWR_STATUS_PWRGD_IN, 1), (.PWR_STATUS_FAULT_EXT, 0), (.PWR_STATUS_FAULT_OWN, 0), (.PWR_STATUS_TABLE_SRC, b2n w.dev.pwr.copy.isSome),
         (.PWR_STATUS_SEQ, seqUP), (.PWR_STATUS_STEP, 1)])
      { w.dev with pwr := { w.dev.pwr with pins := p, table := table, offReq := none } }) ∧
  (∀ w p, w.dev.pwr.on = true → w.dev.modeOf = mDORMANT → w.dev.seq = seqDWELL → w.dev.bit .PWR_STATUS_LOCKOUT = false →
    p.pwrgd = false ∨ p.resetN = false ∨ p.extFault = true →
    Leaves (.offDwellExpiry p) w
      [(.PWR_STATUS_PWRGD_IN, b2n p.pwrgd), (.PWR_STATUS_FAULT_EXT, b2n p.extFault), (.PWR_STATUS_FAULT_OWN, 0), (.PWR_STATUS_SEQ, seqOFF)]
      { w.dev with pwr := { w.dev.pwr with pins := p } }) ∧
  (∀ w p, w.dev.pwr.on = true → w.dev.modeOf = mDORMANT → w.dev.seq = seqDWELL → w.dev.bit .PWR_STATUS_LOCKOUT = true →
    p.pwrgd = true ∨ w.dev.bit .PWR_STATUS_FAULT_OWN = true →
    Leaves (.offDwellExpiry p) w
      [(.PWR_STATUS_PWRGD_IN, b2n p.pwrgd), (.PWR_STATUS_FAULT_EXT, b2n p.extFault), (.PWR_STATUS_FAULT_OWN, 0), (.PWR_STATUS_SEQ, seqLOCKOUT)]
      { w.dev with pwr := { w.dev.pwr with pins := p } }) ∧
  (∀ w c pins, w.dev.pwr.on = true → w.dev.seq = seqUP → w.dev.pwr.offReq = none → w.dev.bit .PWR_STATUS_LOCKOUT = false →
    (c, pins) ∈ [(0, { w.dev.pwr.pins with pwrgd := false }), (1, { w.dev.pwr.pins with resetN := false }),
      (2, { w.dev.pwr.pins with extFault := true })] →
    Leaves (.offDuringUp c) w [(.PWR_STATUS_PWRGD_IN, b2n pins.pwrgd), (.PWR_STATUS_FAULT_EXT, b2n pins.extFault)]
      (Dev.post { w.dev with pwr := { w.dev.pwr with pins := pins, offReq := some c } } 0x1007 0 (w.dev.get .PWR_STATUS_STEP) c 0)) ∧
  (∀ w, w.dev.pwr.on = true → w.dev.seq = seqUP → w.dev.pwr.offReq = none → w.dev.therm.trip = true →
    Leaves (.offDuringUp 3) w [] (Dev.post { w.dev with pwr := { w.dev.pwr with offReq := some 3 } } 0x1007 0 (w.dev.get .PWR_STATUS_STEP) 3 0)) ∧
  (∀ w r mv, w.dev.pwr.on = true → w.dev.seq = seqUP → r < 14 → w.dev.get (.PWR_RAIL_STATUS_STATE r) = 1 →
    Makes (.railUpTimeout r mv) w
      ((((w.dev.inc (.PWR_RAIL_CNT_UP_TO r)).setL [(.PWR_RAIL_STATUS_STATE r, 6), (.PWR_RAIL_STATUS_MV r, mv), (.PWR_STATUS_RAIL_FAULT_SEEN, 1)]).post
        0x1003 (0x0C00 + r) (0x0C00 + r) (w.dev.get .PWR_STATUS_STEP) (w.dev.get .PWR_STATUS_RETRIES + 1)).upFails (0x0C00 + r))) ∧
  (∀ w r mv, w.dev.pwr.on = true → w.dev.seq = seqUP → r < 14 → w.dev.get (.PWR_RAIL_STATUS_STATE r) = 1 →
    Answers (.railUpTimeout r mv) w fun t => t.get (.PWR_RAIL_CNT_UP_TO r) = w.dev.counted (.PWR_RAIL_CNT_UP_TO r) ∧
      t.get .PWR_STATUS_RAIL_FAULT_SEEN = 1 ∧ t.get .PWR_STATUS_FAULT_OWN = 1 ∧ t.get .PWR_STATUS_RETRIES = min (w.dev.get .PWR_STATUS_RETRIES + 1) 7 ∧
      t.get .PWR_STATUS_LOCKOUT =
        (if w.dev.pwr.table.retryMax < w.dev.get .PWR_STATUS_RETRIES + 1 then 1 else w.dev.get .PWR_STATUS_LOCKOUT) ∧
      (t.seq = seqDOWN ∨ t.seq = seqDWELL)) ∧
  (∀ s unit, s.get .PWR_STATUS_RETRIES < s.pwr.table.retryMax → s.get .PWR_STATUS_RETRIES < 7 →
    Dev.upFails s unit = ((s.set .PWR_STATUS_RETRIES (s.get .PWR_STATUS_RETRIES + 1)).set .PWR_STATUS_FAULT_OWN 1).downFrom 1) ∧
  (∀ w mvs, w.dev.pwr.on = true → w.dev.seq = seqDOWN → w.dev.get .PWR_STATUS_STEP ≠ 0 → w.dev.downHeld = false →
    Makes (.downStepDone mvs) w
      (((w.dev.sense mvs).each (switched.filter fun r => (w.dev.pwr.table.rail r).downStep == w.dev.get .PWR_STATUS_STEP &&
        w.dev.get (.PWR_RAIL_STATUS_STATE r) == 4) fun u r => u.railDown (w.dev.get .PWR_STATUS_STEP) r).downFrom (w.dev.get .PWR_STATUS_STEP + 1))) ∧
  (∀ w mvs, w.dev.pwr.on = true → w.dev.seq = seqDOWN → w.dev.get .PWR_STATUS_STEP ≠ 0 → w.dev.downHeld = false →
    (∀ n ∈ List.range 14, w.dev.get .PWR_STATUS_STEP < n → w.dev.downRails n = []) →
    Answers (.downStepDone mvs) w fun t => t.seq = seqDWELL ∧ t.get .PWR_STATUS_STEP = 0 ∧ t.get .PWR_STATUS_HOLDUP_EN = 0 ∧
      ∀ r ∈ switched, (w.dev.pwr.table.rail r).downStep = w.dev.get .PWR_STATUS_STEP → w.dev.get (.PWR_RAIL_STATUS_STATE r) = 4 →
        t.get (.PWR_RAIL_STATUS_STATE r) =
          (if mvs.getD r 0 % 2 ^ 16 < (w.dev.pwr.table.rail r).dis ∨ mvs.getD r 0 % 2 ^ 16 = 0 then 0 else 5)) ∧
  (∀ w mvs, w.dev.seq ≠ seqDOWN ∨ w.dev.get .PWR_STATUS_STEP = 0 → Leaves (.downStepDone mvs) w [] w.dev)

/-- Supervision in service (R46, R529, R530, R533, R555): a rail that leaves its window is counted, marked, logged and pulls PWR_FAULT_N, rail 12 with
the records still queued and rail 4 or 5 with the links of the ports and of the pair; an
external pull is recorded; input loss, RESET_N and THERMTRIP_N begin row 22 while CAL runs and nothing is in transition.
These forms are shown to answer a next state with their own effect, under conditions on the state and the operands alone: railFault, extFault,
inputLoss, resetAsserted, thermtrip. -/
def Obligations.SupplyFaultsAreRecordedAndBeginTheVigil : Prop :=
  (∀ w r mv, w.dev.pwr.on = true → w.dev.seq = seqON → w.dev.modeOf ≠ mHOLDUP → r < 14 → r ≠ 4 → r ≠ 5 → w.dev.get (.PWR_RAIL_STATUS_STATE r) = 2 →
    mv < (w.dev.pwr.table.rail r).uv →
    Leaves (.railFault r mv) w
      [(.PWR_RAIL_CNT_UV r, w.dev.counted (.PWR_RAIL_CNT_UV r)), (.PWR_RAIL_STATUS_STATE r, 3),
       (.PWR_RAIL_STATUS_MV r, mv % 2 ^ 16), (.PWR_STATUS_RAIL_FAULT_SEEN, 1), (.PWR_STATUS_FAULT_OWN, 1)]
      (Dev.post { w.dev with evt := if r = 12 then w.dev.evt.dropQueue else w.dev.evt } 0x1001 (0x0C00 + r) (0x0C00 + r) mv w.dev.modeOf)) ∧
  (∀ w r mv, w.dev.pwr.on = true → w.dev.seq = seqON → w.dev.modeOf ≠ mHOLDUP → r < 14 → r ≠ 4 → r ≠ 5 → w.dev.get (.PWR_RAIL_STATUS_STATE r) = 2 →
    (w.dev.pwr.table.rail r).uv ≤ mv → (w.dev.pwr.table.rail r).ov < mv →
    Leaves (.railFault r mv) w
      [(.PWR_RAIL_CNT_OV r, w.dev.counted (.PWR_RAIL_CNT_OV r)), (.PWR_RAIL_STATUS_STATE r, 3),
       (.PWR_RAIL_STATUS_MV r, mv % 2 ^ 16), (.PWR_STATUS_RAIL_FAULT_SEEN, 1), (.PWR_STATUS_FAULT_OWN, 1)]
      (Dev.post { w.dev with evt := if r = 12 then w.dev.evt.dropQueue else w.dev.evt } 0x1002 (0x0C00 + r) (0x0C00 + r) mv w.dev.modeOf)) ∧
  (∀ w r mv, w.dev.pwr.on = true → w.dev.seq = seqON → w.dev.inMode [mDORMANT, mHOLDUP] = false → r = 4 ∨ r = 5 →
    w.dev.get (.PWR_RAIL_STATUS_STATE r) = 2 → w.dev.outside r mv = true →
    Answers (.railFault r mv) w fun t => t.get (.PWR_RAIL_STATUS_STATE r) = 3 ∧ t.get .PWR_STATUS_FAULT_OWN = 1 ∧ t.get .TWIN_STATUS_LINK_UP = 0 ∧
      ∀ p ∈ w.dev.ports, t.get (.PORT_STATUS_LINK_UP p) = 0) ∧
  (∀ w, w.dev.pwr.on = true → w.dev.seq ≠ seqUP → w.dev.modeOf ≠ mDORMANT →
    Leaves .extFault w [(.PWR_STATUS_PWRGD_IN, b2n w.dev.pwr.pins.pwrgd), (.PWR_STATUS_FAULT_EXT, 1), (.PWR_STATUS_EXT_FAULT_SEEN, 1)]
      (Dev.post { w.dev with pwr := { w.dev.pwr with pins := { w.dev.pwr.pins with extFault := true } } } 0x1005 0 w.dev.modeOf w.dev.seq 0)) ∧
  (∀ w mv, w.dev.pwr.on = true → w.dev.seq ≠ seqUP → w.dev.pwr.pins.pwrgd = true → w.dev.bit .PWR_STATUS_LOCKOUT = false →
    w.dev.pwr.pulse = none → row22From.contains w.dev.modeOf = true → w.dev.calRuns = true → w.dev.mode.due = none →
    Leaves (.inputLoss 0 mv) w
      [(.PWR_STATUS_PWRGD_IN, 0), (.PWR_STATUS_FAULT_EXT, b2n w.dev.pwr.pins.extFault), (.MODE_STATE_TRANSIT, 1), (.MODE_STATE_TARGET, mHOLDUP)]
      (Dev.post { w.dev with pwr := { w.dev.pwr with pins := { w.dev.pwr.pins with pwrgd := false } },
                             mode := { w.dev.mode with due := some ⟨22, mHOLDUP, 7, 1, 0⟩ } } 0x1006 0 0 mv w.dev.modeOf)) ∧
  (∀ w, w.dev.pwr.on = true → w.dev.seq ≠ seqUP → row22From.contains w.dev.modeOf = true → w.dev.calRuns = true → w.dev.mode.due = none →
    Leaves .resetAsserted w
      [(.PWR_STATUS_PWRGD_IN, b2n w.dev.pwr.pins.pwrgd), (.PWR_STATUS_FAULT_EXT, b2n w.dev.pwr.pins.extFault), (.MODE_STATE_TRANSIT, 1),
       (.MODE_STATE_TARGET, mHOLDUP)]
      { w.dev with pwr := { w.dev.pwr with pins := { w.dev.pwr.pins with resetN := false } },
                   mode := { w.dev.mode with due := some ⟨22, mHOLDUP, 9, 2, 0⟩ } }) ∧
  (∀ w sensor, w.dev.pwr.on = true → w.dev.therm.trip = false → w.dev.seq ≠ seqUP → row22From.contains w.dev.modeOf = true →
    w.dev.calRuns = true → w.dev.mode.due = none →
    Leaves (.thermtrip sensor) w
      [(.THERM_STATUS_THERMTRIP, 1), (.THERM_STATUS_TRIP_SEEN, 1), (.MODE_STATE_TRANSIT, 1), (.MODE_STATE_TARGET, mHOLDUP)]
      (Dev.post { w.dev with therm := { w.dev.therm with trip := true }, mode := { w.dev.mode with due := some ⟨22, mHOLDUP, 8, 3, 0⟩ } }
        0x2008 sensor sensor (twos 32 w.dev.therm.tj) w.dev.modeOf))

/-- The energy store (R526, R535 to R538): CLEAR_LOCKOUT and MEASURE act on their guard; a pulse releases HOLDUP_EN and its end gives esr and c by the
formulas of R536; E_usable follows the live voltage. The island and the Vigil (R46 row 23, R531, R539 to R541): a collapse stops the island and keeps
the media and the fuses, a start takes reset values and logs 0x1010; a limited Vigil goes from its carry to the shutdown order, a full one ends what still waits and saves its image, folios
and seal in order; at the reserve it starts no more folio programs; with the rails down it ends in DORMANT.
These forms are shown to answer a next state with their own effect, under conditions on the state and the operands alone: clearLockout, measure,
measurePeriodic, pulseEnd, energyRecompute, aonCollapse, aonPowerOn, vigilCarryDone, vigilImageWritten, vigilReserve, vigilSealed, vigilDone. -/
def Obligations.TheEnergyStoreTheIslandAndTheVigilRunInOrder : Prop :=
  (∀ w, w.dev.reaches 0x10004 = true →
    Leaves (.clearLockout 0x9B) w
      [(.PWR_STATUS_LOCKOUT, 0), (.PWR_STATUS_RETRIES, 0), (.PWR_STATUS_SEQ, if w.dev.seq = seqLOCKOUT then seqOFF else w.dev.seq)]
      (w.dev.atManagement id)) ∧
  (∀ w guard, guard ≠ 0x9B → Leaves (.clearLockout guard) w [] (w.dev.regRow 0x10004 id) ∧ Leaves (.measure guard) w [] (w.dev.regRow 0x10004 id)) ∧
  (∀ w, w.dev.reaches 0x10004 = true → w.dev.mayMeasure = true →
    Leaves (.measure 0x9B) w [(.PWR_STATUS_HOLDUP_EN, 0), (.PWR_STATUS_ESTORE_TEST, 1)]
      (w.dev.atManagement fun s => { s with pwr := { s.pwr with pulse := some s.evt.islandMs } })) ∧
  (∀ w, w.dev.pwr.on = true → w.dev.mayMeasure = true → w.dev.pwr.table.measS * 1000 ≤ w.dev.pwr.ageMs →
    Leaves .measurePeriodic w [(.PWR_STATUS_HOLDUP_EN, 0), (.PWR_STATUS_ESTORE_TEST, 1)]
      { w.dev with pwr := { w.dev.pwr with pulse := some w.dev.evt.islandMs } }) ∧
  (∀ w v0 v1 slope mean mv, w.dev.pwr.on = true → w.dev.pwr.pulse.isSome = true → v1 ≠ 0 → slope ≠ 0 → w.dev.pwr.table.battery = false →
    w.dev.saveWatts = none →
    let t := w.dev.pwr.table
    let esr := min ((v0 - v1) * t.rTest * 1000 / v1) (2 ^ 32 - 1)
    let c := mean * 10 ^ 6 / (t.rTest * slope)
    c < 2 ^ 32 → esr ≤ t.esrMax → t.cMin ≤ c →
    Leaves (.pulseEnd v0 v1 slope mean mv) w
      [(.PWR_STATUS_HOLDUP_EN, 1), (.PWR_STATUS_ESTORE_TEST, 0), (.PWR_ESTORE_C_MF, c), (.PWR_ESTORE_ESR_UOHM, esr), (.PWR_ESTORE_AGE_AGE_S, 0),
       (.PWR_ESTORE_V_MV, mv % 2 ^ 16), (.PWR_ESTORE_V_FLOOR_MV, 0), (.PWR_ESTORE_E_JOULES, 0)]
      (Dev.post { w.dev with pwr := { w.dev.pwr with pulse := none, measured := true, ageMs := 0, passedE := 0 }, free := w.dev.free + 2 }
        0x100A 0 c esr 0)) ∧
  (∀ w mv, w.dev.pwr.on = true → w.dev.saveWatts = none →
    Leaves (.energyRecompute mv) w [(.PWR_ESTORE_V_MV, mv % 2 ^ 16), (.PWR_ESTORE_V_FLOOR_MV, 0), (.PWR_ESTORE_E_JOULES, 0)]
      { w.dev with pwr := { w.dev.pwr with passedE := 0 } }) ∧
  (∀ w mv watts, w.dev.pwr.on = true → w.dev.saveWatts = some watts → w.dev.pwr.measured = true →
    Answers (.energyRecompute mv) w fun t => t.get .PWR_ESTORE_E_JOULES = w.dev.eUsable mv % 2 ^ 16 ∧ t.get .PWR_ESTORE_V_MV = mv % 2 ^ 16) ∧
  (∀ w, w.dev.pwr.on = true → Makes .aonCollapse w w.dev.islandLost ∧ w.dev.islandLost.pwr.on = false ∧
    w.dev.islandLost.evt.ring = w.dev.journalCut.evt.ring) ∧
  (∀ w, w.dev.pwr.on = true → Answers .aonCollapse w fun t => t.pwr.on = false ∧ t.modeOf = mDORMANT ∧ t.net.qps = [] ∧
    t.forme.run = none ∧ t.evt.archive = w.dev.journalCut.evt.archive ∧ t.fm.slots = w.dev.journalCut.fm.slots ∧
    t.keys.blobs = w.dev.journalCut.keys.blobs ∧ ∀ f ∈ fusedFields, t.get f = w.dev.get f) ∧
  (∀ w, w.dev.pwr.on = false →
    Leaves .aonPowerOn w []
      (Dev.post { w.dev with pwr := { w.dev.pwr with on := true } } 0x1010 0 (b2n (w.dev.jrn.sealRec.state == 1)) 0 0)) ∧
  (∀ w v, w.dev.pwr.vigil = some v → v.step = 1 → v.limited = true → v.foldStart = none → w.dev.get .PWR_STATUS_STEP ≠ 0 →
    Leaves .vigilCarryDone w [] { w.dev with pwr := { w.dev.pwr with vigil := some { v with step := 6 } } }) ∧
  (∀ w v, w.dev.pwr.vigil = some v → v.step = 1 → v.limited = false →
    Answers .vigilCarryDone w fun t => t.pwr.vigil = some { v with step := 3 } ∧ t.gal.waiting = [] ∧ t.cal.openStamps = []) ∧
  (∀ w v, w.dev.pwr.vigil = some v → v.step = 3 → v.limited = false → v.noPrograms = false →
    Answers .vigilImageWritten w fun t => t.pwr.vigil = some { v with step := 4, foldStart := some w.dev.evt.islandMs } ∧
      t.gal.image = w.dev.gal.toImage) ∧
  (∀ w v, w.dev.pwr.vigil = some v → v.step = 3 → v.limited = false → v.noPrograms = true →
    Leaves .vigilImageWritten w []
      { w.dev with gal := { w.dev.gal with image := w.dev.gal.toImage }, pwr := { w.dev.pwr with vigil := some { v with step := 5 } } }) ∧
  (∀ w v mv, w.dev.pwr.vigil = some v → v.limited = false → v.step ≤ 4 → v.noPrograms = false → w.dev.reserveReached mv = true →
    Makes (.vigilReserve mv) w (((w.dev.recomputeEnergy mv).stopPrograms.set .PWR_STATUS_RESERVE_HIT 1).post 0x100E 0 w.dev.dirtyD mv 0)) ∧
  (∀ w v mv, w.dev.pwr.vigil = some v → v.limited = false → v.step ≤ 4 → v.noPrograms = false → w.dev.reserveReached mv = true →
    Answers (.vigilReserve mv) w fun t => t.get .PWR_STATUS_RESERVE_HIT = 1 ∧ (t.pwr.vigil.map (·.noPrograms)) = some true ∧
      (t.pwr.vigil.map (·.step)) = some (if v.step = 4 then 5 else v.step)) ∧
  (∀ w v, w.dev.pwr.vigil = some v → v.limited = false → v.step = 4 ∨ v.step = 5 → w.dev.vigilIdle = true → w.dev.storeIdle = true →
    Answers .vigilSealed w fun t => t.jrn.sealRec.state = 1 ∧ t.jrn.sealRec.powerCycle = w.dev.get .PWR_CYCLES_COUNT ∧
      t.jrn.sealRec.cycle = v.stopCycle) ∧
  (∀ w v, w.dev.modeOf = mHOLDUP → w.dev.pwr.vigil = some v → v.step = 6 → w.dev.seq = seqDWELL →
    Makes .vigilDone w (w.dev.vigilOver.calStop.enterMode ⟨23, mDORMANT, 13, 6, 0⟩)) ∧
  (∀ w v, w.dev.modeOf = mHOLDUP → w.dev.pwr.vigil = some v → v.step = 6 → w.dev.seq = seqDWELL →
    Answers .vigilDone w fun t => t.modeOf = mDORMANT ∧ t.get .MODE_STATE_TRANSIT = 0 ∧ t.get .MODE_ENTRY_FROM = mHOLDUP ∧
      t.get .MODE_ENTRY_CAUSE = 13 ∧ t.pwr.vigil = none ∧ t.get .PWR_VIGIL_LAST_SEALED = b2n v.sealed ∧
      t.get .PWR_VIGIL_LAST_LIMITED = b2n v.limited) ∧
  (∀ w, w.dev.pwr.vigil = none → Leaves .vigilDone w [] w.dev ∧ Leaves .vigilSealed w [] w.dev ∧ Leaves .vigilCarryDone w [] w.dev ∧
    Leaves .vigilImageWritten w [] w.dev)
/-! ### Clocks, temperature and the governors (18_clocks_and_thermal.md) -/

/-- Tj_gov (R554) is the greater of Tj and 92.0 °C, in tenths, where REFRESH_SHORT of any memory unit is set, and Tj otherwise; the thermal
governor's cap is the entry that Tj_gov reaches from the one in force.
This form is shown to answer a next state with its own effect, under conditions on the state and the operands alone: govPeriod. -/
def Obligations.TheThermalGovernorActsOnTjGov : Prop :=
  (∀ s : Dev, (∃ n < 24, s.bit (.MEM_STATUS_REFRESH_SHORT n) = true) → s.tjGov = max s.therm.tj 920) ∧
  (∀ s : Dev, (∀ n < 24, s.bit (.MEM_STATUS_REFRESH_SHORT n) = false) → s.tjGov = s.therm.tj) ∧
  (∀ w c pEst, w.dev.thermCurve = some c → w.dev.calRuns = true →
    Answers (.govPeriod pEst) w fun t => t.therm.cap = c.next w.dev.therm.cap w.dev.tjGov)

/-- Temperature (R553, R555): a sample without a bad reading sets Tj to the highest one and raises the peak; a reading out of range marks its sensor; in
DORMANT and cool, THERMTRIP_N is released, and in another mode it is not. The power governor (R557, R559, R562): a control period above the limit
raises the level by one up to the most the node takes, one at least HYST_W below lowers it, and any other keeps it; sixteen at the top above the limit
set CAP_UNMET and log 0x2005; a second adds to the excess seconds where its mean exceeded SUSTAIN_W.
These forms are shown to answer a next state with their own effect, under conditions on the state and the operands alone: thermtripRelease,
sensorSample, govPeriod, powerSecond. -/
def Obligations.SensorsSetTjAndTheGovernorMovesALevel : Prop :=
  (∀ w rs, w.dev.pwr.on = true → w.dev.therm.failed = 0 → (∀ i ∈ List.range 25, badReading rs i = false) → w.dev.thermCurve = none →
    w.dev.calRuns = false →
    let top := w.dev.topReading rs
    let tj := top.getD 1000
    let peak : Int := if 2048 ≤ w.dev.get .THERM_PEAK_PEAK then (w.dev.get .THERM_PEAK_PEAK : Int) - 4096 else w.dev.get .THERM_PEAK_PEAK
    Leaves (.sensorSample rs) w
      [(.PWR_ESTORE_AGE_AGE_S, min 65535 ((w.dev.pwr.ageMs + 1) / 1000)), (.THERM_STATUS_FAILED, 0), (.THERM_STATUS_TJ, twos 12 tj), (.THERM_STATUS_ASSUMED, 0),
       (.THERM_STATUS_MEM_HOT, b2n w.dev.memoryHot), (.THERM_PEAK_PEAK, if peak < tj then twos 12 tj else w.dev.get .THERM_PEAK_PEAK)]
      { w.dev with evt := { w.dev.evt with islandMs := w.dev.evt.islandMs + 1, burst := min 4096 (w.dev.evt.burst + 1) },
                   pwr := { w.dev.pwr with ageMs := w.dev.pwr.ageMs + 1 }, therm := { w.dev.therm with tj := tj, top := top } }) ∧
  (∀ w rs i, w.dev.pwr.on = true → i < 25 → w.dev.therm.failed.testBit i = false → badReading rs i = true →
    Answers (.sensorSample rs) w fun t => t.therm.failed.testBit i = true) ∧
  (∀ w, w.dev.modeOf = mDORMANT → w.dev.therm.trip = true → w.dev.therm.top = none ∨ (∃ x, w.dev.therm.top = some x ∧ x < 950) →
    Leaves .thermtripRelease w [(.THERM_STATUS_THERMTRIP, 0)] { w.dev with therm := { w.dev.therm with trip := false } }) ∧
  (∀ w, w.dev.modeOf ≠ mDORMANT → Leaves .thermtripRelease w [] w.dev) ∧
  (∀ w c pEst, w.dev.thermCurve = some c → w.dev.calRuns = true →
    let l := w.dev.recap.govLimit c
    let g := min (w.dev.get .GOV_STATUS_LEVEL) w.dev.govMost
    Answers (.govPeriod pEst) w fun t =>
      t.get .GOV_STATUS_LEVEL = (if 10 * l < pEst then min (g + 1) w.dev.govMost else if pEst + 10 * c.hystW < 10 * l then g - 1 else g) ∧
      t.get .GOV_POWER_P_EST = min pEst 65535 ∧ t.get .GOV_POWER_LIMIT = 10 * l % 2 ^ 16 ∧ t.therm.periods = w.dev.therm.periods + 1 ∧
      t.therm.sumP = w.dev.therm.sumP + pEst) ∧
  (∀ w c pEst, w.dev.thermCurve = some c → w.dev.calRuns = true → w.dev.get .GOV_STATUS_LEVEL = 8 → w.dev.follower = false →
    w.dev.therm.unmet = 15 → 10 * w.dev.recap.govLimit c < pEst →
    Answers (.govPeriod pEst) w fun t => t.get .GOV_STATUS_CAP_UNMET = 1 ∧ t.get .GOV_STATUS_UNMET_SEEN = 1 ∧ t.get .GOV_STATUS_LEVEL = 8) ∧
  (∀ w c, w.dev.thermCurve = some c → w.dev.calRuns = true →
    let ex := decide (10 * c.sustain * w.dev.therm.periods < w.dev.therm.sumP)
    let th := { w.dev.therm with seconds := (ex :: w.dev.therm.seconds).take 3600, sumP := 0, periods := 0 }
    Leaves .powerSecond w
      [(.GOV_STATUS_EXCESS_S, Dev.excessSeconds { w.dev with therm := th } c % 2 ^ 12),
       (.GOV_STATUS_PEAK_ALLOWED, b2n (Dev.peakAllowed { w.dev with therm := th } c)),
       (.GOV_EXCESS_S_PEAK_S, if ex then min (w.dev.get .GOV_EXCESS_S_PEAK_S + 1) (2 ^ 32 - 1) else w.dev.get .GOV_EXCESS_S_PEAK_S)]
      { w.dev with therm := th }) ∧
  (∀ w pEst, w.dev.thermCurve = none ∨ w.dev.calRuns = false → Leaves (.govPeriod pEst) w [] w.dev ∧ Leaves .powerSecond w [] w.dev)

/-- Clock faults (R549, R551, R552): a lost or off-frequency reference and an unlocked PLL begin holdover, counted once, and pull
PWR_FAULT_N; a domain that does not lock during power-up, in CONFIGURING or in TRAINING is marked and logged, and fails the power-up, which in
CONFIGURING undoes row 1 (assumption 138); elsewhere there is none to lock (assumption 52); a stopped crystal is marked and logged once. The domain that PLL_UNLOCK names
is open in the manual: a free value.
These forms are shown to answer a next state with their own effect, under conditions on the state and the operands alone: refLoss, pllUnlock,
lockFail, xtalFail. -/
def Obligations.ClockFaultsAreMarkedCountedAndLogged : Prop :=
  (∀ w missing ppm, w.dev.modeOf ≠ mDORMANT → w.dev.bit .CLK_STATE_HOLDOVER = false →
    Leaves (.refLoss missing ppm) w
      [(.CLK_STATE_HOLDOVER, 1), (.CLK_HOLDOVERS_HOLDOVERS, min (w.dev.get .CLK_HOLDOVERS_HOLDOVERS + 1) (2 ^ Fld.CLK_HOLDOVERS_HOLDOVERS.width - 1)),
       (.PWR_STATUS_FAULT_OWN, 1), (.CLK_STATE_REF_PRESENT, if missing then 0 else w.dev.get .CLK_STATE_REF_PRESENT)]
      (w.dev.post 0x2002 0 (twos 32 ppm) w.dev.modeOf 0)) ∧
  (∀ w, w.dev.modeOf ≠ mDORMANT → w.dev.bit .CLK_STATE_HOLDOVER = true →
    let d := w.dev.freeVal 32 % 25
    Leaves .pllUnlock w [(.PWR_STATUS_FAULT_OWN, 1), (.CLK_STATE_MASTER_LOCK, 0), (.CLK_FAULT_FAULT, w.dev.get .CLK_FAULT_FAULT ||| 2 ^ d)]
      (Dev.post { w.dev with free := w.dev.free + 1 } 0x2003 (0x0D00 + d) d w.dev.modeOf 0)) ∧
  (∀ w, w.dev.modeOf = mDORMANT → Leaves .pllUnlock w [] w.dev ∧ Leaves (.refLoss true 0) w [] w.dev) ∧
  (∀ w domain absent, w.dev.modeOf = mCONFIGURING → w.dev.seq ≠ seqUP → domain < 24 →
    Answers (.lockFail domain absent) w fun t => t.modeOf = mDORMANT ∧ t.get .MODE_STATE_TRANSIT = 0 ∧ t.get .PWR_STATUS_FAULT_OWN = 1 ∧
      t.get .CLK_FAULT_FAULT = w.dev.get .CLK_FAULT_FAULT ||| 2 ^ domain ∧ (t.seq = seqDOWN ∨ t.seq = seqDWELL)) ∧
  (∀ w domain absent, w.dev.seq = seqUP → w.dev.modeOf ≠ mCONFIGURING → domain < 24 →
    Makes (.lockFail domain absent) w
      (((w.dev.set .CLK_FAULT_FAULT (w.dev.get .CLK_FAULT_FAULT ||| 2 ^ domain)).post 0x2001 (0x0D00 + domain) domain (b2n (!absent))
        w.dev.modeOf).upFails (0x0D00 + domain))) ∧
  (∀ w domain absent, w.dev.seq ≠ seqUP → w.dev.modeOf = mTRAINING → domain < 24 → (clockedUnits domain).filter w.dev.unitPresent = [] →
    Leaves (.lockFail domain absent) w [(.CLK_FAULT_FAULT, w.dev.get .CLK_FAULT_FAULT ||| 2 ^ domain)]
      (w.dev.post 0x2001 (0x0D00 + domain) domain (b2n (!absent)) w.dev.modeOf)) ∧
  (∀ w domain absent, w.dev.seq ≠ seqUP → w.dev.modeOf ≠ mTRAINING → w.dev.modeOf ≠ mCONFIGURING → Leaves (.lockFail domain absent) w [] w.dev) ∧
  (∀ w, w.dev.pwr.on = true → w.dev.bit .CLK_STATE_XTAL_FAIL = false →
    Leaves .xtalFail w [(.CLK_STATE_XTAL_FAIL, 1)] (w.dev.post 0x200A 0 0 0 0)) ∧
  (∀ w, w.dev.bit .CLK_STATE_XTAL_FAIL = true → Leaves .xtalFail w [] w.dev)

/-! ### The Calendar (04_calendar.md) -/

/-- Admission (R98, R110, R111, R112, R119): an arrival joins its queue and raises its peak, one of C0 beyond the burst is counted, a packet enters the
point of its QP's class on its port, a full port point discards and counts, point 34 waits; a
SAMPLE entry takes the head of its queue, gives it the stamp of its cycle and tick and releases it to its station; a loaded page takes effect.
These forms are shown to answer a next state with their own effect, under conditions on the state and the operands alone: admitArrival, sample,
pageSwitch. -/
def Obligations.ArrivalsJoinAndSamplesStampTheHead : Prop :=
  (∀ w k a internal d, w.dev.admission k = some d → w.dev.calRuns = true → (k < 32 → w.dev.follower = false) → a.qpn = none ∨ 32 ≤ k →
    (w.dev.cal.queue k).length < d.depth → ¬(k < 32 ∧ k % 4 = 0 ∧ d.burst < (w.dev.cal.queue k).length) →
    Leaves (.admitArrival k a internal) w
      [(.ADMIT_PEAK_PEAK k, max (w.dev.get (.ADMIT_PEAK_PEAK k)) ((w.dev.cal.queue k).length + 1) % 2 ^ 13)]
      { w.dev with cal := { w.dev.cal with queues := w.dev.cal.queues.put k (w.dev.cal.queue k ++ [a]) } }) ∧
  (∀ w k a d, w.dev.admission k = some d → w.dev.calRuns = true → w.dev.follower = false → a.qpn = none → k < 32 → k % 4 = 0 →
    (w.dev.cal.queue k).length < d.depth → d.burst < (w.dev.cal.queue k).length →
    Leaves (.admitArrival k a false) w
      [(.ADMIT_PEAK_PEAK k, max (w.dev.get (.ADMIT_PEAK_PEAK k)) ((w.dev.cal.queue k).length + 1) % 2 ^ 13),
       (.ADMIT_OVER_OVER k, w.dev.counted (.ADMIT_OVER_OVER k))]
      (Dev.post { w.dev with cal := { w.dev.cal with queues := w.dev.cal.queues.put k (w.dev.cal.queue k ++ [a]) } } 0x3033 (0x0EA0 + k) k
        (w.dev.cal.queue k).length d.burst)) ∧
  (∀ w k a n i q d, w.dev.calRuns = true → w.dev.follower = false → k < 32 → a.qpn = some n → w.dev.quieted a = false →
    w.dev.net.qpOf n = some (i, q) → q.fixed = true → n ≠ 1 → q.cls < 3 → w.dev.admission (k / 4 * 4 + q.cls) = some d →
    (w.dev.cal.queue (k / 4 * 4 + q.cls)).length < d.depth →
    Answers (.admitArrival k a false) w fun t =>
      t.cal.queue (k / 4 * 4 + q.cls) = w.dev.cal.queue (k / 4 * 4 + q.cls) ++ [a]) ∧
  (∀ w k a d, w.dev.admission k = some d → w.dev.calRuns = true → w.dev.follower = false → a.qpn = none → k < 32 → d.depth ≤ (w.dev.cal.queue k).length →
    let n := min (w.dev.get (.ADMIT_DROP_DROPS k) + 1) (2 ^ 32 - 1)
    Leaves (.admitArrival k a false) w [(.ADMIT_DROP_DROPS k, n)] (w.dev.post 0x3032 (0x0EA0 + k) k (k % 4) n)) ∧
  (∀ w a internal d, w.dev.admission 34 = some d → w.dev.calRuns = true → d.depth ≤ (w.dev.cal.queue 34).length →
    Leaves (.admitArrival 34 a internal) w [] { w.dev with cal := { w.dev.cal with stalled := w.dev.cal.stalled ++ [(34, a)] } }) ∧
  (∀ w k tick a rest, w.dev.calRuns = true → tick < 4096 → slotOp (w.dev.entryAt (0xA0 + k) tick) = 1 →
    (∀ l ∈ w.dev.cal.lastStamp, l < w.dev.cal.cycle * 4096 + tick) → 
    (k < 32 → w.dev.portsAdmit = true ∧ w.dev.gateOpen k a = true ∧ w.dev.quieted a = false) → k ≠ 32 →
    w.dev.cal.queue k = a :: rest → w.dev.cal.stalled.find? (fun e => e.1 == k) = none →
    Leaves (.sample k tick) w []
      { w.dev with cal := { w.dev.cal with
          queues := if rest = [] then w.dev.cal.queues.del k else w.dev.cal.queues.put k rest, lastStamp := some (w.dev.cal.cycle * 4096 + tick),
          requests := w.dev.cal.requests ++ [a.stamped k (pointClass k) (w.dev.cal.cycle * 4096 + tick)],
          samples := w.dev.cal.samples.put k (w.dev.cal.samples.getD k 0 + 1) } }) ∧
  (∀ w l, w.dev.cal.load = some l → w.dev.gal.evac = [] → w.dev.cal.losses = [] → l.toPage < 16 →
    let d := l.toPage != 0 || w.dev.mode.uncovered
    Leaves .pageSwitch w
      [(.CAL_STATUS_LOADING, 0), (.CAL_STATUS_SWITCHED, 1), (.CAL_STATUS_LOST_UNIT, l.lost % 2 ^ Fld.CAL_STATUS_LOST_UNIT.width),
       (.MODE_STATE_PAGE, l.toPage), (.MODE_STATE_DEGRADED, b2n d),
       (.MODE_RESULT_DEGRADED_SEEN, if d && !w.dev.bit .MODE_STATE_DEGRADED then 1 else w.dev.get .MODE_RESULT_DEGRADED_SEEN)]
      (Dev.post { w.dev with cal := { w.dev.cal with page := l.toPage, pairs := l.pairs, load := none } } 0x3030 l.lost w.dev.cal.page l.toPage l.lost)) ∧
  (∀ w, w.dev.cal.load = none → Leaves .pageSwitch w [] w.dev)
/-! ### The calendar cycle and datapath integrity (04_calendar.md, 05_integrity.md) -/

/-- A boundary (R51, R89, R96, R213) ends a cycle only while CAL runs: the stations' service, the page, the stamped mode actions, the counters, the stamped tables and the
node's own work, in that order, and the governor's level of that moment acts in the cycle that begins; where CAL is stopped nothing happens. Integrity housekeeping (R139, R144, R149): a window's start clears its counts,
INTEG_CLEAR removes a record in QUIESCED under its guard alone, INTEG_QUERY selects a unit.
These forms are shown to answer a next state with their own effect, under conditions on the state and the operands alone: cycleBoundary,
faultWindowStart, integClear, integQuery. -/
def Obligations.BoundariesAndIntegrityWindows : Prop :=
  (∀ w, w.dev.calRuns = true → w.dev.serveCycle.pageAt.follows = false →
    let b := w.dev.serveCycle.pageAt.stampedModes
    b.calRuns = true →
    let c := b.countCycle.modTherm fun x => { x with acting := b.get .GOV_STATUS_LEVEL }
    c.follows = false → c.modeOf ≠ mSWITCHOVER → Makes .cycleBoundary w c.stampedTables.localAt) ∧
  (∀ w, w.dev.calRuns = true → w.dev.mode.due = none → w.dev.mode.waiting = [] → w.dev.mode.recheck = none →
    Answers .cycleBoundary w fun t => t.cal.count = (w.dev.cal.count + 1) % 2 ^ 48 ∧ t.therm.acting = w.dev.get .GOV_STATUS_LEVEL) ∧
  (∀ d : Dev, d.follows = false → d.countCycle = { d with cal := { d.cal with count := (d.cal.count + 1) % 2 ^ 48, cycle := (d.cal.cycle + 1) % 2 ^ 48 } }) ∧
  (∀ w, w.dev.calRuns = false → Leaves .cycleBoundary w [] w.dev) ∧
  (∀ w log2, Leaves (.faultWindowStart log2) w []
    { w.dev with integ := { w.dev.integ with
        counts := w.dev.integ.counts.filter fun e => (w.dev.policyOf (e.1 / 256) (e.1 % 256)).2.1 != log2 } }) ∧
  (∀ w unit, w.dev.reaches 0x60018 = true → w.dev.modeOf = mQUIESCED → w.dev.integ.records.contains unit = true →
    Leaves (.integClear unit 0xC3) w []
      (w.dev.atManagement fun s => Dev.post { s with integ := { s.integ with records := s.integ.records.erase unit } } 0x4014 unit unit 0 0)) ∧
  (∀ w unit guard, guard ≠ 0xC3 ∨ w.dev.modeOf ≠ mQUIESCED → Leaves (.integClear unit guard) w [] (w.dev.regRow 0x60018 id)) ∧
  (∀ w unit, w.dev.reaches 0x60010 = true → Leaves (.integQuery unit) w [(.INTEG_QUERY_UNIT, unit % 2 ^ 16)] (w.dev.atManagement id))

/-- Faults (R129, R136, R139, R143, R148, R152): an arithmetic unit's result has the residue that it predicts; a fault that its check shows, of an enabled
unit, is counted by its outcome, marks its kind, adds to the unit's window and is
logged as its kind asks; one that reaches the threshold retires its unit; one that its check does not show, or of a unit the
structure does not enable, does nothing. Replays,
injection and the watchdog (R137, R151, R580): a replay that passes is counted and ends, the last that fails is counted and logs 0x4006 where nothing else waits for its stamp; an armed
injection disarms, is marked and logged, and then strikes; a core that misses its kick counts a WATCHDOG fault.
These forms are shown to answer a next state with their own effect, under conditions on the state and the operands alone: faultDetected, slotReplay,
inject, watchdog. -/
def Obligations.FaultsAreCountedLoggedReplayedAndInjected : Prop :=
  (∀ w f, f.shown = true → w.dev.unitPresent f.unit = true → w.dev.countsFaults f.unit = true → f.kind ∈ [8, 12, 15] →
    [0x0C, 0x0D].contains (unitClass f.unit) = false → (w.dev.net.qps.filter fun e => w.dev.engineLost (e.1 + 0x100)) = [] →
    let n := w.dev.integ.counts.getD (f.unit * 256 + f.kind) 0 + 1
    let c : Fld := if f.recovered then .INTEG_TRANS_TRANS f.kind else .INTEG_FAIL_FAIL f.kind
    (w.dev.policyOf f.unit f.kind).2.2 = false ∨ n < (w.dev.policyOf f.unit f.kind).1 →
    Leaves (.faultDetected f) w
      [(c, w.dev.counted c), (.INTEG_SUMMARY_KIND_SEEN, w.dev.get .INTEG_SUMMARY_KIND_SEEN ||| 2 ^ (f.kind - 1))]
      { w.dev with integ := { w.dev.integ with counts := w.dev.integ.counts.put (f.unit * 256 + f.kind) n,
                                               lastKind := w.dev.integ.lastKind.put f.unit f.kind } }) ∧
  (∀ w f, f.shown = true → w.dev.unitPresent f.unit = true → w.dev.countsFaults f.unit = true → f.kind ∈ [1, 2] → f.recovered = true →
    [0x0C, 0x0D].contains (unitClass f.unit) = false → (w.dev.net.qps.filter fun e => w.dev.engineLost (e.1 + 0x100)) = [] →
    w.dev.get .INTEG_LOG_HEAD_NEXT ≠ 255 →
    let n := w.dev.integ.counts.getD (f.unit * 256 + f.kind) 0 + 1
    let i := w.dev.get .INTEG_LOG_HEAD_NEXT
    (w.dev.policyOf f.unit f.kind).2.2 = false ∨ n < (w.dev.policyOf f.unit f.kind).1 →
    Leaves (.faultDetected f) w
      [(.INTEG_TRANS_TRANS f.kind, w.dev.counted (.INTEG_TRANS_TRANS f.kind)),
       (.INTEG_SUMMARY_KIND_SEEN, w.dev.get .INTEG_SUMMARY_KIND_SEEN ||| 2 ^ (f.kind - 1)), (.INTEG_LOG_HEAD_NEXT, i + 1)]
      (Dev.post { w.dev with integ := { w.dev.integ with
          counts := w.dev.integ.counts.put (f.unit * 256 + f.kind) n, lastKind := w.dev.integ.lastKind.put f.unit f.kind,
          log := w.dev.integ.log.put i { oseq := w.dev.twin.oseq, unit := f.unit, kind := f.kind, corrected := true, poisoned := false,
                                         injected := false, cycle := w.dev.cal.cycle, tick := f.tick } } }
        (0x4000 + f.kind) f.unit f.unit w.dev.cycleLow 0)) ∧
  (∀ w f, f.shown = true → w.dev.unitPresent f.unit = true → w.dev.countsFaults f.unit = true → f.kind ∈ [8, 12, 15] →
    [0x09, 0x0C, 0x0D].contains (unitClass f.unit) = false →
    let n := w.dev.integ.counts.getD (f.unit * 256 + f.kind) 0 + 1
    let c : Fld := if f.recovered then .INTEG_TRANS_TRANS f.kind else .INTEG_FAIL_FAIL f.kind
    (w.dev.policyOf f.unit f.kind).2.2 = true → (w.dev.policyOf f.unit f.kind).1 ≤ n →
    Makes (.faultDetected f) w
      (Dev.endLost <| (((w.dev.inc c).modInteg fun i =>
        { i with counts := w.dev.integ.counts.put (f.unit * 256 + f.kind) n, lastKind := w.dev.integ.lastKind.put f.unit f.kind }).orF
        .INTEG_SUMMARY_KIND_SEEN (2 ^ (f.kind - 1))).retireUnit f.unit f.kind n)) ∧
  (∀ op n a b, a < 2 ^ n → b < 2 ^ n → residue (ArithOp.value op n a b) = ArithOp.predicts op n a b) ∧
  (∀ w f, f.shown = false ∨ w.dev.unitPresent f.unit = false ∧ unitClass f.unit ≠ 8 → Leaves (.faultDetected f) w [] w.dev) ∧
  (∀ w stamp tick r, w.dev.integ.replays.get? stamp = some r →
    Leaves (.slotReplay stamp tick true) w
      [(.INTEG_TRANS_TRANS r.kind, w.dev.counted (.INTEG_TRANS_TRANS r.kind))]
      { w.dev with integ := { w.dev.integ with replays := w.dev.integ.replays.del stamp } }) ∧
  (∀ w stamp tick r, w.dev.integ.replays.get? stamp = some r → r.count = 1 → w.dev.countsFaults r.unit = false → w.dev.net.qps = [] →
    (∀ e ∈ w.dev.dq, e.2.run = none) →
    Leaves (.slotReplay stamp tick false) w
      [(.INTEG_FAIL_FAIL r.kind, w.dev.counted (.INTEG_FAIL_FAIL r.kind))]
      (Dev.post { w.dev with integ := { w.dev.integ with replays := w.dev.integ.replays.del stamp } } 0x4006 r.unit r.unit stamp r.kind)) ∧
  (∀ w f, w.dev.injectAgrees = true → w.dev.integ.armed = some (f.unit, f.kind) →
    let t := Dev.post ({ w.dev with integ := { w.dev.integ with armed := none } }.set .INTEG_SUMMARY_INJ_DONE 1) 0x4021 f.unit f.unit f.kind 0
    Makes (.inject f) w (if t.unitPresent f.unit = true ∨ unitClass f.unit = 8 then (t.faultAction f true).endLost else t)) ∧
  (∀ w f, w.dev.integ.armed ≠ some (f.unit, f.kind) ∨ w.dev.injectAgrees = false → Leaves (.inject f) w [] w.dev) ∧
  (∀ w core, core < 5 → w.dev.modeOf ≠ mDORMANT → w.dev.countsFaults (0x0800 + core) = true →
    let key := (0x0800 + core) * 256 + 15
    let n := w.dev.integ.counts.getD key 0 + 1
    n < (w.dev.policyOf (0x0800 + core) 15).1 →
    Leaves (.watchdog core) w
      [(.INTEG_FAIL_FAIL 15, w.dev.counted (.INTEG_FAIL_FAIL 15)),
       (.INTEG_SUMMARY_KIND_SEEN, w.dev.get .INTEG_SUMMARY_KIND_SEEN ||| 2 ^ 14)]
      { w.dev with integ := { w.dev.integ with counts := w.dev.integ.counts.put key n, lastKind := w.dev.integ.lastKind.put (0x0800 + core) 15 } })

/-! ### Ports, connections and queue pairs (06_rdma_transport.md) -/

/-- A frame at an enabled port that serves (R159, R162, R163): an intact RoCE v2 or address frame is counted as received, and a request packet fixes
its QP's class; a bad FCS, a frame that is not
accepted, bad headers, a bad ICRC and an ESP packet whose SPI names no SA are each counted where R159, R162, R163 and R164 say; a frame at a port that
the structure does not enable does nothing. The port engine's own answers (R160): an ARP request, a neighbour solicitation for an address of the port
and an echo request are answered while the port serves, an echo request only 1,000 times a second; an excess one is counted, a request for another
address draws no answer, and while the priority is paused the answer waits.
These forms are shown to answer a next state with their own effect, under conditions on the state and the operands alone: frameReceived, arpRequest,
neighbourSolicitation, echoRequest. -/
def Obligations.PortsCountFramesAndAnswerForTheirAddresses : Prop :=
  (∀ w f r a, w.dev.portRec f.port = some r → w.dev.portsServe = true → f.fcs = true → w.dev.macOk f = true → w.dev.vlanOk f = true →
    f.len ≤ r.maxFrame → f.kind ∈ [.arp a, .neighbour a, .echo a] →
    Leaves (.frameReceived f) w [(.PORT_RX_FRAMES_RX_FRAMES f.port, w.dev.counted (.PORT_RX_FRAMES_RX_FRAMES f.port))] w.dev) ∧
  (∀ w f r h q op, w.dev.portRec f.port = some r → w.dev.portsServe = true → f.fcs = true → w.dev.macOk f = true → w.dev.vlanOk f = true →
    f.len ≤ r.maxFrame → f.kind = .roce h true q op none → h.ok = true → h.ecn ≠ 3 → (w.dev.net.qpOf q).bind (fun e => e.2.liveSa) = none →
    Leaves (.frameReceived f) w [(.PORT_RX_FRAMES_RX_FRAMES f.port, w.dev.counted (.PORT_RX_FRAMES_RX_FRAMES f.port))]
      (w.dev.fixClass q h.dscp (requestOpcode op))) ∧
  (∀ w f r h q op, w.dev.portRec f.port = some r → w.dev.portsServe = true → f.fcs = true → w.dev.macOk f = true → w.dev.vlanOk f = true →
    f.len ≤ r.maxFrame → f.kind = .roce h false q op none → h.ok = true → (w.dev.net.qpOf q).bind (fun e => e.2.liveSa) = none →
    Leaves (.frameReceived f) w [(.PORT_RX_ICRC_ERR_RX_ICRC_ERR f.port, w.dev.counted (.PORT_RX_ICRC_ERR_RX_ICRC_ERR f.port))] w.dev) ∧
  (∀ w f, (w.dev.portRec f.port).isSome = true → w.dev.portsUp = true → f.fcs = false →
    Leaves (.frameReceived f) w [(.PORT_RX_FCS_ERR_RX_FCS_ERR f.port, w.dev.counted (.PORT_RX_FCS_ERR_RX_FCS_ERR f.port))] w.dev) ∧
  (∀ w f r h icrc q op esp, w.dev.portRec f.port = some r → w.dev.portsUp = true → f.fcs = true → f.kind ≠ .pause →
    (w.dev.portsServe = false ∨ w.dev.macOk f = false ∨ w.dev.vlanOk f = false ∨ r.maxFrame < f.len ∨
      f.kind = .other ∨ (f.kind = .roce h icrc q op esp ∧ h.ok = false)) →
    Leaves (.frameReceived f) w [(.PORT_RX_DISCARD_RX_DISCARD f.port, w.dev.counted (.PORT_RX_DISCARD_RX_DISCARD f.port))] w.dev) ∧
  (∀ w f r h q op e, w.dev.portRec f.port = some r → w.dev.portsServe = true → f.fcs = true → w.dev.macOk f = true → w.dev.vlanOk f = true →
    f.len ≤ r.maxFrame → f.kind = .roce h true q op (some e) → h.ok = true → (w.dev.net.qpOf q).bind (fun x => x.2.liveSa) = none →
    w.dev.get (.PORT_RX_ESP_FAIL_RX_ESP_FAIL f.port) < 2 ^ 32 - 1 →
    Leaves (.frameReceived f) w [(.PORT_RX_ESP_FAIL_RX_ESP_FAIL f.port, w.dev.get (.PORT_RX_ESP_FAIL_RX_ESP_FAIL f.port) + 1)]
      (w.dev.post 0x8004 (0x0400 + f.port) f.port e.spi 0)) ∧
  (∀ w f, w.dev.portRec f.port = none ∨ w.dev.portsUp = false → Leaves (.frameReceived f) w [] w.dev) ∧
  (∀ w p a i, w.dev.portsServe = true → (w.dev.pausedOn p).testBit (w.dev.get (.PORT_VLAN_PCP_OTHER p)) = false →
    (w.dev.portAddrs p false).find? (fun i => w.dev.portAddr p i == a) = some i →
    Leaves (.arpRequest p a) w [(.PORT_TX_FRAMES_TX_FRAMES p, w.dev.counted (.PORT_TX_FRAMES_TX_FRAMES p))]
      { w.dev with sent := .eth p .arpReply i :: w.dev.sent }) ∧
  (∀ w p a i, w.dev.portsServe = true → (w.dev.pausedOn p).testBit (w.dev.get (.PORT_VLAN_PCP_OTHER p)) = false →
    (w.dev.portAddrs p true).find? (fun i => w.dev.portAddr p i == a) = some i →
    Leaves (.neighbourSolicitation p a) w [(.PORT_TX_FRAMES_TX_FRAMES p, w.dev.counted (.PORT_TX_FRAMES_TX_FRAMES p))]
      { w.dev with sent := .eth p .neighbourAdvert i :: w.dev.sent }) ∧
  (∀ w p a i, w.dev.portsServe = true → (w.dev.pausedOn p).testBit (w.dev.get (.PORT_VLAN_PCP_OTHER p)) = true →
    (w.dev.portAddrs p false).find? (fun i => w.dev.portAddr p i == a) = some i →
    Leaves (.arpRequest p a) w []
      { w.dev with net := { w.dev.net with waitTx := w.dev.net.waitTx ++ [(p, w.dev.get (.PORT_VLAN_PCP_OTHER p), .eth p .arpReply i)] } }) ∧
  (∀ w p id, w.dev.portsServe = true → (w.dev.pausedOn p).testBit (w.dev.get (.PORT_VLAN_PCP_OTHER p)) = false →
    let sec := w.dev.evt.islandMs / 1000
    let done := w.dev.net.echoes.getD p (sec, 0)
    let n := if done.1 = sec then done.2 else 0
    if n < 1000 then
      Leaves (.echoRequest p id) w [(.PORT_TX_FRAMES_TX_FRAMES p, w.dev.counted (.PORT_TX_FRAMES_TX_FRAMES p))]
        { w.dev with net := { w.dev.net with echoes := w.dev.net.echoes.put p (sec, n + 1) }, sent := .eth p .echoReply id :: w.dev.sent }
    else Leaves (.echoRequest p id) w [(.PORT_ICMP_DROP_ICMP_DROP p, w.dev.counted (.PORT_ICMP_DROP_ICMP_DROP p))] w.dev) ∧
  (∀ w p x, w.dev.portsServe = false → Leaves (.arpRequest p x) w [] w.dev ∧ Leaves (.neighbourSolicitation p x) w [] w.dev ∧
    Leaves (.echoRequest p x) w [] w.dev)

/-- Pauses and links (R158, R161): a pause of the PCP of C0 sets PAUSE_C0 and is logged, another pauses its priorities alone, and they resume
when their quanta end, with what waited for them; a link that goes down or comes up is marked, logged and advertised unless a switch-over holds it.
These forms are shown to answer a next state with their own effect, under conditions on the state and the operands alone: pauseFrame, linkDown,
linkUp, pauseQuantaExpiry. -/
def Obligations.PausesAndLinksAreMarkedAndLogged : Prop :=
  (∀ w p mask, (w.dev.portRec p).isSome = true →
    let m := w.dev.pausedOn p ||| (mask % 256)
    let net := { w.dev.net with paused := if m = 0 then w.dev.net.paused.del p else w.dev.net.paused.put p m }
    if mask.testBit (w.dev.pcp p 0) then
      Leaves (.pauseFrame p mask) w [(.PORT_STATUS_PAUSE_C0 p, 1)]
        (Dev.post { w.dev with net := net } 0x8009 (0x0400 + p) p (w.dev.pcp p 0) (w.dev.net.pauseFor.getD p 0))
    else Leaves (.pauseFrame p mask) w [] { w.dev with net := net }) ∧
  (∀ w p mask, w.dev.portRec p = none → Leaves (.pauseFrame p mask) w [] w.dev) ∧
  (∀ w p mask, (maskOff (w.dev.pausedOn p) (mask % 256)).testBit (w.dev.pcp p 0) = true → w.dev.net.waitTx = [] →
    Leaves (.pauseQuantaExpiry p mask) w []
      { w.dev with net := { w.dev.net with paused := w.dev.net.paused.put p (maskOff (w.dev.pausedOn p) (mask % 256)) } }) ∧
  (∀ w p mask, maskOff (w.dev.pausedOn p) (mask % 256) = 0 → w.dev.net.waitTx = [] →
    Leaves (.pauseQuantaExpiry p mask) w []
      { w.dev with net := { w.dev.net with paused := w.dev.net.paused.del p, pauseFor := w.dev.net.pauseFor.del p } }) ∧
  (∀ w p mask prio o, maskOff (w.dev.pausedOn p) (mask % 256) = 0 → w.dev.net.waitTx = [(p, prio, o)] →
    (w.dev.net.paused.del p).get? p = none →
    Leaves (.pauseQuantaExpiry p mask) w [(.PORT_TX_FRAMES_TX_FRAMES p, w.dev.counted (.PORT_TX_FRAMES_TX_FRAMES p))]
      { w.dev with net := { w.dev.net with paused := w.dev.net.paused.del p, pauseFor := w.dev.net.pauseFor.del p, waitTx := [] },
                   sent := o :: w.dev.sent }) ∧
  (∀ w p locked, w.dev.bit (.PORT_STATUS_LINK_UP p) = true → w.dev.bit (.PORT_STATUS_HELD p) = false →
    Leaves (.linkDown p locked) w [(.PORT_STATUS_LINK_UP p, 0), (.PORT_STATUS_LINK_CHANGED p, 1), (.PORT_STATUS_ADVERTISED p, 0)]
      (w.dev.post 0x8005 (0x0400 + p) p locked 0)) ∧
  (∀ w p, w.dev.bit (.PORT_CFG_ENABLED p) = true → w.dev.bit (.PORT_STATUS_LINK_UP p) = false → w.dev.bit (.PORT_STATUS_HELD p) = false →
    w.dev.inMode [mDORMANT, mCONFIGURING, mHOLDUP, mSANITIZING] = false →
    Leaves (.linkUp p) w [(.PORT_STATUS_LINK_UP p, 1), (.PORT_STATUS_LINK_CHANGED p, 1), (.PORT_STATUS_ADVERTISED p, b2n w.dev.portsUp)]
      (w.dev.post 0x8006 (0x0400 + p) p (w.dev.get (.PORT_CFG_SPEED p)) 0)) ∧
  (∀ w p locked, w.dev.bit (.PORT_STATUS_LINK_UP p) = true → w.dev.bit (.PORT_STATUS_HELD p) = true →
    Leaves (.linkDown p locked) w [(.PORT_STATUS_LINK_UP p, 0), (.PORT_STATUS_LINK_CHANGED p, 1)] (w.dev.post 0x8005 (0x0400 + p) p locked 0)) ∧
  (∀ w p locked, w.dev.bit (.PORT_STATUS_LINK_UP p) = false → Leaves (.linkDown p locked) w [] w.dev) ∧
  (∀ w p, w.dev.bit (.PORT_CFG_ENABLED p) = false ∨ w.dev.bit (.PORT_STATUS_LINK_UP p) = true ∨
    w.dev.inMode [mDORMANT, mCONFIGURING, mHOLDUP, mSANITIZING] = true → Leaves (.linkUp p) w [] w.dev)

/-- Connections (R165, R166, R167, R168, R170, R184): an accepted REQ of the DATA kind takes the lowest free QP in RTR and is answered with a
REP of 16 responder resources and initiator depth 16; a rejected one with its REJ reason; RTU makes RTR RTS; DREQ begins the teardown, or ends one in effect; a QP in ERROR sends its DREQ and, a second later,
returns to RESET with its host's entry where that was its last QP.
These forms are shown to answer a next state with their own effect, under conditions on the state and the operands alone: cmReq, cmRtu, cmDreq,
qpResetTimeout, qpErrorDreq. -/
def Obligations.ConnectionsAreMadeAndTakenDown : Prop :=
  (∀ w r i, w.dev.portsServe = true → w.dev.forwards = false → w.dev.cmReject r = none → w.dev.serviceKind r.service = some 0 →
    (w.dev.pausedOn r.port).testBit (w.dev.get (.PORT_VLAN_PCP_OTHER r.port)) = false → w.dev.silent = false → w.dev.net.freeQp = some i →
    let q := w.dev.newQp r 0
    Leaves (.cmReq r) w [(.PORT_TX_FRAMES_TX_FRAMES r.port, w.dev.counted (.PORT_TX_FRAMES_TX_FRAMES r.port))]
      (w.dev.atMad r.port r.dscp fun s =>
        { s with free := s.free + 1, net := { s.net with qps := s.net.qps.put i q, hosts := s.net.hosts.put q.host r.host },
                 sent := .cm r.port i .rep q.spsn 0 0 16 16 :: s.sent })) ∧
  (∀ (d : Dev) (r : CmReq), let q := d.newQp r 0
    q.state = 2 ∧ q.kind = 0 ∧ q.port = r.port ∧ q.cls = d.dscpClass r.dscp ∧ q.fixed = false ∧ q.remoteQpn = r.qpn ∧ q.epsn = r.psn ∧ q.msn = 0 ∧
    q.pd = r.pd ∧ q.pkey = r.pkey ∧ q.mtu = r.mtu ∧ q.sa = none ∧ q.nextSa = none ∧ q.resps = [] ∧ q.reqs = [] ∧ q.msg = none) ∧
  (∀ w r i, w.dev.portsServe = true → w.dev.forwards = false → w.dev.cmReject r = none → w.dev.serviceKind r.service = some 2 →
    w.dev.net.freeQp = some i →
    Answers (.cmReq r) w fun t => (t.net.qps.get? i).map (fun q => (q.kind, q.state, q.queue)) = some (2, 2, some r.queue) ∧
      (t.queue r.queue).map (fun x => (x.qp, x.port)) = some (some i, r.port)) ∧
  (∀ w r why, w.dev.portsServe = true → w.dev.forwards = false → w.dev.cmReject r = some why →
    (w.dev.pausedOn r.port).testBit (w.dev.get (.PORT_VLAN_PCP_OTHER r.port)) = false → w.dev.silent = false →
    Leaves (.cmReq r) w [(.PORT_TX_FRAMES_TX_FRAMES r.port, w.dev.counted (.PORT_TX_FRAMES_TX_FRAMES r.port))]
      (w.dev.atMad r.port r.dscp fun s => { s with sent := .cm r.port 0 .rej 0 why 0 0 0 :: s.sent })) ∧
  (∀ w r, w.dev.portsServe = false → Leaves (.cmReq r) w [] (w.dev.atMad r.port r.dscp id)) ∧
  (∀ w i q, w.dev.portsServe = true → w.dev.forwards = false → w.dev.net.qps.get? i = some q → q.state = 2 →
    Leaves (.cmRtu i) w []
      (w.dev.atMad q.port q.dscp fun s => { s with net := { s.net with qps := s.net.qps.upd i fun x => { x with state := 3 } } })) ∧
  (∀ w i q, w.dev.portsServe = true → w.dev.forwards = false → w.dev.net.qps.get? i = some q → w.dev.isDown q = true →
    Answers (.cmDreq i) w fun t => t.net.qps.get? i = none) ∧
  (∀ w i q, w.dev.portsServe = true → w.dev.forwards = false → w.dev.net.qps.get? i = some q → w.dev.isDown q = false →
    (w.dev.pausedOn q.port).testBit (w.dev.get (.PORT_VLAN_PCP_OTHER q.port)) = false → w.dev.silent = false →
    Leaves (.cmDreq i) w [(.PORT_TX_FRAMES_TX_FRAMES q.port, w.dev.counted (.PORT_TX_FRAMES_TX_FRAMES q.port))]
      (w.dev.atMad q.port q.dscp fun s =>
        { s with net := { s.net with qps := s.net.qps.upd i fun x =>
                   { x with downAt := some (q.downAt.getD (w.dev.cal.cycle + 1)), cmDone := true } },
                 sent := .cm q.port i .drep 0 0 0 0 0 :: s.sent })) ∧
  (∀ w i q, w.dev.portsServe = true → w.dev.forwards = false → w.dev.net.qps.get? i = some q → q.state = 4 →
    (w.dev.pausedOn q.port).testBit (w.dev.get (.PORT_VLAN_PCP_OTHER q.port)) = false → w.dev.silent = false →
    Leaves (.qpErrorDreq i) w [(.PORT_TX_FRAMES_TX_FRAMES q.port, w.dev.counted (.PORT_TX_FRAMES_TX_FRAMES q.port))]
      { w.dev with sent := .cm q.port i .dreq 0 0 0 0 0 :: w.dev.sent }) ∧
  (∀ w i q, w.dev.portsServe = true → w.dev.forwards = false → w.dev.net.qps.get? i = some q → q.state = 4 → q.kind = 0 → q.respq = none →
    q.resps = [] → q.reqs = [] → q.msg = none →
    let qps := w.dev.net.qps.del i
    Leaves (.qpResetTimeout i) w [] { w.dev with net := { w.dev.net with
      qps := qps, hosts := if qps.any (fun e => e.2.host == q.host) then w.dev.net.hosts else w.dev.net.hosts.del q.host } }) ∧
  (∀ w i, w.dev.net.qps.get? i = none → Leaves (.cmRtu i) w [] w.dev ∧ Leaves (.cmDreq i) w [] w.dev ∧ Leaves (.qpErrorDreq i) w [] w.dev ∧
    Leaves (.qpResetTimeout i) w [] w.dev)

/-- Acknowledgement and congestion timers (R185, R191, R192): an ACK timer that has run out sends the ACK of what is acknowledgeable; a CNP cuts
the rate by CNP_MULT, at most once per CNP_HOLD_US and not under RATE_MIN; a sample within the target raises the rate by AI up to line
rate.
These forms are shown to answer a next state with their own effect, under conditions on the state and the operands alone: cnp, ackTimer. -/
def Obligations.AckTimersAndCongestionCutsActOnTheirQp : Prop :=
  (∀ w i q, w.dev.net.qps.get? i = some q → q.ackLate (w.dev.get .XPORT_ACK_TIMER) w.dev.cal.cycle = true → w.dev.silent = false →
    w.dev.maySend q = true → q.sa = none → q.reAck = none → q.resps = [] → q.reqs = [] →
    let q1 : Qp := { q with ackDue := false, ackFrom := none, since := 0, lastAck := q.ackable, sentSince := true }
    Leaves (.ackTimer i) w [(.PORT_TX_FRAMES_TX_FRAMES q.port, w.dev.counted (.PORT_TX_FRAMES_TX_FRAMES q.port))]
      { w.dev with net := { w.dev.net with qps := w.dev.net.qps.upd i fun _ => q1 },
                   sent := .roce (q.packet i .ack q.ackable (w.dev.ackSynd q) q.msn 0 0 none true true []) :: w.dev.sent }) ∧
  (∀ w i q, w.dev.net.qps.get? i = some q → q.ackLate (w.dev.get .XPORT_ACK_TIMER) w.dev.cal.cycle = false → Leaves (.ackTimer i) w [] w.dev) ∧
  (∀ w p i q c, w.dev.net.qpOf p.qpn = some (i, q) → w.dev.curve = some c → w.dev.portsServe = true → p.op = 0x81 → p.icrc = true → p.tver = 0 →
    p.esp = none → q.sa = none → p.port = q.port → p.pkey % 32768 = q.pkey % 32768 → q.state = 2 ∨ q.state = 3 →
    Leaves (.cnp p) w [(.PORT_CNP_RX_CNP_RX q.port, w.dev.counted (.PORT_CNP_RX_CNP_RX q.port))]
      (w.dev.atPacket p fun s => { s with net := { s.net with qps := s.net.qps.upd i fun x => x.cut c s.stamp } })) ∧
  (∀ (q : Qp) c now, q.cut c now =
    if (∃ t, q.lastCut = some t ∧ now < t + c.cnpHold * 2000) then q
    else { q with rate := max (q.rate * c.cnpMult / 65536) c.rateMin, lastCut := some now }) ∧
  (∀ (q : Qp) c line nowMs nowTicks ns, ns ≤ (leastOf (ns :: (q.samples.filter fun e => decide (e.1 + c.windowMs ≥ nowMs)).map Prod.snd)).getD ns + c.target →
    (q.sample c line nowMs nowTicks ns).rate = min (q.rate + c.ai) line) ∧
  (∀ w p, w.dev.portsServe = true → p.op = 0x81 → w.dev.net.qpOf p.qpn = none →
    Leaves (.cnp p) w [(.PORT_RX_DISCARD_RX_DISCARD p.port, w.dev.counted (.PORT_RX_DISCARD_RX_DISCARD p.port))] (w.dev.atPacket p id)) ∧
  (∀ w p, w.dev.portsServe = false → Leaves (.cnp p) w [] (w.dev.atPacket p id))

/-- The rows of host requests, each with the kind of opcode that it runs. -/
def requestRows (p : Pkt) : List (Instr × OpKind) :=
  [(.send p, .send), (.rdmaWrite p, .write), (.rdmaReadRequest p, .read), (.cmpSwap p, .cmpSwap), (.fetchAdd p, .fetchAdd), (.rdmaFlush p, .flush),
   (.atomicWrite p, .atomicWrite)]

/-- Every host-request row executes its packet at its stamp, at the point of the packet's class (R24, R98, R112), and reaches its QP (R163, R164,
R168, R172, R454): a packet of the row's opcode that the QP takes is classified by its PSN; an opcode the QP does not accept belongs to
INVALID_OPCODE; an active forwards the packet first; the expected request of a lost transport engine is answered with NAK Remote Operational Error (R29,
R119). A packet without its QP, that fails R164, or that lacks the ESP of its QP's SA is discarded and counted; one that fails the ESP checks counts as
an ESP failure; one with a bad ICRC, or on a QP that does not execute now, does nothing more, nor does one of another opcode. -/
def Obligations.HostRequestsReachTheirQpOrAreDiscarded : Prop :=
  (∀ w p i q c k, (c, k) ∈ requestRows p → opKind p.op = k → w.dev.reached i q p = true → w.dev.engineLost p.qpn = false ∨ p.psn ≠ q.epsn →
    Makes c w (w.dev.atPacket p fun s =>
      let f := (s.acceptPkt i q p).1.forward (.host p) (w.dev.packetCls p.qpn p.dscp)
      let u := f.1.classify i p f.2
      if f.2 ≠ 0 ∧ u.bit .TWIN_STATUS_HOLDING = true then u.inc .TWIN_HELD_RESPONSES_HELD else u)) ∧
  (∀ (s : Dev) (p : Pkt) i q, Dev.packetOk q p = true → p.icrc = true → p.esp = none → q.liveSa = none →
    s.acceptPkt i q p = (s.updQp i (·.slideEsp p), true) ∧ q.slideEsp p = q) ∧
  (∀ (s : Dev) (p : Pkt) i q a e, Dev.packetOk q p = true → p.icrc = true → p.esp = some e → q.sa = some a → a.live = true → espFault (some a) e = none →
    s.acceptPkt i q p = ((s.useKey 0 a.slot).updQp i (·.slideEsp p), true) ∧ (q.slideEsp p).sa = some (a.slide e.seq)) ∧
  (∀ w p i q, opAllowed p.op q.kind = false → w.dev.plain i q p = true → Makes (.invalidOpcode p) w (w.dev.atPacket p fun s => s.classify i p 0)) ∧
  (∀ w p i q, opAllowed p.op q.kind = true → w.dev.net.qpOf p.qpn = some (i, q) → Leaves (.invalidOpcode p) w [] w.dev) ∧
  (∀ w p c k, (c, k) ∈ requestRows p → opKind p.op ≠ k → Leaves c w [] w.dev) ∧
  (∀ w p i q c k, (c, k) ∈ requestRows p → opKind p.op = k → w.dev.reached i q p = true → w.dev.engineLost p.qpn = true → p.psn = q.epsn → p.esp = none →
    Makes c w (w.dev.atPacket p fun s => s.nak i 0x63 p.psn none)) ∧
  (∀ w p c k, (c, k) ∈ requestRows p → opKind p.op = k → w.dev.net.qpOf p.qpn = none → w.dev.portsServe = true →
    Leaves c w [(.PORT_RX_DISCARD_RX_DISCARD p.port, w.dev.counted (.PORT_RX_DISCARD_RX_DISCARD p.port))] (w.dev.atPacket p id)) ∧
  (∀ w p i q c k, (c, k) ∈ requestRows p → opKind p.op = k → w.dev.net.qpOf p.qpn = some (i, q) → (w.dev.turn p).executes q false = true →
    q.state = 4 ∨ q.port ≠ p.port ∨ p.tver ≠ 0 ∨ q.pkey % 32768 ≠ p.pkey % 32768 ∨ (p.icrc = true ∧ q.espBad p = some none) →
    Leaves c w [(.PORT_RX_DISCARD_RX_DISCARD p.port, w.dev.counted (.PORT_RX_DISCARD_RX_DISCARD p.port))] (w.dev.atPacket p id)) ∧
  (∀ w p i q c k e why, (c, k) ∈ requestRows p → opKind p.op = k → w.dev.net.qpOf p.qpn = some (i, q) → (w.dev.turn p).executes q false = true →
    Dev.packetOk q p = true → p.icrc = true → p.esp = some e → espFault q.liveSa e = some why →
    Leaves c w [(.PORT_RX_ESP_FAIL_RX_ESP_FAIL p.port, w.dev.counted (.PORT_RX_ESP_FAIL_RX_ESP_FAIL p.port))]
      (w.dev.atPacket p fun s => s.post 0x8004 (0x0400 + p.port) p.port e.spi why)) ∧
  (∀ w p i q c k, (c, k) ∈ requestRows p → opKind p.op = k → w.dev.net.qpOf p.qpn = some (i, q) →
    (w.dev.turn p).executes q false = false ∨ (Dev.packetOk q p = true ∧ p.icrc = false) → Leaves c w [] (w.dev.atPacket p id)) ∧
  (∀ w p i q, opAllowed p.op q.kind = false → w.dev.net.qpOf p.qpn = some (i, q) →
    (w.dev.turn p).executes q false = false ∨ (Dev.packetOk q p = true ∧ p.icrc = false) → Leaves (.invalidOpcode p) w [] (w.dev.atPacket p id))

/-- Expected requests with nothing to move (R168, R173, R177, R178, R183, R185): a zero-length WRITE that asks for an acknowledgement, a
zero-length READ and FLUSH touch no byte, advance the PSN and the MSN by one and are answered at once, a paced READ from its bucket (R193); a SEND on a
CONTROL QP is one ring entry, and its ACK carries the credits left; one that finds the ring full is answered with an RNR NAK, and its PSN has
arrived (R178, R186).
These forms are shown to answer a next state with their own effect, under conditions on the state and the operands alone: send, rdmaWrite,
rdmaReadRequest, rdmaFlush. -/
def Obligations.ExpectedRequestsAdvanceTheirQpAndAnswer : Prop :=
  (∀ w p i q c kind, (c, p.op, kind) ∈ [(Instr.rdmaReadRequest p, 0x0C, TxKind.readResponse), (.rdmaFlush p, 0x1C, .flushResponse)] →
    w.dev.isNext i q p = true → w.dev.quiet q = true → p.len = 0 → p.whole = false → p.psn < 2 ^ 24 →
    (kind = .readResponse → w.dev.bucketHolds q 20 = true) →
    let paced := kind = .readResponse ∧ q.cls ≠ 0
    let q1 : Qp := { q with epsn := psnAdd q.epsn 1, nakSent := false, msn := psnAdd q.msn 1, ackable := p.psn, lastAck := p.psn, since := 0,
                            ackFrom := none, sentSince := true, bucket := if paced then q.bucket - w.dev.bucketNeed q 20 else q.bucket }
    Leaves c w [(.PORT_TX_FRAMES_TX_FRAMES q.port, w.dev.counted (.PORT_TX_FRAMES_TX_FRAMES q.port))]
      (w.dev.atPacket p fun s => Dev.output { s with
        net := { s.net with qps := s.net.qps.upd i fun _ => q1 },
        sent := .roce (q.packet i kind p.psn 0x1F (psnAdd q.msn 1) 0 0 none true true []) :: s.sent } 1 0x1F i p.psn 0 0)) ∧
  (∀ w p i q, p.op = 0x0A ∨ p.op = 0x0B → w.dev.isNext i q p = true → w.dev.quiet q = true → p.len = 0 → p.ackReq = true → p.psn < 2 ^ 24 →
    let q1 : Qp := { q with epsn := psnAdd q.epsn 1, nakSent := false, msn := psnAdd q.msn 1, ackable := p.psn, lastAck := p.psn, since := 0,
                            ackFrom := none, sentSince := true, immLast := p.imm.getD q.immLast,
                            immCount := if p.imm.isSome then (q.immCount + 1) % 2 ^ 32 else q.immCount }
    Leaves (.rdmaWrite p) w [(.PORT_TX_FRAMES_TX_FRAMES q.port, w.dev.counted (.PORT_TX_FRAMES_TX_FRAMES q.port))]
      (w.dev.atPacket p fun s => Dev.output { s with
        net := { s.net with qps := s.net.qps.upd i fun _ => q1 },
        sent := .roce (q.packet i .ack p.psn 0x1F (psnAdd q.msn 1) 0 0 none true true []) :: s.sent } 1 0x1F i p.psn 0 0)) ∧
  (∀ w p i q, p.op = 4 ∨ p.op = 5 → q.kind = 1 → w.dev.isNext i q p = true → w.dev.quiet q = true → q.ring.length < 16 → p.ackReq = true →
    verbMalformed p.payload = false → p.psn < 2 ^ 24 →
    let ring := q.ring.put q.asked (p.payload, p.imm)
    let q1 : Qp := { q with epsn := psnAdd q.epsn 1, nakSent := false, msn := psnAdd q.msn 1, ackable := p.psn, lastAck := p.psn, since := 0,
                            ackFrom := none, sentSince := true, ring := ring, asked := q.asked + 1 }
    Leaves (.send p) w [(.PORT_TX_FRAMES_TX_FRAMES q.port, w.dev.counted (.PORT_TX_FRAMES_TX_FRAMES q.port))]
      (w.dev.atPacket p fun s => Dev.output { s with
        net := { s.net with qps := s.net.qps.upd i fun _ => q1 },
        sent := .roce (q.packet i .ack p.psn (creditCode (16 - ring.length)) (psnAdd q.msn 1) 0 0 none true true []) :: s.sent }
        1 (creditCode (16 - ring.length)) i p.psn 0 0)) ∧
  (∀ w p i q, p.op = 4 ∨ p.op = 5 → q.kind = 1 → w.dev.isNext i q p = true → w.dev.quiet q = true → 16 ≤ q.ring.length → q.minRnr < 32 →
    let q1 : Qp := { q with sentSince := true, nakSent := false }
    Leaves (.send p) w [(.PORT_TX_FRAMES_TX_FRAMES q.port, w.dev.counted (.PORT_TX_FRAMES_TX_FRAMES q.port)),
        (.XPORT_RNR_RNR, w.dev.counted .XPORT_RNR_RNR)]
      (w.dev.atPacket p fun s => Dev.output { s with
        net := { s.net with qps := s.net.qps.upd i fun _ => q1 },
        sent := .roce (q.packet i .rnrNak p.psn (0x20 + q.minRnr) q.msn 0 0 none true true []) :: s.sent } 1 (0x20 + q.minRnr) i p.psn 0 0))

/-- Requests that touch a region (R25, R28, R135, R175, R209, R210, R237, R242): one that fails the access check is an access error and
answered with NAK Remote Access; a WRITE Only puts its bytes in the galley; a READ answers its span; CmpSwap stores its swap where the
word equals its compare, FetchAdd the sum modulo 2^64, and both answer the old word; ATOMIC WRITE stores its 8 bytes; a READ or an atomic whose lines no
reachable unit holds is answered with NAK Remote Operational Error (R29).
These forms are shown to answer a next state with their own effect, under conditions on the state and the operands alone: rdmaWrite, rdmaReadRequest,
cmpSwap, fetchAdd, atomicWrite. -/
def Obligations.RegionRequestsReadWriteAndCheckTheirSpan : Prop :=
  (∀ w p i q c right len k cause, (c, p.op, right, len) ∈ [(Instr.rdmaReadRequest p, 0x0C, aREAD, p.len), (.cmpSwap p, 0x13, aATOMIC, 8),
      (.fetchAdd p, 0x14, aATOMIC, 8), (.atomicWrite p, 0x1D, aATOMIC, 8)] →
    w.dev.isNext i q p = true → len ≠ 0 → w.dev.check q.pd p.rkey p.va len right false = (k, some cause) →
    Makes c w (w.dev.atPacket p fun s =>
      (((s.took i (q.psnsOf p) true).accessError (p.rkey / 4096) i cause p.op p.va).nak i 0x62 p.psn none))) ∧
  (∀ w p i q k cause, p.op = 0x0A ∨ p.op = 0x0B → w.dev.isNext i q p = true → p.len ≠ 0 → w.dev.check q.pd p.rkey p.va p.len aWRITE true = (k, some cause) →
    Makes (.rdmaWrite p) w (w.dev.atPacket p fun s =>
      (((s.accessError (p.rkey / 4096) i cause p.op p.va).took i 1 false).nak i 0x62 p.psn none))) ∧
  (∀ w p i q k, p.op = 0x0A ∨ p.op = 0x0B → w.dev.isNext i q p = true → p.len ≠ 0 → w.dev.check q.pd p.rkey p.va p.len aWRITE true = (some k, none) →
    let off := p.va - (w.dev.rgn.region k).vaBase
    Makes (.rdmaWrite p) w (w.dev.atPacket p fun s =>
      ((((((s.regionEnter k).append k off p.len)).putPayload i q p k off 0).took i 1 true).messageEnd i q p p.psn 0 (some k) p.imm))) ∧
  (∀ w p i q k g, p.op = 0x0C → w.dev.isNext i q p = true → p.len ≠ 0 → w.dev.check q.pd p.rkey p.va p.len aREAD false = (some k, none) →
    let s := w.dev.turn p
    let t := ((s.took i (q.psnsOf p) true).regionEnter k).readSpan q.cls k p.va p.len
    let q1 : Qp := { q with msn := psnAdd q.msn 1 }
    t.2 = some g → t.1.reported g.2.1 = true →
    Makes (.rdmaReadRequest p) w (Dev.executed ((t.1.output 1 (t.1.ackSynd q1) i p.psn g.2.2.2.2 p.len).respond i
      { Resp.mk0 .readResponse p.psn (psnAdd p.psn (q.psnsOf p - 1)) s.stamp (psnAdd q.msn 1) with
        data := g.1, onum := if s.awaitsReport then g.2.1 else 0, region := some k, waits := g.2.2.1, marks := g.2.2.2.1 } false))) ∧
  (∀ w p i q k, p.op = 0x0C → w.dev.isNext i q p = true → p.len ≠ 0 → w.dev.check q.pd p.rkey p.va p.len aREAD false = (some k, none) →
    let t := (((w.dev.turn p).took i (q.psnsOf p) true).regionEnter k).readSpan q.cls k p.va p.len
    t.2 = none → Makes (.rdmaReadRequest p) w (Dev.executed (t.1.nak i 0x63 p.psn (some k)))) ∧
  (∀ w p i q c k ls, (c, p.op) ∈ [(Instr.cmpSwap p, 0x13), (.fetchAdd p, 0x14)] → w.dev.isNext i q p = true →
    w.dev.check q.pd p.rkey p.va 8 aATOMIC false = (some k, none) →
    let off := (w.dev.rgn.region k).base + (p.va - (w.dev.rgn.region k).vaBase)
    let s := w.dev.turn p
    let t := (((s.took i 1 true).regionEnter k).hostTouch true [off / 4096]).loadLines q.cls (spanLines off 8)
    t.2 = some ls →
    let old := leNat (cutSpan off 8 ls)
    let u := if p.op = 0x13 then (if old = p.cmp % 2 ^ 64 then t.1.storeSpan (.msg i p.psn) q.cls 0 off (leBytes 8 p.swap) else t.1)
      else t.1.storeSpan (.msg i p.psn) q.cls 0 off (leBytes 8 ((old + p.swap) % 2 ^ 64))
    let v := (u.updQp i (·.cache p.psn (some old))).output 1 (u.ackSynd q) i p.psn old 8
    Makes c w (Dev.executed (v.respond i { Resp.mk0 .atomicAck p.psn p.psn s.stamp (psnAdd q.msn 1) with
      data := leBytes 8 old, region := some k, waits := v.waitStamps (spanLines off 8) } false))) ∧
  (∀ w p i q c k, (c, p.op) ∈ [(Instr.cmpSwap p, 0x13), (.fetchAdd p, 0x14)] → w.dev.isNext i q p = true →
    w.dev.check q.pd p.rkey p.va 8 aATOMIC false = (some k, none) →
    let off := (w.dev.rgn.region k).base + (p.va - (w.dev.rgn.region k).vaBase)
    let t := ((((w.dev.turn p).took i 1 true).regionEnter k).hostTouch true [off / 4096]).loadLines q.cls (spanLines off 8)
    t.2 = none → Makes c w (Dev.executed (t.1.nak i 0x63 p.psn (some k)))) ∧
  (∀ w p i q k, p.op = 0x1D → w.dev.isNext i q p = true → w.dev.check q.pd p.rkey p.va 8 aATOMIC false = (some k, none) →
    let off := (w.dev.rgn.region k).base + (p.va - (w.dev.rgn.region k).vaBase)
    let s := w.dev.turn p
    let t := (((s.took i 1 true).regionEnter k).hostTouch true [off / 4096]).storeSpan (.msg i p.psn) q.cls 0 off p.payload
    let v := (t.updQp i (·.cache p.psn none)).output 1 (t.ackSynd q) i p.psn 0 0
    Makes (.atomicWrite p) w (Dev.executed (v.respond i { Resp.mk0 .atomicWriteResponse p.psn p.psn s.stamp (psnAdd q.msn 1) with
      region := some k, waits := v.waitStamps (spanLines off 8) } false)))

/-- Gaps, duplicates and fatal NAKs (R177, R178, R179, R180, R182, R184): the first packet ahead of the expected PSN is answered with one NAK of
the expected PSN, later ones with none; a duplicate WRITE is counted and changes nothing else but for the ACK of the most recent acknowledged PSN, where the
packet draws one and its own is not still to come; a duplicate atomic is answered from what was kept of it, and one no longer kept is logged and ends the
QP; an opcode that the QP does not accept is answered with NAK Invalid Request and ends the QP.
This form is shown to answer a next state with its own effect, under conditions on the state and the operands alone: invalidOpcode. -/
def Obligations.GapsDuplicatesAndBadOpcodesAreAnsweredOnce : Prop :=
  (∀ w p i q, opKind p.op = .write → w.dev.plain i q p = true → w.dev.quiet q = true → 0 < psnSub p.psn q.epsn → psnSub p.psn q.epsn < 2 ^ 23 →
    q.nakSent = false →
    let q1 : Qp := { q with nakSent := true, sentSince := true }
    Leaves (.rdmaWrite p) w [(.PORT_TX_FRAMES_TX_FRAMES q.port, w.dev.counted (.PORT_TX_FRAMES_TX_FRAMES q.port)),
        (.XPORT_NAK_SEQ_NAK_SEQ, w.dev.counted .XPORT_NAK_SEQ_NAK_SEQ)]
      (w.dev.atPacket p fun s => Dev.output { s with
        net := { s.net with qps := s.net.qps.upd i fun _ => q1 },
        sent := .roce (q.packet i .nak q.epsn 0x60 q.msn 0 0 none true true []) :: s.sent } 1 0x60 i q.epsn 0 0)) ∧
  (∀ w p i q c k, (c, k) ∈ requestRows p → opKind p.op = k → w.dev.plain i q p = true → 0 < psnSub p.psn q.epsn → psnSub p.psn q.epsn < 2 ^ 23 →
    q.nakSent = true → Leaves c w [] (w.dev.atPacket p id)) ∧
  (∀ w p i q, opKind p.op = .write → w.dev.plain i q p = true → q.kind = 0 → 2 ^ 23 ≤ psnSub p.psn q.epsn →
    (packetPos p.op < 2 ∧ p.ackReq = false) ∨ q.pendingFor p.psn = true →
    Leaves (.rdmaWrite p) w [(.XPORT_DUP_WRITE_DUP_WRITE, w.dev.counted .XPORT_DUP_WRITE_DUP_WRITE)]
      (w.dev.atPacket p fun s =>
        { s with net := { s.net with qps := s.net.qps.upd i fun x => { x with dups := sat32 (q.dups + 1) } } })) ∧
  (∀ w p i q, opKind p.op = .write → w.dev.plain i q p = true → w.dev.quiet q = true → q.kind = 0 → 2 ^ 23 ≤ psnSub p.psn q.epsn →
    2 ≤ packetPos p.op ∨ p.ackReq = true → q.pendingFor p.psn = false →
    let psn := if psnLe q.lastAck p.psn then p.psn else q.lastAck
    let q1 : Qp := { q with dups := sat32 (q.dups + 1), lastAck := psnMax q.lastAck psn, ackable := psnMax q.ackable psn, sentSince := true }
    Leaves (.rdmaWrite p) w [(.XPORT_DUP_WRITE_DUP_WRITE, w.dev.counted .XPORT_DUP_WRITE_DUP_WRITE),
        (.PORT_TX_FRAMES_TX_FRAMES q.port, w.dev.counted (.PORT_TX_FRAMES_TX_FRAMES q.port))]
      (w.dev.atPacket p fun s => Dev.output { s with
        net := { s.net with qps := s.net.qps.upd i fun _ => q1 },
        sent := .roce (q.packet i .ack psn 0x1F q.msn 0 0 none true true []) :: s.sent } 1 0x1F i psn 0 0)) ∧
  (∀ w p i q c v, (c, p.op) ∈ [(Instr.cmpSwap p, 0x13), (.fetchAdd p, 0x14)] → w.dev.plain i q p = true → w.dev.quiet q = true → q.kind = 0 →
    2 ^ 23 ≤ psnSub p.psn q.epsn → q.pendingFor p.psn = false → q.acache.find? (fun e => e.1 == p.psn) = some (p.psn, some v) →
    Answers c w fun t => t.get .XPORT_DUP_ATOMIC_DUP_ATOMIC = w.dev.counted .XPORT_DUP_ATOMIC_DUP_ATOMIC ∧
      (t.net.qps.get? i).map (fun x => (x.epsn, x.msn, x.acache, x.dups)) = some (q.epsn, q.msn, q.acache, sat32 (q.dups + 1)) ∧
      t.sent.head? = some (.roce (q.packet i .atomicAck p.psn 0x1F q.msn 0 0 none true true (leBytes 8 v))) ∧ t.gal = w.dev.gal) ∧
  (∀ w p i q c, (c, p.op) ∈ [(Instr.cmpSwap p, 0x13), (.fetchAdd p, 0x14), (.atomicWrite p, 0x1D)] → w.dev.plain i q p = true → w.dev.quiet q = true →
    q.kind = 0 → 2 ^ 23 ≤ psnSub p.psn q.epsn → q.pendingFor p.psn = false → q.acache.find? (fun e => e.1 == p.psn) = none → q.msg = none →
    Answers c w fun t => (t.net.qps.get? i).map Qp.state = some 4 ∧
      t.get .XPORT_NAK_INVALID_NAK_INVALID = w.dev.counted .XPORT_NAK_INVALID_NAK_INVALID ∧
      t.sent.head? = some (.roce (q.packet i .nak p.psn 0x61 q.msn 0 0 none true true []))) ∧
  (∀ w p i q, opAllowed p.op q.kind = false → w.dev.plain i q p = true → w.dev.quiet q = true → q.msg = none → psnSub p.psn q.epsn = 0 →
    Answers (.invalidOpcode p) w fun t => (t.net.qps.get? i).map Qp.state = some 4 ∧
      t.get .XPORT_NAK_INVALID_NAK_INVALID = w.dev.counted .XPORT_NAK_INVALID_NAK_INVALID ∧
      t.sent.head? = some (.roce (q.packet i .nak p.psn 0x61 q.msn 0 0 none true true [])))

/-- The device as requester (R183, R187, R189, R190, R197): an ACK retires what it covers and takes an RTT sample of a message sent once; an RNR NAK
starts its timer, and the last one ends the QP; a sequence NAK sends again from its PSN, on a QP with RETRY 0 nothing; a fatal NAK ends the QP with 0x8001;
an acknowledgement of nothing outstanding is discarded; a timeout sends again from the oldest unacknowledged PSN, and the last retry ends the QP with 0x8002;
a probe is sent where the QP sent and took no sample in the interval.
These forms are shown to answer a next state with their own effect, under conditions on the state and the operands alone: acknowledge,
requesterTimeout, rnrTimer, probe. -/
def Obligations.RequesterAcknowledgementsTimersAndProbes : Prop :=
  (∀ w p ns i q, w.dev.net.qpOf p.qpn = some (i, q) → w.dev.portsServe = true → p.op = 0x11 → Dev.packetOk q p = true → q.reqs ≠ [] → p.icrc = true →
    p.esp = none → q.sa = none → q.halt = false → p.synd / 32 = 0 → w.dev.forwards = false →
    Makes (.acknowledge p ns) w (w.dev.atPacket p fun s =>
      let u := match w.dev.curve with
        | some c => if q.reqs.any (fun m => m.last == p.psn && !m.resent) then s.updQp i fun x =>
            x.sample c (speedMbps (w.dev.get (.PORT_CFG_SPEED q.port))) w.dev.evt.islandMs s.stamp ns else s
        | none => s
      (u.retire i p.psn 0).pumpQp i)) ∧
  (∀ w p ns i q, w.dev.net.qpOf p.qpn = some (i, q) → w.dev.portsServe = true → p.op = 0x11 → Dev.packetOk q p = true → q.reqs ≠ [] → p.icrc = true →
    p.esp = none → q.sa = none → q.halt = false → p.synd / 32 = 1 → q.rnrRetry = 7 ∨ q.rnrTries < q.rnrRetry →
    Leaves (.acknowledge p ns) w [] (w.dev.atPacket p fun s => { s with net := { s.net with qps := s.net.qps.upd i fun x =>
      { x with rnrWait := some (p.psn, p.synd % 32), rnrTries := x.rnrTries + 1 } } })) ∧
  (∀ w p ns i q, w.dev.net.qpOf p.qpn = some (i, q) → w.dev.portsServe = true → p.op = 0x11 → Dev.packetOk q p = true → q.reqs ≠ [] → p.icrc = true →
    p.esp = none → q.sa = none → q.halt = false → p.synd / 32 = 1 ∧ q.rnrRetry ≠ 7 ∧ q.rnrRetry ≤ q.rnrTries ∨ p.synd ∈ [0x61, 0x62, 0x63] →
    Answers (.acknowledge p ns) w fun t => (t.net.qps.get? i).map (fun x => (x.state, x.reqs)) = some (4, []) ∧
      t.get .XPORT_RETRY_EXC_RETRY_EXC = if p.synd / 32 = 1 then w.dev.counted .XPORT_RETRY_EXC_RETRY_EXC else w.dev.get .XPORT_RETRY_EXC_RETRY_EXC) ∧
  (∀ w p ns i q, w.dev.net.qpOf p.qpn = some (i, q) → w.dev.portsServe = true → p.op = 0x11 → Dev.packetOk q p = true → q.reqs ≠ [] → p.icrc = true →
    p.esp = none → q.sa = none → q.halt = false → p.synd = 0x60 → w.dev.forwards = false →
    Makes (.acknowledge p ns) w (w.dev.atPacket p fun s => if q.retry = 0 then s else s.resend i p.psn)) ∧
  (∀ w p ns i q, w.dev.net.qpOf p.qpn = some (i, q) → w.dev.portsServe = true → p.op = 0x11 → Dev.packetOk q p = true → q.reqs = [] → p.icrc = true →
    p.esp = none → q.sa = none →
    Leaves (.acknowledge p ns) w [(.PORT_RX_DISCARD_RX_DISCARD p.port, w.dev.counted (.PORT_RX_DISCARD_RX_DISCARD p.port))] (w.dev.atPacket p id)) ∧
  (∀ w p ns, w.dev.portsServe = true → p.op = 0x11 → w.dev.net.qpOf p.qpn = none →
    Leaves (.acknowledge p ns) w [(.PORT_RX_DISCARD_RX_DISCARD p.port, w.dev.counted (.PORT_RX_DISCARD_RX_DISCARD p.port))] (w.dev.atPacket p id)) ∧
  (∀ w p ns, w.dev.portsServe = false ∨ p.op ≠ 0x11 → Leaves (.acknowledge p ns) w [] (w.dev.atPacket p id)) ∧
  (∀ w i q, w.dev.net.qps.get? i = some q → w.dev.serving = true → q.reqs ≠ [] → q.rnrWait = none → q.state = 3 → q.tries < q.retry →
    w.dev.forwards = false →
    Makes (.requesterTimeout i) w ((w.dev.updQp i fun x => { x with tries := x.tries + 1 }).resend i q.unacked)) ∧
  (∀ w i q, w.dev.net.qps.get? i = some q → w.dev.serving = true → q.reqs ≠ [] → q.rnrWait = none → q.state = 3 → q.retry ≤ q.tries →
    Makes (.requesterTimeout i) w ((w.dev.inc .XPORT_RETRY_EXC_RETRY_EXC).qpError i 0x8002 q.tries q.unacked)) ∧
  (∀ w i q psn code, w.dev.net.qps.get? i = some q → q.rnrWait = some (psn, code) → w.dev.serving = true → w.dev.forwards = false →
    Makes (.rnrTimer i) w ((w.dev.updQp i fun x => { x with rnrWait := none }).resend i psn)) ∧
  (∀ w i q c, w.dev.net.qps.get? i = some q → w.dev.curve = some c → w.dev.serving = true → c.probeUs ≠ 0 → w.dev.forwards = false → q.kind = 0 →
    q.state = 3 → q.downAt = none → q.halt = false → q.sentSince = true → q.sampledSince = false → q.reqs.length < 64 →
    Makes (.probe i) w (((w.dev.startReq i none none 0 0 [[]]).inc .XPORT_PROBES_PROBES).updQp i fun x => { x with sentSince := false, sampledSince := false })) ∧
  (∀ w i q c, w.dev.net.qps.get? i = some q → w.dev.curve = some c → w.dev.serving = true → c.probeUs ≠ 0 → q.sentSince = false ∨ q.sampledSince = true →
    Leaves (.probe i) w [] { w.dev with net := { w.dev.net with qps := w.dev.net.qps.upd i fun x => { x with sentSince := false, sampledSince := false } } }) ∧
  (∀ w i, w.dev.net.qps.get? i = none → Leaves (.requesterTimeout i) w [] w.dev ∧ Leaves (.rnrTimer i) w [] w.dev ∧ Leaves (.probe i) w [] w.dev)

/-! ### Protection domains, regions and verbs (07_regions_and_protection.md) -/

/-- Every verb row (R226, R227, R228): a verb that its caller holds, the first of its path, begins once at its stamp, is forwarded where the node forwards, and
runs past its screen; one that nobody holds does nothing. On a node that follows, a verb that is no query is refused with status 11, in a mode that
serves none with 12, a verb of ADMIN from a PD that holds CONTROL alone with 3, and one from a PD that holds neither with 3. -/
def Obligations.VerbsRunOnceAndAreScreenedByModeAndCapability : Prop :=
  (∀ w who tag body c op, (c, op) ∈ [(Instr.pdCreate who tag body, 0x01), (.pdDestroy who tag body, 0x02), (.pdSetCaps who tag body, 0x03),
      (.regCreate who tag body, 0x10), (.logCreate who tag body, 0x11), (.regRevoke who tag body, 0x12), (.regQuery who tag body, 0x13),
      (.zoneReset who tag body, 0x20), (.zoneQuery who tag body, 0x21), (.kdAssign who tag body, 0x30), (.saInstall who tag body, 0x40),
      (.qpTeardown who tag body, 0x41), (.keyGenerate who tag body, 0x60), (.keyImport who tag body, 0x61), (.keyDestroy who tag body, 0x62),
      (.keyQuery who tag body, 0x63), (.kdKey who tag body, 0x64), (.kdRekey who tag body, 0x65), (.kdDestroy who tag body, 0x66),
      (.kdQuery who tag body, 0x67), (.dqCreate who tag body, 0x70), (.dqDestroy who tag body, 0x71), (.dqReset who tag body, 0x72),
      (.dqQuery who tag body, 0x73)] →
    w.dev.get .MB_FLAGS_TO_DEV_FULL = 0 →
    let bytes := verbRequest op tag body
    let cls := match who with
      | .qp i _ => ((w.dev.net.qps.get? i).map Qp.cls).getD 3
      | _ => 3
    let run (s : Dev) : Dev :=
      let f := (s.verbTake who bytes).forward (.verb who.forwarded bytes) cls
      f.1.verbRun { who := who, op := op, tag := tag, body := body, onum := if verbQuery op then 0 else f.2 } body.length false
    if w.dev.verbHeld who bytes = true then
      Makes c w (match who with
        | .qp _ _ => run w.dev
        | _ => w.dev.atManagement run)
    else Leaves c w [] w.dev) ∧
  (∀ (d : Dev) seq bytes m rest, d.sp.submitted = m :: rest → (d.verbHeld (.sp seq) bytes = true ↔ m.seq = seq ∧ m.bytes = bytes)) ∧
  (∀ (d : Dev) c len, d.follower = true → verbLength c.op = some len → c.body.length = len → verbQuery c.op = false → c.op ≠ 0x50 →
    d.verbScreen c len false = some 11) ∧
  (∀ (d : Dev) c len, d.inMode [mCONFIGURING, mTRAINING, mRECOVERING, mSWITCHOVER] = true → verbLength c.op = some len → c.body.length = len →
    c.op ≠ 0x50 → d.verbScreen c len false = some 12) ∧
  (∀ (d : Dev) c len i n, c.who = .qp i n → d.inMode [mSOLO, mACTIVE, mQUIESCED] = true → verbLength c.op = some len → c.body.length = len →
    d.callerCaps c.who = 0 ∨ (d.callerCaps c.who = 1 ∧ verbAdmin c.op = true) → d.verbScreen c len false = some 3) ∧
  (∀ (d : Dev) c len seq, c.who = .sp seq → d.inMode [mSOLO, mACTIVE, mQUIESCED] = true → verbLength c.op = some len → c.body.length = len →
    d.verbScreen c len false = none) ∧
  (∀ (d : Dev) c len, d.inMode [mSOLO, mACTIVE, mQUIESCED] = true → verbLength c.op ≠ some len →
    d.verbScreen c len false = some (if (verbLength c.op).isNone then 1 else 2))

/-- PD verbs (R198, R200, R211, R213, R218, R229): PD_CREATE takes the lowest free PD, allocated from the next boundary, with a random token and an
event-queue region of 2,112 bytes, and is refused with RESOURCE where none is free; PD_DESTROY waits for the PD's own regions and is refused with
STATE while a QP or a region is open; PD_SET_CAPS takes effect at the next boundary, which answers it.
These forms are shown to answer a next state with their own effect, under conditions on the state and the operands alone: pdCreate, pdDestroy,
pdSetCaps. -/
def Obligations.PdVerbsCreateDestroyAndSetCapabilities : Prop :=
  (∀ w seq tag body, w.dev.holdsVerb seq 0x01 tag body = true →
    let c := spCall seq 0x01 tag body
    c.at_ 0 4 < 4 → w.dev.bit .CIPHER_STATUS_ENTROPY_FAIL = false →
    Makes (.pdCreate (.sp seq) tag body) w (w.dev.atVerb seq 0x01 tag body fun d =>
      match w.dev.rgn.pds.firstGap 1 65536, w.dev.rgn.lowest with
      | some n, some k =>
        let r := (d.areaRegion n .eventq 2112).1.random 64
        (((r.2.setPd n (some { caps := c.at_ 0 4, nextCaps := none, coming := true, token := r.1, evq := k, producer := 0, overflow := 0, records := [],
                               marks := 0, dying := none })).post 0x9006 0 n 1 (c.at_ 0 4)).verbOk c
          (leBytes 4 n ++ leBytes 8 r.1 ++ leBytes 4 (k * 4096 + (w.dev.rgn.region k).gen)))
      | _, _ => d.verbNo c 4 0)) ∧
  (∀ w seq tag body, w.dev.holdsVerb seq 0x01 tag body = true → w.dev.answersGo = true →
    let caps := (spCall seq 0x01 tag body).at_ 0 4
    4 ≤ caps ∨ w.dev.bit .CIPHER_STATUS_ENTROPY_FAIL = true →
    Answers (.pdCreate (.sp seq) tag body) w fun t => t.rgn.pds = w.dev.rgn.pds ∧
      t.sp.verbOut = w.dev.sp.verbOut ++ [{ seq := seq, bytes := verbBytes 1 tag (if 4 ≤ caps then 8 else 7) 0 [] }]) ∧
  (∀ w seq tag body p, w.dev.holdsVerb seq 0x02 tag body = true →
    let c := spCall seq 0x02 tag body
    let n := c.at_ 0 4
    n ≠ 0 → w.dev.rgn.pds.get? n = some p → p.coming = false → p.dying = none → w.dev.net.qps.any (fun e => e.2.pd == n) = false →
    w.dev.rgn.regions.any (fun e => e.2.pd == n && (e.2.kind == .ordinary || e.2.kind == .log) && (e.2.state == .live || e.2.state == .revoking)) = false →
    Makes (.pdDestroy (.sp seq) tag body) w (w.dev.atVerb seq 0x02 tag body fun d =>
      let t := d.modRgn fun x => { x with pds := x.pds.put n { p with dying := some c.ref } }
      t.each (w.dev.rgn.regions.filter fun e => e.2.pd == n && e.2.state == .live) fun u e => u.beginRevoke e.1 none)) ∧
  (∀ w seq tag body p, w.dev.holdsVerb seq 0x02 tag body = true →
    let n := (spCall seq 0x02 tag body).at_ 0 4
    n ≠ 0 → w.dev.rgn.pds.get? n = some p → p.coming = false →
    w.dev.net.qps.any (fun e => e.2.pd == n) = true ∨
      w.dev.rgn.regions.any (fun e => e.2.pd == n && e.2.kind == .ordinary && (e.2.state == .live || e.2.state == .revoking)) = true →
    Makes (.pdDestroy (.sp seq) tag body) w (w.dev.atVerb seq 0x02 tag body fun d => d.verbNo (spCall seq 0x02 tag body) 7 0)) ∧
  (∀ w seq tag body p, w.dev.holdsVerb seq 0x03 tag body = true →
    let c := spCall seq 0x03 tag body
    let n := c.at_ 0 4
    n ≠ 0 → w.dev.rgn.pds.get? n = some p → p.coming = false → c.at_ 4 4 < 4 →
    Leaves (.pdSetCaps (.sp seq) tag body) w [] (w.dev.atVerb seq 0x03 tag body fun d =>
      { d with rgn := { d.rgn with pds := d.rgn.pds.upd n fun p => { p with nextCaps := some (c.at_ 4 4) }, capsVerbs := d.rgn.capsVerbs ++ [c.ref] } })) ∧
  (∀ w seq tag body p, w.dev.holdsVerb seq 0x03 tag body = true →
    let c := spCall seq 0x03 tag body
    let n := c.at_ 0 4
    (n = 0 ∨ w.dev.rgn.pds.get? n = none) ∨ (w.dev.rgn.pds.get? n = some p ∧ p.coming = false ∧ 4 ≤ c.at_ 4 4) → w.dev.answersGo = true →
    Answers (.pdSetCaps (.sp seq) tag body) w fun t => t.sp.verbOut = w.dev.sp.verbOut ++
      [{ seq := seq, bytes := if n = 0 ∨ (w.dev.rgn.pds.get? n).isNone then verbBytes 3 tag 5 0 [] else verbBytes 3 tag 8 4 [] }] ∧
      t.rgn.pds = w.dev.rgn.pds)

/-- Region and zone verbs (R202, R204, R205, R206, R207, R213, R214, R218, R219, R223, R225, R229): registration takes the lowest entry, which is LIVE
from the next boundary, or answers its first bad field; a revocation and a zone reset wait for a boundary, as KD_ASSIGN does; a revocation of a region that
is not LIVE is refused with STATE; queries answer from the tables and change nothing else.
These forms are shown to answer a next state with their own effect, under conditions on the state and the operands alone: regCreate, logCreate,
regRevoke, regQuery, zoneReset, zoneQuery, kdAssign, saInstall, qpTeardown. -/
def Obligations.RegionVerbsRegisterRevokeResetAndQuery : Prop :=
  (∀ w seq tag body op kind, (op, kind) ∈ [(0x10, RKind.ordinary), (0x11, .log)] → w.dev.holdsVerb seq op tag body = true →
    let k := w.dev.rgn.lowest.getD 0
    let c := spCall seq op tag body
    let z := c.at_ 5 1
    let zb := 2 ^ z * 4096
    let key := leBytes 4 (k * 4096 + (w.dev.rgn.region k).gen)
    let pd := c.at_ 0 4
    let len := c.at_ 16 8
    let base := c.at_ 24 8
    let badPd := pd == 0 || ((w.dev.rgn.pds.get? pd).filter fun p => !p.coming).isNone
    if op = 0x10 then
      let bad := firstBad ([(badPd, 5, 0), (decide (32 ≤ c.at_ 4 1), 8, 4), (z != 0, 8, 5), (decide (8192 ≤ c.at_ 6 2), 8, 6), (len == 0, 10, 16),
        (decide (w.dev.exposedBytes < len), 8, 16), (decide (w.dev.exposedBytes < base + len), 8, 24), (!w.dev.domainFor base len (c.at_ 6 2), 9, 6),
        (w.dev.rgn.lowest.isNone, 4, 0)])
      Makes (.regCreate (.sp seq) tag body) w (w.dev.atVerb seq op tag body fun d => match bad with
        | none => (d.makeRegion k (c.region kind 0)).verbOk c key
        | some e => d.verbNo c e.1 e.2)
    else
      let bad := firstBad ([(badPd, 5, 0), (decide (32 ≤ c.at_ 4 1) || (c.at_ 4 1).testBit 2, 8, 4), (decide (z < 8 ∨ z > 16), 8, 5),
        (decide (8192 ≤ c.at_ 6 2), 8, 6), (c.at_ 8 8 % 4096 != 0, 8, 8), (len == 0, 10, 16),
        (decide (w.dev.exposedBytes < len) || len % zb != 0 || decide (len > 65536 * zb), 8, 16),
        (decide (w.dev.exposedBytes < base + len) || base % zb != 0, 8, 24), (!w.dev.domainFor base len (c.at_ 6 2), 9, 6),
        (w.dev.rgn.lowest.isNone, 4, 0)])
      Makes (.logCreate (.sp seq) tag body) w (w.dev.atVerb seq op tag body fun d => match bad with
        | none => (d.makeRegion k (c.region kind z)).verbOk c (key ++ leBytes 4 (len / zb))
        | some e => d.verbNo c e.1 e.2)) ∧
  (∀ w seq tag body, w.dev.holdsVerb seq 0x12 tag body = true →
    let c := spCall seq 0x12 tag body
    let r := w.dev.rgn.region c.index
    r.state = .live → r.coming = false → r.kind ≠ .eventq → r.gen = c.at_ 0 4 % 4096 →
    Makes (.regRevoke (.sp seq) tag body) w (w.dev.atVerb seq 0x12 tag body fun d =>
      d.setRegion c.index { r with going := true, revokeCycle := w.dev.cal.cycle + 1, waiters := r.waiters ++ [c.ref] })) ∧
  (∀ w seq tag body, w.dev.holdsVerb seq 0x12 tag body = true →
    let c := spCall seq 0x12 tag body
    let r := w.dev.rgn.region c.index
    r.state ≠ .live ∨ r.coming = true → w.dev.answersGo = true →
    Answers (.regRevoke (.sp seq) tag body) w fun t =>
      t.sp.verbOut = w.dev.sp.verbOut ++ [{ seq := seq, bytes := verbBytes 0x12 tag 7 0 [] }] ∧ t.rgn.regions = w.dev.rgn.regions) ∧
  (∀ w seq tag body, w.dev.holdsVerb seq 0x13 tag body = true → w.dev.answersGo = true →
    let c := spCall seq 0x13 tag body
    Answers (.regQuery (.sp seq) tag body) w fun t =>
      t.sp.verbOut = w.dev.sp.verbOut ++ [{ seq := seq, bytes := verbBytes 0x13 tag 0 0 (sliceAt (w.dev.rgn.region c.index).bytes 0 60) }] ∧
      t.rgn = w.dev.rgn) ∧
  (∀ w seq tag body, w.dev.holdsVerb seq 0x20 tag body = true →
    let c := spCall seq 0x20 tag body
    let r := w.dev.rgn.region c.index
    r.state = .live → r.coming = false → r.kind = .log → r.gen = c.at_ 0 4 % 4096 → c.at_ 4 4 + 1 ≤ r.length / (r.zoneFolios * 4096) →
    Leaves (.zoneReset (.sp seq) tag body) w [] (w.dev.atVerb seq 0x20 tag body fun d =>
      { d with rgn := { d.rgn with resets := d.rgn.resets ++ [(c.index, c.at_ 4 4, c.ref)] } })) ∧
  (∀ w seq tag body, w.dev.holdsVerb seq 0x21 tag body = true → w.dev.answersGo = true →
    let c := spCall seq 0x21 tag body
    let r := w.dev.rgn.region c.index
    let n := c.at_ 8 4
    n ≠ 0 → n ≤ 1000 → r.state = .live → r.coming = false → r.kind = .log → r.gen = c.at_ 0 4 % 4096 →
    c.at_ 4 4 + n ≤ r.length / (r.zoneFolios * 4096) →
    Answers (.zoneQuery (.sp seq) tag body) w fun t => t.rgn = w.dev.rgn ∧
      t.sp.verbOut = w.dev.sp.verbOut ++
        [{ seq := seq, bytes := verbBytes 0x21 tag 0 0 ((List.range n).flatMap fun j => leBytes 4 (w.dev.rgn.wp c.index (c.at_ 4 4 + j))) }]) ∧
  (∀ w seq tag body, w.dev.holdsVerb seq 0x30 tag body = true →
    let c := spCall seq 0x30 tag body
    c.at_ 0 4 * 2 ^ 26 < w.dev.exposedBytes → c.at_ 4 4 ≠ 0 → (c.at_ 0 4 + c.at_ 4 4 - 1) * 2 ^ 26 < w.dev.exposedBytes → c.at_ 8 2 < 8192 →
    c.at_ 10 2 = 0 → (w.dev.keys.dom (c.at_ 8 2)).serves = true → w.dev.extentsUsed (c.at_ 0 4) (c.at_ 4 4) (c.at_ 8 2) = false →
    Leaves (.kdAssign (.sp seq) tag body) w [] (w.dev.atVerb seq 0x30 tag body fun d =>
      { d with rgn := { d.rgn with assigns := d.rgn.assigns ++ [(c.at_ 0 4, c.at_ 4 4, c.at_ 8 2, c.ref)] } })) ∧
  (∀ w seq tag body q, w.dev.holdsVerb seq 0x41 tag body = true →
    let c := spCall seq 0x41 tag body
    w.dev.net.qps.get? (c.at_ 0 4) = some q → q.state ≠ 4 → q.downAt = none →
    Makes (.qpTeardown (.sp seq) tag body) w (w.dev.atVerb seq 0x41 tag body fun d =>
      (((d.updQp (c.at_ 0 4) fun x => { x with downAt := some (w.dev.cal.cycle + 1) }).sendCm q.port (c.at_ 0 4) .dreq 0 0 0).verbOk c []))) ∧
  (∀ w seq tag body q, w.dev.holdsVerb seq 0x40 tag body = true →
    let c := spCall seq 0x40 tag body
    let v := w.dev.keys.slot (c.at_ 20 2)
    w.dev.net.qps.get? (c.at_ 0 4) = some q → q.state = 1 ∨ q.state = 2 → c.at_ 4 4 ≠ 0 → c.at_ 8 4 ≠ 0 → c.at_ 12 4 ≠ c.at_ 16 4 →
    c.at_ 20 2 < allSlots → v.state = .active → v.kind = 2 → v.owner = 0 ∨ v.owner = q.pd → c.at_ 22 2 = 0 →
    let sa : EspSa :=
      { spiIn := c.at_ 4 4, spiOut := c.at_ 8 4, saltIn := c.at_ 12 4, saltOut := c.at_ 16 4, slot := c.at_ 20 2, top := 0, window := 0, seqOut := 0,
        live := true }
    Makes (.saInstall (.sp seq) tag body) w (w.dev.atVerb seq 0x40 tag body fun d =>
      ((d.updQp (c.at_ 0 4) fun x => { x with nextSa := some sa }).verbOk c [])))

/-! ### Device queues and revocation (08_persistence_and_ordering.md, 07_regions_and_protection.md) -/

/-- Device-queue verbs (R247, R248, R259): DQ_CREATE takes the lowest queue and registers its status line, zeroed; DQ_DESTROY of an idle
queue without a QP revokes the status line's region and waits; DQ_RESET of a queue in ERROR discards what it holds; DQ_QUERY answers its
status line and its shape; a verb that names no queue, or one in the wrong state, is refused.
These forms are shown to answer a next state with their own effect, under conditions on the state and the operands alone: dqCreate, dqDestroy,
dqReset, dqQuery. -/
def Obligations.DeviceQueueVerbsCreateDestroyResetAndQuery : Prop :=
  (∀ w seq tag body p n k, w.dev.holdsVerb seq 0x70 tag body = true →
    let c := spCall seq 0x70 tag body
    let depth := c.at_ 4 4
    c.at_ 0 4 ≠ 0 → w.dev.rgn.pds.get? (c.at_ 0 4) = some p → p.coming = false → 16 ≤ depth → depth ≤ 4096 → depth = 2 ^ depth.log2 → c.at_ 8 1 ≤ 2 →
    c.at_ 9 3 = 0 → c.at_ 12 2 < 8192 → c.at_ 14 2 = 0 → c.at_ 16 8 % 64 = 0 → c.at_ 16 8 + (64 + 64 * depth) ≤ w.dev.exposedBytes →
    w.dev.domainFor (c.at_ 16 8) (64 + 64 * depth) (c.at_ 12 2) = true → w.dev.dq.firstGap 0 4096 = some n → w.dev.rgn.lowest = some k →
    let q : DevQ :=
      { pd := c.at_ 0 4, depth := depth, cls := c.at_ 8 1, domain := c.at_ 12 2, base := c.at_ 16 8, region := k, completed := 0, posted := 0,
        error := false, cause := 0, failedTag := 0, failedIndex := 0, qp := none, port := 0, run := none, imms := [], waiting := false, waitMs := 0,
        again := false, dying := none }
    let line : Region := { Region.free with access := aREAD, pd := q.pd, domain := q.domain, length := 64, base := q.base }
    Makes (.dqCreate (.sp seq) tag body) w (w.dev.atVerb seq 0x70 tag body fun d =>
      ((((d.makeRegion k line).setQueue n q).storeSpan .own q.cls 0 q.base (List.replicate 64 0)).verbDone c
        (leBytes 4 n ++ leBytes 4 (k * 4096 + (w.dev.rgn.region k).gen))))) ∧
  (∀ w seq tag body q, w.dev.holdsVerb seq 0x71 tag body = true →
    let c := spCall seq 0x71 tag body
    c.at_ 0 4 < 4096 → w.dev.dq.get? (c.at_ 0 4) = some q → q.dying = none → q.qp = none → q.error = true ∨ q.posted = q.completed →
    w.dev.statusRegion q = true →
    Makes (.dqDestroy (.sp seq) tag body) w (w.dev.atVerb seq 0x71 tag body fun d =>
      (d.updQueue (c.at_ 0 4) fun x => { x with dying := some c.ref }).beginRevoke q.region none)) ∧
  (∀ w seq tag body q, w.dev.holdsVerb seq 0x71 tag body = true → w.dev.answersGo = true →
    let c := spCall seq 0x71 tag body
    c.at_ 0 4 < 4096 → w.dev.dq.get? (c.at_ 0 4) = some q → q.qp.isSome = true ∨ (q.error = false ∧ q.posted ≠ q.completed) →
    Answers (.dqDestroy (.sp seq) tag body) w fun t => t.dq = w.dev.dq ∧
      t.sp.verbOut = w.dev.sp.verbOut ++ [{ seq := seq, bytes := verbBytes 0x71 tag 7 0 [] }]) ∧
  (∀ w seq tag body q, w.dev.holdsVerb seq 0x72 tag body = true →
    let c := spCall seq 0x72 tag body
    let n := c.at_ 0 4
    n < 4096 → w.dev.dq.get? n = some q → q.error = true →
    Makes (.dqReset (.sp seq) tag body) w (w.dev.atVerb seq 0x72 tag body fun d =>
      ((((d.updQueue n fun x => { x with posted := x.completed, error := false, cause := 0, run := none, waiting := false, again := false }).writeStatus
        n 0).post 0x8021 0 n (q.posted - q.completed) 0).verbDone c []))) ∧
  (∀ w seq tag body q, w.dev.holdsVerb seq 0x73 tag body = true → w.dev.answersGo = true →
    let c := spCall seq 0x73 tag body
    c.at_ 0 4 < 4096 → w.dev.dq.get? (c.at_ 0 4) = some q →
    Answers (.dqQuery (.sp seq) tag body) w fun t => t.dq = w.dev.dq ∧ t.sp.verbOut = w.dev.sp.verbOut ++
      [{ seq := seq, bytes := verbBytes 0x73 tag 0 0 (w.dev.statusBytes q ++ leBytes 4 q.depth ++ leBytes 1 q.cls ++ leBytes 3 0 ++ leBytes 8 q.base) }]) ∧
  (∀ w seq tag body op c, (op, c) ∈ [(0x71, Instr.dqDestroy (.sp seq) tag body), (0x72, .dqReset (.sp seq) tag body), (0x73, .dqQuery (.sp seq) tag body)] →
    w.dev.holdsVerb seq op tag body = true → w.dev.answersGo = true →
    let n := (spCall seq op tag body).at_ 0 4
    w.dev.dq.get? n = none →
    Answers c w fun t => t.dq = w.dev.dq ∧
      t.sp.verbOut = w.dev.sp.verbOut ++ [{ seq := seq, bytes := verbBytes op tag (if 4096 ≤ n then 8 else 7) 0 [] }])

/-- Descriptors of a queue that has its turn and begins its next entry (R250, R251, R252, R253, R254, R255): the start is stamped, then NOP ends, an
undefined OP fails with cause 23, a LENGTH above 2^31 with 21 and an entry that cannot be read with 16, a LENGTH of 0 ends, COPY is checked, PUSH is checked and
sends its message, or fails with 17 where its QP will not do, FLUSH is checked and looks whether its span is durable, DISCARD discards and zeroes, WAIT ends,
fails or waits on the watched count; a line of a COPY moves at a stamp of its own, every line that a PUSH reads takes one, and a FLUSH looks again; a queue
that has no turn does nothing, and a row of another opcode leaves the entry.
These forms are shown to answer a next state with their own effect, under conditions on the state and the operands alone: descNop, descCopy, descPush,
descFlush, descDiscard, descWait. -/
def Obligations.DescriptorsStartAsTheirOpcodeSays : Prop :=
  (∀ w n q b c op, (c, op) ∈ [(Instr.descNop n, 0), (.descCopy n 0, 1), (.descFlush n, 3), (.descDiscard n, 4), (.descWait n, 5)] →
    w.dev.queueServed n q = true → q.run = none →
    let s := w.dev.queueTurn n q
    let e := s.nextDesc q
    e.2 = some b → dOP b = op →
    let t := e.1.updQueue n fun x => { x with run := some (s.descStart q b) }
    let sized := decide (1 ≤ op ∧ op ≤ 4)
    Makes c w (Dev.executed (
      if sized = true ∧ 2 ^ 31 < dLENGTH b then t.failQueue n 21
      else if (sized = true ∧ dLENGTH b = 0) ∨ op = 0 then t.descOver n 0
      else if op = 1 then t.startCopy n q b
      else if op = 3 then
        let u := (t.descCheck n q (dSRCKEY b) (dSRCVA b) (dLENGTH b) aFLUSH false).1
        match (u.queue n).bind DevQ.run with
          | some r => u.doFlushDesc n r
          | none => u
      else if op = 4 then t.doDiscard n q b 0
      else t.startWait n b))) ∧
  (∀ w n q b, w.dev.queueServed n q = true → q.run = none →
    let s := w.dev.queueTurn n q
    let e := s.nextDesc q
    e.2 = some b → dOP b = 2 → e.1.pushWaits b = false →
    let t := e.1.updQueue n fun x => { x with run := some (s.descStart q b) }
    let u := Dev.executed (
      if 2 ^ 31 < dLENGTH b then t.failQueue n 21
      else if dLENGTH b = 0 then t.descOver n 0
      else t.doPush n q b)
    Makes (.descPush n) w (match (u.queue n).bind DevQ.run with
      | some r => u.each (List.range (spanLines (dSRCVA r.bytes) (dLENGTH r.bytes)).length) fun v _ => v.queueAt n id
      | none => u)) ∧
  (∀ w n q b, w.dev.queueServed n q = true → q.run = none →
    let e := (w.dev.queueTurn n q).nextDesc q
    e.2 = some b → dOP b = 2 → e.1.pushWaits b = true → Leaves (.descPush n) w [] (w.dev.queueTurn n q).executed) ∧
  (∀ w n q b, w.dev.queueServed n q = true → q.run = none →
    let s := w.dev.queueTurn n q
    let e := s.nextDesc q
    e.2 = some b → 5 < dOP b →
    Makes (.descNop n) w (Dev.executed ((e.1.updQueue n fun x => { x with run := some (s.descStart q b) }).failQueue n 23))) ∧
  (∀ w n q c, c ∈ [Instr.descNop n, .descCopy n 0, .descPush n, .descFlush n, .descDiscard n, .descWait n] → w.dev.queueServed n q = true → q.run = none →
    let s := w.dev.queueTurn n q
    let e := s.nextDesc q
    e.2 = none → Makes c w (Dev.executed ((e.1.updQueue n fun x => { x with run := some (s.descStart q []) }).failQueue n 16))) ∧
  (∀ w n q b c op, (c, op) ∈ [(Instr.descNop n, 0), (.descCopy n 0, 1), (.descPush n, 2), (.descFlush n, 3), (.descDiscard n, 4), (.descWait n, 5)] →
    w.dev.queueServed n q = true → q.run = none → ((w.dev.queueTurn n q).nextDesc q).2 = some b → dOP b ≤ 5 → dOP b ≠ op →
    Leaves c w [] (w.dev.queueTurn n q).executed) ∧
  (∀ w n q r lines, w.dev.queue n = some q → q.run = some r → dOP r.bytes = 1 → r.ended = false →
    Makes (.descCopy n lines) w (w.dev.each (List.range lines) fun u _ => u.copyNext n)) ∧
  (∀ w n q r, w.dev.queueServed n q = true → q.run = some r → dOP r.bytes = 1 → r.ended = false →
    let s := w.dev.queueAt n id
    s.queueServed n q = true → Makes (.descCopy n 1) w (Dev.executed ((s.queueTurn n q).copyLines n 1 0))) ∧
  (∀ w n q r, w.dev.queueServed n q = true → q.run = some r → dOP r.bytes = 3 → r.ended = false →
    Makes (.descFlush n) w (Dev.executed ((w.dev.queueTurn n q).doFlushDesc n r))) ∧
  (∀ (d : Dev) n b q, d.queue (dWAITQ b) = some q → q.completed < dWAITVALUE b → q.error = false → dWAITQ b ≠ n →
    d.startWait n b = d.updQueue n fun x => { x with waiting := true, waitMs := d.evt.islandMs }) ∧
  (∀ w n c, c ∈ [Instr.descNop n, .descCopy n 1, .descPush n, .descFlush n, .descDiscard n, .descWait n] →
    (w.dev.queue n = none ∨ w.dev.follower = true ∨ (w.dev.queuesRun = false ∧ w.dev.cal.stopStamp = none)) → Leaves c w [] w.dev) ∧
  (∀ w n q c, c ∈ [Instr.descNop n, .descCopy n 1, .descPush n, .descFlush n, .descDiscard n, .descWait n] → w.dev.queue n = some q →
    q.live = false ∨ w.dev.queueStalls n q = true → Leaves c w [] w.dev)

/-- The end of a descriptor and its timeouts (R254, R255, R256, R257): COMPLETED advances in one write of the status line once the descriptor's writes are
durable, and the WAITs that watch the queue read it; an expired WAIT fails with cause 20; at the first serving boundary after RECOVERING a pending
queue starts its descriptor again and says so. The end of a revocation (R201, R214, R215, R216): a REVOKING region that no request counts becomes REVOKED
at a boundary past its own, under the next generation, its PD is told, the waiting verbs are answered; one whose requests hold it up is forced: they end
in error and are counted, and the next boundary completes it.
These forms are shown to answer a next state with their own effect, under conditions on the state and the operands alone: regionRevoked, revokeForced,
completionAdvance, waitTimeout, dqRestart. -/
def Obligations.CompletionsAdvanceAndRevocationsComplete : Prop :=
  (∀ w n q r, w.dev.queue n = some q → q.run = some r → q.error = false → r.ended = true → w.dev.gal.owes (.desc n) = false → w.dev.serving = true →
    w.dev.reported r.onum = true → w.dev.forwards = false →
    let t := (w.dev.leaveRegions r.regions).updQueue n fun x => { x with completed := x.completed + 1, run := none, waiting := false }
    Makes (.completionAdvance n) w (((t.output 3 0 n (q.completed % 2 ^ 32) (q.completed + 1) 0).writeStatus n 0).rereadWaits n)) ∧
  (∀ w n q r, w.dev.queue n = some q → q.run = some r →
    q.error = true ∨ r.ended = false ∨ w.dev.gal.owes (.desc n) = true ∨ w.dev.serving = false ∨ w.dev.reported r.onum = false →
    Leaves (.completionAdvance n) w [] w.dev) ∧
  (∀ w n q r, w.dev.queue n = some q → q.run = some r → r.ended = false → q.waiting = true → w.dev.serving = true → w.dev.forwards = false →
    dTIMEOUT r.bytes ≠ 0 → q.waitMs + dTIMEOUT r.bytes ≤ w.dev.evt.islandMs →
    Makes (.waitTimeout n) w (w.dev.failQueue n 20)) ∧
  (∀ w n q r, w.dev.queue n = some q → q.run = some r → q.waiting = false ∨ dTIMEOUT r.bytes = 0 ∨ w.dev.evt.islandMs < q.waitMs + dTIMEOUT r.bytes →
    Leaves (.waitTimeout n) w [] w.dev) ∧
  (∀ w n q, w.dev.serving = true → w.dev.dq = [(n, q)] → q.again = true → q.error = false → q.completed < q.posted →
    let op := ((w.dev.readLine (q.entry q.completed / 64)).map fun v => leAt (Line.bytes v.data) 0 1).getD 0
    Leaves .dqRestart w [] (Dev.post { w.dev with dq := [(n, { q with run := none, waiting := false, again := false })] } 0x8022 0 n (q.completed % 2 ^ 32) op)) ∧
  (∀ w, w.dev.serving = false ∨ w.dev.dq.any (fun e => e.2.again) = false → Leaves .dqRestart w [] w.dev) ∧
  (∀ w i, w.dev.atBoundary = true → w.dev.mayRevoke i (w.dev.rgn.region i) = true → w.dev.twin.revokes.contains i = false →
    let r := w.dev.rgn.region i
    let g := if 4095 ≤ r.gen then 1 else r.gen + 1
    let t := (w.dev.setRegion i { r with state := .revoked, gen := g, inFlight := 0, going := false, waiters := [] }).modTwin fun x =>
      { x with revokes := x.revokes.erase i }
    let u := ((t.evqRecord r.pd 9 i 0 0 0 0).post 0x9004 0 i g (w.dev.cal.cycle - r.revokeCycle)).each r.waiters fun d v =>
      d.reply v.who v.op v.tag 0 0 d.lastOnum (leBytes 4 g ++ leBytes 8 r.revokeCycle ++ leBytes 4 r.forced)
    Makes (.regionRevoked i) w ((u.finishQueue i).finishPd r.pd)) ∧
  (∀ w i, w.dev.atBoundary = false ∨ (w.dev.rgn.region i).state ≠ .revoking ∨ (w.dev.rgn.region i).inFlight ≠ 0 ∨
    w.dev.cal.cycle ≤ (w.dev.rgn.region i).revokeCycle → Leaves (.regionRevoked i) w [] w.dev) ∧
  (∀ w i, let r := w.dev.rgn.region i
    r.state = .revoking → r.inFlight ≠ 0 → w.dev.follower = false → w.dev.net.qps = [] → w.dev.dq = [] →
    let t := ((w.dev.updRegion i fun x => { x with inFlight := 0, forced := r.inFlight }).evqRecord r.pd 10 i 0 0 0 0).inc .REGION_REVOKE_FORCED_FORCED r.inFlight
    Makes (.revokeForced i) w (t.post 0x9005 0 i r.inFlight 0)) ∧
  (∀ w i, (w.dev.rgn.region i).state ≠ .revoking ∨ (w.dev.rgn.region i).inFlight = 0 → Leaves (.revokeForced i) w [] w.dev)

/-! ### Keys (16_cipher_and_keys.md) -/

/-- Key verbs (R496, R506, R512, R515): KEY_GENERATE puts a random key into an EMPTY slot of a class its kind may have, and is refused with STATE
while entropy fails or the slot is in use; KEY_IMPORT unwraps under an ACTIVE KEK into an EMPTY slot, or counts and logs the failure; KEY_DESTROY zeroes an
unbound slot with its blob, logs it and retries the rekeys that wait; KEY_QUERY answers the fields, never key material. The layout of that
answer is the model's choice (assumption 50).
These forms are shown to answer a next state with their own effect, under conditions on the state and the operands alone: keyGenerate, keyImport,
keyDestroy, keyQuery. -/
def Obligations.KeyVerbsGenerateImportDestroyAndQuery : Prop :=
  (∀ w seq tag body, w.dev.holdsVerb seq 0x60 tag body = true →
    let c := spCall seq 0x60 tag body
    let n := c.at_ 0 2
    let kind := c.at_ 2 1
    let auto := c.at_ 3 1
    let owner := c.at_ 4 2
    kind ∈ [1, 2, 3, 4] → auto = 0 ∨ (50 ≤ auto ∧ auto ≤ 99) → owner = 0 ∨ ((w.dev.rgn.pds.get? owner).any fun p => !p.coming) = true → c.at_ 6 2 ≤ 1 →
    2 ^ 37 ≤ c.at_ 8 8 → c.at_ 8 8 < 2 ^ 48 → n < nvSlots ∨ (kind = 2 ∧ n < 8192) → w.dev.bit .CIPHER_STATUS_ENTROPY_FAIL = false →
    (w.dev.keys.slot n).state = .empty →
    Makes (.keyGenerate (.sp seq) tag body) w (w.dev.atVerb seq 0x60 tag body fun d =>
      let r := d.random 256
      (r.2.installKey n { w.dev.keys.slot n with
          state := .active, kind := kind, key := r.1, owner := owner, usage := 0, limit := c.at_ 8 8, autoPct := auto, refusedSeen := false } 0).verbOk c (leBytes 2 n))) ∧
  (∀ w seq tag body, w.dev.holdsVerb seq 0x60 tag body = true →
    let c := spCall seq 0x60 tag body
    let n := c.at_ 0 2
    c.at_ 2 1 ∈ [1, 2, 3, 4] → c.at_ 3 1 = 0 → c.at_ 4 2 = 0 → c.at_ 6 2 ≤ 1 → 2 ^ 37 ≤ c.at_ 8 8 → c.at_ 8 8 < 2 ^ 48 → n < nvSlots →
    w.dev.bit .CIPHER_STATUS_ENTROPY_FAIL = true ∨ (w.dev.keys.slot n).state ≠ .empty → w.dev.answersGo = true →
    Answers (.keyGenerate (.sp seq) tag body) w fun t => t.keys = w.dev.keys ∧
      t.sp.verbOut = w.dev.sp.verbOut ++ [{ seq := seq, bytes := verbBytes 0x60 tag 7 0 [] }]) ∧
  (∀ w seq tag body, w.dev.holdsVerb seq 0x61 tag body = true →
    let c := spCall seq 0x61 tag body
    let n := c.at_ 0 2
    let kind := c.at_ 4 1
    let kek := w.dev.keys.slot (c.at_ 2 2)
    kind ∈ [1, 2, 3, 4] → c.at_ 5 1 = 0 → c.at_ 6 2 = 0 → c.at_ 8 2 = 0 → 2 ^ 37 ≤ c.at_ 10 8 → c.at_ 10 8 < 2 ^ 48 → n < nvSlots → c.at_ 2 2 < 8192 →
    kek.kind = 4 → kek.state = .active → (w.dev.keys.slot n).state = .empty →
    Makes (.keyImport (.sp seq) tag body) w (w.dev.atVerb seq 0x61 tag body fun d => match Config.unwrap kek.key (sliceAt body 18 40) with
       | none => ((d.set .KEY_UNWRAP_FAIL_UNWRAP (w.dev.counted .KEY_UNWRAP_FAIL_UNWRAP)).post 0xB00A 0 n 0 0).verbNo c 8 18
       | some key =>
         if key % 2 ^ 256 = 0 then d.verbNo c 8 18
         else (d.installKey n { w.dev.keys.slot n with
           state := .active, kind := kind, key := key % 2 ^ 256, owner := 0, usage := 0, limit := c.at_ 10 8, autoPct := 0, refusedSeen := false } 1).verbOk c [])) ∧
  (∀ w seq tag body, w.dev.holdsVerb seq 0x62 tag body = true →
    let c := spCall seq 0x62 tag body
    let n := c.at_ 0 2
    let v := w.dev.keys.slot n
    n < 8192 → v.state ≠ .empty → w.dev.slotBound n = false →
    Makes (.keyDestroy (.sp seq) tag body) w (w.dev.atVerb seq 0x62 tag body fun d =>
      let t := (d.modKeys fun k => { k.forget n with slots := k.slots.del n, blobs := k.blobs.del n }).post 0xB006 0 n v.kind (b2n (decide (n < nvSlots)))
      (w.dev.keys.waits.foldl (fun t k => t.forceRekey k) t).verbOk c [])) ∧
  (∀ w seq tag body, w.dev.holdsVerb seq 0x62 tag body = true →
    let c := spCall seq 0x62 tag body
    c.at_ 0 2 < 8192 → w.dev.slotBound (c.at_ 0 2) = true → w.dev.answersGo = true →
    Answers (.keyDestroy (.sp seq) tag body) w fun t => t.keys = w.dev.keys ∧
      t.sp.verbOut = w.dev.sp.verbOut ++ [{ seq := seq, bytes := verbBytes 0x62 tag 7 0 [] }]) ∧
  (∀ w seq tag body, w.dev.holdsVerb seq 0x63 tag body = true →
    let c := spCall seq 0x63 tag body
    let v := w.dev.keys.slot (c.at_ 0 2)
    c.at_ 0 2 < 8192 →
    w.dev.answersGo = true →
    Answers (.keyQuery (.sp seq) tag body) w fun t => t.keys = w.dev.keys ∧ t.sp.verbOut = w.dev.sp.verbOut ++
      [{ seq := seq, bytes := verbBytes 0x63 tag 0 0 (leBytes 1 v.state.code ++ leBytes 1 v.kind ++ leBytes 2 v.owner ++ leBytes 8 v.usage ++ leBytes 8 v.limit ++
        leBytes 1 v.autoPct ++ leBytes 1 (b2n (w.dev.slotBound (c.at_ 0 2)))) }])

/-- Key-domain verbs (R508, R511, R513, R515): KD_KEY of an UNKEYED domain and KD_REKEY of a KEYED one bind an ACTIVE, unbound AT_REST slot to
it, and the rekey waits for the boundary; KD_DESTROY of a domain that no open region names waits for it too, and domain 0, an UNKEYED one and a PURGING one
are refused with STATE; KD_QUERY answers the entry and the scan's place.
These forms are shown to answer a next state with their own effect, under conditions on the state and the operands alone: kdKey, kdRekey, kdDestroy,
kdQuery. -/
def Obligations.KeyDomainVerbsWaitForTheirBoundary : Prop :=
  (∀ w seq tag body op st c, (op, st, c) ∈ [(0x64, DState.unkeyed, Instr.kdKey (.sp seq) tag body), (0x65, .keyed, .kdRekey (.sp seq) tag body)] →
    w.dev.holdsVerb seq op tag body = true →
    let a := spCall seq op tag body
    let k := a.at_ 0 2
    let n := a.at_ 2 2
    let v := w.dev.keys.slot n
    k < 8192 → n < 8192 → (w.dev.keys.dom k).state = st → w.dev.keys.busy k = false → (w.dev.keys.dom k).curEpoch ≠ 0xFFFF_FFFF →
    v.state = .active → v.kind = 1 → v.domain = none →
    Makes c w (w.dev.atVerb seq op tag body fun d => (d.modKeys fun x =>
      { (x.putSlot n { v with domain := some k }).putBlob n with starts := x.starts ++ [(k, n)] }).verbOk a [])) ∧
  (∀ w seq tag body, w.dev.holdsVerb seq 0x65 tag body = true →
    let a := spCall seq 0x65 tag body
    a.at_ 0 2 < 8192 → (w.dev.keys.dom (a.at_ 0 2)).state ≠ .keyed ∨ (w.dev.keys.dom (a.at_ 0 2)).curEpoch = 0xFFFF_FFFF →
    w.dev.answersGo = true →
    Answers (.kdRekey (.sp seq) tag body) w fun t => t.keys = w.dev.keys ∧
      t.sp.verbOut = w.dev.sp.verbOut ++ [{ seq := seq, bytes := verbBytes 0x65 tag 7 0 [] }]) ∧
  (∀ w seq tag body, w.dev.holdsVerb seq 0x66 tag body = true →
    let a := spCall seq 0x66 tag body
    let k := a.at_ 0 2
    k < 8192 → k ≠ 0 → (w.dev.keys.dom k).state ∈ [DState.keyed, .rekeying, .keyLost] → w.dev.domainUsed k = false →
    w.dev.keys.destroys.any (fun e => e.1 == k) = false →
    Leaves (.kdDestroy (.sp seq) tag body) w [] (w.dev.atVerb seq 0x66 tag body fun d =>
      d.modKeys fun x => { x with destroys := x.destroys ++ [(k, a.ref)] })) ∧
  (∀ w seq tag body, w.dev.holdsVerb seq 0x66 tag body = true →
    let a := spCall seq 0x66 tag body
    let k := a.at_ 0 2
    k < 8192 → k = 0 ∨ (w.dev.keys.dom k).state ∈ [DState.unkeyed, .purging] ∨ w.dev.domainUsed k = true →
    w.dev.answersGo = true →
    Answers (.kdDestroy (.sp seq) tag body) w fun t => t.keys = w.dev.keys ∧
      t.sp.verbOut = w.dev.sp.verbOut ++ [{ seq := seq, bytes := verbBytes 0x66 tag 7 0 [] }]) ∧
  (∀ w seq tag body, w.dev.holdsVerb seq 0x67 tag body = true →
    let a := spCall seq 0x67 tag body
    let e := w.dev.keys.dom (a.at_ 0 2)
    a.at_ 0 2 < 8192 →
    w.dev.answersGo = true →
    Answers (.kdQuery (.sp seq) tag body) w fun t => t.keys = w.dev.keys ∧ t.sp.verbOut = w.dev.sp.verbOut ++
      [{ seq := seq, bytes := verbBytes 0x67 tag 0 0 (leBytes 1 e.state.code ++ leBytes 2 e.curSlot ++ leBytes 4 e.curEpoch ++ leBytes 2 e.prevSlot ++
        leBytes 4 e.prevEpoch ++ leBytes 8 (((w.dev.keys.scans.get? (a.at_ 0 2)).map Prod.fst).getD 0)) }])

/-- Usage and rekeys (R503, R505, R507, R511): an encrypting stream adds its blocks, capped at LIMIT; crossing 90 % and LIMIT is logged and seen, and at
LIMIT the slot only decrypts; a refused stream is counted, and logged once for its slot; a forced rekey takes the lowest EMPTY NV slot for a new key,
or waits; a finished scan destroys the previous slot and its domain is KEYED. Cipher health (R493, R496): a failed known answer is a SELF_TEST fault
of its core's unit; a failed health test stops reseeding and is logged; the first retest that passes clears the failure, and a reseed that is due ends
the degraded masking.
These forms are shown to answer a next state with their own effect, under conditions on the state and the operands alone: katFail, entropyHealthFail,
entropyRetest, maskDegrade, usageThreshold, forcedRekey, rekeyScanDone. -/
def Obligations.KeyUsageForcesRekeysAndCipherHealthIsKept : Prop :=
  (∀ w n b, let v := w.dev.keys.slot n
    v.state = .active → (v.usage + b) * 100 < v.limit * 50 → v.usage + b < 2 ^ 36 → v.autoPct = 0 ∨ 50 ≤ v.autoPct →
    Leaves (.usageThreshold n b) w [] ((w.dev.useKey 2 n).modKeys fun k => k.putSlot n { v with usage := v.usage + b })) ∧
  (∀ w n b, let v := w.dev.keys.slot n
    v.state = .active → v.limit ≤ v.usage + b → v.usage * 100 < v.limit * 90 → v.autoPct = 0 → v.domain = none →
    let u := { v with usage := v.limit }
    let t := ((w.dev.useKey 2 n).modKeys fun k => { k with slots := k.slots.put n u }).post 0xB001 0 n v.kind (v.limit / 65536) |>.set .CIPHER_STATUS_USAGE90_SEEN 1
    let x := ((t.modKeys fun k => { k with slots := k.slots.put n { u with state := .decryptOnly } }).post 0xB002 0 n v.kind 0).set .CIPHER_STATUS_USAGE100_SEEN 1
    Makes (.usageThreshold n b) w (x.modKeys fun k => k.putBlob n)) ∧
  (∀ w n b, let v := w.dev.keys.slot n
    v.state = .decryptOnly → v.refusedSeen = false →
    Leaves (.usageThreshold n b) w [(.KEY_ENC_REFUSED_REFUSED, w.dev.counted .KEY_ENC_REFUSED_REFUSED)]
      ((w.dev.modKeys fun k => { k with slots := k.slots.put n { v with refusedSeen := true } }).post 0xB003 0 n v.kind (v.domain.getD 0xFFFF))) ∧
  (∀ w n b, let v := w.dev.keys.slot n
    v.state = .empty ∨ (v.state ≠ .active ∧ v.refusedSeen = true) →
    Leaves (.usageThreshold n b) w [(.KEY_ENC_REFUSED_REFUSED, w.dev.counted .KEY_ENC_REFUSED_REFUSED)] w.dev) ∧
  (∀ w k n, let e := w.dev.keys.dom k
    let v := w.dev.keys.slot e.curSlot
    e.state = .keyed → e.curEpoch ≠ 0xFFFF_FFFF → w.dev.keys.starts.any (fun x => x.1 == k) = false → w.dev.keys.lowestEmpty true = some n →
    v.limit * (if v.autoPct = 0 then 100 else v.autoPct) ≤ v.usage * 100 →
    let r := w.dev.random 256
    let t := r.2.installKey n { KeySlot.none with state := .active, kind := 1, key := r.1, limit := v.limit, autoPct := v.autoPct } 0
    Makes (.forcedRekey k) w ((t.queueRekey k n).modKeys fun x => { x with waits := x.waits.erase k })) ∧
  (∀ w k, let e := w.dev.keys.dom k
    let v := w.dev.keys.slot e.curSlot
    e.state = .keyed → e.curEpoch ≠ 0xFFFF_FFFF → w.dev.keys.busy k = true ∨ w.dev.keys.lowestEmpty true = none →
    w.dev.keys.waits.contains k = false →
    v.limit * (if v.autoPct = 0 then 100 else v.autoPct) ≤ v.usage * 100 →
    Leaves (.forcedRekey k) w [] (w.dev.modKeys fun x => { x with waits := x.waits ++ [k] })) ∧
  (∀ w k, let e := w.dev.keys.dom k
    let v := w.dev.keys.slot e.curSlot
    e.serves = true → e.curEpoch = 0xFFFF_FFFF → w.dev.keys.waits.contains k = false →
    v.limit * (if v.autoPct = 0 then 100 else v.autoPct) ≤ v.usage * 100 →
    Leaves (.forcedRekey k) w [] ((w.dev.post 0xB003 0 e.curSlot 1 k).modKeys fun x => { x with waits := x.waits ++ [k] })) ∧
  (∀ w k, let v := w.dev.keys.slot (w.dev.keys.dom k).curSlot
    v.usage * 100 < v.limit * (if v.autoPct = 0 then 100 else v.autoPct) → Leaves (.forcedRekey k) w [] w.dev) ∧
  (∀ w k next done, w.dev.keys.scans.get? k = some (next, done) → w.dev.scanOver k = true →
    let e := w.dev.keys.dom k
    let t := (w.dev.destroySlot e.prevSlot).setDomain k { e with state := .keyed, prevSlot := 0, prevEpoch := 0 }
    Makes (.rekeyScanDone k) w (((t.modKeys fun x => { x with scans := x.scans.del k }).post 0xB005 0 k done e.prevSlot).retryRekeys)) ∧
  (∀ w k, w.dev.scanOver k = false → Leaves (.rekeyScanDone k) w [] w.dev) ∧
  (∀ w core mode, core < 28 →
    Makes (.katFail core mode) w
      (((w.dev.set .CIPHER_STATUS_KAT_FAIL 1).post 0xB008 (0x0700 + core) (0x0700 + core) mode 0).countFault
        { unit := 0x0700 + core, kind := 13, recovered := false, tick := w.dev.stamp % 4096, bank := 0, row := 0, col := 0, pos := 0, synd := 0, sub := 0, la := none }
        false false)) ∧
  (∀ w t f, (t, f) ∈ [(1, Fld.ENTROPY_STATUS_RCT_FAIL), (2, .ENTROPY_STATUS_APT_FAIL)] →
    Leaves (.entropyHealthFail t) w [(f, 1), (.ENTROPY_STATUS_HEALTHY, 0), (.CIPHER_STATUS_ENTROPY_FAIL, 1)] (w.dev.post 0xB009 0 t 1 0)) ∧
  (∀ w, w.dev.get .CIPHER_STATUS_ENTROPY_FAIL = 1 → w.dev.get .ENTROPY_STATUS_RCT_FAIL = 1 → w.dev.keys.draws < 2 ^ 20 →
    Leaves (.entropyRetest true) w [(.CIPHER_STATUS_ENTROPY_FAIL, 0), (.ENTROPY_STATUS_HEALTHY, 1)] (w.dev.post 0xB009 0 1 0 0)) ∧
  (∀ w, w.dev.get .CIPHER_STATUS_ENTROPY_FAIL = 1 → w.dev.get .ENTROPY_STATUS_RCT_FAIL = 1 → 2 ^ 20 ≤ w.dev.keys.draws →
    w.dev.get .CIPHER_STATUS_MASK_DEGRADED = 1 →
    Leaves (.entropyRetest true) w
      [(.CIPHER_STATUS_ENTROPY_FAIL, 0), (.ENTROPY_STATUS_HEALTHY, 1), (.CIPHER_STATUS_MASK_DEGRADED, 0), (.ENTROPY_RESEEDS_RESEEDS, w.dev.counted .ENTROPY_RESEEDS_RESEEDS)]
      (((w.dev.post 0xB009 0 1 0 0).modKeys fun k => { k with draws := 0 }).post 0xB00B 0 0 0 0)) ∧
  (∀ w, w.dev.get .CIPHER_STATUS_ENTROPY_FAIL = 0 → Leaves (.entropyRetest true) w [(.ENTROPY_STATUS_HEALTHY, 1)] w.dev) ∧
  (∀ w, Leaves (.entropyRetest false) w [] w.dev) ∧
  (∀ w, w.dev.get .CIPHER_STATUS_ENTROPY_FAIL = 1 → w.dev.get .CIPHER_STATUS_MASK_DEGRADED = 0 →
    Leaves .maskDegrade w [(.CIPHER_STATUS_MASK_DEGRADED, 1)] ((w.dev.modKeys fun k => { k with draws := max k.draws (2 ^ 32) }).post 0xB00B 0 1 0 0)) ∧
  (∀ w, w.dev.get .CIPHER_STATUS_ENTROPY_FAIL = 0 ∨ w.dev.get .CIPHER_STATUS_MASK_DEGRADED = 1 → Leaves .maskDegrade w [] w.dev)

/-! ### Galley, line cache and tiers (09_tiers_and_migration.md, 10_line_cache_and_galley.md) -/

/-- The galley (R315, R316, R318, R319, R320): the first waiting write that can be placed merges into its line's entry or takes the lowest free way, and
is counted; a drain snapshots a bank's oldest eligible entry, or starts the STAGE that it needs; a drain that landed writes its bytes into the folio's copy, which a CLEAN folio's
change to DIRTY follows, and frees its entry, or keeps one that was written since; one that failed leaves its entry for the next boundary.
These forms are shown to answer a next state with their own effect, under conditions on the state and the operands alone: galleyWaitPlace, drain,
drainDone, drainFail. -/
def Obligations.GalleyWritesArePlacedAndDrained : Prop :=
  (∀ w x k e, w.dev.twin.reports = [] → w.dev.galleyNext = some x → w.dev.gal.find x.la = some (k, e) →
    Leaves .galleyWaitPlace w [(.GALLEY_MERGES_MERGES, w.dev.counted .GALLEY_MERGES_MERGES)]
      (w.dev.modGal fun g =>
        { g with waiting := g.waiting.erase x, entries := g.entries.upd k fun y =>
          { y with data := y.data.merge x.data x.mask, mask := y.mask ||| x.mask, poison := x.poison || (y.poison && x.mask != 2 ^ 64 - 1),
                   redrain := y.redrain || y.snap.isSome } })) ∧
  (∀ w x k, w.dev.twin.reports = [] → w.dev.galleyNext = some x → w.dev.gal.find x.la = none → w.dev.gal.freeKey x.la = some k →
    let n : GEntry :=
      { la := x.la, data := (0 : Line).merge x.data x.mask, mask := x.mask, poison := x.poison, stamp := w.dev.stamp, redrain := false, snap := none, retryAt := 0 }
    Leaves .galleyWaitPlace w [(.GALLEY_ALLOCS_ALLOCS, w.dev.counted .GALLEY_ALLOCS_ALLOCS)]
      (w.dev.modGal fun g => ({ g with waiting := g.waiting.erase x, entries := g.entries.put k n } : GalleySt).raise (g.bank x.la))) ∧
  (∀ w, w.dev.twin.reports = [] → w.dev.galleyNext = none → Leaves .galleyWaitPlace w [] w.dev) ∧
  (∀ w onum st v, w.dev.follower = true → w.dev.twin.reports = [(onum, st, v)] → w.dev.galleyNext = none →
    w.dev.gal.waiting.any (fun x => !x.evac && decide (x.stamp ≤ st)) = false →
    Makes .galleyWaitPlace w ((w.dev.modTwin fun x => { x with reports := [] }).sendFrame .report [onum, v] 16)) ∧
  (∀ w b k e rest, w.dev.drainable b = (k, e) :: rest → w.dev.groupHeld (e.la / 64) = false → w.dev.drainable1 e.la = true →
    Leaves (.drain b) w []
      ((w.dev.modGal fun g => { g with entries := g.entries.upd k fun y => { y with snap := some (y.data, y.mask, y.poison) } }).askLine e.la 2 3)) ∧
  (∀ w b k e, w.dev.drainable b = [(k, e)] → w.dev.groupHeld (e.la / 64) = false → w.dev.drainable1 e.la = false →
    w.dev.tier.latches.get? (e.la / 64) = none → Makes (.drain b) w (w.dev.startStage (e.la / 64))) ∧
  (∀ w b, w.dev.drainable b = [] → Leaves (.drain b) w [] w.dev) ∧
  (∀ w la k e sn, w.dev.gal.find la = some (k, e) → e.snap = some sn → w.dev.drainable1 la = true →
    let f := la / 64
    let m := w.dev.tier.entry f
    let t := w.dev.modTier fun r =>
      { (r.modResident f m fun x => x.put (la % 64) (drainLine (x.line (la % 64)) sn)) with latches := r.latches.upd f fun l => { l with redirty := true } }
    let u := if m.state = .clean then t.setMap f { m with state := .dirty } else t.groupChanged f
    let v := u.set .GALLEY_DRAINS_DRAINS (w.dev.counted .GALLEY_DRAINS_DRAINS)
    let x := if e.redrain then
        (v.modGal fun g => { g with entries := g.entries.put k { e with redrain := false, snap := none, retryAt := w.dev.cal.cycle + 1 } }).set .GALLEY_REDRAINS_REDRAINS
          (w.dev.counted .GALLEY_REDRAINS_REDRAINS)
      else v.modGal fun g => { g with entries := g.entries.del k }
    Makes (.drainDone la) w
      ((x.modMem fun y => { y with rereads := y.rereads.map (fun r => if r.line = some la then { r with newer := true } else r),
                                   backs := y.backs.map fun r => if r.line = la then { r with newer := true } else r }).relevel)) ∧
  (∀ w la k e, w.dev.gal.find la = some (k, e) → e.snap.isSome = true →
    Leaves (.drainFail la) w [] (w.dev.modGal fun g =>
      { g with entries := g.entries.upd k fun y => { y with snap := none, retryAt := w.dev.cal.cycle + 1 } })) ∧
  (∀ w la, w.dev.gal.find la = none → Leaves (.drainFail la) w [] w.dev)

/-- The line cache (R306, R308, R310, R312): a fill installs its line where its bank serves and does not hold it, and is discarded and counted where a
later write overtook it; the guarded invalidation waits for the boundary, and any other guard or mode does nothing. The map stream (R298): it loads
the next directory pages and then map pages; with the last one the map is WARM, which is logged; before the root is loaded and after WARM it does nothing of that. A page whose
working copy was on a unit now lost is rebuilt into a free frame of T1 (R350).
These forms are shown to answer a next state with their own effect, under conditions on the state and the operands alone: lineFill, lcInvalidate,
mapPageLoad. -/
def Obligations.LineFillsAndMapPagesLoad : Prop :=
  (∀ w la f, w.dev.lc.fills.find? (fun x => x.la == la) = some f → f.stale = false → w.dev.lc.live (lcSet la) = true → w.dev.lc.hit la = none →
    Leaves (.lineFill la) w [(.LC_FILLS_FILLS, w.dev.counted .LC_FILLS_FILLS)]
      { w.dev with lc := ({ w.dev.lc with fills := w.dev.lc.fills.erase f } : LcSt).install la f.data }) ∧
  (∀ w la f, w.dev.lc.fills.find? (fun x => x.la == la) = some f → f.stale = true →
    Leaves (.lineFill la) w [(.LC_FILL_STALE_STALE, w.dev.counted .LC_FILL_STALE_STALE)] { w.dev with lc := { w.dev.lc with fills := w.dev.lc.fills.erase f } }) ∧
  (∀ w la f, w.dev.lc.fills.find? (fun x => x.la == la) = some f → f.stale = false → w.dev.lc.live (lcSet la) = false ∨ (w.dev.lc.hit la).isSome = true →
    Leaves (.lineFill la) w [] { w.dev with lc := { w.dev.lc with fills := w.dev.lc.fills.erase f } }) ∧
  (∀ (c : LcSt) la d way, c.freeWay (lcSet la) = some way → (c.install la d).ways = c.ways.put (c.key (lcSet la) way) { la := la, data := d }) ∧
  (∀ (c : LcSt) la d, c.freeWay (lcSet la) = none → let v := lfsrNext (c.lfsr.getD (lcBank (lcSet la)) 1)
    (c.install la d).ways = c.ways.put (c.key (lcSet la) (v % 16)) { la := la, data := d } ∧ (c.install la d).lfsr = c.lfsr.put (lcBank (lcSet la)) v) ∧
  (∀ w, w.dev.reaches 0xA1004 = true → w.dev.inMode [mSOLO, mQUIESCED] = true →
    Leaves (.lcInvalidate true 0x1C) w [] (w.dev.atManagement fun s => { s with lc := { s.lc with invalidate := true } })) ∧
  (∀ w b g, b = false ∨ g ≠ 0x1C ∨ w.dev.inMode [mSOLO, mQUIESCED] = false → Leaves (.lcInvalidate b g) w [] (w.dev.regRow 0xA1004 id)) ∧
  (∀ w n m, w.dev.tier.rootMs = some m → w.dev.get .TIER_STATUS_MAP_WARM = 0 → w.dev.tier.lostUnits = [] →
    let dir := min n (w.dev.dirPages - w.dev.tier.dirLoaded)
    let pages := min (n - dir) (w.dev.mapPages - w.dev.tier.mapLoaded)
    let t := w.dev.modTier fun r =>
      { r with dirLoaded := r.dirLoaded + dir, mapLoaded := r.mapLoaded + pages, demand := r.demand.filter fun p => decide (r.mapLoaded + pages ≤ p) }
    if w.dev.mapPages ≤ w.dev.tier.mapLoaded + pages then
      Leaves (.mapPageLoad n) w [(.TIER_STATUS_MAP_WARM, 1)] (t.post 0x7006 0 (w.dev.evt.islandMs - m) w.dev.tier.fetches 0)
    else Leaves (.mapPageLoad n) w [] t) ∧
  (∀ w n, w.dev.tier.rootMs = none ∨ w.dev.get .TIER_STATUS_MAP_WARM = 1 → w.dev.tier.lostUnits = [] ∨ w.dev.mapPages ≤ w.dev.tier.rebuildAt →
    Leaves (.mapPageLoad n) w [] w.dev) ∧
  (∀ w, w.dev.tier.rootMs = none ∨ w.dev.get .TIER_STATUS_MAP_WARM = 1 → w.dev.tier.lostUnits ≠ [] → w.dev.tier.rebuildAt < w.dev.mapPages →
    w.dev.mapPageLost w.dev.tier.rebuildAt = false →
    Leaves (.mapPageLoad 1) w [] (w.dev.modTier fun r => { r with rebuildAt := r.rebuildAt + 1 })) ∧
  (∀ w way, w.dev.tier.rootMs = none ∨ w.dev.get .TIER_STATUS_MAP_WARM = 1 → w.dev.tier.lostUnits ≠ [] → w.dev.mapPageLost w.dev.tier.rebuildAt = true →
    w.dev.freeWay false w.dev.tier.rebuildAt = some way →
    Leaves (.mapPageLoad 1) w [] (w.dev.modTier fun r =>
      { r with mapFrames := r.mapFrames.put r.rebuildAt (r.frameOf false r.rebuildAt way), rebuildAt := r.rebuildAt + 1 }))

/-- Moves between tiers (R279, R280, R281, R283): a STAGE takes the lowest free staging frame, filled from the folio; a promotion that a touch asked for takes the lowest
free way; a destage of the next dirty folio seals its copy into T2 through an eviction-buffer slot; a CLEAN folio of T1 that is demoted becomes HOME with no data moved; at
commit the map entry changes and the latch is released; a failed move releases latch, frame and slot, leaves the map, is counted and
logged; a discard that waited for the latch then takes effect.
These forms are shown to answer a next state with their own effect, under conditions on the state and the operands alone: moveStart, moveCommit,
moveFailed. -/
def Obligations.MovesStartCommitAndFail : Prop :=
  (∀ w f up k d, let e := w.dev.tier.entry f
    e.state = .unwritten ∨ e.state = .lost → w.dev.modeOf ≠ mHOLDUP → w.dev.tier.latches.get? f = none → w.dev.freeStage = some k → w.dev.folioData f = some d →
    w.dev.tier.latchFree = true →
    Leaves (.moveStart f 1 up) w [] (w.dev.modTier fun r =>
      { r with stage := r.stage.put k { folio := f, data := d },
               latches := r.latches.put f { kind := .stage, dest := .stageFrame k, slot := none, home := none, redirty := false, epoch := 0, stamp := w.dev.stamp } })) ∧
  (∀ w f way d, let e := w.dev.tier.entry f
    w.dev.modeOf = mSOLO → w.dev.twin.resync = none → w.dev.get .TWIN_STATUS_FENCED = 0 → w.dev.deferrable = true →
    e.state = .dirty → e.t0 = false → w.dev.tier.asks.contains (f, true) = true → w.dev.tier.latches.get? f = none → w.dev.tier.latchFree = true →
    w.dev.freeWay true f = some way → w.dev.folioData f = some d →
    let l : Latch := { kind := .promote, dest := .t0 way, slot := none, home := none, redirty := false, epoch := 0, stamp := w.dev.stamp }
    Leaves (.moveStart f 2 true) w [] (w.dev.modTier fun r =>
      { r with t0 := r.t0.put (r.frameOf true f way) { folio := f, data := d }, latches := r.latches.put f l, asks := r.asks.erase (f, true),
               waits := r.waits.erase (f, true) })) ∧
  (∀ w f, let e := w.dev.tier.entry f
    w.dev.modeOf = mSOLO → w.dev.twin.resync = none → w.dev.get .TWIN_STATUS_FENCED = 0 → e.state = .clean → e.t0 = false →
    w.dev.tier.latches.get? f = none → w.dev.tier.latchFree = true →
    Makes (.moveStart f 3 false) w
      (((w.dev.modTier fun r => { r with t1 := r.t1.del (r.frameOf false f e.loc) }).setMap f { state := .home, t0 := false, loc := 0, home := e.home }).inc
        .TIER_DEMOTIONS_DEMOTIONS)) ∧
  (∀ w f k d, w.dev.modeOf = mSOLO → w.dev.twin.resync = none → w.dev.get .TWIN_STATUS_FENCED = 0 → w.dev.destageNext = some f →
    w.dev.groupHeld f = false → w.dev.get .FM_STATUS_WEAR_LIMITED = 0 ∨ 4096000 ≤ w.dev.fm.credit →
    (w.dev.tier.entry f).dirty = true → w.dev.tier.latches.get? f = none → w.dev.tier.latchFree = true →
    w.dev.freeSlot = some k → w.dev.tier.resident f (w.dev.tier.entry f) = some d →
    let p := w.dev.sealTo (w.dev.hostStream f) f d
    Makes (.moveStart f 4 false) w (match p.2 with
      | none => p.1
      | some (home, epoch) =>
        let l : Latch := { kind := .destage, dest := .t2, slot := some k, home := some home, redirty := false, epoch := epoch, stamp := w.dev.stamp }
        let t := p.1.modTier fun r => { r with evb := r.evb.put k { folio := f, data := d }, latches := r.latches.put f l }
        (t.modFm fun x => { x with credit := x.credit - 4096000 }).inc .FM_HOST_FOLIOS_HOST)) ∧
  (∀ w f up, w.dev.modeOf = mRECOVERING → Leaves (.moveStart f 3 up) w [] w.dev) ∧
  (∀ w f l k, w.dev.modeOf = mSOLO → w.dev.tier.latches.get? f = some l → l.home = none → l.slot = none → w.dev.tier.waits = [] → w.dev.tier.discards = [] →
    l.kind = .stage → l.dest = .stageFrame k →
    let t := (w.dev.modTier fun x => { x with latches := x.latches.del f }).setMap f
      { state := .staged, t0 := false, loc := k, home := (w.dev.tier.entry f).home }
    Makes (.moveCommit f) w (t.inc .TIER_STAGES_STAGES).relevel) ∧
  (∀ w f l k, w.dev.modeOf = mSOLO → w.dev.tier.latches.get? f = some l → l.home = none → l.slot = none → w.dev.tier.waits = [] → w.dev.tier.discards = [] →
    l.kind = .promote → l.dest = .t1 k →
    let e := w.dev.tier.entry f
    let t := (w.dev.modTier fun x => { (x.freeResident f e) with latches := x.latches.del f }).setMap f
      { state := if e.state = .home then .clean else if e.state = .staged then .dirty else e.state, t0 := false, loc := k, home := e.home }
    Makes (.moveCommit f) w (t.inc .TIER_PROMOTIONS_PROMOTIONS).relevel) ∧
  (∀ w f l h v k, w.dev.modeOf = mSOLO → w.dev.tier.latches.get? f = some l → l.kind = .destage → l.home = some h → l.slot = some k →
    w.dev.fm.slots.get? h = some v → v.committed = true → w.dev.tier.waits = [] → (w.dev.tier.entry f).state = .dirty →
    w.dev.tier.discards = [] →
    let e := w.dev.tier.entry f
    let t := w.dev.modTier fun x => { x with evb := x.evb.del k, latches := x.latches.del f, wseq := x.wseq.put f v.wseq }
    Makes (.moveCommit f) w
      ((((t.setMap f { e with state := if l.redirty then .dirty else .clean, home := some h }).noteLogged f).inc .TIER_DESTAGES_DESTAGES).relevel)) ∧
  (∀ w f l h, w.dev.tier.latches.get? f = some l → l.home = some h → w.dev.fm.slots.get? h = none → w.dev.tier.waits = [] →
    Makes (.moveCommit f) w w.dev.relevel) ∧
  (∀ w f u l, w.dev.tier.latches.get? f = some l → l.home = none → l.slot = none → w.dev.tier.waits = [] → w.dev.tier.discards = [] →
    Makes (.moveFailed f u) w
      (((((w.dev.modTier fun r => { (r.freeDest f l.dest) with latches := r.latches.del f }).set .TIER_MOVE_FAILS_FAILS (w.dev.counted .TIER_MOVE_FAILS_FAILS)).set
        .TIER_STATUS_MOVE_FAILED 1).post 0x7001 u (f % 2 ^ 32) l.kind.code u).relevel)) ∧
  (∀ w f u, w.dev.tier.latches.get? f = none → w.dev.tier.waits = [] → Makes (.moveFailed f u) w w.dev.relevel) ∧
  (∀ w f u l, w.dev.tier.latches.get? f = some l → l.home = none → l.slot = none → l.kind = .stage → w.dev.tier.waits = [] → w.dev.tier.discards = [f] →
    let t := ((w.dev.modTier fun r => { (r.freeDest f l.dest) with latches := r.latches.del f }).set .TIER_MOVE_FAILS_FAILS
      (w.dev.counted .TIER_MOVE_FAILS_FAILS)).set .TIER_STATUS_MOVE_FAILED 1
    Makes (.moveFailed f u) w ((((t.post 0x7001 u (f % 2 ^ 32) 1 u).discardNow f)).relevel))

/-! ### DRAM controllers (11_dram_controller.md) -/

/-- Parity recovery, re-reads and temperatures (R337, R338, R341, R343, R344, R346, R584): an alert gates its station with the requests lost, is counted, seen and logged, and a
command that has left the buffer ends its requests; the replay serves them again and ungates; the re-read of an uncorrectable read decodes, or poisons its line
and ends its request; a temperature of a DIMM comes over the slots whose pairs agree (R13); a reading above REF_TEMP, or a stale one, shortens refresh; drift beyond the correction range is a fault.
These forms are shown to answer a next state with their own effect, under conditions on the state and the operands alone: parityAlert, replayEntry,
dramUeReread, memTempRead, trainRun, temperatureStale. -/
def Obligations.MemoryRecoversParityReadsAndTemperatures : Prop :=
  (∀ w st lost r c, let u := stationUnit st
    let n := memIndex u
    let g := w.dev.mem.gates.getD st { lost := [], refreshes := 0 }
    let f : FaultOp :=
      { unit := u, kind := 7, recovered := true, tick := w.dev.stamp % 4096, bank := 0, row := 0, col := 0, pos := 0, synd := 0, sub := 0, la := none }
    let d := ((w.dev.set (.MEM_ALERTS_ALERTS n) (w.dev.counted (.MEM_ALERTS_ALERTS n))).set (.MEM_STATUS_ALERT_SEEN n) 1).set (.MEM_STATUS_GATED n) 1
    let x := d.modMem fun m => { m with gates := m.gates.put st { lost := g.lost ++ lost, refreshes := g.refreshes + r } }
    let x := x.modCal fun k => { k with requests := k.requests.map fun e => if e.station = st ∧ lost.contains e.stamp = true then { e with served := false } else e }
    Makes (.parityAlert st lost r c true) w ((x.post 0x5003 u u st c).countFault f false false)) ∧
  (∀ w st lost r c, let u := stationUnit st
    let n := memIndex u
    let g := w.dev.mem.gates.getD st { lost := [], refreshes := 0 }
    let f : FaultOp :=
      { unit := u, kind := 7, recovered := false, tick := w.dev.stamp % 4096, bank := 0, row := 0, col := 0, pos := 0, synd := 0, sub := 0, la := none }
    let d := ((w.dev.set (.MEM_ALERTS_ALERTS n) (w.dev.counted (.MEM_ALERTS_ALERTS n))).set (.MEM_STATUS_ALERT_SEEN n) 1).set (.MEM_STATUS_GATED n) 1
    let x := d.modMem fun m => { m with gates := m.gates.put st { g with refreshes := g.refreshes + r } }
    let y := ((x.post 0x5003 u u st c).post 0x5004 u u st lost.length).countFault f false false
    Makes (.parityAlert st lost r c false) w (lost.foldl (fun t s => t.endRequest s) y)) ∧
  (∀ w st g, w.dev.mem.gates.get? st = some g →
    let u := stationUnit st
    let n := memIndex u
    let still := (w.dev.mem.gates.del st).any fun e => stationUnit e.1 == u
    Leaves (.replayEntry st) w
      [(.MEM_DEFERRED_DEFERRED n, min (w.dev.get (.MEM_DEFERRED_DEFERRED n) + g.lost.length) (2 ^ 32 - 1)),
       (.MEM_REF_POSTPONED_REF_POSTPONED n, min (w.dev.get (.MEM_REF_POSTPONED_REF_POSTPONED n) + g.refreshes) (2 ^ 32 - 1)), (.MEM_STATUS_GATED n, b2n still)]
      (w.dev.modMem fun m => { m with gates := m.gates.del st })) ∧
  (∀ w st, w.dev.mem.gates.get? st = none → Leaves (.replayEntry st) w [] w.dev) ∧
  (∀ w u b row r, w.dev.mem.rereads.find? (fun r => r.unit == u && r.bank == b && r.row == row) = some r →
    let f : FaultOp :=
      { unit := u, kind := 6, recovered := true, tick := r.tick, bank := b, row := row, col := 0, pos := 0, synd := 0, sub := r.sub, la := r.line, req := r.req }
    let t := (w.dev.modMem fun m => { m with rereads := m.rereads.erase r }).post 0x5002 u u (b * 2 ^ 18 + row) 0
    Makes (.dramUeReread u b row true) w ((t.recordRow u r.sub b row).countFault f false r.injected (some r.found))) ∧
  (∀ w u b row r la, w.dev.mem.rereads.find? (fun r => r.unit == u && r.bank == b && r.row == row) = some r → r.line = some la → r.newer = false →
    let n := memIndex u
    let f : FaultOp :=
      { unit := u, kind := 6, recovered := false, tick := r.tick, bank := b, row := row, col := 0, pos := 0, synd := 0, sub := r.sub, la := some la, req := r.req }
    let t := (w.dev.modMem fun m => { m with rereads := m.rereads.erase r }).set (.MEM_UE_UE n) (w.dev.counted (.MEM_UE_UE n))
    let v := (t.set (.MEM_POISON_POISON n) (w.dev.counted (.MEM_POISON_POISON n))).poisonTier la u
    let x := ((v.post 0x5002 u u (b * 2 ^ 18 + row) 1).recordRow u r.sub b row).countFault f true r.injected (some r.found)
    Makes (.dramUeReread u b row false) w (match r.req with
      | some q => x.endRequest q
      | none => x)) ∧
  (∀ w u b row good, w.dev.mem.rereads.find? (fun r => r.unit == u && r.bank == b && r.row == row) = none → Leaves (.dramUeReread u b row good) w [] w.dev) ∧
  (∀ w n t, n < 24 → w.dev.get (.MEM_CFG_ENABLED n) = 1 → w.dev.tempArrives n = true → t ≤ w.dev.get (.MEM_TEMP_REF_TEMP n) →
    Leaves (.memTempRead n t) w [(.MEM_TEMP_TEMP_MAX n, t), (.MEM_TEMP_PEAK n, max (w.dev.get (.MEM_TEMP_PEAK n)) t)]
      (w.dev.modMem fun m => { m with hot := clearBit m.hot n })) ∧
  (∀ w n t, n < 24 → w.dev.get (.MEM_CFG_ENABLED n) = 1 → w.dev.tempArrives n = true → w.dev.get (.MEM_TEMP_REF_TEMP n) < t → t < 256 →
    Leaves (.memTempRead n t) w [(.MEM_TEMP_TEMP_MAX n, t), (.MEM_TEMP_PEAK n, max (w.dev.get (.MEM_TEMP_PEAK n)) t), (.MEM_STATUS_REFRESH_SHORT n, 1)]
      ((w.dev.modMem fun m => { m with hot := setBit m.hot n }).post 0x5005 (memUnitId n) (memUnitId n) t (w.dev.get (.MEM_TEMP_REF_TEMP n)))) ∧
  (∀ w n, n < 24 → w.dev.get (.MEM_CFG_ENABLED n) = 1 →
    Leaves (.temperatureStale n) w [(.MEM_STATUS_REFRESH_SHORT n, 1)]
      ((w.dev.modMem fun m => { m with hot := setBit m.hot n }).post 0x5005 (memUnitId n) (memUnitId n) (w.dev.get (.MEM_TEMP_TEMP_MAX n))
        (w.dev.get (.MEM_TEMP_REF_TEMP n)))) ∧
  (∀ w n t, n < 8 → (∀ k < 16, w.dev.sbAgrees k = false) → Leaves (.memTempRead n t) w [] w.dev) ∧
  (∀ (d : Dev) n, 8 ≤ n → d.tempArrives n = true) ∧
  (∀ w n t, w.dev.get (.MEM_CFG_ENABLED n) = 0 → Leaves (.memTempRead n t) w [] w.dev ∧ Leaves (.temperatureStale n) w [] w.dev) ∧
  (∀ w n sub, let u := memUnitId n
    let f : FaultOp :=
      { unit := u, kind := 14, recovered := false, tick := w.dev.stamp % 4096, bank := 0, row := 0, col := 0, pos := 0, synd := 0, sub := sub, la := none }
    Makes (.trainRun n sub true) w (((w.dev.set (.MEM_STATUS_TRAIN_STEP n) 10).post 0x500B u u 10 sub).countFault f false false)) ∧
  (∀ w n sub, Leaves (.trainRun n sub false) w [] w.dev)

/-! ### Flash management (12_flash_management.md) -/

/-- Slots (R366, R367, R368, R372, R376, R386): an image whose shield and parity have programmed is committed, and one of the Vigil makes its dirty folio HOME; a relocation's copy is
counted, and HOME takes it only where HOME still names its source; a band page that waited is filled with pad slots and programmed; a refused program is counted, marked and
logged, and its band closes before that page as DEGRADED; a LUN that fails is marked and logged, and its valid slots are rebuilt.
These forms are shown to answer a next state with their own effect, under conditions on the state and the operands alone: slotCommit, padTimeout,
programRefused, lunFailed, relocationCommit. -/
def Obligations.SlotsCommitRelocatePadAndFail : Prop :=
  (∀ w h v b, w.dev.fm.slots.get? h = some v → w.dev.fm.bands.get? v.band = some b → w.dev.fm.slotReady b v = true → v.committed = false → v.source = none →
    v.isMeta = false → b.stream ≠ some .vigil →
    Leaves (.slotCommit h) w [] (w.dev.modFm fun f => { f with slots := f.slots.put h { v with committed := true } })) ∧
  (∀ w h v b, w.dev.fm.slots.get? h = some v → w.dev.fm.bands.get? v.band = some b → w.dev.fm.slotReady b v = true → v.committed = false → v.source = none →
    v.isMeta = false → b.stream = some .vigil → (w.dev.tier.entry v.index).dirty = true →
    let t := w.dev.modFm fun f => { f with slots := f.slots.put h { v with committed := true } }
    let u := (t.noteLogged v.index).modTier fun r => { (r.freeResident v.index (w.dev.tier.entry v.index)) with wseq := r.wseq.put v.index v.wseq }
    Makes (.slotCommit h) w (((u.setMap v.index { state := .home, t0 := false, loc := 0, home := some h }).inc .FM_VIGIL_FOLIOS_VIGIL).modPwr fun p =>
      { p with vigil := p.vigil.map fun g => { g with saved := g.saved + 1 } })) ∧
  (∀ w h v b, w.dev.fm.slots.get? h = some v → w.dev.fm.bands.get? v.band = some b → w.dev.fm.slotReady b v = false →
    Leaves (.slotCommit h) w [] w.dev ∧ Leaves (.relocationCommit h) w [] w.dev) ∧
  (∀ w h v b src, w.dev.fm.slots.get? h = some v → w.dev.fm.bands.get? v.band = some b → w.dev.fm.slotReady b v = true → v.committed = false →
    v.source = some src → v.isMeta = false →
    let t := (w.dev.modFm fun f => { f with slots := f.slots.put h { v with committed := true, source := none } }).set .FM_GC_FOLIOS_GC (w.dev.counted .FM_GC_FOLIOS_GC)
    Makes (.relocationCommit h) w
      (if (w.dev.tier.entry v.index).home = some src then t.setMap v.index { w.dev.tier.entry v.index with home := some h } else t)) ∧
  (∀ w n b, let per := w.dev.fm.pageSlots b
    w.dev.fm.bands.get? n = some b → b.state = .open_ → b.placed % per ≠ 0 → per ≠ 0 →
    let pads := per - b.placed % per
    let t := w.dev.modFm fun f => { f with bands := f.bands.put n { b with placed := b.placed + pads } }
    Makes (.padTimeout n) w ((t.set .FM_PADS_PADS (min (w.dev.get .FM_PADS_PADS + pads) (2 ^ 32 - 1))).queuePage n (b.placed / per))) ∧
  (∀ w n b, w.dev.fm.bands.get? n = some b → b.state = .closed ∨ b.placed % w.dev.fm.pageSlots b = 0 → Leaves (.padTimeout n) w [] w.dev) ∧
  (∀ w l n p m q b v, (w.dev.nand.lun l).run = none → (w.dev.nand.lun l).susp = none →
    (w.dev.nand.lun l).wait.find? (w.dev.mayStart l ·) = some (q, .program n p m) → w.dev.fm.bands.get? n = some b →
    b.members[m]? = some v → v.blocks.any (fun x => !w.dev.fm.accepts v.lun x p b.slc) = true →
    let t := (w.dev.modNand fun x => x.setLun l { w.dev.nand.lun l with wait := (w.dev.nand.lun l).wait.erase (q, .program n p m) }).set
      (.NANDC_PROG_REFUSED_REFUSED (lunChannel l)) (w.dev.counted (.NANDC_PROG_REFUSED_REFUSED (lunChannel l)))
    let u := lunUnit ((b.members[0]?).map Member.lun |>.getD 0)
    Makes (.programRefused l) w (((t.set (.NANDC_STATUS_REFUSED_SEEN (lunChannel l)) 1).post 0x6005 u u n p).degradeBand n p)) ∧
  (∀ w l, (w.dev.nand.lun l).wait = [] → Leaves (.programRefused l) w [] w.dev) ∧
  (∀ w l, w.dev.fm.luns.contains l = true → w.dev.fm.failed.contains l = false →
    Makes (.lunFailed l) w ((((w.dev.dropLun l).set .FM_STATUS_LUN_FAILED 1).post 0x6008 (lunUnit l) (lunUnit l) l (w.dev.lunSlots l).length).checkOp)) ∧
  (∀ w l, w.dev.fm.luns.contains l = false ∨ w.dev.fm.failed.contains l = true → Leaves (.lunFailed l) w [] w.dev)

/-- Collection, refresh, wear and checkpoints (R363, R375, R377, R379): collection starts below GC_LOW with the emptiest closed band, which becomes
RECLAIM, and ends at GC_HIGH; a band that is due is relocated whole, and a LOG one stays LOG; with no credit left the node is WEAR_LIMITED, and no
longer once credit is back, each logged; a checkpoint writes each table into the version that its last one did not use. A purge (R390, R513): it
starts for the next destroyed domain and is logged; each band of its set becomes RECLAIM and its other valid folios move out; after the last band
memory is zeroed; at its end it is logged and the domain is UNKEYED and keeps its epochs.
These forms are shown to answer a next state with their own effect, under conditions on the state and the operands alone: gcStart, bandRefresh,
wearCreditEmpty, tableCheckpoint, purge, wearCreditRestored. -/
def Obligations.BandsAreCollectedRefreshedGovernedAndPurged : Prop :=
  (∀ w p n, w.dev.flashPolicy = some p → w.dev.fm.freeCount < p.gcLow → p.gcLow / 2 ≤ w.dev.fm.freeCount → w.dev.gcVictim = some n →
    let t := ((w.dev.modFm fun f => { f with gc := true }).set .FM_STATUS_GC_ACTIVE 1).set .FM_STATUS_GC_URGENT 0
    let u := (t.modFm fun f => { f with bands := f.bands.upd n fun b => { b with state := .reclaim, why := 1 } }).journalFlash
    Makes .gcStart w ((u.queueBand n false).reclaimBands)) ∧
  (∀ w p, w.dev.flashPolicy = some p → p.gcHigh ≤ w.dev.fm.freeCount → p.gcLow ≤ w.dev.fm.freeCount →
    Leaves .gcStart w [(.FM_STATUS_GC_ACTIVE, 0), (.FM_STATUS_GC_URGENT, 0)] (w.dev.modFm fun f => { f with gc := false })) ∧
  (∀ w n b p, w.dev.flashPolicy = some p → w.dev.fm.bands.get? n = some b → b.state = .closed → w.dev.refreshDue p b = true →
    let v := { b with state := .reclaim, reads := [], finalStep := false, closedMs := w.dev.evt.islandMs, why := if w.dev.levelDue p b then 3 else 2 }
    Makes (.bandRefresh n) w ((w.dev.modFm fun f => { f with bands := f.bands.put n v }).queueBand n false)) ∧
  (∀ w n b p, w.dev.flashPolicy = some p → w.dev.fm.bands.get? n = some b → b.state = .log → b.cut ≠ none → w.dev.refreshDue p b = true →
    let v := { b with reads := [], finalStep := false, closedMs := w.dev.evt.islandMs, why := if w.dev.levelDue p b then 3 else 2 }
    Makes (.bandRefresh n) w ((w.dev.modFm fun f => { f with bands := f.bands.put n v }).queueBand n false)) ∧
  (∀ w n b p, w.dev.flashPolicy = some p → w.dev.fm.bands.get? n = some b → b.state = .open_ ∨ w.dev.refreshDue p b = false → Leaves (.bandRefresh n) w [] w.dev) ∧
  (∀ (s : Dev) p b, b.reads.any (fun e => decide (p.readRefresh ≤ e.2)) = true ∨ b.finalStep = true ∨ b.closedMs + p.refreshDays * 86400000 < s.evt.islandMs ∨
    p.wlSpread < s.fm.ecRange.2 - s.fm.ecRange.1 ∧ s.fm.holdsLowest b = true →
    s.refreshDue p b = true) ∧
  (∀ w, w.dev.fm.credit = 0 → w.dev.get .FM_STATUS_WEAR_LIMITED = 0 →
    Leaves .wearCreditEmpty w [(.FM_STATUS_WEAR_LIMITED, 1)] (w.dev.post 0x6009 0 1 (w.dev.fm.rate / 1000000) 0)) ∧
  (∀ w, w.dev.fm.credit ≠ 0 ∨ w.dev.get .FM_STATUS_WEAR_LIMITED = 1 → Leaves .wearCreditEmpty w [] w.dev) ∧
  (∀ w, w.dev.fm.credit ≠ 0 → w.dev.get .FM_STATUS_WEAR_LIMITED = 1 →
    Leaves .wearCreditRestored w [(.FM_STATUS_WEAR_LIMITED, 0)] (w.dev.post 0x6009 0 0 (w.dev.fm.rate / 1000000) (w.dev.fm.credit / 1048576000))) ∧
  (∀ w, w.dev.fm.credit = 0 ∨ w.dev.get .FM_STATUS_WEAR_LIMITED = 0 → Leaves .wearCreditRestored w [] w.dev) ∧
  (∀ w, let t := w.dev.modFm fun f => { f with ckptMs := w.dev.evt.islandMs }
    Makes .tableCheckpoint w ([0, 1, 2].foldl (fun u k =>
      (u.placeMeta (0x200000000 + 2 ^ 30 * k + 2 ^ 29 * (1 - ((u.fm.ckpt.get? k).map Prod.fst).getD 1))).1) t)) ∧
  (∀ (s : Dev) i, s.fm.bands = [] → (s.placeMeta i).2 = none) ∧
  (∀ w d rest, w.dev.fm.purge = none → w.dev.fm.purges = d :: rest → d < 8192 → w.dev.fm.bands.any (fun e => e.2.purged (some d)) = false →
    Leaves .purge w [(.FM_PURGE_DOMAIN, d), (.FM_PURGE_TOTAL_TOTAL, 0), (.FM_PURGE_DONE_DONE, 0), (.FM_PURGE_UNVERIFIED_BLOCKS, 0), (.FM_STATUS_PURGE, 1),
        (.FM_PURGE_STAGE, 3)]
      ((w.dev.modFm fun f =>
        { f with purges := rest, purge := some { domain := some d, left := [], total := 0, done := 0, unverified := 0, zeroing := true } }).post 0x600C 0 d 0 0)) ∧
  (∀ w p n rest b, w.dev.fm.purge = some p → p.left = n :: rest → w.dev.fm.bands.get? n = some b → b.state ≠ .reclaim →
    Makes .purge w (((w.dev.modFm fun f => { f with bands := f.bands.put n { b with state := .reclaim, why := 4 } }).queueBand n false).showPurge)) ∧
  (∀ w p n rest, w.dev.fm.purge = some p → p.left = n :: rest → w.dev.fm.bands.get? n = none →
    Makes .purge w ((w.dev.modFm fun f => { f with purge := some { p with left := rest, done := p.done + 1 } }).showPurge)) ∧
  (∀ w p, w.dev.fm.purge = some p → p.left = [] → p.zeroing = true →
    Makes .purge w ((w.dev.modFm fun f => { f with purge := some { p with zeroing := false } }).showPurge)) ∧
  (∀ w p d, w.dev.fm.purge = some p → p.left = [] → p.zeroing = false → p.domain = some d →
    let t := (((w.dev.modFm fun f => { f with purge := none }).post 0x600D 0 d p.done p.unverified).set .FM_PURGE_STAGE 0).set .FM_STATUS_PURGE 0
    Makes .purge w (t.setDomain d { w.dev.keys.dom d with state := .unkeyed, curSlot := 0, prevSlot := 0 })) ∧
  (∀ w, w.dev.fm.purge = none → w.dev.fm.purges = [] → Leaves .purge w [] w.dev)

/-! ### NAND channel engines (13_flash_channels.md) -/

/-- Ends of array operations (R381, R382, R404, R405, R406): a status record ends what its LUN runs: a program's planes are programmed, an erased member's blocks are erased, a checked
one is erased with no mode, a read counts its codewords and bits; then the LUN serves what waits. A program or erase that reports failure retires its
blocks; a LUN that does not answer is counted, marked, logged and fails. With nothing running, none acts.
These forms are shown to answer a next state with their own effect, under conditions on the state and the operands alone: programFail, eraseFail,
nandStatus, statusTimeout. -/
def Obligations.ArrayOperationsEndWithTheirStatus : Prop :=
  (∀ w l o n p m r, (w.dev.nand.lun l).run = some o → o.job = .program n p m → r.result = 0 →
    Makes (.nandStatus l r) w (w.dev.atPoint 33 (fun x => x.id == l) fun s =>
      (((((s.clearRun l).programDone n p m (List.range s.fm.planes)).metaTime n o).nextRead l).pump l))) ∧
  (∀ w l o n m r, (w.dev.nand.lun l).run = some o → o.job = .erase (some n) m → r.result = 0 →
    (∀ p, w.dev.fm.purge = some p → n ∉ p.left) →
    Makes (.nandStatus l r) w (w.dev.atPoint 33 (fun x => x.id == l) fun s => (((((s.clearRun l).memberErased m).eraseDone (some n) m).nextRead l).pump l))) ∧
  (∀ w l o n m r p, (w.dev.nand.lun l).run = some o → o.job = .erase (some n) m → r.result = 0 → w.dev.fm.purge = some p → n ∈ p.left →
    Makes (.nandStatus l r) w (w.dev.atPoint 33 (fun x => x.id == l) fun s => (((((s.clearRun l).memberErased m).queueJob (.verify (some n) m)).nextRead l).pump l))) ∧
  (∀ w l o b m r, (w.dev.nand.lun l).run = some o → o.job = .verify b m → r.result = 0 →
    Makes (.nandStatus l r) w (w.dev.atPoint 33 (fun x => x.id == l) fun s =>
      (((((s.clearRun l).modFm fun f => (f.erasable m).foldl (fun g x => g.setBlk m.lun x (g.blk m.lun x).checked) f).eraseDone b m).nextRead l).pump l))) ∧
  (∀ w l o n m r, (w.dev.nand.lun l).run = some o → o.job = .check n m → r.result = 0 →
    Makes (.nandStatus l r) w (w.dev.atPoint 33 (fun x => x.id == l) fun s => ((((s.clearRun l).bandChecked n m).nextRead l).pump l))) ∧
  (∀ w l o h r, (w.dev.nand.lun l).run = some o → o.job = .read h → r.result ≠ 3 → r.result ≠ 6 →
    Makes (.nandStatus l r) w (w.dev.atPoint 33 (fun x => x.id == l) fun s =>
      (((((s.clearRun l).countRead h (max 1 r.codewords)).inc (.NANDC_BITS_CORRECTED_BITS (lunChannel l)) r.bits).nextRead l).pump l))) ∧
  (∀ w l o n p m planes, (w.dev.nand.lun l).run = some o → o.job = .program n p m →
    let t := w.dev.modNand fun x => x.setLun l { x.lun l with run := none }
    Makes (.programFail l planes) w (((t.programFail n p m (if planes = 0 then 2 ^ w.dev.fm.planes - 1 else planes)).nextRead l).pump l)) ∧
  (∀ w l o n m planes, (w.dev.nand.lun l).run = some o → o.job = .erase n m →
    let t := w.dev.modNand fun x => x.setLun l { x.lun l with run := none }
    Makes (.eraseFail l planes) w (((t.eraseFail n m (if planes = 0 then 2 ^ m.blocks.length - 1 else planes)).nextRead l).pump l)) ∧
  (∀ w l o h, (w.dev.nand.lun l).run = some o → o.job = .read h →
    let c := lunChannel l
    let t := (w.dev.modNand fun x => x.setLun l { x.lun l with run := none }).set (.NANDC_TIMEOUTS_TIMEOUTS c) (w.dev.counted (.NANDC_TIMEOUTS_TIMEOUTS c))
    Makes (.statusTimeout l) w (((t.set (.NANDC_STATUS_TIMEOUT_SEEN c) 1).post 0x6020 (lunUnit l) (lunUnit l) (l % 32) o.seq).failLun l)) ∧
  (∀ w l r p, (w.dev.nand.lun l).run = none →
    Makes (.nandStatus l r) w (w.dev.atPoint 33 (fun x => x.id == l) id) ∧ Leaves (.statusTimeout l) w [] w.dev ∧ Leaves (.programFail l p) w [] w.dev ∧ Leaves (.eraseFail l p) w [] w.dev)

/-- Suspends, continuous reads, retries and rebuilds (R371, R408, R409, R410, R411, R412, R417): a C0 read suspends a program at once and a C1 read only past its grant; it resumes with
no read of the LUN left; an operation past STARVE_MS is marked once; a continuous read counts its pages; a read that needed retries is counted, and one that failed every
step ends UE and its slot is rebuilt, as is a slot whose read ended FLASH_UE.
These forms are shown to answer a next state with their own effect, under conditions on the state and the operands alone: stripeRebuild, suspend,
resumeOperation, starved, contRead, readRetry. -/
def Obligations.ReadsSuspendRetryAndRebuild : Prop :=
  (∀ w h o n p m, let l := homeLun h
    let c := lunChannel l
    w.dev.modeOf ≠ mHOLDUP → w.dev.nand.lun l = { run := some o, susp := none, wait := [] } → o.job = .program n p m →
    let s := some { o with suspends := min 65535 (o.suspends + 1) }
    let t := (w.dev.modNand fun x => x.setLun l { run := none, susp := s, wait := [(3, .read h)] }).set (.NANDC_SUSPENDS_SUSPENDS c)
      (w.dev.counted (.NANDC_SUSPENDS_SUSPENDS c))
    let read : NandOp := { seq := 3, job := .read h, start := w.dev.nowTicks, since := w.dev.nowTicks, suspends := 0, starved := false }
    Makes (.suspend h 0) w ((t.modNand fun x => x.setLun l { run := some read, susp := s, wait := [] }).inc (.NANDC_READS_READS c))) ∧
  (∀ w h cls o n p m, let l := homeLun h
    w.dev.modeOf ≠ mHOLDUP → w.dev.nand.lun l = { run := some o, susp := none, wait := [] } → o.job = .program n p m → cls ∈ [1, 2, 3] →
    o.starved = true ∨ w.dev.nowTicks - o.since < w.dev.get (.NANDC_SUSPEND_CFG_RESUME_GRANT_US (lunChannel l)) * 2000 →
    Leaves (.suspend h cls) w [] (w.dev.modNand fun x => x.setLun l { run := some o, susp := none, wait := [(3, .read h)] })) ∧
  (∀ w l o, w.dev.nand.lun l = { run := none, susp := some o, wait := [] } →
    Leaves (.resumeOperation l) w [] (w.dev.modNand fun x => x.setLun l { run := some { o with since := w.dev.nowTicks }, susp := none, wait := [] })) ∧
  (∀ w l, (w.dev.nand.lun l).susp = none → Leaves (.resumeOperation l) w [] w.dev) ∧
  (∀ w l o x n p m, let c := lunChannel l
    w.dev.nand.lun l = { run := some o, susp := none, wait := x } → o.job = .program n p m → o.starved = false → w.dev.get (.NANDC_SUSPEND_CFG_STARVE_MS c) ≠ 0 →
    o.start + w.dev.get (.NANDC_SUSPEND_CFG_STARVE_MS c) * 2000000 ≤ w.dev.nowTicks →
    Leaves (.starved l) w [(.NANDC_STATUS_STARVE_SEEN c, 1)]
      ((w.dev.modNand fun y => y.setLun l { run := some { o with starved := true }, susp := none, wait := x }).post 0x6022 (lunUnit l) (lunUnit l) (l % 32) o.suspends)) ∧
  (∀ w l, w.dev.nand.lun l = LunSt.idle ∨ w.dev.get (.NANDC_SUSPEND_CFG_STARVE_MS (lunChannel l)) = 0 → Leaves (.starved l) w [] w.dev) ∧
  (∀ w l o x, w.dev.nand.lun l = { run := some o, susp := none, wait := x } →
    w.dev.nowTicks < o.start + w.dev.get (.NANDC_SUSPEND_CFG_STARVE_MS (lunChannel l)) * 2000000 → Leaves (.starved l) w [] w.dev) ∧
  (∀ w h n tb, let l := homeLun h
    w.dev.fm.table = some tb → tb.cont = true → 0 < n → n ≤ w.dev.get (.NANDC_CONT_CFG_CONT_MAX_PAGES (lunChannel l)) → w.dev.nand.lun l = LunSt.idle →
    w.dev.modeOf ≠ mHOLDUP →
    Makes (.contRead h n false) w
      (((List.range n).foldl (fun t i => t.countRead (homeOf l (homeBlock h) (homePage h + i) (homeSlot h))) w.dev).inc (.NANDC_CONT_PAGES_CONT_PAGES (lunChannel l))
        (n - 1))) ∧
  (∀ w h n f, w.dev.fm.table = none ∨ n = 0 ∨ w.dev.modeOf = mHOLDUP → Leaves (.contRead h n f) w [] w.dev) ∧
  (∀ w h v tb step bits, let l := homeLun h
    let c := lunChannel l
    w.dev.fm.slots.get? h = some v → w.dev.fm.table = some tb → step ≠ 0 →
    let slc := ((w.dev.fm.bands.get? v.band).map Band.slc).getD false
    step < tb.retries slc →
    let soft := ((List.range step).filter fun i => tb.soft slc (i + 1)).length
    let t := (w.dev.inc (.NANDC_RETRY_READS_RETRY_READS c)).inc (.NANDC_SOFT_DECODES_SOFT c) soft
    let f : FaultOp :=
      { unit := lunUnit l, kind := 8, recovered := true, tick := w.dev.stamp % 4096, bank := l % 32, row := homeBlock h, col := homePage h, pos := step, synd := 0, sub := 0,
        la := none }
    let u := ((t.countRead h step).inc (.NANDC_BITS_CORRECTED_BITS c) bits).countFault f false false
    let k := c * 256 + (if slc then 128 else 0) + step
    Makes (.readRetry h step 0 0 bits true) w (u.modNand fun n => { n with hist := n.hist.put k (min (2 ^ 32 - 1) (n.hist.getD k 0 + 1)) })) ∧
  (∀ w h v tb weight zeros, let l := homeLun h
    let c := lunChannel l
    w.dev.fm.slots.get? h = some v → w.dev.fm.table = some tb →
    let slc := ((w.dev.fm.bands.get? v.band).map Band.slc).getD false
    let n := tb.retries slc
    let soft := ((List.range n).filter fun i => tb.soft slc (i + 1)).length
    let t := (((w.dev.inc (.NANDC_RETRY_READS_RETRY_READS c)).inc (.NANDC_SOFT_DECODES_SOFT c) soft).countRead h n).inc (.NANDC_BITS_CORRECTED_BITS c) 0
    let u := ((t.countFault (slotFault t h 8 n false) false false).inc (.NANDC_UE_UE c)).set (.NANDC_STATUS_UE_SEEN c) 1
    let x := (u.captureUe h n weight zeros slc).post 0x6021 (lunUnit l) (lunUnit l) (l % 32 * 8192 + homeBlock h) (homePage h * 4 + homeSlot h)
    Makes (.readRetry h 0 weight zeros 0 false) w ((x.countFault (slotFault x h 9 n false) false false).rebuildSlot h false)) ∧
  (∀ w h v b, w.dev.fm.slots.get? h = some v →
    Makes (.stripeRebuild h b) w ((w.dev.countFault (slotFault w.dev h 9 0 (b && w.dev.fm.rebuildable h v)) false false).rebuildSlot h b)) ∧
  (∀ w h b, w.dev.fm.slots.get? h = none → Leaves (.stripeRebuild h b) w [] w.dev)

/-- Raw access (R407, R420, R421): in QUIESCED, with its guard and while none runs, each operation of the table joins its LUN's work and its channel is BUSY; a program and an erase are logged, take their block
out of the erased pool, and an erase writes its intent first; a program or erase of a band's block is refused and logged; outside QUIESCED the operation is logged and
nothing starts; with another guard, or while BUSY, only OP is written.
These forms are shown to answer a next state with their own effect, under conditions on the state and the operands alone: readRaw, readDecoded,
programRaw, rawErase, rawReadId, getFeature, eraseCheck. -/
def Obligations.RawOperationsRunOnlyInQuiesced : Prop :=
  (∀ w ch op seq c, (op, seq, c) ∈ [(1, 3, Instr.readRaw ch 0x3D), (2, 3, .readDecoded ch 0x3D), (5, 1, .rawReadId ch 0x3D), (6, 1, .getFeature ch 0x3D), (7, 3, .eraseCheck ch 0x3D)] →
    ch < 32 → w.dev.reaches (nandBase ch + 0x80) = true → w.dev.modeOf = mQUIESCED → w.dev.get (.NANDC_RAW_STATUS_BUSY ch) = 0 →
    w.dev.get (.NANDC_RAW_ADDR0_SLC ch) = 0 →
    let l := ch * 32 + w.dev.get (.NANDC_RAW_ADDR0_LUN ch)
    let job : NandJob := .raw op (w.dev.get (.NANDC_RAW_ADDR0_BLOCK ch)) (w.dev.get (.NANDC_RAW_ADDR1_PAGE ch)) false
    Makes c w (w.dev.atManagement fun s =>
      let t := s.setL [(.NANDC_RAW_CTRL_OP ch, op), (.NANDC_RAW_STATUS_BUSY ch, 1), (.NANDC_RAW_STATUS_DONE ch, 0)]
      (t.modNand fun n => n.setLun l { n.lun l with wait := (n.lun l).wait ++ [(seq, job)] }).pump l)) ∧
  (∀ w ch, let l := ch * 32 + w.dev.get (.NANDC_RAW_ADDR0_LUN ch)
    let b := w.dev.get (.NANDC_RAW_ADDR0_BLOCK ch)
    let p := w.dev.get (.NANDC_RAW_ADDR1_PAGE ch)
    ch < 32 → w.dev.reaches (nandBase ch + 0x80) = true → w.dev.modeOf = mQUIESCED → w.dev.get (.NANDC_RAW_STATUS_BUSY ch) = 0 →
    w.dev.get (.NANDC_RAW_ADDR0_SLC ch) = 0 → w.dev.fm.bandBlock l b = false → w.dev.fm.accepts l b p false = true →
    Makes (.programRaw ch 0x3D) w (w.dev.atManagement fun s =>
      let t := s.setL [(.NANDC_RAW_CTRL_OP ch, 3), (.NANDC_RAW_STATUS_BUSY ch, 1), (.NANDC_RAW_STATUS_DONE ch, 0)]
      let u := (t.modFm fun f => (f.leavePool l b).setBlk l b { f.blk l b with next := p + 1, slcMode := some false, raw := true }).post 0x6025 (0x300 + ch) (0x300 + ch)
        3 (l % 32 * 8192 + b)
      (u.modNand fun n => n.setLun l { n.lun l with wait := (n.lun l).wait ++ [(5, .raw 3 b p false)] }).pump l)) ∧
  (∀ w ch, let l := ch * 32 + w.dev.get (.NANDC_RAW_ADDR0_LUN ch)
    let b := w.dev.get (.NANDC_RAW_ADDR0_BLOCK ch)
    ch < 32 → w.dev.reaches (nandBase ch + 0x80) = true → w.dev.modeOf = mQUIESCED → w.dev.get (.NANDC_RAW_STATUS_BUSY ch) = 0 →
    w.dev.get (.NANDC_RAW_ADDR0_SLC ch) = 0 → w.dev.fm.bandBlock l b = false →
    let job : NandJob := .raw 4 b (w.dev.get (.NANDC_RAW_ADDR1_PAGE ch)) false
    Makes (.rawErase ch 0x3D) w (w.dev.atManagement fun s =>
      let t := s.setL [(.NANDC_RAW_CTRL_OP ch, 4), (.NANDC_RAW_STATUS_BUSY ch, 1), (.NANDC_RAW_STATUS_DONE ch, 0)]
      let u := ((t.modFm fun f => (f.leavePool l b).setBlk l b { f.blk l b with intent := true }).modJrn fun j => { j with due := j.due ++ [(1, l * 8192 + b, 0)] }).post
        0x6025 (0x300 + ch) (0x300 + ch) 4 (l % 32 * 8192 + b)
      (u.modNand fun n => n.setLun l { n.lun l with wait := (n.lun l).wait ++ [(7, job)] }).pump l)) ∧
  (∀ w ch c op, (c, op) ∈ [(Instr.programRaw ch 0x3D, 3), (.rawErase ch 0x3D, 4)] →
    ch < 32 → w.dev.reaches (nandBase ch + 0x80) = true → w.dev.modeOf = mQUIESCED → w.dev.get (.NANDC_RAW_STATUS_BUSY ch) = 0 →
    w.dev.fm.bandBlock (ch * 32 + w.dev.get (.NANDC_RAW_ADDR0_LUN ch)) (w.dev.get (.NANDC_RAW_ADDR0_BLOCK ch)) = true →
    Makes c w (w.dev.atManagement fun s => ((s.set (.NANDC_RAW_CTRL_OP ch) op).post 0x6026 (0x300 + ch) (0x300 + ch) op 2).setL [(.NANDC_RAW_STATUS_BUSY ch, 0),
      (.NANDC_RAW_STATUS_DONE ch, 1), (.NANDC_RAW_STATUS_RESULT ch, 2), (.NANDC_RAW_STATUS_STATUS_BYTE ch, 0), (.NANDC_RAW_STATUS_STEPS ch, 0)])) ∧
  (∀ w ch op c, (op, c) ∈ [(1, Instr.readRaw ch 0x3D), (2, .readDecoded ch 0x3D), (3, .programRaw ch 0x3D), (4, .rawErase ch 0x3D), (5, .rawReadId ch 0x3D),
      (6, .getFeature ch 0x3D), (7, .eraseCheck ch 0x3D)] →
    ch < 32 → w.dev.reaches (nandBase ch + 0x80) = true → w.dev.modeOf ≠ mQUIESCED → w.dev.get (.NANDC_RAW_STATUS_BUSY ch) = 0 →
    Makes c w (w.dev.atManagement fun s => (s.set (.NANDC_RAW_CTRL_OP ch) op).post 0x6026 (0x300 + ch) (0x300 + ch) op 1)) ∧
  (∀ w ch g op c, (op, c) ∈ [(1, Instr.readRaw ch g), (2, .readDecoded ch g), (3, .programRaw ch g), (4, .rawErase ch g), (5, .rawReadId ch g),
      (6, .getFeature ch g), (7, .eraseCheck ch g)] →
    ch < 32 → w.dev.reaches (nandBase ch + 0x80) = true → g ≠ 0x3D ∨ w.dev.get (.NANDC_RAW_STATUS_BUSY ch) = 1 →
    Makes c w (w.dev.atManagement (·.set (.NANDC_RAW_CTRL_OP ch) op)))

/-! ### The Daybook (14_daybook.md) -/

/-- Granules and rows (R339, R428, R429, R431): a granule that no re-read decodes is rebuilt where its stripe lets it, or is unrecoverable, each logged
and counted, and its row takes a spare; a row's copy advances in scrub entries, and with its last granule the spare serves; a scrub counts its read,
and acts on the error that it found; with no scrub time set it does nothing. Journal waits and intents (R436, R441, R442): a request that needs a
record while ring or tail is full is counted and logged; a batch takes the first 42 entries that are due, in at least 16 cycles after the last, as one
stripe, or two beyond 21 entries; what a stripe still holds in force is copied ahead before it is overwritten; a CLOSED entry waits until the erase count
is journaled, and ends its OPEN one; a MARK replaces the band's.
These forms are shown to answer a next state with their own effect, under conditions on the state and the operands alone: daybookUe, rowRemap,
journalWait, intentBatch, scrub. -/
def Obligations.DaybookRebuildsScrubsAndWritesIntents : Prop :=
  (∀ w b row g, row < 31744 → w.dev.db.remapped.contains (b * 32768 + row) = false → let st := row * 64 + g
    let u := 0x0B00 + b
    w.dev.db.rebuilds st b = true → w.dev.db.bad.contains (st * 4 + b) = false → w.dev.get .DB_ERR_INFO_VALID = 1 →
    let t := (w.dev.set .DB_UE_UE (w.dev.counted .DB_UE_UE)).modDb fun d => { d with bad := d.bad ++ [st * 4 + b] }
    let x := (t.set .DB_REBUILT_REBUILT (w.dev.counted .DB_REBUILT_REBUILT)).post 0xD002 u u row g
    let f : FaultOp := { unit := u, kind := 11, recovered := true, tick := w.dev.stamp % 4096, bank := b, row := row, col := g, pos := 0, synd := 0, sub := 0, la := none }
    Makes (.daybookUe b row g) w ((x.remapRow b row).countFault f false false)) ∧
  (∀ w b row g, row < 31744 → w.dev.db.remapped.contains (b * 32768 + row) = false → let st := row * 64 + g
    let u := 0x0B00 + b
    w.dev.db.rebuilds st b = false → w.dev.db.bad.contains (st * 4 + b) = false → w.dev.get .DB_ERR_INFO_VALID = 1 →
    let t := (w.dev.set .DB_UE_UE (w.dev.counted .DB_UE_UE)).modDb fun d => { d with bad := d.bad ++ [st * 4 + b] }
    let base (d : Nat) : Nat := ((partitionOf d).map fun p => p.2.1).getD 0
    let x := (DbSt.losesWith w.dev.db t.db st b).foldl (fun y d => ((y.set .DB_STATUS_UNRECOVERABLE 1).post 0xD007 u d (base d / 16384) 0).granuleLost d u) t
    let f : FaultOp := { unit := u, kind := 11, recovered := false, tick := w.dev.stamp % 4096, bank := b, row := row, col := g, pos := 0, synd := 0, sub := 0, la := none }
    Makes (.daybookUe b row g) w ((x.remapRow b row).countFault f false false)) ∧
  (∀ (old new : DbSt) st b d, d ∈ old.losesWith new st b ↔ d / 3 = st ∧ new.unreadable d = true ∧
    (placeIn st b = some (d % 3) ∨ ((partitionOf (3 * st)).map (fun p => p.2.2) ≠ some 2 ∧ old.unreadable d = false))) ∧
  (∀ w b row g, 31744 ≤ row → w.dev.db.remapped = [] → Leaves (.daybookUe b row g) w [] w.dev) ∧
  (∀ (s : Dev) b row, s.db.remapped.contains (b * 32768 + row) = false → s.db.copying.any (fun e => e.1 == b * 32768 + row) = false → s.db.used.getD b 0 < 1024 →
    s.remapRow b row = (((s.modDb fun d => { d with used := d.used.put b (d.used.getD b 0 + 1), copying := d.copying ++ [(b * 32768 + row, 0)] }).inc
      .DB_REMAPS_REMAPS).set .DB_STATUS_REMAP_SEEN 1).post 0xD005 (0x0B00 + b) (0x0B00 + b) row (1024 - (s.db.used.getD b 0 + 1))) ∧
  (∀ w b row n c, let k := b * 32768 + row
    w.dev.db.copying = [(k, c)] → c + n < 64 → Leaves (.rowRemap b row n) w [] (w.dev.modDb fun d => { d with copying := [(k, c + n)] })) ∧
  (∀ w b row n c, let k := b * 32768 + row
    w.dev.db.copying = [(k, c)] → w.dev.db.bad = [] → 64 ≤ c + n →
    Leaves (.rowRemap b row n) w [] (w.dev.modDb fun d => { d with copying := [], remapped := d.remapped ++ [k], rowCe := d.rowCe.del k })) ∧
  (∀ w b row n, w.dev.db.copying = [] → Leaves (.rowRemap b row n) w [] w.dev) ∧
  (∀ w b row g, w.dev.get .DB_CFG_SCRUB_HOURS ≠ 0 →
    Leaves (.scrub true b row g none) w [(.DB_SCRUBBED_SCRUBBED, w.dev.counted .DB_SCRUBBED_SCRUBBED)] w.dev) ∧
  (∀ w b row g f, w.dev.get .DB_CFG_SCRUB_HOURS ≠ 0 → f.kind = 10 →
    Makes (.scrub true b row g (some f)) w ((w.dev.set .DB_SCRUBBED_SCRUBBED (w.dev.counted .DB_SCRUBBED_SCRUBBED)).daybookCe b row g f.synd false)) ∧
  (∀ w n row g, n < 24 → w.dev.get (.MEM_ECC_CTRL_SCRUB_HOURS n) ≠ 0 →
    Leaves (.scrub false n row g none) w [(.MEM_SCRUBBED_SCRUBBED n, w.dev.counted (.MEM_SCRUBBED_SCRUBBED n))] w.dev) ∧
  (∀ w n row g e, w.dev.get .DB_CFG_SCRUB_HOURS = 0 → Leaves (.scrub true n row g e) w [] w.dev) ∧
  (∀ w cls, w.dev.jrn.full = true →
    Leaves (.journalWait cls) w [(.DB_JOURNAL_WAITS_WAITS, w.dev.counted .DB_JOURNAL_WAITS_WAITS)] (w.dev.post 0xD003 0 w.dev.jrn.retained w.dev.jrn.tail cls)) ∧
  (∀ w cls, w.dev.jrn.full = false → Leaves (.journalWait cls) w [] w.dev) ∧
  (∀ w, w.dev.jrn.due ≠ [] → w.dev.jrn.batchAt = none ∨ (∃ c ∈ w.dev.jrn.batchAt, c + 16 ≤ w.dev.cal.cycle) →
    let j := w.dev.jrn
    (∀ e ∈ j.due, e.1 = 2 → j.journaled j.pos = true) → (∀ e ∈ j.force, e.2.2.2 + intentRing < j.iseq ∨ j.iseq + 6 ≤ e.2.2.2 + intentRing) →
    let new := j.due.take (min j.due.length 42)
    Leaves .intentBatch w [] (w.dev.modJrn fun _ =>
      { j with due := j.due.drop new.length, force := (new.zip (List.range new.length)).foldl (fun fs e => intentForce fs e.1 (j.iseq + e.2 / 7)) j.force,
               batchAt := some w.dev.cal.cycle, iseq := j.iseq + (if 21 < new.length then 6 else 3) })) ∧
  (∀ w e o p, let j := w.dev.jrn
    j.due = [e] → e.1 ≠ 2 → j.batchAt = none → intentRing ≤ j.iseq → j.force = [(1, o, p, j.iseq - intentRing)] →
    Leaves .intentBatch w [] (w.dev.modJrn fun _ =>
      { j with due := [], force := intentForce [(1, o, p, j.iseq)] e j.iseq, batchAt := some w.dev.cal.cycle, iseq := j.iseq + 3 })) ∧
  (∀ w e rest, w.dev.jrn.due = e :: rest → e.1 = 2 → w.dev.jrn.journaled w.dev.jrn.pos = false → Leaves .intentBatch w [] w.dev) ∧
  (∀ w c, w.dev.jrn.due = [] ∨ (w.dev.jrn.batchAt = some c ∧ w.dev.cal.cycle < c + 16) → Leaves .intentBatch w [] w.dev) ∧
  (∀ fs o p g x, x ∈ intentForce fs (1, o, p) g ↔ x = (1, o, p, g) ∨ (x ∈ fs ∧ ¬(x.1 = 1 ∧ x.2.1 = o))) ∧
  (∀ fs o p g x, x ∈ intentForce fs (2, o, p) g ↔ x ∈ fs ∧ ¬(x.1 = 1 ∧ x.2.1 = o)) ∧
  (∀ fs n p g x, p ≠ 0xFFFF → (x ∈ intentForce fs (3, n, p) g ↔ x = (3, n, p, g) ∨ (x ∈ fs ∧ ¬(x.1 = 3 ∧ x.2.1 = n)))) ∧
  (∀ fs n g x, x ∈ intentForce fs (3, n, 0xFFFF) g ↔ x ∈ fs ∧ ¬(x.1 = 3 ∧ x.2.1 = n))

/-! ### The twin (15_twin_mirroring.md) -/

/-- Frames (R448, R450, R452): one out of order, or while the link is down, has no effect; one that fails is counted; the sender sends its kept frames again; a sent frame
is counted, kept and encrypted, and none goes where the link does not carry its type.
These forms are shown to answer a next state with their own effect, under conditions on the state and the operands alone: budget, idle,
flesalBadFrame, flesalRetransmit, flesalLost. -/
def Obligations.FlesalDeliversFramesInOrder : Prop :=
  (∀ w h (p : Partner) (i : TwinItem) (n : Snapshot) (fs : List GroupFolio) (a b c : Nat) (v : Bool) (gs : List Nat),
    w.dev.bit .TWIN_STATUS_LINK_UP = false ∨ h.fseq ≠ w.dev.twin.recv →
    Leaves (.state h p) w [] w.dev ∧ Leaves (.item h i) w [] w.dev ∧ Leaves (.cycle h a) w [] w.dev ∧ Leaves (.standbyReport h a) w [] w.dev ∧
    Leaves (.digest h a b c) w [] w.dev ∧ Leaves (.verdict h a b v) w [] w.dev ∧ Leaves (.fault h) w [] w.dev ∧ Leaves (.handoverFrame h a) w [] w.dev ∧
    Leaves (.handoverAck h) w [] w.dev ∧ Leaves (.resync h a v b gs) w [] w.dev ∧ Leaves (.group h a fs) w [] w.dev ∧ Leaves (.tables h n) w [] w.dev ∧
    Leaves (.mailbox h a b c) w [] w.dev ∧ Leaves (.budget h a) w [] w.dev ∧ Leaves (.idle h) w [] w.dev) ∧
  (∀ w h, w.dev.inTurn h .idle = true → Makes (.idle h) w (w.dev.afterFrame h)) ∧
  (∀ w h n, w.dev.inTurn h .budget = true → Makes (.budget h n) w ((w.dev.afterFrame h).modTier fun t => { t with partnerB := some n })) ∧
  (∀ w a b c d, w.dev.bit .TWIN_STATUS_LINK_UP = false →
    Leaves (.flesalBadFrame a b c d) w [] w.dev ∧ Leaves .flesalRetransmit w [] w.dev ∧ Leaves (.flesalRtt a) w [] w.dev) ∧
  (∀ w, w.dev.bit .TWIN_STATUS_LINK_UP = false → w.dev.modeOf ≠ mSWITCHOVER → Leaves .flesalLost w [] w.dev) ∧
  (∀ w, w.dev.bit .TWIN_STATUS_LINK_UP = false → w.dev.modeOf = mSWITCHOVER → Makes .flesalLost w w.dev.finishSwitch) ∧
  (∀ w lane type fseq, w.dev.bit .TWIN_STATUS_LINK_UP = true →
    let f : FaultOp := { unit := 0x600 + lane % 9, kind := 12, recovered := true, tick := 0, bank := 0, row := 0, col := 0, pos := 0, synd := 0, sub := 0, la := none }
    Makes (.flesalBadFrame 0 lane type fseq) w ((w.dev.set .TWIN_LINK_RETRIES_RETRIES (w.dev.counted .TWIN_LINK_RETRIES_RETRIES)).countFault f false false)) ∧
  (∀ w lane type fseq, w.dev.bit .TWIN_STATUS_LINK_UP = true →
    Leaves (.flesalBadFrame 1 lane type fseq) w [(.TWIN_TAG_FAILS_TAG_FAILS, w.dev.counted .TWIN_TAG_FAILS_TAG_FAILS)] w.dev) ∧
  (∀ w lane type, w.dev.bit .TWIN_STATUS_LINK_UP = true →
    Leaves (.flesalBadFrame 2 lane type w.dev.twin.recv) w [(.TWIN_STATUS_PROTOCOL_ERR, 1)]
      ((w.dev.modTwin fun x => { x with recv := x.recv + 1 }).post 0xA010 0 type 0 (w.dev.twin.recv % 2 ^ 32))) ∧
  (∀ w, w.dev.bit .TWIN_STATUS_LINK_UP = true →
    Leaves .flesalRetransmit w [] { w.dev with sent := (w.dev.twin.kept.map fun e => Out.flesal e.1 e.2).reverse ++ w.dev.sent }) ∧
  (∀ (s : Dev) t ws n, s.carries t = false → s.sendFrame t ws n = s) ∧
  (∀ (s : Dev) t ws n, s.carries t = true → (s.sealFrame n).2 = true →
    let u := (s.sealFrame n).1
    s.sendFrame t ws n = (u.modTwin fun x => { x with fseq := x.fseq + 1, kept := (x.kept ++ [(t, ws)]).drop (x.kept.length - 127), give := 0 }).emit (.flesal t ws))

/-- The link (R446, R452, R486): a round trip is measured and one over 2,000 ns logged; the link comes up into a new session with the credits of point 32, and is lost with what its mailboxes hold;
mailbox words and doorbell bits are sent, kept or lost as the link is, are delivered on the other node, and are told as read.
These forms are shown to answer a next state with their own effect, under conditions on the state and the operands alone: mailbox, flesalLost,
flesalRtt, twinMbOut, twinDbOut, twinMbInRead, flesalUp. -/
def Obligations.TheLinkComesUpIsLostAndCarriesMailboxes : Prop :=
  (∀ w ns, w.dev.bit .TWIN_STATUS_LINK_UP = true → ns ≤ 2000 →
    Leaves (.flesalRtt ns) w [(.TWIN_RTT_NS, ns), (.TWIN_RTT_MAX_NS, max (w.dev.get .TWIN_RTT_MAX_NS) ns)] w.dev) ∧
  (∀ w ns, w.dev.bit .TWIN_STATUS_LINK_UP = true → 2000 < ns →
    Leaves (.flesalRtt ns) w [(.TWIN_RTT_NS, min ns 65535), (.TWIN_RTT_MAX_NS, max (w.dev.get .TWIN_RTT_MAX_NS) (min ns 65535))] (w.dev.post 0xA014 0 ns 2000 0)) ∧
  (∀ w lanes, w.dev.twinFitted = false ∨ w.dev.bit .TWIN_STATUS_LINK_UP = true → Leaves (.flesalUp lanes) w [] w.dev) ∧
  (∀ w lanes, w.dev.twinFitted = true → w.dev.bit .TWIN_STATUS_LINK_UP = false →
    w.dev.inMode [mRECOVERING, mSOLO, mACTIVE, mSTANDBY, mRESYNC, mSWITCHOVER, mQUIESCED] = true →
    let items := w.dev.twin.kept.filterMap fun e => if e.1 = .item then some (e.2.getD 0 0, e.2) else none
    let u := w.dev.modTwin fun x =>
      { x with kept := [], unsent := items ++ x.unsent, session := (x.session + 1) % 2 ^ 31, fseq := 0, recv := 0, acked := 0, give := 0, credit := ((w.dev.admission 32).map AdmitDesc.depth).getD 0, partner := none }
    let v := u.setL [(.TWIN_STATUS_LINK_UP, 1), (.TWIN_STATUS_LANES_UP, lanes), (.TWIN_STATUS_SPARE_IN_USE, b2n (w.dev.twin.deadLanes % 256 != 0 && !w.dev.twin.deadLanes.testBit 8))]
    let x := v.post 0xA002 0 lanes (w.dev.get .TWIN_STATUS_PARTNER_MODE) 0
    Makes (.flesalUp lanes) w (x.set .TWIN_DB_OUT_RING (w.dev.get .TWIN_DB_OUT_RING ||| w.dev.twin.ringing)).sendState) ∧
  (∀ w, w.dev.bit .TWIN_STATUS_LINK_UP = true → w.dev.modeOf = mSOLO → w.dev.get .TWIN_MB_FLAGS_OUT_FULL = 0 → w.dev.twin.resync = none →
    Leaves .flesalLost w [(.TWIN_STATUS_LINK_UP, 0), (.TWIN_STATUS_LINK_LOST_SEEN, 1)]
      (w.dev.post 0xA001 0 (w.dev.get .TWIN_STATUS_LANES_UP) mSOLO (w.dev.get .TWIN_STATUS_PARTNER_MODE))) ∧
  (∀ w, w.dev.bit .TWIN_STATUS_LINK_UP = true → w.dev.modeOf = mSOLO → w.dev.get .TWIN_MB_FLAGS_OUT_FULL ≠ 0 → w.dev.twin.resync = none →
    let full := w.dev.get .TWIN_MB_FLAGS_OUT_FULL
    let lost := w.dev.get .TWIN_MB_FLAGS_LOST ||| full
    Leaves .flesalLost w [(.TWIN_STATUS_LINK_UP, 0), (.TWIN_STATUS_LINK_LOST_SEEN, 1), (.TWIN_MB_FLAGS_OUT_FULL, 0), (.TWIN_MB_FLAGS_LOST, lost)]
      ((w.dev.post 0xA001 0 (w.dev.get .TWIN_STATUS_LANES_UP) mSOLO (w.dev.get .TWIN_STATUS_PARTNER_MODE)).post 0xA013 0 lost 0 0)) ∧
  (∀ w, w.dev.bit .TWIN_STATUS_LINK_UP = true → w.dev.modeOf = mSTANDBY → w.dev.get .TWIN_MB_FLAGS_OUT_FULL = 0 → w.dev.twin.resync = none →
    w.dev.bit .TWIN_STATUS_FENCED = false →
    Leaves .flesalLost w [(.TWIN_STATUS_LINK_UP, 0), (.TWIN_STATUS_LINK_LOST_SEEN, 1)]
      ((w.dev.post 0xA001 0 (w.dev.get .TWIN_STATUS_LANES_UP) mSTANDBY (w.dev.get .TWIN_STATUS_PARTNER_MODE)).modTwin fun x => { x with leaseDue := true })) ∧
  (∀ w h i word, w.dev.inTurn h .mailbox = true → let d := w.dev.afterFrame h
    Makes (.mailbox h 0 i word) w ((d.set (.TWIN_MB_IN_WORD (i % 8)) word).set .TWIN_MB_FLAGS_IN_FULL
      ((d.set (.TWIN_MB_IN_WORD (i % 8)) word).get .TWIN_MB_FLAGS_IN_FULL ||| 2 ^ (i % 8)))) ∧
  (∀ w h i word, w.dev.inTurn h .mailbox = true → let d := w.dev.afterFrame h
    let new := maskOff (maskOff word (d.get .TWIN_DB_MASK_MASK)) (d.get .TWIN_DB_IN_BITS)
    let x := d.set .TWIN_DB_IN_BITS (d.get .TWIN_DB_IN_BITS ||| word)
    Makes (.mailbox h 1 i word) w (if new ≠ 0 then x.ring 0x20 else x)) ∧
  (∀ w h i word, w.dev.inTurn h .mailbox = true → let d := w.dev.afterFrame h
    Makes (.mailbox h 2 i word) w (d.set .TWIN_MB_FLAGS_OUT_FULL (maskOff (d.get .TWIN_MB_FLAGS_OUT_FULL) (2 ^ (i % 8))))) ∧
  (∀ w i word, i < 8 → w.dev.reaches (0x90200 + 4 * i) = true → (w.dev.get .TWIN_MB_FLAGS_OUT_FULL).testBit i = true →
    Makes (.twinMbOut i word) w (w.dev.atManagement fun s => s.set .TWIN_MB_FLAGS_OVERRUN (w.dev.get .TWIN_MB_FLAGS_OVERRUN ||| 2 ^ i))) ∧
  (∀ w i word, i < 8 → word < 2 ^ 32 → w.dev.reaches (0x90200 + 4 * i) = true → (w.dev.get .TWIN_MB_FLAGS_OUT_FULL).testBit i = false →
    w.dev.bit .TWIN_STATUS_LINK_UP = false ∨ w.dev.twin.partner = none →
    Makes (.twinMbOut i word) w (w.dev.atManagement fun s =>
      ((s.set (.TWIN_MB_OUT_WORD i) word).set .TWIN_MB_FLAGS_LOST (w.dev.get .TWIN_MB_FLAGS_LOST ||| 2 ^ i)).post 0xA013 0 (2 ^ i) 0 0)) ∧
  (∀ w i word, i < 8 → word < 2 ^ 32 → w.dev.reaches (0x90200 + 4 * i) = true → (w.dev.get .TWIN_MB_FLAGS_OUT_FULL).testBit i = false →
    w.dev.bit .TWIN_STATUS_LINK_UP = true → w.dev.twin.partner ≠ none →
    Makes (.twinMbOut i word) w (w.dev.atManagement fun s =>
      ((s.set (.TWIN_MB_OUT_WORD i) word).set .TWIN_MB_FLAGS_OUT_FULL (w.dev.get .TWIN_MB_FLAGS_OUT_FULL ||| 2 ^ i)).sendFrame .mailbox [0, i, word] 8)) ∧
  (∀ w bits, bits < 2 ^ 32 → w.dev.reaches 0x90244 = true → w.dev.bit .TWIN_STATUS_LINK_UP = false ∨ w.dev.twin.partner = none →
    Makes (.twinDbOut bits) w (w.dev.atManagement fun s => s.set .TWIN_DB_OUT_RING (w.dev.get .TWIN_DB_OUT_RING ||| bits))) ∧
  (∀ w bits, bits < 2 ^ 32 → w.dev.reaches 0x90244 = true → w.dev.bit .TWIN_STATUS_LINK_UP = true → w.dev.twin.partner ≠ none →
    Makes (.twinDbOut bits) w (w.dev.atManagement fun s => s.sendFrame .mailbox [1, 0, bits] 8)) ∧
  (∀ w i, i < 8 → w.dev.readsAt (0x90220 + 4 * i) = true → (w.dev.get .TWIN_MB_FLAGS_IN_FULL).testBit i = true →
    Makes (.twinMbInRead i) w (w.dev.atManagement fun s =>
      ((s.set (.TWIN_MB_IN_WORD i) 0).set .TWIN_MB_FLAGS_IN_FULL (maskOff (w.dev.get .TWIN_MB_FLAGS_IN_FULL) (2 ^ i))).sendFrame .mailbox [2, i, 0] 8)) ∧
  (∀ w i, i < 8 → w.dev.readsAt (0x90220 + 4 * i) = true → (w.dev.get .TWIN_MB_FLAGS_IN_FULL).testBit i = false →
    Makes (.twinMbInRead i) w (w.dev.atManagement fun s => s.set (.TWIN_MB_IN_WORD i) 0)) ∧
  (∀ w i x, w.dev.reaches (0x90200 + 4 * i) = false → Leaves (.twinMbOut i x) w [] w.dev) ∧
  (∀ w x, w.dev.reaches 0x90244 = false → Leaves (.twinDbOut x) w [] w.dev) ∧
  (∀ w i, w.dev.readsAt (0x90220 + 4 * i) = false → Leaves (.twinMbInRead i) w [] w.dev)

/-- What the standby's frames and the active's items do (R453, R455, R456, R461, R462, R476): a REPORT releases what it covers; the next item in turn executes and is reported, any other
only spends a credit, and one beyond the credits is a protocol error; CYCLE makes its boundary's stamped actions; digests of one window are compared once both are held; two verdicts are acted on as
the table of R462 says; FAULT and HANDOVER bring the standby to SWITCHOVER, and the acknowledgement the active to STANDBY.
These forms are shown to answer a next state with their own effect, under conditions on the state and the operands alone: standbyReport, item, cycle,
digest, verdict, verdictTimeout, fault, handoverFrame, handoverAck. -/
def Obligations.TwinFramesActAsTheirTypeSays : Prop :=
  (∀ w h n, w.dev.inTurn h .report = true → let d := w.dev.afterFrame h
    let t := d.modTwin fun x => { x with reported := max x.reported n, lines := x.lines.filter fun e => decide (e.1 > max x.reported n) }
    Makes (.standbyReport h n) w (if d.modeOf = mACTIVE then t.releaseAnswers.advanceAll.pumpQps else d)) ∧
  (∀ w h i, w.dev.inTurn h .item = true → let d := w.dev.afterFrame h
    let depth := ((d.admission 32).map AdmitDesc.depth).getD 0
    let q := d.arrive 32 { id := i.onum, writes := true, folio := none, qpn := none, dscp := 0, request := false } false
    let e := (q.modCal fun c => c.setQueue 32 ((c.queue 32).filter fun a => a.id != i.onum)).modTwin fun x => { x with give := x.give + 1 }
    let t := (e.modCal fun c => { c with lastStamp := some i.stamp }).itemBody i.body
    let u := (t.set .TWIN_ITEMS_ITEMS (t.counted .TWIN_ITEMS_ITEMS)).modTwin fun x => { x with onum := i.onum, reports := x.reports ++ [(i.onum, i.stamp, t.twin.oseq)] }
    Makes (.item h i) w (if d.twin.give + (d.cal.queue 32).length ≥ depth then (d.set .TWIN_STATUS_PROTOCOL_ERR 1).post 0xA010 0 2 1 (h.fseq % 2 ^ 32)
      else if q.follower = true ∧ i.onum = q.twin.onum + 1 then u.sendReports else if q.follower = true ∧ i.onum > q.twin.onum then q else e)) ∧
  (∀ (s : Dev) n x o, s.follower = true → s.twin.reports = [(n, x, o)] → s.gal.waiting = [] →
    s.sendReports = (s.modTwin fun y => { y with reports := [] }).sendFrame .report [n, o] 16) ∧
  (∀ (s : Dev) n x o g rest, s.follower = true → s.twin.reports = [(n, x, o)] → s.gal.waiting = g :: rest → g.evac = false → g.stamp ≤ x → s.sendReports = s) ∧
  (∀ w h c, w.dev.inTurn h .cycle = true → let d := w.dev.afterFrame h
    let e := if d.cal.load = none ∧ d.mode.fresh = true then d.pageAt else d
    Makes (.cycle h c) w (if d.follows = true then ((e.modCal fun x => { x with cycle := c % 2 ^ 48 }).stampedModes).stampedTables else d)) ∧
  (∀ w h n g, w.dev.inTurn h .digest = true → (w.dev.afterFrame h).twin.own.get? (n * 2) = none →
    Makes (.digest h n 0 g) w ((w.dev.afterFrame h).modTwin fun x => { x with theirs := x.theirs.put (n * 2) g })) ∧
  (∀ w h n g, w.dev.inTurn h .digest = true → (w.dev.afterFrame h).twin.own.get? (n * 2) = some g →
    let d := w.dev.afterFrame h
    let u := d.modTwin fun x => { x with own := x.own.del (n * 2), theirs := (x.theirs.put (n * 2) g).del (n * 2), compared := n }
    Makes (.digest h n 0 g) w ((u.set .TWIN_WINDOWS_WINDOWS (d.counted .TWIN_WINDOWS_WINDOWS)).set .TWIN_WINDOW_WINDOW (n % 2 ^ 32))) ∧
  (∀ w h n g o, w.dev.inTurn h .digest = true → (w.dev.afterFrame h).twin.own.get? (n * 2) = some o → o ≠ g → (w.dev.afterFrame h).twin.mismatch = none →
    (w.dev.afterFrame h).twin.verdict = none → 1 ≤ n →
    let d := w.dev.afterFrame h
    let own := d.faultyOver (4096 * (n - 1)) (4096 * (n + 2) - 1)
    let u := d.modTwin fun x => { x with own := x.own.del (n * 2), theirs := (x.theirs.put (n * 2) g).del (n * 2), compared := n }
    let v := (u.set .TWIN_WINDOWS_WINDOWS (d.counted .TWIN_WINDOWS_WINDOWS)).set .TWIN_WINDOW_WINDOW (n % 2 ^ 32)
    let y := ((v.set .TWIN_STATUS_MISMATCH_SEEN 1).set .TWIN_MISMATCHES_MISMATCHES (v.counted .TWIN_MISMATCHES_MISMATCHES)).post 0xA004 0 (n % 2 ^ 32) 0 (b2n own)
    Makes (.digest h n 0 g) w ((y.modTwin fun x => { x with mismatch := some { window := n, kind := 0, own := own } }).sendFrame .verdict [n, 0, b2n own] 16)) ∧
  (∀ w h n k v, w.dev.inTurn h .verdict = true → (w.dev.afterFrame h).twin.mismatch = none →
    Makes (.verdict h n k v) w ((w.dev.afterFrame h).modTwin fun x => { x with verdict := some (n, k, v) })) ∧
  (∀ w h n k v m, w.dev.inTurn h .verdict = true → let d := w.dev.afterFrame h
    d.twin.mismatch = some m → d.modeOf = mACTIVE → m.own = false ∨ v = true →
    let u := (d.modTwin fun x => { x with mismatch := none, verdict := none, suspect := x.suspect || m.own }).post 0xA005 0 (b2n m.own) (b2n v)
      (if m.own then 3 else if v then 2 else 1)
    Makes (.verdict h n k v) w (((u.modTwin fun x => { x with full := true }).set .TWIN_STATUS_DIVERGED_SEEN 1).twinTrigger 11 mSOLO 4)) ∧
  (∀ w h n k m, w.dev.inTurn h .verdict = true → let d := w.dev.afterFrame h
    d.twin.mismatch = some m → d.modeOf = mACTIVE → m.own = true →
    let u := (d.modTwin fun x => { x with mismatch := none, verdict := none, suspect := true }).post 0xA005 0 1 0 4
    Makes (.verdict h n k false) w ((u.sendFrame .fault []).fence 0)) ∧
  (∀ w h n k v m, w.dev.inTurn h .verdict = true → let d := w.dev.afterFrame h
    d.twin.mismatch = some m → d.modeOf = mSTANDBY → v = false ∨ m.own = true →
    let u := (d.modTwin fun x => { x with mismatch := none, verdict := none }).post 0xA005 0 (b2n v) (b2n m.own) (if v then 3 else if m.own then 2 else 1)
    Makes (.verdict h n k v) w (((u.modTwin fun x => { x with full := true, suspect := true }).set .TWIN_STATUS_DIVERGED_SEEN 1).twinTrigger 16 mRESYNC 4)) ∧
  (∀ w m, w.dev.twin.mismatch = some m → w.dev.twin.verdict = none → w.dev.modeOf = mACTIVE →
    let u := (w.dev.modTwin fun x => { x with mismatch := none, suspect := x.suspect || m.own }).post 0xA005 0 (b2n m.own) 1 (if m.own then 3 else 2)
    Makes .verdictTimeout w (((u.modTwin fun x => { x with full := true }).set .TWIN_STATUS_DIVERGED_SEEN 1).twinTrigger 11 mSOLO 4)) ∧
  (∀ w, w.dev.twin.mismatch = none ∨ w.dev.twin.verdict ≠ none ∨ w.dev.modeOf ≠ mACTIVE → Leaves .verdictTimeout w [] w.dev) ∧
  (∀ w h, w.dev.inTurn h .fault = true → let d := w.dev.afterFrame h
    Makes (.fault h) w (if d.modeOf = mSTANDBY ∨ d.mode.due.map Trigger.target = some mSTANDBY then (d.modTwin fun x => { x with swCause := 1 }).twinTrigger 13 mSWITCHOVER 0 else d)) ∧
  (∀ w h n, w.dev.inTurn h .handover = true → let d := w.dev.afterFrame h
    Makes (.handoverFrame h n) w (if (d.modeOf = mSTANDBY ∨ d.mode.due.map Trigger.target = some mSTANDBY) ∧ n ≤ d.twin.onum
      then ((d.modTwin fun x => { x with swCause := 0 }).sendFrame .handoverAck []).twinTrigger 13 mSWITCHOVER 1 else d)) ∧
  (∀ w h n, w.dev.inTurn h .handoverAck = true → (w.dev.afterFrame h).twin.handover = some (some n) → let d := w.dev.afterFrame h
    Makes (.handoverAck h) w (if d.modeOf = mACTIVE then d.twinTrigger 12 mSTANDBY 1 else d)) ∧
  (∀ w h, w.dev.inTurn h .handoverAck = true → (w.dev.afterFrame h).twin.handover = none → Makes (.handoverAck h) w (w.dev.afterFrame h))

/-- STATE (R451, R462, R466, R467, R474, R483), on a link that keeps its partner: a fenced node only notes it; SOLO sees its partner in STANDBY and goes ACTIVE; an active whose standby left returns to SOLO,
or is fenced where the partner serves; a standby whose active serves alone resynchronises; a difference of structure digests is shown and logged once.
This form is shown to answer a next state with its own effect, under conditions on the state and the operands alone: state. -/
def Obligations.PartnerStatesDriveTheModes : Prop :=
  (∀ w h p, w.dev.inTurn h .state = true → let d := w.dev.afterFrame h
    d.bit .TWIN_STATUS_FENCED = true → d.forme.run.map Forme.digest = some p.digest → d.twin.partner ≠ none ∨ d.get .TWIN_DB_OUT_RING = 0 →
    Makes (.state h p) w ((d.modTwin fun x => { x with partner := some p }).set .TWIN_STATUS_PARTNER_MODE p.mode)) ∧
  (∀ w h p, w.dev.inTurn h .state = true → let d := w.dev.afterFrame h
    d.bit .TWIN_STATUS_FENCED = true → d.bit .TWIN_STATUS_LINK_UP = true → d.forme.run.map Forme.digest = some p.digest → d.twin.partner = none →
    d.get .TWIN_DB_OUT_RING ≠ 0 →
    let e := (d.modTwin fun x => { x with partner := some p }).set .TWIN_STATUS_PARTNER_MODE p.mode
    Makes (.state h p) w ((e.set .TWIN_DB_OUT_RING 0).sendFrame .mailbox [1, 0, d.get .TWIN_DB_OUT_RING] 8)) ∧
  (∀ w h p, w.dev.inTurn h .state = true → let d := w.dev.afterFrame h
    d.bit .TWIN_STATUS_FENCED = false → d.forme.run.map Forme.digest = some p.digest → d.twin.partner ≠ none → d.modeOf = mSOLO → p.mode = mSTANDBY →
    d.mode.due = none → p.pair = d.twin.pair →
    let e := (d.modTwin fun x => { x with partner := some p }).set .TWIN_STATUS_PARTNER_MODE mSTANDBY
    Makes (.state h p) w (e.beginTransit { row := 10, target := mACTIVE, cause := 4, prio := 5, sub := 5 })) ∧
  (∀ w h p q, w.dev.inTurn h .state = true → let d := w.dev.afterFrame h
    d.bit .TWIN_STATUS_FENCED = false → d.forme.run.map Forme.digest = some p.digest → d.twin.partner = some q → q.mode = mSTANDBY → d.modeOf = mACTIVE →
    p.mode = mRESYNC ∨ p.mode = mRECOVERING → d.mode.due = none →
    let e := (d.modTwin fun x => { x with partner := some p }).set .TWIN_STATUS_PARTNER_MODE p.mode
    Makes (.state h p) w (e.beginTransit { row := 11, target := mSOLO, cause := 4, prio := 5, sub := 5 })) ∧
  (∀ w h p q, w.dev.inTurn h .state = true → let d := w.dev.afterFrame h
    d.bit .TWIN_STATUS_FENCED = false → d.forme.run.map Forme.digest = some p.digest → d.twin.partner = some q → q.mode = mSTANDBY → d.modeOf = mACTIVE →
    p.mode = mSOLO ∨ p.mode = mACTIVE → d.mode.due = none →
    let e := (d.modTwin fun x => { x with partner := some p }).set .TWIN_STATUS_PARTNER_MODE p.mode
    Makes (.state h p) w (e.fence 1)) ∧
  (∀ w h p q, w.dev.inTurn h .state = true → let d := w.dev.afterFrame h
    d.bit .TWIN_STATUS_FENCED = false → d.forme.run.map Forme.digest = some p.digest → d.twin.partner = some q → q.mode = mACTIVE → d.modeOf = mSTANDBY →
    p.mode = mSOLO → d.mode.due = none → p.pair = d.twin.pair →
    let e := (d.modTwin fun x => { x with partner := some p, term := max x.term p.term }).set .TWIN_STATUS_PARTNER_MODE mSOLO
    Makes (.state h p) w (e.beginTransit { row := 16, target := mRESYNC, cause := 4, prio := 5, sub := 5 })) ∧
  (∀ w h p f, w.dev.inTurn h .state = true → let d := w.dev.afterFrame h
    d.bit .TWIN_STATUS_FENCED = true → d.forme.run = some f → f.digest ≠ p.digest → d.digestsDiffer = false → d.twin.partner ≠ none →
    let e := (d.modTwin fun x => { x with partner := some p }).set .TWIN_STATUS_PARTNER_MODE p.mode
    Makes (.state h p) w ((e.set .TWIN_STATUS_DIGEST_DIFF 1).post 0xA003 0 (firstDiff f.digest p.digest) 0 0))

/-- The ledger and leases (R464, R469 to R473, R485): a granule is written every 1,024 cycles; a request is posted only where one is needed, and expires at once where its key refuses; a grant is checked field
by field, and an accepted one raises TERM and is the trigger of its mode; a denied or expired one fences the active; an hour out of serving is counted and told once past its limit.
These forms are shown to answer a next state with their own effect, under conditions on the state and the operands alone: ledgerWrite, leaseRequest,
submit, deny, leaseExpired, egressHour. -/
def Obligations.LedgerLeasesAndGrants : Prop :=
  (∀ w, w.dev.calRuns = true → w.dev.inMode [mSOLO, mACTIVE, mSTANDBY, mRESYNC] = true → w.dev.twin.ledgerAt + 1024 ≤ w.dev.cal.count → w.dev.twin.keptFrom = none →
    let x := w.dev.twin
    let g : Ledger := { role := w.dev.ledgerRole w.dev.modeOf, vigil := false, suspect := x.suspect, pair := x.pair, term := x.term, onum := x.onum, base := none,
                        oseq := x.oseq, takeover := x.takeover, lseq := x.lseq }
    Makes .ledgerWrite w ((w.dev.modTwin fun y => { y with ledger := y.ledger.put (y.lseq % 65536) g, lseq := y.lseq + 1, ledgerAt := w.dev.cal.count }).journal
      (.ledgerMark (x.lseq % 65536)) .nothing)) ∧
  (∀ w, w.dev.calRuns = false ∨ w.dev.cal.count < w.dev.twin.ledgerAt + 1024 → Leaves .ledgerWrite w [] w.dev) ∧
  (∀ w, w.dev.twin.leaseDue = false ∨ w.dev.twin.lease.isSome = true ∨ w.dev.bit .TWIN_STATUS_FENCED = true → Leaves .leaseRequest w [] w.dev) ∧
  (∀ w, w.dev.twin.leaseDue = true → w.dev.twin.lease = none → w.dev.twin.denied ≠ some w.dev.twin.term → w.dev.bit .TWIN_STATUS_FENCED = false →
    let slot := w.dev.get .TWIN_LEASE_CFG_WITNESS_SLOT
    (w.dev.keys.slot slot).state = .active →
    let nonce : Nat := (w.dev.random 64).1
    let t : Dev := ((w.dev.random 64).2.encrypt slot 3 3).1
    let l : Lease := { pair := t.twin.pair, node := t.pwr.straps.roleStrap, mode := w.dev.modeOf, term := w.dev.twin.term, onum := w.dev.twin.onum, nonce := nonce }
    let bytes := l.body ++ leBytes 16 (Config.cmac (t.keys.slot slot).key l.body)
    let u := (List.range 16).foldl (fun x i => x.set (.TWIN_LEASE_REQ_REQ i) (leAt bytes (4 * i) 4)) t
    Makes .leaseRequest w (((u.modTwin fun x => { x with lease := some l }).set .TWIN_LEASE_STATUS_PENDING 1).post 0xA006 0 l.term l.mode 0)) ∧
  (∀ w g, w.dev.reaches 0x90180 = true → g = 0x4C → w.dev.bit .TWIN_STATUS_FENCED = false → w.dev.twin.lease = none →
    Makes (.submit g) w (w.dev.atManagement fun s => s.setL [(.TWIN_LEASE_STATUS_REJECTED, 1), (.TWIN_LEASE_STATUS_REASON, 7)])) ∧
  (∀ w g, g ≠ 0x4C → Makes (.submit g) w (w.dev.regRow 0x90180 id) ∧ Makes (.deny g) w (w.dev.regRow 0x90180 id)) ∧
  (∀ w l, w.dev.reaches 0x90180 = true → w.dev.bit .TWIN_STATUS_FENCED = false → w.dev.twin.lease = some l →
    let b := w.dev.grantBytes
    let slot := w.dev.keys.slot (w.dev.get .TWIN_LEASE_CFG_WITNESS_SLOT)
    let why := if sliceAt b 0 4 ≠ [0x4B, 0x4C, 0x47, 0x52] then 1 else if leAt b 4 4 ≠ l.pair then 2 else if leAt b 8 1 ≠ l.node then 3 else if leAt b 12 4 ≠ l.term then 4
      else if leAt b 24 8 ≠ l.nonce then 5 else if slot.state ≠ .active ∧ slot.state ≠ .decryptOnly then 6
      else if leAt b 48 16 ≠ Config.cmac slot.key (sliceAt b 0 48) % 2 ^ 128 then 6 else 0
    let granted (s : Dev) : Dev := (((s.modTwin fun x => { x with lease := none, leaseDue := false }).raiseTerm).setL
      [(.TWIN_LEASE_STATUS_PENDING, 0), (.TWIN_LEASE_STATUS_GRANTED, 1), (.TWIN_STATUS_HOLDING, 0)]).post 0xA007 0 l.term 0 0
    Makes (.submit 0x4C) w (w.dev.atManagement fun s => let u := granted s
      if why ≠ 0 then s.setL [(.TWIN_LEASE_STATUS_REJECTED, 1), (.TWIN_LEASE_STATUS_REASON, why)]
      else if w.dev.modeOf = mACTIVE then u.twinTrigger 11 mSOLO 3
      else if w.dev.modeOf = mSTANDBY then (u.modTwin fun x => { x with swCause := 2 }).twinTrigger 13 mSWITCHOVER 3
      else if w.dev.modeOf = mRECOVERING then u.twinTrigger 5 mSOLO 3 else u)) ∧
  (∀ w l, w.dev.reaches 0x90180 = true → w.dev.twin.lease = some l → w.dev.modeOf ≠ mACTIVE → w.dev.modeOf ≠ mSTANDBY →
    Makes (.deny 0x4C) w (w.dev.atManagement fun s =>
      ((s.setL [(.TWIN_LEASE_STATUS_PENDING, 0), (.TWIN_LEASE_STATUS_DENIED, 1)]).post 0xA008 0 w.dev.twin.term 0 (w.dev.get .TWIN_LEASE_STATUS_REASON)).modTwin
        fun x => { x with lease := none, leaseDue := false })) ∧
  (∀ w l, w.dev.twin.lease = some l → w.dev.modeOf = mSTANDBY →
    Leaves .leaseExpired w [(.TWIN_LEASE_STATUS_PENDING, 0), (.TWIN_LEASE_STATUS_EXPIRED, 1)]
      ((w.dev.post 0xA008 0 w.dev.twin.term 1 (w.dev.get .TWIN_LEASE_STATUS_REASON)).modTwin fun x => { x with lease := none, leaseDue := false, denied := some x.term })) ∧
  (∀ w l, w.dev.twin.lease = some l → w.dev.modeOf = mACTIVE →
    let t := (w.dev.setL [(.TWIN_LEASE_STATUS_PENDING, 0), (.TWIN_LEASE_STATUS_EXPIRED, 1)]).post 0xA008 0 w.dev.twin.term 1 (w.dev.get .TWIN_LEASE_STATUS_REASON)
    Makes .leaseExpired w ((t.modTwin fun x => { x with lease := none, leaseDue := false }).fence 1)) ∧
  (∀ w, w.dev.twin.lease = none → Leaves .leaseExpired w [] w.dev) ∧
  (∀ (s : Dev) why, s.bit .TWIN_STATUS_FENCED = false → (∀ p ∈ s.ports, p < 8) → let t := s.fence why
    t.bit .TWIN_STATUS_FENCED = true ∧ t.bit .TWIN_STATUS_HOLDING = false ∧ t.cal.stopped = true ∧ t.twin.handover = none ∧ t.twin.leaseDue = false) ∧
  (∀ w, w.dev.serving = true → Leaves .egressHour w [] w.dev) ∧
  (∀ w, w.dev.serving = false → let n := w.dev.counted .TWIN_EGRESS_HOURS
    w.dev.get .TWIN_CFG_EGRESS_WARN_DAYS = 0 ∨ n ≤ w.dev.get .TWIN_CFG_EGRESS_WARN_DAYS * 24 → Leaves .egressHour w [(.TWIN_EGRESS_HOURS, n)] w.dev) ∧
  (∀ w, w.dev.serving = false → let n := w.dev.counted .TWIN_EGRESS_HOURS
    let days := w.dev.get .TWIN_CFG_EGRESS_WARN_DAYS
    days ≠ 0 → days * 24 < n → w.dev.twin.egressTold = false →
    Leaves .egressHour w [(.TWIN_EGRESS_HOURS, n), (.TWIN_STATUS_EGRESS_OLD, 1)]
      ((w.dev.modTwin fun x => { x with egressTold := true }).post 0xA00F 0 (n / 24) days 0))

/-- Switch-over and resynchronisation (R475, R478 to R483): the new active takes the last ONUM as its TAKEOVER, raises TERM where no grant did, drops what its partner sent and announces, and again twice; a
resynchronisation starts at SNAPSHOT, sends groups in ascending order, stops at a latched one, and its phases follow; the node that resynchronises installs each group's folios in the active's state, takes its tables at Sf, and
with the last group enters STANDBY; loss of Flesal or of its mode abandons it.
These forms are shown to answer a next state with their own effect, under conditions on the state and the operands alone: resync, group, tables,
switchover, switchoverAnnounceRepeat, resyncPhase, resyncDone, resyncAbandoned. -/
def Obligations.SwitchOverAndResynchronisation : Prop :=
  (∀ w, w.dev.modeOf = mSWITCHOVER → w.dev.twin.announce = 0 →
    let a := w.dev.modTwin fun x => { x with takeover := x.onum, tookOver := true, leaseDue := false }
    let b := (if w.dev.twin.swCause = 2 then a else a.raiseTerm).treatSent.announceAll
    let c := b.ports.foldl (fun t p => t.set (.PORT_STATUS_HELD p) 0) b
    let d := (c.modTwin fun x => { x with announce := 2 }).set .TWIN_STATUS_TAKEOVER_SEEN 1
    Makes .switchover w ((d.post 0xA00A 0 (d.twin.takeover % 2 ^ 32) d.twin.term d.twin.swCause).finishSwitch)) ∧
  (∀ w, w.dev.modeOf ≠ mSWITCHOVER → Leaves .switchover w [] w.dev) ∧
  (∀ (s : Dev), s.modeOf = mSWITCHOVER → s.twin.announce ≠ 0 → s.mode.due = none → s.twin.swCause ≠ 0 ∨ s.bit .TWIN_STATUS_LINK_UP = false →
    s.finishSwitch = s.beginTransit { row := 15, target := mSOLO, cause := 4, prio := 5, sub := 5 }) ∧
  (∀ (s : Dev) p, s.modeOf = mSWITCHOVER → s.twin.announce ≠ 0 → s.mode.due = none → s.twin.swCause = 0 → s.bit .TWIN_STATUS_LINK_UP = true →
    s.twin.partner = some p → s.finishSwitch = if p.mode = mSTANDBY then s.beginTransit { row := 14, target := mACTIVE, cause := 4, prio := 5, sub := 5 } else s) ∧
  (∀ w, w.dev.twin.announce ≠ 0 → w.dev.serving = true →
    Makes .switchoverAnnounceRepeat w ((w.dev.modTwin fun x => { x with announce := x.announce - 1 }).announceAll)) ∧
  (∀ w, w.dev.twin.announce = 0 ∨ w.dev.serving = false → Leaves .switchoverAnnounceRepeat w [] w.dev) ∧
  (∀ w n p, w.dev.twin.partner = some p → w.dev.modeOf = mSOLO → p.mode = mRESYNC → w.dev.carries .resync = true → w.dev.twin.resync = none →
    let r : Resync := { phase := 1, full := w.dev.resyncFull p, pass := 0, left := [], bulk := none, next := [], final := false, ready := false, groups := 0,
                        startMs := w.dev.evt.islandMs }
    Makes (.resyncPhase n) w ((w.dev.modTwin fun x => { x with full := false }).resyncTo r)) ∧
  (∀ w n p r, w.dev.twin.partner = some p → w.dev.modeOf = mSOLO → p.mode = mRESYNC → w.dev.carries .resync = true → w.dev.twin.resync = some r → r.phase = 1 →
    r.ready = true →
    Makes (.resyncPhase n) w (w.dev.resyncTo { r with phase := 2, left := if r.full then [] else addGroups r.left (w.dev.twin.cur ++ w.dev.twin.old),
                                                      bulk := if r.full then some (0, w.dev.mapPages) else none, next := [] })) ∧
  (∀ w n p r g rest, w.dev.twin.partner = some p → w.dev.modeOf = mSOLO → p.mode = mRESYNC → w.dev.carries .resync = true → w.dev.twin.resync = some r → r.phase = 2 →
    r.bulk = none → r.left = g :: rest → w.dev.groupClear g = false → Makes (.resyncPhase (n + 1)) w w.dev.showResync) ∧
  (∀ (s : Dev) r g rest, s.twin.resync = some r → r.bulk = none → r.left = g :: rest → s.groupClear g = true →
    s.sendGroups 1 = (s.modTwin fun x => { x with resync := some { r with left := rest } }).sendGroup g) ∧
  (∀ w n p r, w.dev.twin.partner = some p → w.dev.modeOf = mSOLO → p.mode = mRESYNC → w.dev.carries .resync = true → w.dev.twin.resync = some r → r.phase = 4 →
    r.final = false → Leaves (.resyncPhase n) w [] w.dev) ∧
  (∀ (s : Dev) r, s.modeOf = mSOLO → s.carries .resync = true → s.twin.resync = some r → r.phase = 4 → r.final = false → s.tier.latches = [] →
    let q := { r with final := true, left := addGroups r.left r.next, next := [] }
    let t := s.modTwin fun x => { x with resync := some q, revokes := (s.rgn.regions.filter fun e => e.2.state == .revoking).map Prod.fst }
    s.reachSf = (t.sendFrame .tables [s.twin.onum, s.twin.oseq, s.twin.term, s.twin.pair] 4352).resyncTo q) ∧
  (∀ (s : Dev) r, s.twin.resync = some r → s.tier.latches ≠ [] ∨ r.phase ≠ 4 → s.reachSf = s) ∧
  (∀ w n, w.dev.modeOf ≠ mSOLO ∨ w.dev.twin.partner = none → Leaves (.resyncPhase n) w [] w.dev) ∧
  (∀ w h phase full pass gs r, w.dev.inTurn h .resync = true → let d := w.dev.afterFrame h
    d.modeOf = mRESYNC → phase ≠ 1 → d.twin.resync = some r →
    let q := { r with phase := phase, full := full, pass := pass, left := gs, bulk := none }
    Makes (.resync h phase full pass gs) w
      (((d.modTwin fun x => { x with resync := some q, suspect := x.suspect || full }).post 0xA00C 0 phase (b2n full) gs.length).showResync)) ∧
  (∀ w h full pass gs r, w.dev.inTurn h .resync = true → let d := w.dev.afterFrame h
    d.modeOf = mSOLO → d.twin.resync = some r → r.phase = 1 →
    Makes (.resync h 1 full pass gs) w (d.modTwin fun x => { x with resync := some { r with ready := true, left := addGroups r.left gs } })) ∧
  (∀ w h g fs r, w.dev.inTurn h .group = true → let d := w.dev.afterFrame h
    d.modeOf = mRESYNC → d.twin.resync = some r → 2 ≤ r.phase →
    let gone := d.tier.map.filter fun e => e.1 / 512 == g && !fs.any fun x => x.folio == e.1
    let t := fs.foldl (fun x f => if f.folio / 512 = g then x.installFolio f else x) (gone.foldl (fun x e => x.discardNow e.1) d)
    Makes (.group h g fs) w
      ((t.modTwin fun x => { x with resync := x.resync.map fun q => { q with left := q.left.erase g, groups := q.groups + 1 } }).showResync.resyncDone)) ∧
  (∀ w h g fs, w.dev.inTurn h .group = true → (w.dev.afterFrame h).modeOf ≠ mRESYNC ∨ (w.dev.afterFrame h).twin.resync = none → Makes (.group h g fs) w (w.dev.afterFrame h)) ∧
  (∀ (s : Dev) g, g.state = 5 → s.installFolio g = (s.discardNow g.folio).setMap g.folio { MapEntry.none with state := .lost }) ∧
  (∀ w h n r, w.dev.inTurn h .tables = true → let d := w.dev.afterFrame h
    d.modeOf = mRESYNC → d.twin.resync = some r → r.phase = 4 →
    let t := ((({ d with net := { d.net with qps := n.qps }, dq := n.queues } : Dev).modRgn fun x =>
      { x with pds := n.pds, regions := n.regions, zones := n.zones }).modKeys fun k => { k with extents := n.extents }).modTier fun x => { x with heat := n.heat }
    Makes (.tables h n) w (((t.modGal fun x => { x with entries := n.galley }).modTwin fun x =>
      { x with oseq := n.oseq, term := n.term, pair := n.pair, onum := n.onum, wcrc := 2 ^ 64 - 1, wcount := 0, reports := [],
               revokes := (n.regions.filter fun e => e.2.state == .revoking).map Prod.fst, resync := some { r with final := true } }).dropCc.resyncDone)) ∧
  (∀ w h n, w.dev.inTurn h .tables = true → (w.dev.afterFrame h).modeOf ≠ mRESYNC ∨ (w.dev.afterFrame h).twin.resync = none → Makes (.tables h n) w (w.dev.afterFrame h)) ∧
  (∀ w r, w.dev.twin.resync = some r → w.dev.modeOf = mRESYNC → r.final = true → r.left = [] → w.dev.tier.latches = [] → w.dev.mode.due = none →
    let t := w.dev.modTwin fun x => { x with suspect := false, full := false, digestFrom := ceilDiv x.oseq 4096 * 4096 }
    Makes .resyncDone w ((t.post 0xA00D 0 r.groups r.pass (w.dev.evt.islandMs - r.startMs)).beginTransit
      { row := 17, target := mSTANDBY, cause := 4, prio := 5, sub := 5 })) ∧
  (∀ w, w.dev.twin.resync = none ∨ w.dev.modeOf ≠ mRESYNC ∨ w.dev.tier.latches ≠ [] → Leaves .resyncDone w [] w.dev) ∧
  (∀ w r, w.dev.twin.resync = some r → w.dev.bit .TWIN_STATUS_LINK_UP = false →
    Leaves .resyncAbandoned w [(.TWIN_RESYNC_PHASE, 0), (.TWIN_RESYNC_LEFT_GROUPS, 0)]
      ((w.dev.modTwin fun x => { x with resync := none, full := x.full || r.full }).post 0xA00E 0 r.phase w.dev.modeOf 0)) ∧
  (∀ w, w.dev.twin.resync = none ∨ (w.dev.bit .TWIN_STATUS_LINK_UP = true ∧ w.dev.modeOf = mSOLO) → Leaves .resyncAbandoned w [] w.dev)

/-! ### The register window and the service-processor interface (00_scope.md, 19_management_interface.md) -/

/-- An address that no block decodes (R8): a READ of one word returns 0 and a write is discarded without effect. Each is still a request of the
register window (R572), which the Calendar records: beside that record nothing of the device changes. Window addresses of tables are decoded (R609). -/
def Obligations.UndecodedAddressesReadZeroAndDiscardWrites : Prop :=
  (∀ w a v, fieldsAt a = [] → Answers (.registerWrite a v) w fun t => t = { w.dev with cal := t.cal }) ∧
  (∀ w a, fieldsAt a = [] → a % 4 = 0 → a < 2 ^ 24 → a < 0x00800000 → w.dev.pwr.on = true →
    Leaves (.read { cmd := 2, addr := a, count := 1, data := [], whole := true }) w []
      (if w.dev.readsAt a then (w.dev.atManagement id).modSp fun p => { p with readBuf := { status := 1, addr := a, words := [0] } }
       else w.dev.modSp fun p => { p with readBuf := { status := 1, addr := a, words := [0] } })) ∧
  (∀ w a v, fieldsAt a = [] → a % 4 = 0 → w.dev.pwr.on = true → w.dev.inMode [mHOLDUP, mSANITIZING] = false →
    Answers (.write { cmd := 1, addr := a, count := 0, data := [v], whole := true }) w fun t => t = { w.dev with cal := t.cal })

/-- Frames of the register window (R6, R571, R572, R573): a frame with any fault is refused whole, counted, recorded and logged, and a refused READ shows
in the next STATUS; an accepted WRITE or WRITE_BURST writes its words in ascending address order; a READ fills the buffer with the words that its
registers held; a private read returns STATUS, ADDR and the words. The order of the reasons is the model's choice (assumption 62). Writes by field
type (R7, R9, R13, R570, R583): an RW field takes its bits, a W1C field loses the bits written 1, an RO register and the reserved bits take nothing,
and a write while the registers are read only or the island is off is discarded; a pair that disagrees is marked and logged, and one that agrees takes
its value; a SEL write clears READY and asks for a snapshot.
These forms are shown to answer a next state with their own effect, under conditions on the state and the operands alone: livePairWrite,
registerWrite, write, read, writeBurst, privateRead, viewSelect. -/
def Obligations.FramesCarryRegisterWritesByFieldType : Prop :=
  (∀ w f c why, c ∈ [Instr.write f, .read f, .writeBurst f] → w.dev.pwr.on = true → w.dev.frameRefusal f = why → why ≠ 0 →
    Makes c w
      ((((w.dev.set .I3C_REFUSED_REFUSED (w.dev.counted .I3C_REFUSED_REFUSED)).set .I3C_LAST_REFUSAL_REASON why).set .I3C_LAST_REFUSAL_ADDR f.addr).post 0xC001 0
        f.cmd f.addr why |>.modSp fun p =>
          { p with frameRefused := true, readBuf := if f.cmd = 2 then { status := 4, addr := f.addr, words := [] } else p.readBuf })) ∧
  (∀ (s : Dev) f, f.cmd ∈ [1, 2, 3] → (s.frameRefusal f = 1 ↔ f.addr % 4 ≠ 0)) ∧
  (∀ (s : Dev) f, f.addr % 4 = 0 → f.cmd = 2 ∨ f.cmd = 3 → (s.frameRefusal f = 2 ↔ f.count = 0 ∨ 64 < f.count)) ∧
  (∀ (s : Dev) f, s.frameRefusal f = 3 ↔ f.cmd ∉ [1, 2, 3]) ∧
  (∀ (s : Dev) f, f.addr % 4 = 0 → f.cmd = 1 → f.whole = true → f.data.length = 1 →
    (s.frameRefusal f = 5 ↔ s.modeOf = mHOLDUP ∨ (s.modeOf = mSANITIZING ∧ f.addr ≠ 0x28))) ∧
  (∀ w f v, w.dev.pwr.on = true → w.dev.frameRefusal f = 0 → f.cmd = 1 → f.data = [v] → Makes (.write f) w (w.dev.writeWord f.addr v)) ∧
  (∀ w f, w.dev.pwr.on = true → w.dev.frameRefusal f = 0 → f.cmd = 3 →
    Makes (.writeBurst f) w (f.data.zipIdx.foldl (fun t e => t.writeWord (f.addr + 4 * e.2) e.1) w.dev)) ∧
  (∀ w f, w.dev.pwr.on = true → w.dev.frameRefusal f = 0 → f.cmd = 2 →
    Makes (.read f) w (((List.range f.count).foldl (fun t k => (t.readWord (f.addr + 4 * k)).1) w.dev).modSp fun p =>
      { p with readBuf := { status := 1, addr := f.addr, words := (w.dev.readWords f.addr f.count).2 } })) ∧
  (∀ w, w.dev.pwr.on = true → w.dev.modeOf ≠ mDORMANT →
    Leaves (.read { cmd := 2, addr := 0x400AC, count := 1, data := [], whole := true }) w [(.I3C_REFUSED_REFUSED, 0)]
      ((w.dev.atManagement id).modSp fun p => { p with readBuf := { status := 1, addr := 0x400AC, words := [w.dev.get .I3C_REFUSED_REFUSED] } })) ∧
  (∀ w, w.dev.pwr.on = true →
    let b := w.dev.sp.readBuf
    Leaves .privateRead w [] (w.dev.emit (.i3c ([BitVec.ofNat 8 b.status, BitVec.ofNat 8 (b.addr / 65536), BitVec.ofNat 8 (b.addr / 256), BitVec.ofNat 8 b.addr] ++
      (if b.status = 1 then b.words.flatMap (leBytes 4) else []))))) ∧
  (∀ w f c, w.dev.pwr.on = false → c ∈ [Instr.write f, .read f, .writeBurst f, .privateRead] → Leaves c w [] w.dev) ∧
  (∀ w v, w.dev.reaches 0x44 = true → Leaves (.registerWrite 0x44 v) w [(.INT_MASK_MASK, v % 2 ^ 14)] (w.dev.atManagement id)) ∧
  (∀ w v, w.dev.reaches 0x40084 = true →
    Leaves (.registerWrite 0x40084 v) w
      [(.MB_STATUS_OVERRUN, maskOff (w.dev.get .MB_STATUS_OVERRUN) (v % 2 ^ 16)),
       (.MB_STATUS_CMDWIN_BUSY, maskOff (w.dev.get .MB_STATUS_CMDWIN_BUSY) (v / 2 ^ 16 % 2))] (w.dev.atManagement id)) ∧
  (∀ w a v, a ∈ [0x0, 0x4, 0x20, 0x40, 0x48, 0x40080, 0x40098, 0x500104] → w.dev.reaches a = true → Leaves (.registerWrite a v) w [] (w.dev.atManagement id)) ∧
  (∀ w a v, w.dev.reaches a = false → Leaves (.registerWrite a v) w [] w.dev) ∧
  (∀ w v, w.dev.reaches 0x400A8 = true → w.dev.get .I3C_SADDR_ADDR + v % 2 ^ 32 = 2 ^ 32 - 1 →
    Leaves (.livePairWrite 0x400A8 v) w [(.I3C_SADDR_CHK_CHECK, v % 2 ^ 32)] ((w.dev.atManagement id).modSp fun p => { p with saddr := w.dev.get .I3C_SADDR_ADDR })) ∧
  (∀ w v, w.dev.reaches 0x400A8 = true → w.dev.get .I3C_SADDR_ADDR + v % 2 ^ 32 ≠ 2 ^ 32 - 1 →
    w.dev.get .I3C_SADDR_ADDR + w.dev.get .I3C_SADDR_CHK_CHECK = 2 ^ 32 - 1 →
    Leaves (.livePairWrite 0x400A8 v) w [(.I3C_SADDR_CHK_CHECK, v % 2 ^ 32), (.I3C_STATUS_SADDR_MISMATCH, 1)] (w.dev.atManagement (·.postOpen 0x3020 0 [0, 0xA4]))) ∧
  (∀ w k v, k < 16 → w.dev.reaches (0x40204 + 8 * k) = true → w.dev.modeOf ≠ mDORMANT → w.dev.get (.SB_SLOT_ADDR_SEL k) + v % 2 ^ 32 = 2 ^ 32 - 1 →
    Leaves (.livePairWrite (0x40204 + 8 * k) v) w [(.SB_SLOT_CHK_CHECK k, v % 2 ^ 32)]
      ((w.dev.atManagement id).modSp fun p => { p with sbSel := p.sbSel.put k (w.dev.get (.SB_SLOT_ADDR_SEL k)) })) ∧
  (∀ w a v, livePair a = false → Leaves (.livePairWrite a v) w [] w.dev) ∧
  (∀ w a r v, (a, r) ∈ [(0x70010, Fld.KEY_SEL_READY), (0x500014, .XPORT_QP_SEL_READY), (0x501000, .REGION_SEL_READY), (0x502000, .DQ_SEL_READY)] →
    w.dev.reaches a = true → w.dev.modeOf ≠ mDORMANT →
    Makes (.viewSelect a v) w (w.dev.atManagement fun s => ((s.storeWord a v).set r 0).modCal fun c => { c with sel := if c.sel.contains a then c.sel else c.sel ++ [a] })) ∧
  (∀ w a v, readyOf a = none → Leaves (.viewSelect a v) w [] w.dev)

/-- The I3C common command codes (R567, R568, R569): ENEC and DISEC switch interrupts and Hot-Join; ENTDAA, SETDASA and SETNEWDA assign a dynamic
address, with both enabled, and log it; RSTDAA removes it; the directed codes return the values of the table; GETSTATUS clears its frame
bit; ENTHDR0 and the exit pattern change the bus mode; a target in DORMANT answers none.
These forms are shown to answer a next state with their own effect, under conditions on the state and the operands alone: enec, disec, rstdaa, entdaa,
setdasa, setnewda, getpid, getbcr, getdcr, getstatus, getmwl, setmwl, getmrl, getmxds, enthdr0, hdrExit. -/
def Obligations.CommonCommandCodesAnswerAsTheirTableSays : Prop :=
  (∀ w i h, w.dev.pwr.on = true → w.dev.modeOf ≠ mDORMANT → w.dev.get .I3C_STATUS_BUSMODE ≠ 2 →
    Leaves (.enec i h) w [(.I3C_STATUS_IBI_EN, if i then 1 else w.dev.get .I3C_STATUS_IBI_EN), (.I3C_STATUS_HJ_EN, if h then 1 else w.dev.get .I3C_STATUS_HJ_EN)] w.dev ∧
    Leaves (.disec i h) w [(.I3C_STATUS_IBI_EN, if i then 0 else w.dev.get .I3C_STATUS_IBI_EN), (.I3C_STATUS_HJ_EN, if h then 0 else w.dev.get .I3C_STATUS_HJ_EN)]
      w.dev) ∧
  (∀ w, w.dev.pwr.on = true → w.dev.modeOf ≠ mDORMANT → w.dev.get .I3C_STATUS_BUSMODE ≠ 2 →
    Leaves .rstdaa w [(.I3C_STATUS_BUSMODE, 0), (.I3C_STATUS_DYN_ADDR, 0), (.I3C_STATUS_STATIC_ADDR, w.dev.staticAddr)] w.dev) ∧
  (∀ w a c how, a < 128 → w.dev.pwr.on = true → w.dev.modeOf ≠ mDORMANT →
    (c, how) ∈ [(Instr.entdaa a, 1), (.setdasa (w.dev.get .I3C_STATUS_STATIC_ADDR) a, 0), (.setnewda a, 2)] →
    w.dev.get .I3C_STATUS_BUSMODE = (if how = 2 then 1 else 0) →
    Leaves c w [(.I3C_STATUS_BUSMODE, 1), (.I3C_STATUS_DYN_ADDR, a), (.I3C_STATUS_IBI_EN, 1), (.I3C_STATUS_HJ_EN, 1)]
      ((w.dev.modSp fun p => { p with hotJoin := false }).post 0xC003 0 a how 0)) ∧
  (∀ w a x, w.dev.get .I3C_STATUS_BUSMODE ≠ 0 ∨ x ≠ w.dev.get .I3C_STATUS_STATIC_ADDR → Leaves (.setdasa x a) w [] w.dev) ∧
  (∀ w c bs, w.dev.pwr.on = true → w.dev.modeOf ≠ mDORMANT → w.dev.get .I3C_STATUS_BUSMODE = 1 →
    (c, bs) ∈ [(Instr.getpid, leBytes 6 (0x2B9 * 2 ^ 33 + 0x6040 * 2 ^ 16 + w.dev.sp.addrStrap * 2 ^ 12 + 0xA2) |>.reverse), (.getbcr, [0x26]), (.getdcr, [0]),
      (.getmwl, [BitVec.ofNat 8 (w.dev.sp.mwl / 256), BitVec.ofNat 8 w.dev.sp.mwl]), (.getmrl, [0x01, 0x04, 0x05]), (.getmxds, [0, 0])] →
    Leaves c w [] (w.dev.emit (.i3c bs))) ∧
  (∀ w, w.dev.pwr.on = true → w.dev.modeOf ≠ mDORMANT → w.dev.get .I3C_STATUS_BUSMODE = 1 →
    Leaves .getstatus w []
      ((w.dev.emit (.i3c [0, BitVec.ofNat 8 (b2n w.dev.sp.ibiPending + 32 * b2n w.dev.sp.frameRefused)])).modSp fun p => { p with frameRefused := false })) ∧
  (∀ w n, n < 261 → w.dev.pwr.on = true → w.dev.modeOf ≠ mDORMANT → w.dev.get .I3C_STATUS_BUSMODE ≠ 2 →
    Leaves (.setmwl n) w [] (w.dev.modSp fun p => { p with mwl := n })) ∧
  (∀ w, w.dev.pwr.on = true → w.dev.modeOf ≠ mDORMANT → w.dev.get .I3C_STATUS_BUSMODE = 1 → Leaves .enthdr0 w [(.I3C_STATUS_BUSMODE, 2)] w.dev) ∧
  (∀ w, w.dev.get .I3C_STATUS_BUSMODE = 2 → Leaves .hdrExit w [(.I3C_STATUS_BUSMODE, 1)] w.dev) ∧
  (∀ w c, c ∈ [Instr.getpid, .getbcr, .getdcr, .getstatus, .getmwl, .getmrl, .getmxds, .enthdr0, .setnewda 5, .rstdaa, .entdaa 5, .setmwl 100] →
    w.dev.modeOf = mDORMANT ∨ w.dev.pwr.on = false → Leaves c w [] w.dev)

/-- Mailboxes, the command window, responses and in-band interrupts (R575, R576, R577, R578): a word to an empty mailbox is kept and its
flag set, one to a full mailbox is discarded, marked and logged; a read of MB_TO_SP returns the word and clears word and flag; a window word is
kept unless the verb before it waits; a response goes to RESP_WINDOW and MB_TO_SP[0] and rings bit 0; a pending interrupt carries
DB_PENDING once it is acknowledged.
These forms are shown to answer a next state with their own effect, under conditions on the state and the operands alone: ibi, mbToDev, mbToSpRead,
verbResponse, cmdWindowWrite. -/
def Obligations.MailboxesVerbAnswersAndInterruptsAreDelivered : Prop :=
  (∀ w i v, i < 16 → w.dev.reaches (0x40000 + 4 * i) = true → (w.dev.get .MB_FLAGS_TO_DEV_FULL).testBit i = false →
    Leaves (.mbToDev i v) w [(.MB_TO_DEV_WORD i, v % 2 ^ 32), (.MB_FLAGS_TO_DEV_FULL, w.dev.get .MB_FLAGS_TO_DEV_FULL + 2 ^ i)] (w.dev.atManagement id)) ∧
  (∀ w i v, i < 16 → w.dev.reaches (0x40000 + 4 * i) = true → (w.dev.get .MB_FLAGS_TO_DEV_FULL).testBit i = true →
    Leaves (.mbToDev i v) w [(.MB_STATUS_OVERRUN, w.dev.get .MB_STATUS_OVERRUN ||| 2 ^ i)] (w.dev.atManagement (·.post 0xC002 0 i 0 0))) ∧
  (∀ w i, i < 16 → w.dev.pwr.on = true → w.dev.modeOf ≠ mDORMANT →
    Leaves (.mbToSpRead i) w [(.MB_TO_SP_WORD i, 0), (.MB_FLAGS_TO_SP_FULL, clearBit (w.dev.get .MB_FLAGS_TO_SP_FULL) i)]
      ((w.dev.atManagement id).modSp fun p => { p with readBuf := { status := 1, addr := 0x40040 + 4 * i, words := [w.dev.get (.MB_TO_SP_WORD i)] } })) ∧
  (∀ w i v, i < 1024 → w.dev.reaches (0x41000 + 4 * i) = true →
    (let full := (w.dev.get .MB_FLAGS_TO_DEV_FULL).testBit 0
     if full then Leaves (.cmdWindowWrite i v) w [(.MB_STATUS_CMDWIN_BUSY, 1)] (w.dev.atManagement id)
     else Leaves (.cmdWindowWrite i v) w [(.CMD_WINDOW_DATA i, v % 2 ^ 32)] (w.dev.atManagement id))) ∧
  (∀ w m rest, w.dev.get .MB_FLAGS_TO_DEV_FULL = 0 → w.dev.sp.verbOut = m :: rest → w.dev.coreRuns = true →
    (w.dev.get .MB_FLAGS_TO_SP_FULL).testBit 0 = false →
    let words := (List.range (ceilDiv m.bytes.length 4)).map fun i => (Fld.RESP_WINDOW_DATA i, leAt m.bytes (4 * i) 4)
    let t := ((words.foldl (fun t e => t.set e.1 e.2) w.dev).modSp fun p => { p with verbOut := rest }).set (.MB_TO_SP_WORD 0)
      (m.bytes.length % 2 ^ 13 + m.seq % 256 * 2 ^ 16)
    Makes .verbResponse w ((t.set .MB_FLAGS_TO_SP_FULL (w.dev.get .MB_FLAGS_TO_SP_FULL ||| 1)).ring 1)) ∧
  (∀ w, w.dev.get .MB_FLAGS_TO_DEV_FULL = 0 → w.dev.sp.verbOut = [] ∨ w.dev.coreRuns = false ∨ (w.dev.get .MB_FLAGS_TO_SP_FULL).testBit 0 = true →
    Leaves .verbResponse w [] w.dev) ∧
  (∀ w, w.dev.sp.ibiPending = true → w.dev.modeOf ≠ mDORMANT → w.dev.get .I3C_STATUS_BUSMODE ≠ 0 → w.dev.get .I3C_STATUS_IBI_EN = 1 →
    let now := maskOff (w.dev.get .DB_TO_SP_BITS) (w.dev.get .DB_MASK_MASK)
    Makes (.ibi true) w ((w.dev.modSp fun p => { p with ibiPending := false, lastIbi := now }).emit (.ibi now))) ∧
  (∀ w, Leaves (.ibi false) w [] w.dev)

/-- The DIMM sideband (R583, R584, R585, R590): a poll marks its slot present, or absent with a log after three NACKs; a pass-through read or write ends
with its result, its data and doorbell bit 7; a write outside QUIESCED is refused and logged; a slot whose pair disagrees holds its traffic. The boot
store (R66, R587, R590): an operation with its guard begins and is marked busy; one that runs into another, or whose range passes the store or that
R66 refuses, is refused and logged; the end of a READ fills the window, that of a PROGRAM over erased bytes stores the window, that of an erase leaves
its sector or slot erased, each with its result, its log and doorbell bit 6.
These forms are shown to answer a next state with their own effect, under conditions on the state and the operands alone: sidebandPoll, sidebandXfer,
bsRead, bsProgram, bsErase, eraseSlot, bsOpDone. -/
def Obligations.SidebandAndBootStoreOperationsBeginAndEnd : Prop :=
  (∀ w slot dev wr n, slot < 16 → w.dev.sbAgrees slot = true → w.dev.modeOf ≠ mDORMANT → n < 3 →
    Leaves (.sidebandPoll slot dev wr n) w [(.SB_STATUS_PRESENT, w.dev.get .SB_STATUS_PRESENT ||| 2 ^ slot)] w.dev) ∧
  (∀ w slot dev wr n, slot < 16 → w.dev.sbAgrees slot = true → w.dev.modeOf ≠ mDORMANT → 3 ≤ n →
    Leaves (.sidebandPoll slot dev wr n) w [(.SB_STATUS_PRESENT, clearBit (w.dev.get .SB_STATUS_PRESENT) slot)] (w.dev.post 0xC005 0 slot dev (b2n wr))) ∧
  (∀ w slot dev wr n, w.dev.sbAgrees slot = false → Leaves (.sidebandPoll slot dev wr n) w [] w.dev) ∧
  (∀ w c, bitOf c 7 = true → bitOf c 6 = false → bitsOf c 8 4 ≠ 0 → bitsOf c 8 4 ≤ 8 → w.dev.sp.sbXfer = none → w.dev.reaches 0x40104 = true →
    w.dev.ddr4 = false → w.dev.sbAgrees (bitsOf c 0 4) = true →
    ∀ data : List Byte,
      let k := bitsOf c 0 4
      let read := data.take (bitsOf c 8 4)
      LeavesRung (.sidebandXfer c true data) w
        [(.SB_XFER_CTRL_SLOT, k), (.SB_XFER_CTRL_DEV, bitsOf c 4 2), (.SB_XFER_CTRL_WRITE, 0), (.SB_XFER_CTRL_LENGTH, bitsOf c 8 4),
         (.SB_XFER_CTRL_OFFSET, bitsOf c 16 16), (.SB_XFER_CTRL_RESULT, 0), (.SB_XFER_DATA_DATA 0, leAt read 0 4 % 2 ^ 32), (.SB_XFER_DATA_DATA 1, leAt read 4 4 % 2 ^ 32)]
        ((w.dev.atManagement id).emit (.sideband (k / 8) ([0x50, 0x48, 0x10, 0x30].getD (bitsOf c 4 2) 0 ||| w.dev.sp.sbSel.getD k (k % 8)) k (bitsOf c 16 16) none)) 0x80) ∧
  (∀ w c data, bitOf c 7 = true → bitOf c 6 = true → bitsOf c 8 4 ≠ 0 → bitsOf c 8 4 ≤ 8 → w.dev.sp.sbXfer = none → w.dev.reaches 0x40104 = true →
    w.dev.modeOf = mQUIESCED → w.dev.ddr4 = false → w.dev.sbAgrees (bitsOf c 0 4) = true →
    let k := bitsOf c 0 4
    let bytes := (leBytes 4 (w.dev.get (.SB_XFER_DATA_DATA 0)) ++ leBytes 4 (w.dev.get (.SB_XFER_DATA_DATA 1))).take (bitsOf c 8 4)
    LeavesRung (.sidebandXfer c true data) w
      [(.SB_XFER_CTRL_SLOT, k), (.SB_XFER_CTRL_DEV, bitsOf c 4 2), (.SB_XFER_CTRL_WRITE, 1), (.SB_XFER_CTRL_LENGTH, bitsOf c 8 4), (.SB_XFER_CTRL_OFFSET, bitsOf c 16 16),
       (.SB_XFER_CTRL_RESULT, 0)]
      ((w.dev.atManagement id).emit (.sideband (k / 8) ([0x50, 0x48, 0x10, 0x30].getD (bitsOf c 4 2) 0 ||| w.dev.sp.sbSel.getD k (k % 8)) k (bitsOf c 16 16) (some bytes)))
      0x80) ∧
  (∀ w c ack data, bitOf c 7 = true → bitOf c 6 = false → bitsOf c 8 4 ≠ 0 → bitsOf c 8 4 ≤ 8 → w.dev.sp.sbXfer = none → w.dev.reaches 0x40104 = true →
    w.dev.ddr4 = true → bitsOf c 4 2 ∈ [1, 3] → w.dev.sbAgrees (bitsOf c 0 4) = true →
    LeavesRung (.sidebandXfer c ack data) w
      [(.SB_XFER_CTRL_SLOT, bitsOf c 0 4), (.SB_XFER_CTRL_DEV, bitsOf c 4 2), (.SB_XFER_CTRL_WRITE, 0), (.SB_XFER_CTRL_LENGTH, bitsOf c 8 4),
       (.SB_XFER_CTRL_OFFSET, bitsOf c 16 16), (.SB_XFER_CTRL_RESULT, 1)]
      ((w.dev.atManagement id).post 0xC005 0 (bitsOf c 0 4) (bitsOf c 4 2) 0) 0x80) ∧
  (∀ w c ack data, bitOf c 7 = true → bitOf c 6 = false → bitsOf c 8 4 ≠ 0 → bitsOf c 8 4 ≤ 8 → w.dev.sp.sbXfer = none → w.dev.reaches 0x40104 = true →
    w.dev.sbAgrees (bitsOf c 0 4) = false →
    Leaves (.sidebandXfer c ack data) w
      [(.SB_XFER_CTRL_SLOT, bitsOf c 0 4), (.SB_XFER_CTRL_DEV, bitsOf c 4 2), (.SB_XFER_CTRL_WRITE, 0), (.SB_XFER_CTRL_LENGTH, bitsOf c 8 4),
       (.SB_XFER_CTRL_OFFSET, bitsOf c 16 16), (.SB_XFER_CTRL_RESULT, 3)]
      ((w.dev.atManagement id).modSp fun p => { p with sbXfer := some c })) ∧
  (∀ w c data, bitOf c 7 = true → bitOf c 6 = true → bitsOf c 8 4 ≠ 0 → w.dev.sp.sbXfer = none → w.dev.reaches 0x40104 = true →
    w.dev.modeOf ≠ mQUIESCED →
    Leaves (.sidebandXfer c true data) w
      [(.SB_XFER_CTRL_SLOT, bitsOf c 0 4), (.SB_XFER_CTRL_DEV, bitsOf c 4 2), (.SB_XFER_CTRL_WRITE, 1), (.SB_XFER_CTRL_LENGTH, bitsOf c 8 4),
       (.SB_XFER_CTRL_OFFSET, bitsOf c 16 16), (.SB_XFER_CTRL_RESULT, 2)]
      (w.dev.atManagement (·.post 0xC006 0 (bitsOf c 0 4) (bitsOf c 4 2) w.dev.modeOf))) ∧
  (∀ w c op a len, (c, op, len) ∈ [(Instr.bsRead a 15 0xB5, 1, 15), (.bsProgram a 15 0xB5, 2, 15), (.bsErase a 0xB5, 3, 0), (.eraseSlot a 0xB5, 4, 0)] →
    a + 15 ≤ 0x07FF_FFFF → w.dev.reaches 0x50800 = true → w.dev.sp.bsOp = none → w.dev.slotClosed op a (a + len) = false →
    Leaves c w [(.BS_ADDR_ADDR, a), (.BS_CTRL_OP, op), (.BS_CTRL_LENGTH, len), (.BS_STATUS_BUSY, 1)]
      (((w.dev.atManagement id).atManagement id).modSp fun p => { p with bsOp := some { op := op, addr := a, len := len + 1 } })) ∧
  (∀ w a o, a ≤ 0x07FF_FFFF → w.dev.reaches 0x50800 = true → w.dev.sp.bsOp = some o →
    Leaves (.bsErase a 0xB5) w [(.BS_ADDR_ADDR, a), (.BS_CTRL_OP, 3), (.BS_CTRL_LENGTH, 0)] ((w.dev.atManagement id).atManagement (·.post 0xC008 0 3 a w.dev.modeOf))) ∧
  (∀ w a, a ≤ 0x07FF_FFFF → 0x07FF_FFFF < a + 15 → w.dev.reaches 0x50800 = true → w.dev.sp.bsOp = none →
    Leaves (.bsRead a 15 0xB5) w [(.BS_ADDR_ADDR, a), (.BS_CTRL_OP, 1), (.BS_CTRL_LENGTH, 15), (.BS_STATUS_RESULT, 2)] ((w.dev.atManagement id).atManagement (·.post 0xC008 0 1 a w.dev.modeOf))) ∧
  (∀ w a g, a ≤ 0x07FF_FFFF → g < 256 → g ≠ 0xB5 → w.dev.reaches 0x50800 = true →
    Leaves (.eraseSlot a g) w [(.BS_ADDR_ADDR, a), (.BS_CTRL_OP, 4), (.BS_CTRL_LENGTH, 0)] ((w.dev.atManagement id).atManagement id)) ∧
  (∀ w a, w.dev.sp.bsOp = some { op := 1, addr := a, len := 4 } →
    let f := w.dev.forme
    LeavesRung (.bsOpDone 0) w
      [(.BS_WINDOW_DATA 0, leAt [f.byte a, f.byte (a + 1), f.byte (a + 2), f.byte (a + 3)] 0 4), (.BS_STATUS_BUSY, 0), (.BS_STATUS_DONE, 1), (.BS_STATUS_RESULT, 0)]
      (w.dev.modSp fun p => { p with bsOp := none }) 0x40) ∧
  (∀ w a, w.dev.sp.bsOp = some { op := 2, addr := a, len := 1 } → w.dev.forme.byte a = 0xFF →
    LeavesRung (.bsOpDone 0) w [(.BS_STATUS_BUSY, 0), (.BS_STATUS_DONE, 1), (.BS_STATUS_RESULT, 0)]
      ((({ w.dev with free := w.dev.free + 1 } : Dev).modForme fun f => f.putByte a (BitVec.ofNat 8 (w.dev.get (.BS_WINDOW_DATA 0)))).modSp (fun p =>
        { p with bsOp := none }) |>.post 0xC007 0 2 a 0) 0x40) ∧
  (∀ w o lo size, w.dev.sp.bsOp = some o → (o.op, size) ∈ [(3, 2 ^ 16), (4, 2 ^ 26)] → lo = o.addr - o.addr % size →
    LeavesRung (.bsOpDone 0) w [(.BS_STATUS_BUSY, 0), (.BS_STATUS_DONE, 1), (.BS_STATUS_RESULT, 0)]
      (((w.dev.modForme fun f => { f with store := f.store.keep fun a _ => !decide (lo ≤ a ∧ a < lo + size) }).modSp fun p => { p with bsOp := none }).post 0xC007 0
        o.op o.addr 0) 0x40) ∧
  (∀ w r, w.dev.sp.bsOp = none → Leaves (.bsOpDone r) w [] w.dev)

/-! ### The test access port (22_package_and_electrical.md) -/

/-- The TAP's instructions while VDD_IO is good (R630, R631, R632): BYPASS and IDCODE shift out 0 and 0x1604_0A5F, SAMPLE/PRELOAD
the balls, and loads the boundary register, EXTEST drives it where BOUNDARY is in effect and otherwise acts as BYPASS, TEST_MODE and
TEST_MODE_CHK take a value; a pair that agreed and does not any more is marked and logged, and reset where BOUNDARY was in effect. That an
instruction but EXTEST ends driving, and where the reset applies, is the model's choice (assumption 67). While VDD_IO is not good, none acts.
These forms are shown to answer a next state with their own effect, under conditions on the state and the operands alone: bypass, idcode,
samplePreload, extest, testMode, testModeChk. -/
def Obligations.TapInstructionsShiftAndDrive : Prop :=
  (∀ w c out ir, w.dev.vddIo = true → (c, out, ir) ∈ [(Instr.bypass, 0, 0xFF), (.idcode, 0x1604_0A5F, 1)] →
    Taps c w { w.tap with ir := ir, driving := false } (w.dev.emit (.tdo out))) ∧
  (∀ w p v, w.dev.vddIo = true → Taps (.samplePreload p v) w { w.tap with ir := 2, boundary := v, driving := false } (w.dev.emit (.tdo p))) ∧
  (∀ w p v, w.dev.vddIo = true → w.boundaryOn = true →
    Taps (.extest p v) w { w.tap with ir := 0, boundary := v, driving := true } (w.dev.emit (.tdo p))) ∧
  (∀ w p v, w.dev.vddIo = true → w.boundaryOn = false → Taps (.extest p v) w { w.tap with ir := 0, driving := false } (w.dev.emit (.tdo 0))) ∧
  (∀ w v, w.dev.vddIo = true → v < 2 ^ 32 → v + w.tap.chk = 2 ^ 32 - 1 →
    Taps (.testMode v) w { w.tap with ir := 0x20, mode := v, driving := false } (w.dev.emit (.tdo w.tap.mode))) ∧
  (∀ w v, w.dev.vddIo = true → v < 2 ^ 32 → w.tap.chk < 2 ^ 32 → v + w.tap.chk ≠ 2 ^ 32 - 1 → w.tap.agrees = true → w.boundaryOn = false →
    Taps (.testMode v) w { w.tap with ir := 0x20, mode := v, driving := false }
      (((w.dev.emit (.tdo w.tap.mode)).set .INTEG_SUMMARY_TAP_MISMATCH 1).postOpen 0x3020 0 [0, 0xFFFF_0020])) ∧
  (∀ w v, w.dev.vddIo = true → v < 2 ^ 32 → w.tap.mode < 2 ^ 32 → v + w.tap.mode ≠ 2 ^ 32 - 1 → w.boundaryOn = true →
    Taps (.testModeChk v) w { w.tap with ir := 0x21, mode := 0, chk := 2 ^ 32 - 1, driving := false }
      (((w.dev.emit (.tdo w.tap.chk)).set .INTEG_SUMMARY_TAP_MISMATCH 1).postOpen 0x3020 0 [0, 0xFFFF_0020])) ∧
  (∀ w v, w.dev.vddIo = true → v < 2 ^ 32 → w.tap.mode < 2 ^ 32 → v + w.tap.mode = 2 ^ 32 - 1 →
    Taps (.testModeChk v) w { w.tap with ir := 0x21, chk := v, driving := false } (w.dev.emit (.tdo w.tap.chk))) ∧
  (∀ w p v, w.dev.vddIo = false →
    Taps .bypass w TapSt.reset w.dev ∧ Taps .idcode w TapSt.reset w.dev ∧ Taps (.samplePreload p v) w TapSt.reset w.dev ∧
      Taps (.extest p v) w TapSt.reset w.dev ∧ Taps (.testMode v) w TapSt.reset w.dev ∧ Taps (.testModeChk v) w TapSt.reset w.dev)
/-- EVENT_POSTING (20_event_recorder.md R595 to R598): an undefined code does nothing; a posting like the last one staged folds into it; one
of a rate-limited area is withheld once its window is full, and starts a window where there is none; any other is staged, or lost and
counted where the staging queue is full. That a posting folds into the last one staged is the model's reading (assumption 10).
This form is shown to answer a next state with its own effect, under conditions on the state and the operands alone: eventPosting. -/
def Obligations.EventPostingsAreFoldedWithheldOrStaged : Prop :=
  (∀ w code unit p0 p1 p2, eventDefined code = false → Leaves (.eventPosting code unit p0 p1 p2) w [] w.dev) ∧
  (∀ w code unit p0 p1 p2, w.dev.pwr.on = true → eventDefined code = true → rateLimited code = false →
    (w.dev.evt.staging.getLast?.map fun q => (q.code, q.unit)) ≠ some (code, unit % 65536) →
    (w.dev.evt.staging = [] → (w.dev.evt.newest.map fun e => (e.code, e.unit)) ≠ some (code, unit % 65536)) →
    w.dev.evt.staging.length < stagingLimit (w.dev.bit .EVT_STATUS_RUNNING) →
    Leaves (.eventPosting code unit p0 p1 p2) w []
      { w.dev with evt := { w.dev.evt with staging := w.dev.evt.staging ++ [w.dev.posting code unit p0 p1 p2], foldable := true } }) ∧
  (∀ w code unit p0 p1 p2 q, w.dev.pwr.on = true → eventDefined code = true → rateLimited code = false →
    w.dev.evt.staging.getLast? = some q → w.dev.evt.foldable = true → q.code = code → q.unit = unit % 65536 → q.rep < 65535 →
    Leaves (.eventPosting code unit p0 p1 p2) w []
      { w.dev with evt := { w.dev.evt with staging := w.dev.evt.staging.dropLast ++ [{ q with rep := q.rep + 1 }],
                                           folded := min (w.dev.evt.folded + 1) (2 ^ 32 - 1) } }) ∧
  (∀ w code unit p0 p1 p2 e, w.dev.pwr.on = true → eventDefined code = true → rateLimited code = false → w.dev.evt.staging = [] →
    w.dev.bit .EVT_STATUS_RUNNING = true → w.dev.evt.newest = some e → w.dev.evt.foldable = true → e.code = code → e.unit = unit % 65536 →
    w.dev.evt.newestRep < 65535 →
    Leaves (.eventPosting code unit p0 p1 p2) w []
      { w.dev with evt := { w.dev.evt with newestRep := w.dev.evt.newestRep + 1, folded := min (w.dev.evt.folded + 1) (2 ^ 32 - 1) } }) ∧
  (∀ w code unit p0 p1 p2, w.dev.pwr.on = true → eventDefined code = true → rateLimited code = true → w.dev.evt.windows.get? code = none →
    w.dev.evt.staging.length < stagingLimit (w.dev.bit .EVT_STATUS_RUNNING) →
    Leaves (.eventPosting code unit p0 p1 p2) w []
      { w.dev with evt := { w.dev.evt with windows := w.dev.evt.windows.put code ⟨1, 0, none⟩, foldable := true,
                                           staging := w.dev.evt.staging ++ [w.dev.posting code unit p0 p1 p2] } }) ∧
  (∀ w code unit p0 p1 p2, w.dev.pwr.on = true → eventDefined code = true → rateLimited code = true → w.dev.evt.windows.get? code = none →
    stagingLimit (w.dev.bit .EVT_STATUS_RUNNING) ≤ w.dev.evt.staging.length →
    Leaves (.eventPosting code unit p0 p1 p2) w []
      { w.dev with evt := { w.dev.evt with lost := min (w.dev.evt.lost + 1) (2 ^ 32 - 1),
                                           lostRun := w.dev.evt.lostRun + 1, gapDue := true } }) ∧
  (∀ w code unit p0 p1 p2 r, w.dev.pwr.on = true → eventDefined code = true → rateLimited code = true →
    w.dev.evt.windows.get? code = some r → w.dev.get .EVT_RATE_COUNT ≤ r.taken →
    Leaves (.eventPosting code unit p0 p1 p2) w []
      { w.dev with evt := { w.dev.evt with windows := w.dev.evt.windows.put code ⟨r.taken, r.withheld + 1, some (w.dev.posting code unit p0 p1 p2)⟩,
                                           supp := min (w.dev.evt.supp + 1) (2 ^ 32 - 1) } })

/-- RECORD_WRITE (R597, R600) writes the first staged posting to the ring under the next SEQ, counts it, and marks a gap and an area that notifies; with
nothing staged, no ring in use, or the rate spent, nothing moves. EVT_CURSOR (R602) and CLEAR (R603): a write of the cursor waits for the snapshot
with READY 0 while CAL runs, and completes at once with READY 1 where it is stopped; a guarded CLEAR in QUIESCED moves the clear point to HEAD, marks
and logs it, and does nothing with another guard or in another mode.
These forms are shown to answer a next state with their own effect, under conditions on the state and the operands alone: recordWrite, evtCursor,
clear. -/
def Obligations.RecordsTakeTheNextNumberAndCursorsAsk : Prop :=
  (∀ w p rest, w.dev.evt.staging = p :: rest → w.dev.bit .EVT_STATUS_RUNNING = true → w.dev.evt.burst ≠ 0 →
    serialDist 32 w.dev.evt.archNext ((w.dev.evt.head + 1) % 2 ^ 32) < 65536 → (rest = [] → w.dev.evt.lostRun = 0) →
    (w.dev.recordOf p).seq = w.dev.evt.head ∧
    Leaves .recordWrite w
      [(.EVT_WRITTEN_WRITTEN, min (w.dev.get .EVT_WRITTEN_WRITTEN + 1) (2 ^ 32 - 1)),
       (.EVT_STATUS_GAP_SEEN, if w.dev.evt.gapDue then 1 else w.dev.get .EVT_STATUS_GAP_SEEN),
       (.EVT_STATUS_NOTIFIED, if (w.dev.get .EVT_NOTIFY_AREAS).testBit (p.code / 4096) then 1 else w.dev.get .EVT_STATUS_NOTIFIED)]
      { w.dev with evt := { w.dev.evt with
          ring := w.dev.evt.flushRepeat.ring.put (w.dev.evt.head % 65536) (w.dev.recordOf p), head := (w.dev.evt.head + 1) % 2 ^ 32,
          staging := rest, newestRep := p.rep, gapDue := false, burst := w.dev.evt.burst - 1,
          lostFirst := if w.dev.evt.gapDue then some w.dev.evt.head else w.dev.evt.lostFirst } }) ∧
  (∀ w, w.dev.evt.staging = [] ∨ w.dev.bit .EVT_STATUS_RUNNING = false ∨ w.dev.evt.burst = 0 → Leaves .recordWrite w [] w.dev) ∧
  (∀ w seq, w.dev.reaches 0x30020 = true → w.dev.calRuns = true →
    Leaves (.evtCursor seq) w [(.EVT_CURSOR_SEQ, seq % 2 ^ 32), (.EVT_WIN_STATUS_READY, 0)]
      { w.dev.atManagement id with evt := { w.dev.evt with cursorPending := some (seq % 2 ^ 32) } }) ∧
  (∀ w seq, w.dev.reaches 0x30020 = true → w.dev.calRuns = false →
    Answers (.evtCursor seq) w fun t => t.get .EVT_CURSOR_SEQ = seq % 2 ^ 32 ∧ t.get .EVT_WIN_STATUS_READY = 1 ∧
      t.evt = { w.dev.evt with cursorPending := none }) ∧
  (∀ w, w.dev.reaches 0x30014 = true → w.dev.modeOf = mQUIESCED → w.dev.evt.staging = [] →
    Leaves (.clear 0xE7) w [(.EVT_STATUS_CLEARED_SEEN, 1)]
      (w.dev.atManagement fun s => Dev.post { s with evt := { s.evt with clearPoint := s.evt.head, archOldest := s.evt.head, foldable := false } }
        0xC010 0 s.evt.head s.evt.oldest 0)) ∧
  (∀ w p, w.dev.reaches 0x30014 = true → w.dev.modeOf = mQUIESCED → w.dev.evt.staging = [p] →
    Makes (.clear 0xE7) w (w.dev.atManagement fun s =>
      let t := s.recordWrite
      ((t.modEvt fun r => { r with clearPoint := r.head, archOldest := r.head, foldable := false }).set .EVT_STATUS_CLEARED_SEEN 1).post
        0xC010 0 t.evt.head t.evt.oldest 0)) ∧
  (∀ w guard, guard ≠ 0xE7 ∨ w.dev.modeOf ≠ mQUIESCED → Makes (.clear guard) w (w.dev.regRow 0x30014 id))

/-- The recorder's other timed rows: RATE_WINDOW_CLOSE (R596) stages one closing record where postings were withheld, REPEAT_FLUSH (R595)
writes the folded REPEAT, ARCHIVE_SEGMENT (R601) copies a completed segment of 128 records, OPERATING_TIME_COPY (R594) copies the count.
These forms are shown to answer a next state with their own effect, under conditions on the state and the operands alone: slotCommit, rateWindowClose,
repeatFlush, archiveSegment, operatingTimeCopy. -/
def Obligations.RecorderTimersCloseFlushArchiveAndCopy : Prop :=
  (∀ w code r p, w.dev.evt.windows.get? code = some r → r.last = some p →
    w.dev.evt.staging.length < stagingLimit (w.dev.bit .EVT_STATUS_RUNNING) →
    Leaves (.rateWindowClose code) w []
      { w.dev with evt := { w.dev.evt with windows := w.dev.evt.windows.del code,
                                           staging := w.dev.evt.staging ++ [{ p with suppressed := min r.withheld 65535 }], foldable := true } }) ∧
  (∀ w code r, w.dev.evt.windows.get? code = some r → r.last = none →
    Leaves (.rateWindowClose code) w [] { w.dev with evt := { w.dev.evt with windows := w.dev.evt.windows.del code } }) ∧
  (∀ w e, w.dev.evt.newest = some e → e.rep ≠ w.dev.evt.newestRep →
    Leaves .repeatFlush w []
      { w.dev with evt := { w.dev.evt with ring := w.dev.evt.ring.put (e.seq % 65536) { e with rep := w.dev.evt.newestRep } } }) ∧
  (∀ w t o, w.dev.evt.archOn = true → w.dev.evt.archBusy = none → 128 ≤ serialDist 32 w.dev.evt.archNext w.dev.evt.head →
    w.dev.placeMeta (0x300000000 + w.dev.evt.archNext / 128 % 65536) = (t, o) →
    Makes .archiveSegment w (t.modEvt fun r => { r with archBusy := match o with
      | some h => some (w.dev.evt.archNext, h, (List.range 128).map fun j => w.dev.evt.ringAt ((w.dev.evt.archNext + j) % 2 ^ 32))
      | none => none })) ∧
  (∀ w h v b first seg, w.dev.fm.slots.get? h = some v → w.dev.fm.bands.get? v.band = some b → w.dev.fm.slotReady b v = true → v.committed = false → v.source = none →
    v.isMeta = true → 0x300000000 ≤ v.index → w.dev.evt.archBusy = some (first, h, seg) →
    serialDist 32 w.dev.evt.archOldest ((w.dev.evt.archNext + 128) % 2 ^ 32) ≤ 8388608 →
    Leaves (.slotCommit h) w [] ((w.dev.modFm fun f => { f with slots := f.slots.put h { v with committed := true } }).modEvt fun r =>
      { r with archive := r.archive.put (first / 128 % 65536) seg, archAt := r.archAt.put (first / 128 % 65536) h, archNext := (r.archNext + 128) % 2 ^ 32,
               archBusy := none })) ∧
  (∀ w, w.dev.evt.archOn = false ∨ w.dev.evt.archBusy ≠ none ∨ serialDist 32 w.dev.evt.archNext w.dev.evt.head < 128 → Leaves .archiveSegment w [] w.dev) ∧
  (∀ w, w.dev.modeOf ≠ mDORMANT → w.dev.evt.timeKnown = true → Leaves .operatingTimeCopy w []
    { w.dev with evt := { w.dev.evt with opCopy := min (w.dev.evt.opBase + w.dev.evt.islandMs / 100) (2 ^ 32 - 1) } }) ∧
  (∀ w, w.dev.modeOf = mDORMANT ∨ w.dev.evt.timeKnown = false → Leaves .operatingTimeCopy w [] w.dev)

/-! ### The machine as a whole (19_management_interface.md, 21_register_map.md, 22_package_and_electrical.md) -/

/-- A step is the command at the front of the queue, run on the machine with the queue's rest; with no command waiting the block idles
(the model's choice, assumption 1). -/
def Obligations.StepTakesTheCommandAtTheFront : Prop :=
  (∀ c w rest, w.pending = c :: rest → step w = exec c { w with pending := rest }) ∧ (∀ w, w.pending = [] → step w = .next w)

/-- Every command, with any operands and in every state, answers a next state whose queue is the one it found: nothing that can be
commanded stops the block (the model's reading of what every row's effect says). -/
def Obligations.EveryCommandAnswersANextState : Prop := ∀ i w, ∃ t, exec i w = .next t ∧ t.pending = w.pending

/-- The interrupt summary (R617): `INT_PENDING` is `INT_SUMMARY` without the masked bits; whenever any bit of it goes from 0 to 1 over a command, doorbell bit 2 of
R577 is set, or is held for the end of SWITCHOVER where R579 holds doorbells, whether or not firmware has cleared it since an older cause; and a read through the window sees both registers as
they are at that command. -/
def Obligations.NewPendingCausesRingTheServiceProcessor : Prop :=
  (∀ s : Dev, s.intPending = maskOff s.intSummary (s.get .INT_MASK_MASK)) ∧
  (∀ i w t, exec i w = .next t → maskOff t.dev.intPending w.dev.intPending ≠ 0 → t.dev.rung 4) ∧
  (∀ s : Dev, s.pwr.on = true → (s.readWord 0x48).2 = s.intPending ∧ (s.readWord 0x40).2 = s.intSummary)

/-- The test access port (R630, R632), over every step of every state: the port drives balls only while BOUNDARY is in effect, that is the
pair agrees, TEST_MODE[7:0] is 1 and the mode is QUIESCED; and while VDD_IO is not good the port is as reset left it. -/
def Obligations.EveryStepKeepsThePortSafe : Prop := ∀ w t, w.portSafe → step w = .next t → t.portSafe

/-- The machine after reset: DORMANT, with every register at the value its table gives, no rail good, no key or region in use, nothing waiting, the test registers
at 0 and 0xFFFF_FFFF (R630), and the port safe. -/
def Obligations.ResetLeavesTheTablesValues : Prop :=
  State.reset.portSafe ∧ State.reset.pending = [] ∧ State.reset.dev.modeOf = mDORMANT ∧ (∀ f : Fld, State.reset.dev.get f = f.reset % 2 ^ f.width) ∧
  State.reset.tap.mode = 0 ∧ State.reset.tap.chk = 0xFFFF_FFFF ∧ State.reset.dev.vddIo = false ∧ State.reset.dev.rgn.regions = [] ∧
  State.reset.dev.keys.slots = [] ∧ State.reset.dev.dq = [] ∧ State.reset.dev.intPending = 0
end

