-- ==== Sys2Proof/Laws/State.lean ====
section
/-!
SUPPORT. What each update of one part of the device leaves: one lemma for each update and field.
-/

namespace Sys2Proof.Machine

variable (s : Dev)

@[simp] theorem modEvt_regs (g : Recorder → Recorder) : (s.modEvt g).regs = s.regs := rfl
@[simp] theorem modEvt_evt (g : Recorder → Recorder) : (s.modEvt g).evt = g s.evt := rfl
@[simp] theorem modEvt_sp (g : Recorder → Recorder) : (s.modEvt g).sp = s.sp := rfl
@[simp] theorem modEvt_mode (g : Recorder → Recorder) : (s.modEvt g).mode = s.mode := rfl
@[simp] theorem modEvt_pwr (g : Recorder → Recorder) : (s.modEvt g).pwr = s.pwr := rfl
@[simp] theorem modEvt_therm (g : Recorder → Recorder) : (s.modEvt g).therm = s.therm := rfl
@[simp] theorem modEvt_cal (g : Recorder → Recorder) : (s.modEvt g).cal = s.cal := rfl
@[simp] theorem modEvt_integ (g : Recorder → Recorder) : (s.modEvt g).integ = s.integ := rfl
@[simp] theorem modEvt_tier (g : Recorder → Recorder) : (s.modEvt g).tier = s.tier := rfl
@[simp] theorem modEvt_lc (g : Recorder → Recorder) : (s.modEvt g).lc = s.lc := rfl
@[simp] theorem modEvt_gal (g : Recorder → Recorder) : (s.modEvt g).gal = s.gal := rfl
@[simp] theorem modEvt_net (g : Recorder → Recorder) : (s.modEvt g).net = s.net := rfl
@[simp] theorem modEvt_rgn (g : Recorder → Recorder) : (s.modEvt g).rgn = s.rgn := rfl
@[simp] theorem modEvt_dq (g : Recorder → Recorder) : (s.modEvt g).dq = s.dq := rfl
@[simp] theorem modEvt_keys (g : Recorder → Recorder) : (s.modEvt g).keys = s.keys := rfl
@[simp] theorem modEvt_mem (g : Recorder → Recorder) : (s.modEvt g).mem = s.mem := rfl
@[simp] theorem modEvt_fm (g : Recorder → Recorder) : (s.modEvt g).fm = s.fm := rfl
@[simp] theorem modEvt_nand (g : Recorder → Recorder) : (s.modEvt g).nand = s.nand := rfl
@[simp] theorem modEvt_db (g : Recorder → Recorder) : (s.modEvt g).db = s.db := rfl
@[simp] theorem modEvt_jrn (g : Recorder → Recorder) : (s.modEvt g).jrn = s.jrn := rfl
@[simp] theorem modEvt_twin (g : Recorder → Recorder) : (s.modEvt g).twin = s.twin := rfl
@[simp] theorem modEvt_forme (g : Recorder → Recorder) : (s.modEvt g).forme = s.forme := rfl
@[simp] theorem modEvt_sent (g : Recorder → Recorder) : (s.modEvt g).sent = s.sent := rfl
@[simp] theorem modEvt_free (g : Recorder → Recorder) : (s.modEvt g).free = s.free := rfl
@[simp] theorem modSp_regs (g : SpIf → SpIf) : (s.modSp g).regs = s.regs := rfl
@[simp] theorem modSp_evt (g : SpIf → SpIf) : (s.modSp g).evt = s.evt := rfl
@[simp] theorem modSp_sp (g : SpIf → SpIf) : (s.modSp g).sp = g s.sp := rfl
@[simp] theorem modSp_mode (g : SpIf → SpIf) : (s.modSp g).mode = s.mode := rfl
@[simp] theorem modSp_pwr (g : SpIf → SpIf) : (s.modSp g).pwr = s.pwr := rfl
@[simp] theorem modSp_therm (g : SpIf → SpIf) : (s.modSp g).therm = s.therm := rfl
@[simp] theorem modSp_cal (g : SpIf → SpIf) : (s.modSp g).cal = s.cal := rfl
@[simp] theorem modSp_integ (g : SpIf → SpIf) : (s.modSp g).integ = s.integ := rfl
@[simp] theorem modSp_tier (g : SpIf → SpIf) : (s.modSp g).tier = s.tier := rfl
@[simp] theorem modSp_lc (g : SpIf → SpIf) : (s.modSp g).lc = s.lc := rfl
@[simp] theorem modSp_gal (g : SpIf → SpIf) : (s.modSp g).gal = s.gal := rfl
@[simp] theorem modSp_net (g : SpIf → SpIf) : (s.modSp g).net = s.net := rfl
@[simp] theorem modSp_rgn (g : SpIf → SpIf) : (s.modSp g).rgn = s.rgn := rfl
@[simp] theorem modSp_dq (g : SpIf → SpIf) : (s.modSp g).dq = s.dq := rfl
@[simp] theorem modSp_keys (g : SpIf → SpIf) : (s.modSp g).keys = s.keys := rfl
@[simp] theorem modSp_mem (g : SpIf → SpIf) : (s.modSp g).mem = s.mem := rfl
@[simp] theorem modSp_fm (g : SpIf → SpIf) : (s.modSp g).fm = s.fm := rfl
@[simp] theorem modSp_nand (g : SpIf → SpIf) : (s.modSp g).nand = s.nand := rfl
@[simp] theorem modSp_db (g : SpIf → SpIf) : (s.modSp g).db = s.db := rfl
@[simp] theorem modSp_jrn (g : SpIf → SpIf) : (s.modSp g).jrn = s.jrn := rfl
@[simp] theorem modSp_twin (g : SpIf → SpIf) : (s.modSp g).twin = s.twin := rfl
@[simp] theorem modSp_forme (g : SpIf → SpIf) : (s.modSp g).forme = s.forme := rfl
@[simp] theorem modSp_sent (g : SpIf → SpIf) : (s.modSp g).sent = s.sent := rfl
@[simp] theorem modSp_free (g : SpIf → SpIf) : (s.modSp g).free = s.free := rfl
@[simp] theorem modMode_regs (g : ModeSt → ModeSt) : (s.modMode g).regs = s.regs := rfl
@[simp] theorem modMode_evt (g : ModeSt → ModeSt) : (s.modMode g).evt = s.evt := rfl
@[simp] theorem modMode_sp (g : ModeSt → ModeSt) : (s.modMode g).sp = s.sp := rfl
@[simp] theorem modMode_mode (g : ModeSt → ModeSt) : (s.modMode g).mode = g s.mode := rfl
@[simp] theorem modMode_pwr (g : ModeSt → ModeSt) : (s.modMode g).pwr = s.pwr := rfl
@[simp] theorem modMode_therm (g : ModeSt → ModeSt) : (s.modMode g).therm = s.therm := rfl
@[simp] theorem modMode_cal (g : ModeSt → ModeSt) : (s.modMode g).cal = s.cal := rfl
@[simp] theorem modMode_integ (g : ModeSt → ModeSt) : (s.modMode g).integ = s.integ := rfl
@[simp] theorem modMode_tier (g : ModeSt → ModeSt) : (s.modMode g).tier = s.tier := rfl
@[simp] theorem modMode_lc (g : ModeSt → ModeSt) : (s.modMode g).lc = s.lc := rfl
@[simp] theorem modMode_gal (g : ModeSt → ModeSt) : (s.modMode g).gal = s.gal := rfl
@[simp] theorem modMode_net (g : ModeSt → ModeSt) : (s.modMode g).net = s.net := rfl
@[simp] theorem modMode_rgn (g : ModeSt → ModeSt) : (s.modMode g).rgn = s.rgn := rfl
@[simp] theorem modMode_dq (g : ModeSt → ModeSt) : (s.modMode g).dq = s.dq := rfl
@[simp] theorem modMode_keys (g : ModeSt → ModeSt) : (s.modMode g).keys = s.keys := rfl
@[simp] theorem modMode_mem (g : ModeSt → ModeSt) : (s.modMode g).mem = s.mem := rfl
@[simp] theorem modMode_fm (g : ModeSt → ModeSt) : (s.modMode g).fm = s.fm := rfl
@[simp] theorem modMode_nand (g : ModeSt → ModeSt) : (s.modMode g).nand = s.nand := rfl
@[simp] theorem modMode_db (g : ModeSt → ModeSt) : (s.modMode g).db = s.db := rfl
@[simp] theorem modMode_jrn (g : ModeSt → ModeSt) : (s.modMode g).jrn = s.jrn := rfl
@[simp] theorem modMode_twin (g : ModeSt → ModeSt) : (s.modMode g).twin = s.twin := rfl
@[simp] theorem modMode_forme (g : ModeSt → ModeSt) : (s.modMode g).forme = s.forme := rfl
@[simp] theorem modMode_sent (g : ModeSt → ModeSt) : (s.modMode g).sent = s.sent := rfl
@[simp] theorem modMode_free (g : ModeSt → ModeSt) : (s.modMode g).free = s.free := rfl
@[simp] theorem modPwr_regs (g : PowerSt → PowerSt) : (s.modPwr g).regs = s.regs := rfl
@[simp] theorem modPwr_evt (g : PowerSt → PowerSt) : (s.modPwr g).evt = s.evt := rfl
@[simp] theorem modPwr_sp (g : PowerSt → PowerSt) : (s.modPwr g).sp = s.sp := rfl
@[simp] theorem modPwr_mode (g : PowerSt → PowerSt) : (s.modPwr g).mode = s.mode := rfl
@[simp] theorem modPwr_pwr (g : PowerSt → PowerSt) : (s.modPwr g).pwr = g s.pwr := rfl
@[simp] theorem modPwr_therm (g : PowerSt → PowerSt) : (s.modPwr g).therm = s.therm := rfl
@[simp] theorem modPwr_cal (g : PowerSt → PowerSt) : (s.modPwr g).cal = s.cal := rfl
@[simp] theorem modPwr_integ (g : PowerSt → PowerSt) : (s.modPwr g).integ = s.integ := rfl
@[simp] theorem modPwr_tier (g : PowerSt → PowerSt) : (s.modPwr g).tier = s.tier := rfl
@[simp] theorem modPwr_lc (g : PowerSt → PowerSt) : (s.modPwr g).lc = s.lc := rfl
@[simp] theorem modPwr_gal (g : PowerSt → PowerSt) : (s.modPwr g).gal = s.gal := rfl
@[simp] theorem modPwr_net (g : PowerSt → PowerSt) : (s.modPwr g).net = s.net := rfl
@[simp] theorem modPwr_rgn (g : PowerSt → PowerSt) : (s.modPwr g).rgn = s.rgn := rfl
@[simp] theorem modPwr_dq (g : PowerSt → PowerSt) : (s.modPwr g).dq = s.dq := rfl
@[simp] theorem modPwr_keys (g : PowerSt → PowerSt) : (s.modPwr g).keys = s.keys := rfl
@[simp] theorem modPwr_mem (g : PowerSt → PowerSt) : (s.modPwr g).mem = s.mem := rfl
@[simp] theorem modPwr_fm (g : PowerSt → PowerSt) : (s.modPwr g).fm = s.fm := rfl
@[simp] theorem modPwr_nand (g : PowerSt → PowerSt) : (s.modPwr g).nand = s.nand := rfl
@[simp] theorem modPwr_db (g : PowerSt → PowerSt) : (s.modPwr g).db = s.db := rfl
@[simp] theorem modPwr_jrn (g : PowerSt → PowerSt) : (s.modPwr g).jrn = s.jrn := rfl
@[simp] theorem modPwr_twin (g : PowerSt → PowerSt) : (s.modPwr g).twin = s.twin := rfl
@[simp] theorem modPwr_forme (g : PowerSt → PowerSt) : (s.modPwr g).forme = s.forme := rfl
@[simp] theorem modPwr_sent (g : PowerSt → PowerSt) : (s.modPwr g).sent = s.sent := rfl
@[simp] theorem modPwr_free (g : PowerSt → PowerSt) : (s.modPwr g).free = s.free := rfl
@[simp] theorem modTherm_regs (g : ThermalSt → ThermalSt) : (s.modTherm g).regs = s.regs := rfl
@[simp] theorem modTherm_evt (g : ThermalSt → ThermalSt) : (s.modTherm g).evt = s.evt := rfl
@[simp] theorem modTherm_sp (g : ThermalSt → ThermalSt) : (s.modTherm g).sp = s.sp := rfl
@[simp] theorem modTherm_mode (g : ThermalSt → ThermalSt) : (s.modTherm g).mode = s.mode := rfl
@[simp] theorem modTherm_pwr (g : ThermalSt → ThermalSt) : (s.modTherm g).pwr = s.pwr := rfl
@[simp] theorem modTherm_therm (g : ThermalSt → ThermalSt) : (s.modTherm g).therm = g s.therm := rfl
@[simp] theorem modTherm_cal (g : ThermalSt → ThermalSt) : (s.modTherm g).cal = s.cal := rfl
@[simp] theorem modTherm_integ (g : ThermalSt → ThermalSt) : (s.modTherm g).integ = s.integ := rfl
@[simp] theorem modTherm_tier (g : ThermalSt → ThermalSt) : (s.modTherm g).tier = s.tier := rfl
@[simp] theorem modTherm_lc (g : ThermalSt → ThermalSt) : (s.modTherm g).lc = s.lc := rfl
@[simp] theorem modTherm_gal (g : ThermalSt → ThermalSt) : (s.modTherm g).gal = s.gal := rfl
@[simp] theorem modTherm_net (g : ThermalSt → ThermalSt) : (s.modTherm g).net = s.net := rfl
@[simp] theorem modTherm_rgn (g : ThermalSt → ThermalSt) : (s.modTherm g).rgn = s.rgn := rfl
@[simp] theorem modTherm_dq (g : ThermalSt → ThermalSt) : (s.modTherm g).dq = s.dq := rfl
@[simp] theorem modTherm_keys (g : ThermalSt → ThermalSt) : (s.modTherm g).keys = s.keys := rfl
@[simp] theorem modTherm_mem (g : ThermalSt → ThermalSt) : (s.modTherm g).mem = s.mem := rfl
@[simp] theorem modTherm_fm (g : ThermalSt → ThermalSt) : (s.modTherm g).fm = s.fm := rfl
@[simp] theorem modTherm_nand (g : ThermalSt → ThermalSt) : (s.modTherm g).nand = s.nand := rfl
@[simp] theorem modTherm_db (g : ThermalSt → ThermalSt) : (s.modTherm g).db = s.db := rfl
@[simp] theorem modTherm_jrn (g : ThermalSt → ThermalSt) : (s.modTherm g).jrn = s.jrn := rfl
@[simp] theorem modTherm_twin (g : ThermalSt → ThermalSt) : (s.modTherm g).twin = s.twin := rfl
@[simp] theorem modTherm_forme (g : ThermalSt → ThermalSt) : (s.modTherm g).forme = s.forme := rfl
@[simp] theorem modTherm_sent (g : ThermalSt → ThermalSt) : (s.modTherm g).sent = s.sent := rfl
@[simp] theorem modTherm_free (g : ThermalSt → ThermalSt) : (s.modTherm g).free = s.free := rfl
@[simp] theorem modCal_regs (g : CalSt → CalSt) : (s.modCal g).regs = s.regs := rfl
@[simp] theorem modCal_evt (g : CalSt → CalSt) : (s.modCal g).evt = s.evt := rfl
@[simp] theorem modCal_sp (g : CalSt → CalSt) : (s.modCal g).sp = s.sp := rfl
@[simp] theorem modCal_mode (g : CalSt → CalSt) : (s.modCal g).mode = s.mode := rfl
@[simp] theorem modCal_pwr (g : CalSt → CalSt) : (s.modCal g).pwr = s.pwr := rfl
@[simp] theorem modCal_therm (g : CalSt → CalSt) : (s.modCal g).therm = s.therm := rfl
@[simp] theorem modCal_cal (g : CalSt → CalSt) : (s.modCal g).cal = g s.cal := rfl
@[simp] theorem modCal_integ (g : CalSt → CalSt) : (s.modCal g).integ = s.integ := rfl
@[simp] theorem modCal_tier (g : CalSt → CalSt) : (s.modCal g).tier = s.tier := rfl
@[simp] theorem modCal_lc (g : CalSt → CalSt) : (s.modCal g).lc = s.lc := rfl
@[simp] theorem modCal_gal (g : CalSt → CalSt) : (s.modCal g).gal = s.gal := rfl
@[simp] theorem modCal_net (g : CalSt → CalSt) : (s.modCal g).net = s.net := rfl
@[simp] theorem modCal_rgn (g : CalSt → CalSt) : (s.modCal g).rgn = s.rgn := rfl
@[simp] theorem modCal_dq (g : CalSt → CalSt) : (s.modCal g).dq = s.dq := rfl
@[simp] theorem modCal_keys (g : CalSt → CalSt) : (s.modCal g).keys = s.keys := rfl
@[simp] theorem modCal_mem (g : CalSt → CalSt) : (s.modCal g).mem = s.mem := rfl
@[simp] theorem modCal_fm (g : CalSt → CalSt) : (s.modCal g).fm = s.fm := rfl
@[simp] theorem modCal_nand (g : CalSt → CalSt) : (s.modCal g).nand = s.nand := rfl
@[simp] theorem modCal_db (g : CalSt → CalSt) : (s.modCal g).db = s.db := rfl
@[simp] theorem modCal_jrn (g : CalSt → CalSt) : (s.modCal g).jrn = s.jrn := rfl
@[simp] theorem modCal_twin (g : CalSt → CalSt) : (s.modCal g).twin = s.twin := rfl
@[simp] theorem modCal_forme (g : CalSt → CalSt) : (s.modCal g).forme = s.forme := rfl
@[simp] theorem modCal_sent (g : CalSt → CalSt) : (s.modCal g).sent = s.sent := rfl
@[simp] theorem modCal_free (g : CalSt → CalSt) : (s.modCal g).free = s.free := rfl
@[simp] theorem modInteg_regs (g : IntegSt → IntegSt) : (s.modInteg g).regs = s.regs := rfl
@[simp] theorem modInteg_evt (g : IntegSt → IntegSt) : (s.modInteg g).evt = s.evt := rfl
@[simp] theorem modInteg_sp (g : IntegSt → IntegSt) : (s.modInteg g).sp = s.sp := rfl
@[simp] theorem modInteg_mode (g : IntegSt → IntegSt) : (s.modInteg g).mode = s.mode := rfl
@[simp] theorem modInteg_pwr (g : IntegSt → IntegSt) : (s.modInteg g).pwr = s.pwr := rfl
@[simp] theorem modInteg_therm (g : IntegSt → IntegSt) : (s.modInteg g).therm = s.therm := rfl
@[simp] theorem modInteg_cal (g : IntegSt → IntegSt) : (s.modInteg g).cal = s.cal := rfl
@[simp] theorem modInteg_integ (g : IntegSt → IntegSt) : (s.modInteg g).integ = g s.integ := rfl
@[simp] theorem modInteg_tier (g : IntegSt → IntegSt) : (s.modInteg g).tier = s.tier := rfl
@[simp] theorem modInteg_lc (g : IntegSt → IntegSt) : (s.modInteg g).lc = s.lc := rfl
@[simp] theorem modInteg_gal (g : IntegSt → IntegSt) : (s.modInteg g).gal = s.gal := rfl
@[simp] theorem modInteg_net (g : IntegSt → IntegSt) : (s.modInteg g).net = s.net := rfl
@[simp] theorem modInteg_rgn (g : IntegSt → IntegSt) : (s.modInteg g).rgn = s.rgn := rfl
@[simp] theorem modInteg_dq (g : IntegSt → IntegSt) : (s.modInteg g).dq = s.dq := rfl
@[simp] theorem modInteg_keys (g : IntegSt → IntegSt) : (s.modInteg g).keys = s.keys := rfl
@[simp] theorem modInteg_mem (g : IntegSt → IntegSt) : (s.modInteg g).mem = s.mem := rfl
@[simp] theorem modInteg_fm (g : IntegSt → IntegSt) : (s.modInteg g).fm = s.fm := rfl
@[simp] theorem modInteg_nand (g : IntegSt → IntegSt) : (s.modInteg g).nand = s.nand := rfl
@[simp] theorem modInteg_db (g : IntegSt → IntegSt) : (s.modInteg g).db = s.db := rfl
@[simp] theorem modInteg_jrn (g : IntegSt → IntegSt) : (s.modInteg g).jrn = s.jrn := rfl
@[simp] theorem modInteg_twin (g : IntegSt → IntegSt) : (s.modInteg g).twin = s.twin := rfl
@[simp] theorem modInteg_forme (g : IntegSt → IntegSt) : (s.modInteg g).forme = s.forme := rfl
@[simp] theorem modInteg_sent (g : IntegSt → IntegSt) : (s.modInteg g).sent = s.sent := rfl
@[simp] theorem modInteg_free (g : IntegSt → IntegSt) : (s.modInteg g).free = s.free := rfl
@[simp] theorem modTier_regs (g : TierSt → TierSt) : (s.modTier g).regs = s.regs := rfl
@[simp] theorem modTier_evt (g : TierSt → TierSt) : (s.modTier g).evt = s.evt := rfl
@[simp] theorem modTier_sp (g : TierSt → TierSt) : (s.modTier g).sp = s.sp := rfl
@[simp] theorem modTier_mode (g : TierSt → TierSt) : (s.modTier g).mode = s.mode := rfl
@[simp] theorem modTier_pwr (g : TierSt → TierSt) : (s.modTier g).pwr = s.pwr := rfl
@[simp] theorem modTier_therm (g : TierSt → TierSt) : (s.modTier g).therm = s.therm := rfl
@[simp] theorem modTier_cal (g : TierSt → TierSt) : (s.modTier g).cal = s.cal := rfl
@[simp] theorem modTier_integ (g : TierSt → TierSt) : (s.modTier g).integ = s.integ := rfl
@[simp] theorem modTier_tier (g : TierSt → TierSt) : (s.modTier g).tier = g s.tier := rfl
@[simp] theorem modTier_lc (g : TierSt → TierSt) : (s.modTier g).lc = s.lc := rfl
@[simp] theorem modTier_gal (g : TierSt → TierSt) : (s.modTier g).gal = s.gal := rfl
@[simp] theorem modTier_net (g : TierSt → TierSt) : (s.modTier g).net = s.net := rfl
@[simp] theorem modTier_rgn (g : TierSt → TierSt) : (s.modTier g).rgn = s.rgn := rfl
@[simp] theorem modTier_dq (g : TierSt → TierSt) : (s.modTier g).dq = s.dq := rfl
@[simp] theorem modTier_keys (g : TierSt → TierSt) : (s.modTier g).keys = s.keys := rfl
@[simp] theorem modTier_mem (g : TierSt → TierSt) : (s.modTier g).mem = s.mem := rfl
@[simp] theorem modTier_fm (g : TierSt → TierSt) : (s.modTier g).fm = s.fm := rfl
@[simp] theorem modTier_nand (g : TierSt → TierSt) : (s.modTier g).nand = s.nand := rfl
@[simp] theorem modTier_db (g : TierSt → TierSt) : (s.modTier g).db = s.db := rfl
@[simp] theorem modTier_jrn (g : TierSt → TierSt) : (s.modTier g).jrn = s.jrn := rfl
@[simp] theorem modTier_twin (g : TierSt → TierSt) : (s.modTier g).twin = s.twin := rfl
@[simp] theorem modTier_forme (g : TierSt → TierSt) : (s.modTier g).forme = s.forme := rfl
@[simp] theorem modTier_sent (g : TierSt → TierSt) : (s.modTier g).sent = s.sent := rfl
@[simp] theorem modTier_free (g : TierSt → TierSt) : (s.modTier g).free = s.free := rfl
@[simp] theorem modLc_regs (g : LcSt → LcSt) : (s.modLc g).regs = s.regs := rfl
@[simp] theorem modLc_evt (g : LcSt → LcSt) : (s.modLc g).evt = s.evt := rfl
@[simp] theorem modLc_sp (g : LcSt → LcSt) : (s.modLc g).sp = s.sp := rfl
@[simp] theorem modLc_mode (g : LcSt → LcSt) : (s.modLc g).mode = s.mode := rfl
@[simp] theorem modLc_pwr (g : LcSt → LcSt) : (s.modLc g).pwr = s.pwr := rfl
@[simp] theorem modLc_therm (g : LcSt → LcSt) : (s.modLc g).therm = s.therm := rfl
@[simp] theorem modLc_cal (g : LcSt → LcSt) : (s.modLc g).cal = s.cal := rfl
@[simp] theorem modLc_integ (g : LcSt → LcSt) : (s.modLc g).integ = s.integ := rfl
@[simp] theorem modLc_tier (g : LcSt → LcSt) : (s.modLc g).tier = s.tier := rfl
@[simp] theorem modLc_lc (g : LcSt → LcSt) : (s.modLc g).lc = g s.lc := rfl
@[simp] theorem modLc_gal (g : LcSt → LcSt) : (s.modLc g).gal = s.gal := rfl
@[simp] theorem modLc_net (g : LcSt → LcSt) : (s.modLc g).net = s.net := rfl
@[simp] theorem modLc_rgn (g : LcSt → LcSt) : (s.modLc g).rgn = s.rgn := rfl
@[simp] theorem modLc_dq (g : LcSt → LcSt) : (s.modLc g).dq = s.dq := rfl
@[simp] theorem modLc_keys (g : LcSt → LcSt) : (s.modLc g).keys = s.keys := rfl
@[simp] theorem modLc_mem (g : LcSt → LcSt) : (s.modLc g).mem = s.mem := rfl
@[simp] theorem modLc_fm (g : LcSt → LcSt) : (s.modLc g).fm = s.fm := rfl
@[simp] theorem modLc_nand (g : LcSt → LcSt) : (s.modLc g).nand = s.nand := rfl
@[simp] theorem modLc_db (g : LcSt → LcSt) : (s.modLc g).db = s.db := rfl
@[simp] theorem modLc_jrn (g : LcSt → LcSt) : (s.modLc g).jrn = s.jrn := rfl
@[simp] theorem modLc_twin (g : LcSt → LcSt) : (s.modLc g).twin = s.twin := rfl
@[simp] theorem modLc_forme (g : LcSt → LcSt) : (s.modLc g).forme = s.forme := rfl
@[simp] theorem modLc_sent (g : LcSt → LcSt) : (s.modLc g).sent = s.sent := rfl
@[simp] theorem modLc_free (g : LcSt → LcSt) : (s.modLc g).free = s.free := rfl
@[simp] theorem modGal_regs (g : GalleySt → GalleySt) : (s.modGal g).regs = s.regs := rfl
@[simp] theorem modGal_evt (g : GalleySt → GalleySt) : (s.modGal g).evt = s.evt := rfl
@[simp] theorem modGal_sp (g : GalleySt → GalleySt) : (s.modGal g).sp = s.sp := rfl
@[simp] theorem modGal_mode (g : GalleySt → GalleySt) : (s.modGal g).mode = s.mode := rfl
@[simp] theorem modGal_pwr (g : GalleySt → GalleySt) : (s.modGal g).pwr = s.pwr := rfl
@[simp] theorem modGal_therm (g : GalleySt → GalleySt) : (s.modGal g).therm = s.therm := rfl
@[simp] theorem modGal_cal (g : GalleySt → GalleySt) : (s.modGal g).cal = s.cal := rfl
@[simp] theorem modGal_integ (g : GalleySt → GalleySt) : (s.modGal g).integ = s.integ := rfl
@[simp] theorem modGal_tier (g : GalleySt → GalleySt) : (s.modGal g).tier = s.tier := rfl
@[simp] theorem modGal_lc (g : GalleySt → GalleySt) : (s.modGal g).lc = s.lc := rfl
@[simp] theorem modGal_gal (g : GalleySt → GalleySt) : (s.modGal g).gal = g s.gal := rfl
@[simp] theorem modGal_net (g : GalleySt → GalleySt) : (s.modGal g).net = s.net := rfl
@[simp] theorem modGal_rgn (g : GalleySt → GalleySt) : (s.modGal g).rgn = s.rgn := rfl
@[simp] theorem modGal_dq (g : GalleySt → GalleySt) : (s.modGal g).dq = s.dq := rfl
@[simp] theorem modGal_keys (g : GalleySt → GalleySt) : (s.modGal g).keys = s.keys := rfl
@[simp] theorem modGal_mem (g : GalleySt → GalleySt) : (s.modGal g).mem = s.mem := rfl
@[simp] theorem modGal_fm (g : GalleySt → GalleySt) : (s.modGal g).fm = s.fm := rfl
@[simp] theorem modGal_nand (g : GalleySt → GalleySt) : (s.modGal g).nand = s.nand := rfl
@[simp] theorem modGal_db (g : GalleySt → GalleySt) : (s.modGal g).db = s.db := rfl
@[simp] theorem modGal_jrn (g : GalleySt → GalleySt) : (s.modGal g).jrn = s.jrn := rfl
@[simp] theorem modGal_twin (g : GalleySt → GalleySt) : (s.modGal g).twin = s.twin := rfl
@[simp] theorem modGal_forme (g : GalleySt → GalleySt) : (s.modGal g).forme = s.forme := rfl
@[simp] theorem modGal_sent (g : GalleySt → GalleySt) : (s.modGal g).sent = s.sent := rfl
@[simp] theorem modGal_free (g : GalleySt → GalleySt) : (s.modGal g).free = s.free := rfl
@[simp] theorem modNet_regs (g : NetSt → NetSt) : (s.modNet g).regs = s.regs := rfl
@[simp] theorem modNet_evt (g : NetSt → NetSt) : (s.modNet g).evt = s.evt := rfl
@[simp] theorem modNet_sp (g : NetSt → NetSt) : (s.modNet g).sp = s.sp := rfl
@[simp] theorem modNet_mode (g : NetSt → NetSt) : (s.modNet g).mode = s.mode := rfl
@[simp] theorem modNet_pwr (g : NetSt → NetSt) : (s.modNet g).pwr = s.pwr := rfl
@[simp] theorem modNet_therm (g : NetSt → NetSt) : (s.modNet g).therm = s.therm := rfl
@[simp] theorem modNet_cal (g : NetSt → NetSt) : (s.modNet g).cal = s.cal := rfl
@[simp] theorem modNet_integ (g : NetSt → NetSt) : (s.modNet g).integ = s.integ := rfl
@[simp] theorem modNet_tier (g : NetSt → NetSt) : (s.modNet g).tier = s.tier := rfl
@[simp] theorem modNet_lc (g : NetSt → NetSt) : (s.modNet g).lc = s.lc := rfl
@[simp] theorem modNet_gal (g : NetSt → NetSt) : (s.modNet g).gal = s.gal := rfl
@[simp] theorem modNet_net (g : NetSt → NetSt) : (s.modNet g).net = g s.net := rfl
@[simp] theorem modNet_rgn (g : NetSt → NetSt) : (s.modNet g).rgn = s.rgn := rfl
@[simp] theorem modNet_dq (g : NetSt → NetSt) : (s.modNet g).dq = s.dq := rfl
@[simp] theorem modNet_keys (g : NetSt → NetSt) : (s.modNet g).keys = s.keys := rfl
@[simp] theorem modNet_mem (g : NetSt → NetSt) : (s.modNet g).mem = s.mem := rfl
@[simp] theorem modNet_fm (g : NetSt → NetSt) : (s.modNet g).fm = s.fm := rfl
@[simp] theorem modNet_nand (g : NetSt → NetSt) : (s.modNet g).nand = s.nand := rfl
@[simp] theorem modNet_db (g : NetSt → NetSt) : (s.modNet g).db = s.db := rfl
@[simp] theorem modNet_jrn (g : NetSt → NetSt) : (s.modNet g).jrn = s.jrn := rfl
@[simp] theorem modNet_twin (g : NetSt → NetSt) : (s.modNet g).twin = s.twin := rfl
@[simp] theorem modNet_forme (g : NetSt → NetSt) : (s.modNet g).forme = s.forme := rfl
@[simp] theorem modNet_sent (g : NetSt → NetSt) : (s.modNet g).sent = s.sent := rfl
@[simp] theorem modNet_free (g : NetSt → NetSt) : (s.modNet g).free = s.free := rfl
@[simp] theorem modRgn_regs (g : RegionSt → RegionSt) : (s.modRgn g).regs = s.regs := rfl
@[simp] theorem modRgn_evt (g : RegionSt → RegionSt) : (s.modRgn g).evt = s.evt := rfl
@[simp] theorem modRgn_sp (g : RegionSt → RegionSt) : (s.modRgn g).sp = s.sp := rfl
@[simp] theorem modRgn_mode (g : RegionSt → RegionSt) : (s.modRgn g).mode = s.mode := rfl
@[simp] theorem modRgn_pwr (g : RegionSt → RegionSt) : (s.modRgn g).pwr = s.pwr := rfl
@[simp] theorem modRgn_therm (g : RegionSt → RegionSt) : (s.modRgn g).therm = s.therm := rfl
@[simp] theorem modRgn_cal (g : RegionSt → RegionSt) : (s.modRgn g).cal = s.cal := rfl
@[simp] theorem modRgn_integ (g : RegionSt → RegionSt) : (s.modRgn g).integ = s.integ := rfl
@[simp] theorem modRgn_tier (g : RegionSt → RegionSt) : (s.modRgn g).tier = s.tier := rfl
@[simp] theorem modRgn_lc (g : RegionSt → RegionSt) : (s.modRgn g).lc = s.lc := rfl
@[simp] theorem modRgn_gal (g : RegionSt → RegionSt) : (s.modRgn g).gal = s.gal := rfl
@[simp] theorem modRgn_net (g : RegionSt → RegionSt) : (s.modRgn g).net = s.net := rfl
@[simp] theorem modRgn_rgn (g : RegionSt → RegionSt) : (s.modRgn g).rgn = g s.rgn := rfl
@[simp] theorem modRgn_dq (g : RegionSt → RegionSt) : (s.modRgn g).dq = s.dq := rfl
@[simp] theorem modRgn_keys (g : RegionSt → RegionSt) : (s.modRgn g).keys = s.keys := rfl
@[simp] theorem modRgn_mem (g : RegionSt → RegionSt) : (s.modRgn g).mem = s.mem := rfl
@[simp] theorem modRgn_fm (g : RegionSt → RegionSt) : (s.modRgn g).fm = s.fm := rfl
@[simp] theorem modRgn_nand (g : RegionSt → RegionSt) : (s.modRgn g).nand = s.nand := rfl
@[simp] theorem modRgn_db (g : RegionSt → RegionSt) : (s.modRgn g).db = s.db := rfl
@[simp] theorem modRgn_jrn (g : RegionSt → RegionSt) : (s.modRgn g).jrn = s.jrn := rfl
@[simp] theorem modRgn_twin (g : RegionSt → RegionSt) : (s.modRgn g).twin = s.twin := rfl
@[simp] theorem modRgn_forme (g : RegionSt → RegionSt) : (s.modRgn g).forme = s.forme := rfl
@[simp] theorem modRgn_sent (g : RegionSt → RegionSt) : (s.modRgn g).sent = s.sent := rfl
@[simp] theorem modRgn_free (g : RegionSt → RegionSt) : (s.modRgn g).free = s.free := rfl
@[simp] theorem modDq_regs (g : DevQs → DevQs) : (s.modDq g).regs = s.regs := rfl
@[simp] theorem modDq_evt (g : DevQs → DevQs) : (s.modDq g).evt = s.evt := rfl
@[simp] theorem modDq_sp (g : DevQs → DevQs) : (s.modDq g).sp = s.sp := rfl
@[simp] theorem modDq_mode (g : DevQs → DevQs) : (s.modDq g).mode = s.mode := rfl
@[simp] theorem modDq_pwr (g : DevQs → DevQs) : (s.modDq g).pwr = s.pwr := rfl
@[simp] theorem modDq_therm (g : DevQs → DevQs) : (s.modDq g).therm = s.therm := rfl
@[simp] theorem modDq_cal (g : DevQs → DevQs) : (s.modDq g).cal = s.cal := rfl
@[simp] theorem modDq_integ (g : DevQs → DevQs) : (s.modDq g).integ = s.integ := rfl
@[simp] theorem modDq_tier (g : DevQs → DevQs) : (s.modDq g).tier = s.tier := rfl
@[simp] theorem modDq_lc (g : DevQs → DevQs) : (s.modDq g).lc = s.lc := rfl
@[simp] theorem modDq_gal (g : DevQs → DevQs) : (s.modDq g).gal = s.gal := rfl
@[simp] theorem modDq_net (g : DevQs → DevQs) : (s.modDq g).net = s.net := rfl
@[simp] theorem modDq_rgn (g : DevQs → DevQs) : (s.modDq g).rgn = s.rgn := rfl
@[simp] theorem modDq_dq (g : DevQs → DevQs) : (s.modDq g).dq = g s.dq := rfl
@[simp] theorem modDq_keys (g : DevQs → DevQs) : (s.modDq g).keys = s.keys := rfl
@[simp] theorem modDq_mem (g : DevQs → DevQs) : (s.modDq g).mem = s.mem := rfl
@[simp] theorem modDq_fm (g : DevQs → DevQs) : (s.modDq g).fm = s.fm := rfl
@[simp] theorem modDq_nand (g : DevQs → DevQs) : (s.modDq g).nand = s.nand := rfl
@[simp] theorem modDq_db (g : DevQs → DevQs) : (s.modDq g).db = s.db := rfl
@[simp] theorem modDq_jrn (g : DevQs → DevQs) : (s.modDq g).jrn = s.jrn := rfl
@[simp] theorem modDq_twin (g : DevQs → DevQs) : (s.modDq g).twin = s.twin := rfl
@[simp] theorem modDq_forme (g : DevQs → DevQs) : (s.modDq g).forme = s.forme := rfl
@[simp] theorem modDq_sent (g : DevQs → DevQs) : (s.modDq g).sent = s.sent := rfl
@[simp] theorem modDq_free (g : DevQs → DevQs) : (s.modDq g).free = s.free := rfl
@[simp] theorem modKeys_regs (g : KeySt → KeySt) : (s.modKeys g).regs = s.regs := rfl
@[simp] theorem modKeys_evt (g : KeySt → KeySt) : (s.modKeys g).evt = s.evt := rfl
@[simp] theorem modKeys_sp (g : KeySt → KeySt) : (s.modKeys g).sp = s.sp := rfl
@[simp] theorem modKeys_mode (g : KeySt → KeySt) : (s.modKeys g).mode = s.mode := rfl
@[simp] theorem modKeys_pwr (g : KeySt → KeySt) : (s.modKeys g).pwr = s.pwr := rfl
@[simp] theorem modKeys_therm (g : KeySt → KeySt) : (s.modKeys g).therm = s.therm := rfl
@[simp] theorem modKeys_cal (g : KeySt → KeySt) : (s.modKeys g).cal = s.cal := rfl
@[simp] theorem modKeys_integ (g : KeySt → KeySt) : (s.modKeys g).integ = s.integ := rfl
@[simp] theorem modKeys_tier (g : KeySt → KeySt) : (s.modKeys g).tier = s.tier := rfl
@[simp] theorem modKeys_lc (g : KeySt → KeySt) : (s.modKeys g).lc = s.lc := rfl
@[simp] theorem modKeys_gal (g : KeySt → KeySt) : (s.modKeys g).gal = s.gal := rfl
@[simp] theorem modKeys_net (g : KeySt → KeySt) : (s.modKeys g).net = s.net := rfl
@[simp] theorem modKeys_rgn (g : KeySt → KeySt) : (s.modKeys g).rgn = s.rgn := rfl
@[simp] theorem modKeys_dq (g : KeySt → KeySt) : (s.modKeys g).dq = s.dq := rfl
@[simp] theorem modKeys_keys (g : KeySt → KeySt) : (s.modKeys g).keys = g s.keys := rfl
@[simp] theorem modKeys_mem (g : KeySt → KeySt) : (s.modKeys g).mem = s.mem := rfl
@[simp] theorem modKeys_fm (g : KeySt → KeySt) : (s.modKeys g).fm = s.fm := rfl
@[simp] theorem modKeys_nand (g : KeySt → KeySt) : (s.modKeys g).nand = s.nand := rfl
@[simp] theorem modKeys_db (g : KeySt → KeySt) : (s.modKeys g).db = s.db := rfl
@[simp] theorem modKeys_jrn (g : KeySt → KeySt) : (s.modKeys g).jrn = s.jrn := rfl
@[simp] theorem modKeys_twin (g : KeySt → KeySt) : (s.modKeys g).twin = s.twin := rfl
@[simp] theorem modKeys_forme (g : KeySt → KeySt) : (s.modKeys g).forme = s.forme := rfl
@[simp] theorem modKeys_sent (g : KeySt → KeySt) : (s.modKeys g).sent = s.sent := rfl
@[simp] theorem modKeys_free (g : KeySt → KeySt) : (s.modKeys g).free = s.free := rfl
@[simp] theorem modMem_regs (g : MemSt → MemSt) : (s.modMem g).regs = s.regs := rfl
@[simp] theorem modMem_evt (g : MemSt → MemSt) : (s.modMem g).evt = s.evt := rfl
@[simp] theorem modMem_sp (g : MemSt → MemSt) : (s.modMem g).sp = s.sp := rfl
@[simp] theorem modMem_mode (g : MemSt → MemSt) : (s.modMem g).mode = s.mode := rfl
@[simp] theorem modMem_pwr (g : MemSt → MemSt) : (s.modMem g).pwr = s.pwr := rfl
@[simp] theorem modMem_therm (g : MemSt → MemSt) : (s.modMem g).therm = s.therm := rfl
@[simp] theorem modMem_cal (g : MemSt → MemSt) : (s.modMem g).cal = s.cal := rfl
@[simp] theorem modMem_integ (g : MemSt → MemSt) : (s.modMem g).integ = s.integ := rfl
@[simp] theorem modMem_tier (g : MemSt → MemSt) : (s.modMem g).tier = s.tier := rfl
@[simp] theorem modMem_lc (g : MemSt → MemSt) : (s.modMem g).lc = s.lc := rfl
@[simp] theorem modMem_gal (g : MemSt → MemSt) : (s.modMem g).gal = s.gal := rfl
@[simp] theorem modMem_net (g : MemSt → MemSt) : (s.modMem g).net = s.net := rfl
@[simp] theorem modMem_rgn (g : MemSt → MemSt) : (s.modMem g).rgn = s.rgn := rfl
@[simp] theorem modMem_dq (g : MemSt → MemSt) : (s.modMem g).dq = s.dq := rfl
@[simp] theorem modMem_keys (g : MemSt → MemSt) : (s.modMem g).keys = s.keys := rfl
@[simp] theorem modMem_mem (g : MemSt → MemSt) : (s.modMem g).mem = g s.mem := rfl
@[simp] theorem modMem_fm (g : MemSt → MemSt) : (s.modMem g).fm = s.fm := rfl
@[simp] theorem modMem_nand (g : MemSt → MemSt) : (s.modMem g).nand = s.nand := rfl
@[simp] theorem modMem_db (g : MemSt → MemSt) : (s.modMem g).db = s.db := rfl
@[simp] theorem modMem_jrn (g : MemSt → MemSt) : (s.modMem g).jrn = s.jrn := rfl
@[simp] theorem modMem_twin (g : MemSt → MemSt) : (s.modMem g).twin = s.twin := rfl
@[simp] theorem modMem_forme (g : MemSt → MemSt) : (s.modMem g).forme = s.forme := rfl
@[simp] theorem modMem_sent (g : MemSt → MemSt) : (s.modMem g).sent = s.sent := rfl
@[simp] theorem modMem_free (g : MemSt → MemSt) : (s.modMem g).free = s.free := rfl
@[simp] theorem modFm_regs (g : FlashSt → FlashSt) : (s.modFm g).regs = s.regs := rfl
@[simp] theorem modFm_evt (g : FlashSt → FlashSt) : (s.modFm g).evt = s.evt := rfl
@[simp] theorem modFm_sp (g : FlashSt → FlashSt) : (s.modFm g).sp = s.sp := rfl
@[simp] theorem modFm_mode (g : FlashSt → FlashSt) : (s.modFm g).mode = s.mode := rfl
@[simp] theorem modFm_pwr (g : FlashSt → FlashSt) : (s.modFm g).pwr = s.pwr := rfl
@[simp] theorem modFm_therm (g : FlashSt → FlashSt) : (s.modFm g).therm = s.therm := rfl
@[simp] theorem modFm_cal (g : FlashSt → FlashSt) : (s.modFm g).cal = s.cal := rfl
@[simp] theorem modFm_integ (g : FlashSt → FlashSt) : (s.modFm g).integ = s.integ := rfl
@[simp] theorem modFm_tier (g : FlashSt → FlashSt) : (s.modFm g).tier = s.tier := rfl
@[simp] theorem modFm_lc (g : FlashSt → FlashSt) : (s.modFm g).lc = s.lc := rfl
@[simp] theorem modFm_gal (g : FlashSt → FlashSt) : (s.modFm g).gal = s.gal := rfl
@[simp] theorem modFm_net (g : FlashSt → FlashSt) : (s.modFm g).net = s.net := rfl
@[simp] theorem modFm_rgn (g : FlashSt → FlashSt) : (s.modFm g).rgn = s.rgn := rfl
@[simp] theorem modFm_dq (g : FlashSt → FlashSt) : (s.modFm g).dq = s.dq := rfl
@[simp] theorem modFm_keys (g : FlashSt → FlashSt) : (s.modFm g).keys = s.keys := rfl
@[simp] theorem modFm_mem (g : FlashSt → FlashSt) : (s.modFm g).mem = s.mem := rfl
@[simp] theorem modFm_fm (g : FlashSt → FlashSt) : (s.modFm g).fm = g s.fm := rfl
@[simp] theorem modFm_nand (g : FlashSt → FlashSt) : (s.modFm g).nand = s.nand := rfl
@[simp] theorem modFm_db (g : FlashSt → FlashSt) : (s.modFm g).db = s.db := rfl
@[simp] theorem modFm_jrn (g : FlashSt → FlashSt) : (s.modFm g).jrn = s.jrn := rfl
@[simp] theorem modFm_twin (g : FlashSt → FlashSt) : (s.modFm g).twin = s.twin := rfl
@[simp] theorem modFm_forme (g : FlashSt → FlashSt) : (s.modFm g).forme = s.forme := rfl
@[simp] theorem modFm_sent (g : FlashSt → FlashSt) : (s.modFm g).sent = s.sent := rfl
@[simp] theorem modFm_free (g : FlashSt → FlashSt) : (s.modFm g).free = s.free := rfl
@[simp] theorem modNand_regs (g : NandSt → NandSt) : (s.modNand g).regs = s.regs := rfl
@[simp] theorem modNand_evt (g : NandSt → NandSt) : (s.modNand g).evt = s.evt := rfl
@[simp] theorem modNand_sp (g : NandSt → NandSt) : (s.modNand g).sp = s.sp := rfl
@[simp] theorem modNand_mode (g : NandSt → NandSt) : (s.modNand g).mode = s.mode := rfl
@[simp] theorem modNand_pwr (g : NandSt → NandSt) : (s.modNand g).pwr = s.pwr := rfl
@[simp] theorem modNand_therm (g : NandSt → NandSt) : (s.modNand g).therm = s.therm := rfl
@[simp] theorem modNand_cal (g : NandSt → NandSt) : (s.modNand g).cal = s.cal := rfl
@[simp] theorem modNand_integ (g : NandSt → NandSt) : (s.modNand g).integ = s.integ := rfl
@[simp] theorem modNand_tier (g : NandSt → NandSt) : (s.modNand g).tier = s.tier := rfl
@[simp] theorem modNand_lc (g : NandSt → NandSt) : (s.modNand g).lc = s.lc := rfl
@[simp] theorem modNand_gal (g : NandSt → NandSt) : (s.modNand g).gal = s.gal := rfl
@[simp] theorem modNand_net (g : NandSt → NandSt) : (s.modNand g).net = s.net := rfl
@[simp] theorem modNand_rgn (g : NandSt → NandSt) : (s.modNand g).rgn = s.rgn := rfl
@[simp] theorem modNand_dq (g : NandSt → NandSt) : (s.modNand g).dq = s.dq := rfl
@[simp] theorem modNand_keys (g : NandSt → NandSt) : (s.modNand g).keys = s.keys := rfl
@[simp] theorem modNand_mem (g : NandSt → NandSt) : (s.modNand g).mem = s.mem := rfl
@[simp] theorem modNand_fm (g : NandSt → NandSt) : (s.modNand g).fm = s.fm := rfl
@[simp] theorem modNand_nand (g : NandSt → NandSt) : (s.modNand g).nand = g s.nand := rfl
@[simp] theorem modNand_db (g : NandSt → NandSt) : (s.modNand g).db = s.db := rfl
@[simp] theorem modNand_jrn (g : NandSt → NandSt) : (s.modNand g).jrn = s.jrn := rfl
@[simp] theorem modNand_twin (g : NandSt → NandSt) : (s.modNand g).twin = s.twin := rfl
@[simp] theorem modNand_forme (g : NandSt → NandSt) : (s.modNand g).forme = s.forme := rfl
@[simp] theorem modNand_sent (g : NandSt → NandSt) : (s.modNand g).sent = s.sent := rfl
@[simp] theorem modNand_free (g : NandSt → NandSt) : (s.modNand g).free = s.free := rfl
@[simp] theorem modDb_regs (g : DbSt → DbSt) : (s.modDb g).regs = s.regs := rfl
@[simp] theorem modDb_evt (g : DbSt → DbSt) : (s.modDb g).evt = s.evt := rfl
@[simp] theorem modDb_sp (g : DbSt → DbSt) : (s.modDb g).sp = s.sp := rfl
@[simp] theorem modDb_mode (g : DbSt → DbSt) : (s.modDb g).mode = s.mode := rfl
@[simp] theorem modDb_pwr (g : DbSt → DbSt) : (s.modDb g).pwr = s.pwr := rfl
@[simp] theorem modDb_therm (g : DbSt → DbSt) : (s.modDb g).therm = s.therm := rfl
@[simp] theorem modDb_cal (g : DbSt → DbSt) : (s.modDb g).cal = s.cal := rfl
@[simp] theorem modDb_integ (g : DbSt → DbSt) : (s.modDb g).integ = s.integ := rfl
@[simp] theorem modDb_tier (g : DbSt → DbSt) : (s.modDb g).tier = s.tier := rfl
@[simp] theorem modDb_lc (g : DbSt → DbSt) : (s.modDb g).lc = s.lc := rfl
@[simp] theorem modDb_gal (g : DbSt → DbSt) : (s.modDb g).gal = s.gal := rfl
@[simp] theorem modDb_net (g : DbSt → DbSt) : (s.modDb g).net = s.net := rfl
@[simp] theorem modDb_rgn (g : DbSt → DbSt) : (s.modDb g).rgn = s.rgn := rfl
@[simp] theorem modDb_dq (g : DbSt → DbSt) : (s.modDb g).dq = s.dq := rfl
@[simp] theorem modDb_keys (g : DbSt → DbSt) : (s.modDb g).keys = s.keys := rfl
@[simp] theorem modDb_mem (g : DbSt → DbSt) : (s.modDb g).mem = s.mem := rfl
@[simp] theorem modDb_fm (g : DbSt → DbSt) : (s.modDb g).fm = s.fm := rfl
@[simp] theorem modDb_nand (g : DbSt → DbSt) : (s.modDb g).nand = s.nand := rfl
@[simp] theorem modDb_db (g : DbSt → DbSt) : (s.modDb g).db = g s.db := rfl
@[simp] theorem modDb_jrn (g : DbSt → DbSt) : (s.modDb g).jrn = s.jrn := rfl
@[simp] theorem modDb_twin (g : DbSt → DbSt) : (s.modDb g).twin = s.twin := rfl
@[simp] theorem modDb_forme (g : DbSt → DbSt) : (s.modDb g).forme = s.forme := rfl
@[simp] theorem modDb_sent (g : DbSt → DbSt) : (s.modDb g).sent = s.sent := rfl
@[simp] theorem modDb_free (g : DbSt → DbSt) : (s.modDb g).free = s.free := rfl
@[simp] theorem modJrn_regs (g : JournalSt → JournalSt) : (s.modJrn g).regs = s.regs := rfl
@[simp] theorem modJrn_evt (g : JournalSt → JournalSt) : (s.modJrn g).evt = s.evt := rfl
@[simp] theorem modJrn_sp (g : JournalSt → JournalSt) : (s.modJrn g).sp = s.sp := rfl
@[simp] theorem modJrn_mode (g : JournalSt → JournalSt) : (s.modJrn g).mode = s.mode := rfl
@[simp] theorem modJrn_pwr (g : JournalSt → JournalSt) : (s.modJrn g).pwr = s.pwr := rfl
@[simp] theorem modJrn_therm (g : JournalSt → JournalSt) : (s.modJrn g).therm = s.therm := rfl
@[simp] theorem modJrn_cal (g : JournalSt → JournalSt) : (s.modJrn g).cal = s.cal := rfl
@[simp] theorem modJrn_integ (g : JournalSt → JournalSt) : (s.modJrn g).integ = s.integ := rfl
@[simp] theorem modJrn_tier (g : JournalSt → JournalSt) : (s.modJrn g).tier = s.tier := rfl
@[simp] theorem modJrn_lc (g : JournalSt → JournalSt) : (s.modJrn g).lc = s.lc := rfl
@[simp] theorem modJrn_gal (g : JournalSt → JournalSt) : (s.modJrn g).gal = s.gal := rfl
@[simp] theorem modJrn_net (g : JournalSt → JournalSt) : (s.modJrn g).net = s.net := rfl
@[simp] theorem modJrn_rgn (g : JournalSt → JournalSt) : (s.modJrn g).rgn = s.rgn := rfl
@[simp] theorem modJrn_dq (g : JournalSt → JournalSt) : (s.modJrn g).dq = s.dq := rfl
@[simp] theorem modJrn_keys (g : JournalSt → JournalSt) : (s.modJrn g).keys = s.keys := rfl
@[simp] theorem modJrn_mem (g : JournalSt → JournalSt) : (s.modJrn g).mem = s.mem := rfl
@[simp] theorem modJrn_fm (g : JournalSt → JournalSt) : (s.modJrn g).fm = s.fm := rfl
@[simp] theorem modJrn_nand (g : JournalSt → JournalSt) : (s.modJrn g).nand = s.nand := rfl
@[simp] theorem modJrn_db (g : JournalSt → JournalSt) : (s.modJrn g).db = s.db := rfl
@[simp] theorem modJrn_jrn (g : JournalSt → JournalSt) : (s.modJrn g).jrn = g s.jrn := rfl
@[simp] theorem modJrn_twin (g : JournalSt → JournalSt) : (s.modJrn g).twin = s.twin := rfl
@[simp] theorem modJrn_forme (g : JournalSt → JournalSt) : (s.modJrn g).forme = s.forme := rfl
@[simp] theorem modJrn_sent (g : JournalSt → JournalSt) : (s.modJrn g).sent = s.sent := rfl
@[simp] theorem modJrn_free (g : JournalSt → JournalSt) : (s.modJrn g).free = s.free := rfl
@[simp] theorem modTwin_regs (g : TwinSt → TwinSt) : (s.modTwin g).regs = s.regs := rfl
@[simp] theorem modTwin_evt (g : TwinSt → TwinSt) : (s.modTwin g).evt = s.evt := rfl
@[simp] theorem modTwin_sp (g : TwinSt → TwinSt) : (s.modTwin g).sp = s.sp := rfl
@[simp] theorem modTwin_mode (g : TwinSt → TwinSt) : (s.modTwin g).mode = s.mode := rfl
@[simp] theorem modTwin_pwr (g : TwinSt → TwinSt) : (s.modTwin g).pwr = s.pwr := rfl
@[simp] theorem modTwin_therm (g : TwinSt → TwinSt) : (s.modTwin g).therm = s.therm := rfl
@[simp] theorem modTwin_cal (g : TwinSt → TwinSt) : (s.modTwin g).cal = s.cal := rfl
@[simp] theorem modTwin_integ (g : TwinSt → TwinSt) : (s.modTwin g).integ = s.integ := rfl
@[simp] theorem modTwin_tier (g : TwinSt → TwinSt) : (s.modTwin g).tier = s.tier := rfl
@[simp] theorem modTwin_lc (g : TwinSt → TwinSt) : (s.modTwin g).lc = s.lc := rfl
@[simp] theorem modTwin_gal (g : TwinSt → TwinSt) : (s.modTwin g).gal = s.gal := rfl
@[simp] theorem modTwin_net (g : TwinSt → TwinSt) : (s.modTwin g).net = s.net := rfl
@[simp] theorem modTwin_rgn (g : TwinSt → TwinSt) : (s.modTwin g).rgn = s.rgn := rfl
@[simp] theorem modTwin_dq (g : TwinSt → TwinSt) : (s.modTwin g).dq = s.dq := rfl
@[simp] theorem modTwin_keys (g : TwinSt → TwinSt) : (s.modTwin g).keys = s.keys := rfl
@[simp] theorem modTwin_mem (g : TwinSt → TwinSt) : (s.modTwin g).mem = s.mem := rfl
@[simp] theorem modTwin_fm (g : TwinSt → TwinSt) : (s.modTwin g).fm = s.fm := rfl
@[simp] theorem modTwin_nand (g : TwinSt → TwinSt) : (s.modTwin g).nand = s.nand := rfl
@[simp] theorem modTwin_db (g : TwinSt → TwinSt) : (s.modTwin g).db = s.db := rfl
@[simp] theorem modTwin_jrn (g : TwinSt → TwinSt) : (s.modTwin g).jrn = s.jrn := rfl
@[simp] theorem modTwin_twin (g : TwinSt → TwinSt) : (s.modTwin g).twin = g s.twin := rfl
@[simp] theorem modTwin_forme (g : TwinSt → TwinSt) : (s.modTwin g).forme = s.forme := rfl
@[simp] theorem modTwin_sent (g : TwinSt → TwinSt) : (s.modTwin g).sent = s.sent := rfl
@[simp] theorem modTwin_free (g : TwinSt → TwinSt) : (s.modTwin g).free = s.free := rfl
@[simp] theorem modForme_regs (g : FormeSt → FormeSt) : (s.modForme g).regs = s.regs := rfl
@[simp] theorem modForme_evt (g : FormeSt → FormeSt) : (s.modForme g).evt = s.evt := rfl
@[simp] theorem modForme_sp (g : FormeSt → FormeSt) : (s.modForme g).sp = s.sp := rfl
@[simp] theorem modForme_mode (g : FormeSt → FormeSt) : (s.modForme g).mode = s.mode := rfl
@[simp] theorem modForme_pwr (g : FormeSt → FormeSt) : (s.modForme g).pwr = s.pwr := rfl
@[simp] theorem modForme_therm (g : FormeSt → FormeSt) : (s.modForme g).therm = s.therm := rfl
@[simp] theorem modForme_cal (g : FormeSt → FormeSt) : (s.modForme g).cal = s.cal := rfl
@[simp] theorem modForme_integ (g : FormeSt → FormeSt) : (s.modForme g).integ = s.integ := rfl
@[simp] theorem modForme_tier (g : FormeSt → FormeSt) : (s.modForme g).tier = s.tier := rfl
@[simp] theorem modForme_lc (g : FormeSt → FormeSt) : (s.modForme g).lc = s.lc := rfl
@[simp] theorem modForme_gal (g : FormeSt → FormeSt) : (s.modForme g).gal = s.gal := rfl
@[simp] theorem modForme_net (g : FormeSt → FormeSt) : (s.modForme g).net = s.net := rfl
@[simp] theorem modForme_rgn (g : FormeSt → FormeSt) : (s.modForme g).rgn = s.rgn := rfl
@[simp] theorem modForme_dq (g : FormeSt → FormeSt) : (s.modForme g).dq = s.dq := rfl
@[simp] theorem modForme_keys (g : FormeSt → FormeSt) : (s.modForme g).keys = s.keys := rfl
@[simp] theorem modForme_mem (g : FormeSt → FormeSt) : (s.modForme g).mem = s.mem := rfl
@[simp] theorem modForme_fm (g : FormeSt → FormeSt) : (s.modForme g).fm = s.fm := rfl
@[simp] theorem modForme_nand (g : FormeSt → FormeSt) : (s.modForme g).nand = s.nand := rfl
@[simp] theorem modForme_db (g : FormeSt → FormeSt) : (s.modForme g).db = s.db := rfl
@[simp] theorem modForme_jrn (g : FormeSt → FormeSt) : (s.modForme g).jrn = s.jrn := rfl
@[simp] theorem modForme_twin (g : FormeSt → FormeSt) : (s.modForme g).twin = s.twin := rfl
@[simp] theorem modForme_forme (g : FormeSt → FormeSt) : (s.modForme g).forme = g s.forme := rfl
@[simp] theorem modForme_sent (g : FormeSt → FormeSt) : (s.modForme g).sent = s.sent := rfl
@[simp] theorem modForme_free (g : FormeSt → FormeSt) : (s.modForme g).free = s.free := rfl
@[simp] theorem post_regs (c u p q r : Nat) : (s.post c u p q r).regs = s.regs := by unfold Dev.post; rfl
@[simp] theorem postOpen_regs (c u : Nat) (l : List Nat) : (s.postOpen c u l).regs = s.regs := by unfold Dev.postOpen Dev.post; rfl
@[simp] theorem emit_regs (o : Out) : (s.emit o).regs = s.regs := rfl
@[simp] theorem drawn_regs : (s.drawn).regs = s.regs := rfl
@[simp] theorem set_evt (x : Fld) (v : Nat) : (s.set x v).evt = s.evt := rfl
@[simp] theorem setShadow_evt (x : Fld) (v : Nat) : (s.setShadow x v).evt = s.evt := rfl
@[simp] theorem setB_evt (x : Fld) (b : Bool) : (s.setB x b).evt = s.evt := rfl
@[simp] theorem inc_evt (x : Fld) (n : Nat) : (s.inc x n).evt = s.evt := rfl
@[simp] theorem orF_evt (x : Fld) (n : Nat) : (s.orF x n).evt = s.evt := rfl
@[simp] theorem maxF_evt (x : Fld) (n : Nat) : (s.maxF x n).evt = s.evt := rfl
@[simp] theorem emit_evt (o : Out) : (s.emit o).evt = s.evt := rfl
@[simp] theorem drawn_evt : (s.drawn).evt = s.evt := rfl
@[simp] theorem set_sp (x : Fld) (v : Nat) : (s.set x v).sp = s.sp := rfl
@[simp] theorem setShadow_sp (x : Fld) (v : Nat) : (s.setShadow x v).sp = s.sp := rfl
@[simp] theorem setB_sp (x : Fld) (b : Bool) : (s.setB x b).sp = s.sp := rfl
@[simp] theorem inc_sp (x : Fld) (n : Nat) : (s.inc x n).sp = s.sp := rfl
@[simp] theorem orF_sp (x : Fld) (n : Nat) : (s.orF x n).sp = s.sp := rfl
@[simp] theorem maxF_sp (x : Fld) (n : Nat) : (s.maxF x n).sp = s.sp := rfl
@[simp] theorem post_sp (c u p q r : Nat) : (s.post c u p q r).sp = s.sp := by unfold Dev.post; rfl
@[simp] theorem postOpen_sp (c u : Nat) (l : List Nat) : (s.postOpen c u l).sp = s.sp := by unfold Dev.postOpen Dev.post; rfl
@[simp] theorem emit_sp (o : Out) : (s.emit o).sp = s.sp := rfl
@[simp] theorem drawn_sp : (s.drawn).sp = s.sp := rfl
@[simp] theorem set_mode (x : Fld) (v : Nat) : (s.set x v).mode = s.mode := rfl
@[simp] theorem setShadow_mode (x : Fld) (v : Nat) : (s.setShadow x v).mode = s.mode := rfl
@[simp] theorem setB_mode (x : Fld) (b : Bool) : (s.setB x b).mode = s.mode := rfl
@[simp] theorem inc_mode (x : Fld) (n : Nat) : (s.inc x n).mode = s.mode := rfl
@[simp] theorem orF_mode (x : Fld) (n : Nat) : (s.orF x n).mode = s.mode := rfl
@[simp] theorem maxF_mode (x : Fld) (n : Nat) : (s.maxF x n).mode = s.mode := rfl
@[simp] theorem post_mode (c u p q r : Nat) : (s.post c u p q r).mode = s.mode := by unfold Dev.post; rfl
@[simp] theorem postOpen_mode (c u : Nat) (l : List Nat) : (s.postOpen c u l).mode = s.mode := by unfold Dev.postOpen Dev.post; rfl
@[simp] theorem emit_mode (o : Out) : (s.emit o).mode = s.mode := rfl
@[simp] theorem drawn_mode : (s.drawn).mode = s.mode := rfl
@[simp] theorem set_pwr (x : Fld) (v : Nat) : (s.set x v).pwr = s.pwr := rfl
@[simp] theorem setShadow_pwr (x : Fld) (v : Nat) : (s.setShadow x v).pwr = s.pwr := rfl
@[simp] theorem setB_pwr (x : Fld) (b : Bool) : (s.setB x b).pwr = s.pwr := rfl
@[simp] theorem inc_pwr (x : Fld) (n : Nat) : (s.inc x n).pwr = s.pwr := rfl
@[simp] theorem orF_pwr (x : Fld) (n : Nat) : (s.orF x n).pwr = s.pwr := rfl
@[simp] theorem maxF_pwr (x : Fld) (n : Nat) : (s.maxF x n).pwr = s.pwr := rfl
@[simp] theorem post_pwr (c u p q r : Nat) : (s.post c u p q r).pwr = s.pwr := by unfold Dev.post; rfl
@[simp] theorem postOpen_pwr (c u : Nat) (l : List Nat) : (s.postOpen c u l).pwr = s.pwr := by unfold Dev.postOpen Dev.post; rfl
@[simp] theorem emit_pwr (o : Out) : (s.emit o).pwr = s.pwr := rfl
@[simp] theorem drawn_pwr : (s.drawn).pwr = s.pwr := rfl
@[simp] theorem set_therm (x : Fld) (v : Nat) : (s.set x v).therm = s.therm := rfl
@[simp] theorem setShadow_therm (x : Fld) (v : Nat) : (s.setShadow x v).therm = s.therm := rfl
@[simp] theorem setB_therm (x : Fld) (b : Bool) : (s.setB x b).therm = s.therm := rfl
@[simp] theorem inc_therm (x : Fld) (n : Nat) : (s.inc x n).therm = s.therm := rfl
@[simp] theorem orF_therm (x : Fld) (n : Nat) : (s.orF x n).therm = s.therm := rfl
@[simp] theorem maxF_therm (x : Fld) (n : Nat) : (s.maxF x n).therm = s.therm := rfl
@[simp] theorem post_therm (c u p q r : Nat) : (s.post c u p q r).therm = s.therm := by unfold Dev.post; rfl
@[simp] theorem postOpen_therm (c u : Nat) (l : List Nat) : (s.postOpen c u l).therm = s.therm := by unfold Dev.postOpen Dev.post; rfl
@[simp] theorem emit_therm (o : Out) : (s.emit o).therm = s.therm := rfl
@[simp] theorem drawn_therm : (s.drawn).therm = s.therm := rfl
@[simp] theorem set_cal (x : Fld) (v : Nat) : (s.set x v).cal = s.cal := rfl
@[simp] theorem setShadow_cal (x : Fld) (v : Nat) : (s.setShadow x v).cal = s.cal := rfl
@[simp] theorem setB_cal (x : Fld) (b : Bool) : (s.setB x b).cal = s.cal := rfl
@[simp] theorem inc_cal (x : Fld) (n : Nat) : (s.inc x n).cal = s.cal := rfl
@[simp] theorem orF_cal (x : Fld) (n : Nat) : (s.orF x n).cal = s.cal := rfl
@[simp] theorem maxF_cal (x : Fld) (n : Nat) : (s.maxF x n).cal = s.cal := rfl
@[simp] theorem post_cal (c u p q r : Nat) : (s.post c u p q r).cal = s.cal := by unfold Dev.post; rfl
@[simp] theorem postOpen_cal (c u : Nat) (l : List Nat) : (s.postOpen c u l).cal = s.cal := by unfold Dev.postOpen Dev.post; rfl
@[simp] theorem emit_cal (o : Out) : (s.emit o).cal = s.cal := rfl
@[simp] theorem drawn_cal : (s.drawn).cal = s.cal := rfl
@[simp] theorem set_integ (x : Fld) (v : Nat) : (s.set x v).integ = s.integ := rfl
@[simp] theorem setShadow_integ (x : Fld) (v : Nat) : (s.setShadow x v).integ = s.integ := rfl
@[simp] theorem setB_integ (x : Fld) (b : Bool) : (s.setB x b).integ = s.integ := rfl
@[simp] theorem inc_integ (x : Fld) (n : Nat) : (s.inc x n).integ = s.integ := rfl
@[simp] theorem orF_integ (x : Fld) (n : Nat) : (s.orF x n).integ = s.integ := rfl
@[simp] theorem maxF_integ (x : Fld) (n : Nat) : (s.maxF x n).integ = s.integ := rfl
@[simp] theorem post_integ (c u p q r : Nat) : (s.post c u p q r).integ = s.integ := by unfold Dev.post; rfl
@[simp] theorem postOpen_integ (c u : Nat) (l : List Nat) : (s.postOpen c u l).integ = s.integ := by unfold Dev.postOpen Dev.post; rfl
@[simp] theorem emit_integ (o : Out) : (s.emit o).integ = s.integ := rfl
@[simp] theorem drawn_integ : (s.drawn).integ = s.integ := rfl
@[simp] theorem set_tier (x : Fld) (v : Nat) : (s.set x v).tier = s.tier := rfl
@[simp] theorem setShadow_tier (x : Fld) (v : Nat) : (s.setShadow x v).tier = s.tier := rfl
@[simp] theorem setB_tier (x : Fld) (b : Bool) : (s.setB x b).tier = s.tier := rfl
@[simp] theorem inc_tier (x : Fld) (n : Nat) : (s.inc x n).tier = s.tier := rfl
@[simp] theorem orF_tier (x : Fld) (n : Nat) : (s.orF x n).tier = s.tier := rfl
@[simp] theorem maxF_tier (x : Fld) (n : Nat) : (s.maxF x n).tier = s.tier := rfl
@[simp] theorem post_tier (c u p q r : Nat) : (s.post c u p q r).tier = s.tier := by unfold Dev.post; rfl
@[simp] theorem postOpen_tier (c u : Nat) (l : List Nat) : (s.postOpen c u l).tier = s.tier := by unfold Dev.postOpen Dev.post; rfl
@[simp] theorem emit_tier (o : Out) : (s.emit o).tier = s.tier := rfl
@[simp] theorem drawn_tier : (s.drawn).tier = s.tier := rfl
@[simp] theorem set_lc (x : Fld) (v : Nat) : (s.set x v).lc = s.lc := rfl
@[simp] theorem setShadow_lc (x : Fld) (v : Nat) : (s.setShadow x v).lc = s.lc := rfl
@[simp] theorem setB_lc (x : Fld) (b : Bool) : (s.setB x b).lc = s.lc := rfl
@[simp] theorem inc_lc (x : Fld) (n : Nat) : (s.inc x n).lc = s.lc := rfl
@[simp] theorem orF_lc (x : Fld) (n : Nat) : (s.orF x n).lc = s.lc := rfl
@[simp] theorem maxF_lc (x : Fld) (n : Nat) : (s.maxF x n).lc = s.lc := rfl
@[simp] theorem post_lc (c u p q r : Nat) : (s.post c u p q r).lc = s.lc := by unfold Dev.post; rfl
@[simp] theorem postOpen_lc (c u : Nat) (l : List Nat) : (s.postOpen c u l).lc = s.lc := by unfold Dev.postOpen Dev.post; rfl
@[simp] theorem emit_lc (o : Out) : (s.emit o).lc = s.lc := rfl
@[simp] theorem drawn_lc : (s.drawn).lc = s.lc := rfl
@[simp] theorem set_gal (x : Fld) (v : Nat) : (s.set x v).gal = s.gal := rfl
@[simp] theorem setShadow_gal (x : Fld) (v : Nat) : (s.setShadow x v).gal = s.gal := rfl
@[simp] theorem setB_gal (x : Fld) (b : Bool) : (s.setB x b).gal = s.gal := rfl
@[simp] theorem inc_gal (x : Fld) (n : Nat) : (s.inc x n).gal = s.gal := rfl
@[simp] theorem orF_gal (x : Fld) (n : Nat) : (s.orF x n).gal = s.gal := rfl
@[simp] theorem maxF_gal (x : Fld) (n : Nat) : (s.maxF x n).gal = s.gal := rfl
@[simp] theorem post_gal (c u p q r : Nat) : (s.post c u p q r).gal = s.gal := by unfold Dev.post; rfl
@[simp] theorem postOpen_gal (c u : Nat) (l : List Nat) : (s.postOpen c u l).gal = s.gal := by unfold Dev.postOpen Dev.post; rfl
@[simp] theorem emit_gal (o : Out) : (s.emit o).gal = s.gal := rfl
@[simp] theorem drawn_gal : (s.drawn).gal = s.gal := rfl
@[simp] theorem set_net (x : Fld) (v : Nat) : (s.set x v).net = s.net := rfl
@[simp] theorem setShadow_net (x : Fld) (v : Nat) : (s.setShadow x v).net = s.net := rfl
@[simp] theorem setB_net (x : Fld) (b : Bool) : (s.setB x b).net = s.net := rfl
@[simp] theorem inc_net (x : Fld) (n : Nat) : (s.inc x n).net = s.net := rfl
@[simp] theorem orF_net (x : Fld) (n : Nat) : (s.orF x n).net = s.net := rfl
@[simp] theorem maxF_net (x : Fld) (n : Nat) : (s.maxF x n).net = s.net := rfl
@[simp] theorem post_net (c u p q r : Nat) : (s.post c u p q r).net = s.net := by unfold Dev.post; rfl
@[simp] theorem postOpen_net (c u : Nat) (l : List Nat) : (s.postOpen c u l).net = s.net := by unfold Dev.postOpen Dev.post; rfl
@[simp] theorem emit_net (o : Out) : (s.emit o).net = s.net := rfl
@[simp] theorem drawn_net : (s.drawn).net = s.net := rfl
@[simp] theorem set_rgn (x : Fld) (v : Nat) : (s.set x v).rgn = s.rgn := rfl
@[simp] theorem setShadow_rgn (x : Fld) (v : Nat) : (s.setShadow x v).rgn = s.rgn := rfl
@[simp] theorem setB_rgn (x : Fld) (b : Bool) : (s.setB x b).rgn = s.rgn := rfl
@[simp] theorem inc_rgn (x : Fld) (n : Nat) : (s.inc x n).rgn = s.rgn := rfl
@[simp] theorem orF_rgn (x : Fld) (n : Nat) : (s.orF x n).rgn = s.rgn := rfl
@[simp] theorem maxF_rgn (x : Fld) (n : Nat) : (s.maxF x n).rgn = s.rgn := rfl
@[simp] theorem post_rgn (c u p q r : Nat) : (s.post c u p q r).rgn = s.rgn := by unfold Dev.post; rfl
@[simp] theorem postOpen_rgn (c u : Nat) (l : List Nat) : (s.postOpen c u l).rgn = s.rgn := by unfold Dev.postOpen Dev.post; rfl
@[simp] theorem emit_rgn (o : Out) : (s.emit o).rgn = s.rgn := rfl
@[simp] theorem drawn_rgn : (s.drawn).rgn = s.rgn := rfl
@[simp] theorem set_dq (x : Fld) (v : Nat) : (s.set x v).dq = s.dq := rfl
@[simp] theorem setShadow_dq (x : Fld) (v : Nat) : (s.setShadow x v).dq = s.dq := rfl
@[simp] theorem setB_dq (x : Fld) (b : Bool) : (s.setB x b).dq = s.dq := rfl
@[simp] theorem inc_dq (x : Fld) (n : Nat) : (s.inc x n).dq = s.dq := rfl
@[simp] theorem orF_dq (x : Fld) (n : Nat) : (s.orF x n).dq = s.dq := rfl
@[simp] theorem maxF_dq (x : Fld) (n : Nat) : (s.maxF x n).dq = s.dq := rfl
@[simp] theorem post_dq (c u p q r : Nat) : (s.post c u p q r).dq = s.dq := by unfold Dev.post; rfl
@[simp] theorem postOpen_dq (c u : Nat) (l : List Nat) : (s.postOpen c u l).dq = s.dq := by unfold Dev.postOpen Dev.post; rfl
@[simp] theorem emit_dq (o : Out) : (s.emit o).dq = s.dq := rfl
@[simp] theorem drawn_dq : (s.drawn).dq = s.dq := rfl
@[simp] theorem set_keys (x : Fld) (v : Nat) : (s.set x v).keys = s.keys := rfl
@[simp] theorem setShadow_keys (x : Fld) (v : Nat) : (s.setShadow x v).keys = s.keys := rfl
@[simp] theorem setB_keys (x : Fld) (b : Bool) : (s.setB x b).keys = s.keys := rfl
@[simp] theorem inc_keys (x : Fld) (n : Nat) : (s.inc x n).keys = s.keys := rfl
@[simp] theorem orF_keys (x : Fld) (n : Nat) : (s.orF x n).keys = s.keys := rfl
@[simp] theorem maxF_keys (x : Fld) (n : Nat) : (s.maxF x n).keys = s.keys := rfl
@[simp] theorem post_keys (c u p q r : Nat) : (s.post c u p q r).keys = s.keys := by unfold Dev.post; rfl
@[simp] theorem postOpen_keys (c u : Nat) (l : List Nat) : (s.postOpen c u l).keys = s.keys := by unfold Dev.postOpen Dev.post; rfl
@[simp] theorem emit_keys (o : Out) : (s.emit o).keys = s.keys := rfl
@[simp] theorem drawn_keys : (s.drawn).keys = s.keys := rfl
@[simp] theorem set_mem (x : Fld) (v : Nat) : (s.set x v).mem = s.mem := rfl
@[simp] theorem setShadow_mem (x : Fld) (v : Nat) : (s.setShadow x v).mem = s.mem := rfl
@[simp] theorem setB_mem (x : Fld) (b : Bool) : (s.setB x b).mem = s.mem := rfl
@[simp] theorem inc_mem (x : Fld) (n : Nat) : (s.inc x n).mem = s.mem := rfl
@[simp] theorem orF_mem (x : Fld) (n : Nat) : (s.orF x n).mem = s.mem := rfl
@[simp] theorem maxF_mem (x : Fld) (n : Nat) : (s.maxF x n).mem = s.mem := rfl
@[simp] theorem post_mem (c u p q r : Nat) : (s.post c u p q r).mem = s.mem := by unfold Dev.post; rfl
@[simp] theorem postOpen_mem (c u : Nat) (l : List Nat) : (s.postOpen c u l).mem = s.mem := by unfold Dev.postOpen Dev.post; rfl
@[simp] theorem emit_mem (o : Out) : (s.emit o).mem = s.mem := rfl
@[simp] theorem drawn_mem : (s.drawn).mem = s.mem := rfl
@[simp] theorem set_fm (x : Fld) (v : Nat) : (s.set x v).fm = s.fm := rfl
@[simp] theorem setShadow_fm (x : Fld) (v : Nat) : (s.setShadow x v).fm = s.fm := rfl
@[simp] theorem setB_fm (x : Fld) (b : Bool) : (s.setB x b).fm = s.fm := rfl
@[simp] theorem inc_fm (x : Fld) (n : Nat) : (s.inc x n).fm = s.fm := rfl
@[simp] theorem orF_fm (x : Fld) (n : Nat) : (s.orF x n).fm = s.fm := rfl
@[simp] theorem maxF_fm (x : Fld) (n : Nat) : (s.maxF x n).fm = s.fm := rfl
@[simp] theorem post_fm (c u p q r : Nat) : (s.post c u p q r).fm = s.fm := by unfold Dev.post; rfl
@[simp] theorem postOpen_fm (c u : Nat) (l : List Nat) : (s.postOpen c u l).fm = s.fm := by unfold Dev.postOpen Dev.post; rfl
@[simp] theorem emit_fm (o : Out) : (s.emit o).fm = s.fm := rfl
@[simp] theorem drawn_fm : (s.drawn).fm = s.fm := rfl
@[simp] theorem set_nand (x : Fld) (v : Nat) : (s.set x v).nand = s.nand := rfl
@[simp] theorem setShadow_nand (x : Fld) (v : Nat) : (s.setShadow x v).nand = s.nand := rfl
@[simp] theorem setB_nand (x : Fld) (b : Bool) : (s.setB x b).nand = s.nand := rfl
@[simp] theorem inc_nand (x : Fld) (n : Nat) : (s.inc x n).nand = s.nand := rfl
@[simp] theorem orF_nand (x : Fld) (n : Nat) : (s.orF x n).nand = s.nand := rfl
@[simp] theorem maxF_nand (x : Fld) (n : Nat) : (s.maxF x n).nand = s.nand := rfl
@[simp] theorem post_nand (c u p q r : Nat) : (s.post c u p q r).nand = s.nand := by unfold Dev.post; rfl
@[simp] theorem postOpen_nand (c u : Nat) (l : List Nat) : (s.postOpen c u l).nand = s.nand := by unfold Dev.postOpen Dev.post; rfl
@[simp] theorem emit_nand (o : Out) : (s.emit o).nand = s.nand := rfl
@[simp] theorem drawn_nand : (s.drawn).nand = s.nand := rfl
@[simp] theorem set_db (x : Fld) (v : Nat) : (s.set x v).db = s.db := rfl
@[simp] theorem setShadow_db (x : Fld) (v : Nat) : (s.setShadow x v).db = s.db := rfl
@[simp] theorem setB_db (x : Fld) (b : Bool) : (s.setB x b).db = s.db := rfl
@[simp] theorem inc_db (x : Fld) (n : Nat) : (s.inc x n).db = s.db := rfl
@[simp] theorem orF_db (x : Fld) (n : Nat) : (s.orF x n).db = s.db := rfl
@[simp] theorem maxF_db (x : Fld) (n : Nat) : (s.maxF x n).db = s.db := rfl
@[simp] theorem post_db (c u p q r : Nat) : (s.post c u p q r).db = s.db := by unfold Dev.post; rfl
@[simp] theorem postOpen_db (c u : Nat) (l : List Nat) : (s.postOpen c u l).db = s.db := by unfold Dev.postOpen Dev.post; rfl
@[simp] theorem emit_db (o : Out) : (s.emit o).db = s.db := rfl
@[simp] theorem drawn_db : (s.drawn).db = s.db := rfl
@[simp] theorem set_jrn (x : Fld) (v : Nat) : (s.set x v).jrn = s.jrn := rfl
@[simp] theorem setShadow_jrn (x : Fld) (v : Nat) : (s.setShadow x v).jrn = s.jrn := rfl
@[simp] theorem setB_jrn (x : Fld) (b : Bool) : (s.setB x b).jrn = s.jrn := rfl
@[simp] theorem inc_jrn (x : Fld) (n : Nat) : (s.inc x n).jrn = s.jrn := rfl
@[simp] theorem orF_jrn (x : Fld) (n : Nat) : (s.orF x n).jrn = s.jrn := rfl
@[simp] theorem maxF_jrn (x : Fld) (n : Nat) : (s.maxF x n).jrn = s.jrn := rfl
@[simp] theorem post_jrn (c u p q r : Nat) : (s.post c u p q r).jrn = s.jrn := by unfold Dev.post; rfl
@[simp] theorem postOpen_jrn (c u : Nat) (l : List Nat) : (s.postOpen c u l).jrn = s.jrn := by unfold Dev.postOpen Dev.post; rfl
@[simp] theorem emit_jrn (o : Out) : (s.emit o).jrn = s.jrn := rfl
@[simp] theorem drawn_jrn : (s.drawn).jrn = s.jrn := rfl
@[simp] theorem set_twin (x : Fld) (v : Nat) : (s.set x v).twin = s.twin := rfl
@[simp] theorem setShadow_twin (x : Fld) (v : Nat) : (s.setShadow x v).twin = s.twin := rfl
@[simp] theorem setB_twin (x : Fld) (b : Bool) : (s.setB x b).twin = s.twin := rfl
@[simp] theorem inc_twin (x : Fld) (n : Nat) : (s.inc x n).twin = s.twin := rfl
@[simp] theorem orF_twin (x : Fld) (n : Nat) : (s.orF x n).twin = s.twin := rfl
@[simp] theorem maxF_twin (x : Fld) (n : Nat) : (s.maxF x n).twin = s.twin := rfl
@[simp] theorem post_twin (c u p q r : Nat) : (s.post c u p q r).twin = s.twin := by unfold Dev.post; rfl
@[simp] theorem postOpen_twin (c u : Nat) (l : List Nat) : (s.postOpen c u l).twin = s.twin := by unfold Dev.postOpen Dev.post; rfl
@[simp] theorem emit_twin (o : Out) : (s.emit o).twin = s.twin := rfl
@[simp] theorem drawn_twin : (s.drawn).twin = s.twin := rfl
@[simp] theorem set_forme (x : Fld) (v : Nat) : (s.set x v).forme = s.forme := rfl
@[simp] theorem setShadow_forme (x : Fld) (v : Nat) : (s.setShadow x v).forme = s.forme := rfl
@[simp] theorem setB_forme (x : Fld) (b : Bool) : (s.setB x b).forme = s.forme := rfl
@[simp] theorem inc_forme (x : Fld) (n : Nat) : (s.inc x n).forme = s.forme := rfl
@[simp] theorem orF_forme (x : Fld) (n : Nat) : (s.orF x n).forme = s.forme := rfl
@[simp] theorem maxF_forme (x : Fld) (n : Nat) : (s.maxF x n).forme = s.forme := rfl
@[simp] theorem post_forme (c u p q r : Nat) : (s.post c u p q r).forme = s.forme := by unfold Dev.post; rfl
@[simp] theorem postOpen_forme (c u : Nat) (l : List Nat) : (s.postOpen c u l).forme = s.forme := by unfold Dev.postOpen Dev.post; rfl
@[simp] theorem emit_forme (o : Out) : (s.emit o).forme = s.forme := rfl
@[simp] theorem drawn_forme : (s.drawn).forme = s.forme := rfl
@[simp] theorem set_sent (x : Fld) (v : Nat) : (s.set x v).sent = s.sent := rfl
@[simp] theorem setShadow_sent (x : Fld) (v : Nat) : (s.setShadow x v).sent = s.sent := rfl
@[simp] theorem setB_sent (x : Fld) (b : Bool) : (s.setB x b).sent = s.sent := rfl
@[simp] theorem inc_sent (x : Fld) (n : Nat) : (s.inc x n).sent = s.sent := rfl
@[simp] theorem orF_sent (x : Fld) (n : Nat) : (s.orF x n).sent = s.sent := rfl
@[simp] theorem maxF_sent (x : Fld) (n : Nat) : (s.maxF x n).sent = s.sent := rfl
@[simp] theorem post_sent (c u p q r : Nat) : (s.post c u p q r).sent = s.sent := by unfold Dev.post; rfl
@[simp] theorem postOpen_sent (c u : Nat) (l : List Nat) : (s.postOpen c u l).sent = s.sent := by unfold Dev.postOpen Dev.post; rfl
@[simp] theorem drawn_sent : (s.drawn).sent = s.sent := rfl
@[simp] theorem set_free (x : Fld) (v : Nat) : (s.set x v).free = s.free := rfl
@[simp] theorem setShadow_free (x : Fld) (v : Nat) : (s.setShadow x v).free = s.free := rfl
@[simp] theorem setB_free (x : Fld) (b : Bool) : (s.setB x b).free = s.free := rfl
@[simp] theorem inc_free (x : Fld) (n : Nat) : (s.inc x n).free = s.free := rfl
@[simp] theorem orF_free (x : Fld) (n : Nat) : (s.orF x n).free = s.free := rfl
@[simp] theorem maxF_free (x : Fld) (n : Nat) : (s.maxF x n).free = s.free := rfl
@[simp] theorem post_free (c u p q r : Nat) : (s.post c u p q r).free = s.free := by unfold Dev.post; rfl
@[simp] theorem emit_free (o : Out) : (s.emit o).free = s.free := rfl

end Sys2Proof.Machine
end

