-- ==== Sys2Proof/Laws/Tab.lean ====
section
/-!
SUPPORT. The laws of sparse tables: what a read finds after a write, and the canonical form, which every operation keeps.
-/

namespace Sys2Proof

namespace Laws

variable {V : Type}

/-- A read after a put: the new entry at its key, the old one elsewhere. -/
theorem tab_get_put (t : Tab V) (k j : Nat) (v : V) : (t.put k v).get? j = if k = j then some v else t.get? j := by
  induction t with
  | nil => simp [Tab.put, Tab.get?]
  | cons e t ih =>
    obtain ⟨a, b⟩ := e
    simp only [Tab.put]
    split
    · by_cases h : k = j <;> simp [Tab.get?, h]
    · split
      · rename_i h1 h2
        subst h2
        by_cases h : a = j <;> simp [Tab.get?, h]
      · rename_i h1 h2
        simp only [Tab.get?, ih]
        by_cases h : a = j
        · subst h
          simp [show ¬ k = a from fun h' => h2 h'.symm]
        · simp [h]

/-- A read after a removal. -/
theorem tab_get_del (t : Tab V) (k j : Nat) : (t.del k).get? j = if k = j then none else t.get? j := by
  induction t with
  | nil => simp [Tab.del, Tab.get?]
  | cons e t ih =>
    obtain ⟨a, b⟩ := e
    unfold Tab.del at ih ⊢
    by_cases h : a = k
    · subst h
      simp only [List.filter, bne_self_eq_false, ih, Tab.get?]
      by_cases h2 : a = j <;> simp [h2]
    · have hb : (a != k) = true := by simp [h]
      simp only [List.filter, hb, Tab.get?, ih]
      by_cases h2 : a = j
      · subst h2
        simp [show ¬ k = a from fun h' => h h'.symm]
      · simp [h2]

/-- Every key of a table is above a bound. -/
def above (k : Nat) (t : Tab V) : Prop := ∀ e ∈ t, k < e.1

/-- The canonical form: each key is below all later ones. -/
theorem tab_wf_cons (e : Nat × V) (t : Tab V) : Tab.wf (e :: t) = true ↔ above e.1 t ∧ Tab.wf t = true := by
  induction t generalizing e with
  | nil => simp [Tab.wf, above]
  | cons d t ih =>
    simp only [Tab.wf, Bool.and_eq_true, decide_eq_true_eq, ih d]
    constructor
    · rintro ⟨h, h2, h3⟩
      refine ⟨?_, h2, h3⟩
      intro x hx
      rcases List.mem_cons.1 hx with rfl | hx
      · exact h
      · exact Nat.lt_trans h (h2 x hx)
    · rintro ⟨h, h2, h3⟩
      exact ⟨h d (List.mem_cons_self ..), h2, h3⟩

/-- A removal keeps the canonical form, as every filter does. -/
theorem tab_wf_filter (t : Tab V) (p : Nat × V → Bool) (h : Tab.wf t = true) : Tab.wf (t.filter p) = true := by
  induction t with
  | nil => simp [Tab.wf]
  | cons e t ih =>
    have h' := (tab_wf_cons e t).1 h
    simp only [List.filter]
    split
    · refine (tab_wf_cons e _).2 ⟨?_, ih h'.2⟩
      intro x hx
      exact h'.1 x (List.mem_filter.1 hx).1
    · exact ih h'.2

/-- A put keeps every key above a bound that the new key is above. -/
theorem above_put (t : Tab V) (b k : Nat) (v : V) (h : above b t) (hk : b < k) : above b (t.put k v) := by
  induction t with
  | nil => intro e he; simp [Tab.put] at he; subst he; exact hk
  | cons d t ih =>
    obtain ⟨a, c⟩ := d
    have ha : b < a := h (a, c) (List.mem_cons_self ..)
    have ht : above b t := fun e he => h e (List.mem_cons_of_mem _ he)
    simp only [Tab.put]
    split
    · intro e he
      rcases List.mem_cons.1 he with rfl | he
      · exact hk
      · exact h e he
    · split
      · intro e he
        rcases List.mem_cons.1 he with rfl | he
        · exact hk
        · exact ht e he
      · intro e he
        rcases List.mem_cons.1 he with rfl | he
        · exact ha
        · exact ih ht e he

/-- A put keeps the canonical form. -/
theorem tab_wf_put (t : Tab V) (k : Nat) (v : V) (h : Tab.wf t = true) : Tab.wf (t.put k v) = true := by
  induction t with
  | nil => simp [Tab.put, Tab.wf]
  | cons d t ih =>
    obtain ⟨a, c⟩ := d
    have h' := (tab_wf_cons (a, c) t).1 h
    simp only [Tab.put]
    split
    · rename_i hk
      refine (tab_wf_cons (k, v) _).2 ⟨?_, h⟩
      intro e he
      rcases List.mem_cons.1 he with rfl | he
      · exact hk
      · exact Nat.lt_trans hk (h'.1 e he)
    · split
      · rename_i h1 h2
        subst h2
        exact (tab_wf_cons (a, v) t).2 h'
      · rename_i h1 h2
        refine (tab_wf_cons (a, c) _).2 ⟨above_put t a k v h'.1 ?_, ih h'.2⟩
        try simp only at h1 h2
        omega

/-- A removal keeps the canonical form. -/
theorem tab_wf_del (t : Tab V) (k : Nat) (h : Tab.wf t = true) : Tab.wf (t.del k) = true := tab_wf_filter t _ h

/-- A filter by key and entry keeps the canonical form. -/
theorem tab_wf_keep (t : Tab V) (p : Nat → V → Bool) (h : Tab.wf t = true) : Tab.wf (t.keep p) = true := tab_wf_filter t _ h

/-- An update keeps every key above a bound. -/
theorem above_upd (t : Tab V) (b k : Nat) (f : V → V) (h : above b t) : above b (t.upd k f) := by
  induction t with
  | nil => simpa [Tab.upd] using h
  | cons d t ih =>
    obtain ⟨a, c⟩ := d
    have ht : above b t := fun e he => h e (List.mem_cons_of_mem _ he)
    have ha : b < a := h (a, c) (List.mem_cons_self ..)
    simp only [Tab.upd]
    split
    · intro e he
      rcases List.mem_cons.1 he with rfl | he
      · exact ha
      · exact ht e he
    · intro e he
      rcases List.mem_cons.1 he with rfl | he
      · exact ha
      · exact ih ht e he

/-- An update of an entry keeps the canonical form. -/
theorem tab_wf_upd (t : Tab V) (k : Nat) (f : V → V) (h : Tab.wf t = true) : Tab.wf (t.upd k f) = true := by
  induction t with
  | nil => exact h
  | cons d t ih =>
    obtain ⟨a, c⟩ := d
    have h' := (tab_wf_cons (a, c) t).1 h
    simp only [Tab.upd]
    split
    · exact (tab_wf_cons (a, f c) t).2 h'
    · exact (tab_wf_cons (a, c) _).2 ⟨above_upd t a k f h'.1, ih h'.2⟩

/-- A read after an update: the changed entry at its key, the old one elsewhere. -/
theorem tab_get_upd (t : Tab V) (k j : Nat) (f : V → V) : (t.upd k f).get? j = if k = j then (t.get? j).map f else t.get? j := by
  induction t with
  | nil => simp [Tab.upd, Tab.get?]
  | cons d t ih =>
    obtain ⟨a, c⟩ := d
    simp only [Tab.upd]
    split
    · rename_i h1
      subst h1
      by_cases h : a = j <;> simp [Tab.get?, h]
    · rename_i h1
      simp only [Tab.get?, ih]
      by_cases h : a = j
      · subst h
        simp [show ¬ k = a from fun h' => h1 h'.symm]
      · simp [h]

/-- Two updates of one entry are one. -/
theorem tab_upd_upd (t : Tab V) (k : Nat) (f g : V → V) : (t.upd k f).upd k g = t.upd k (fun v => g (f v)) := by
  induction t with
  | nil => rfl
  | cons d t ih =>
    obtain ⟨a, c⟩ := d
    by_cases h : a = k <;> simp [Tab.upd, h, ih]

/-- An update looks at its entry alone. -/
theorem tab_upd_congr (t : Tab V) (k : Nat) (v : V) (f g : V → V) (h : t.get? k = some v) (e : f v = g v) : t.upd k f = t.upd k g := by
  induction t with
  | nil => rfl
  | cons d t ih =>
    obtain ⟨a, c⟩ := d
    by_cases hk : a = k
    · simp [Tab.get?, hk] at h
      subst h
      simp [Tab.upd, hk, e]
    · simp [Tab.get?, hk] at h
      simp [Tab.upd, hk, ih h]

end Laws

end Sys2Proof
end

