-- ==== Sys2Proof/Laws/Ops.lean ====
section
/-!
SUPPORT. What the shared operations do: reads of register fields after each of them, and what a command's outcome is made of.
-/

namespace Sys2Proof.Machine

open Sys2Proof

/-! ### Register fields -/

/-- A field holds what was set, cut to its width. -/
@[simp] theorem get_set_self (s : Dev) (f : Fld) (v : Nat) : (s.set f v).get f = v % 2 ^ f.width := by
  unfold Dev.get Dev.set putField Tab.getD
  by_cases h : v % 2 ^ f.width = f.reset
  · rw [if_pos h, Laws.tab_get_del, if_pos rfl, Option.getD_none, ← h, Nat.mod_mod]
  · rw [if_neg h, Laws.tab_get_put, if_pos rfl, Option.getD_some, Nat.mod_mod]

/-- A field keeps its value where another is set. -/
theorem get_set_ne (s : Dev) {f g : Fld} (v : Nat) (h : f.key ≠ g.key) : (s.set f v).get g = s.get g := by
  unfold Dev.get Dev.set putField Tab.getD
  by_cases h2 : v % 2 ^ f.width = f.reset
  · simp only [h2, if_true, Laws.tab_get_del, h, if_false]
  · simp only [h2, if_false, Laws.tab_get_put, h]

/-- A field's value lies within its width. -/
theorem get_lt (s : Dev) (f : Fld) : s.get f < 2 ^ f.width := Nat.mod_lt _ (Nat.two_pow_pos _)

/-- A shadow keeps its value where an active field is set. -/
@[simp] theorem shadow_set (s : Dev) (f g : Fld) (v : Nat) : (s.set f v).shadow g = s.shadow g := rfl

/-- An active field keeps its value where a shadow is set (R9). -/
@[simp] theorem get_setShadow (s : Dev) (f g : Fld) (v : Nat) : (s.setShadow f v).get g = s.get g := rfl

/-- A read of a shadow after it was set. -/
@[simp] theorem shadow_setShadow_self (s : Dev) (f : Fld) (v : Nat) : (s.setShadow f v).shadow f = v % 2 ^ f.width := by
  unfold Dev.shadow Dev.setShadow putField Tab.getD
  by_cases h : v % 2 ^ f.width = f.reset
  · rw [if_pos h, Laws.tab_get_del, if_pos rfl, Option.getD_none, ← h, Nat.mod_mod]
  · rw [if_neg h, Laws.tab_get_put, if_pos rfl, Option.getD_some, Nat.mod_mod]

/-- A shadow keeps its value where another is set. -/
theorem shadow_setShadow_ne (s : Dev) {f g : Fld} (v : Nat) (h : f.key ≠ g.key) : (s.setShadow f v).shadow g = s.shadow g := by
  unfold Dev.shadow Dev.setShadow putField Tab.getD
  by_cases h2 : v % 2 ^ f.width = f.reset <;> simp [h, h2, Laws.tab_get_put, Laws.tab_get_del]

/-- A counter's read after it advanced. -/
theorem get_inc_self (s : Dev) (f : Fld) (n : Nat) : (s.inc f n).get f = min (s.get f + n) (2 ^ f.width - 1) := by
  unfold Dev.inc
  rw [get_set_self]
  apply Nat.mod_eq_of_lt
  have := Nat.two_pow_pos f.width
  omega

/-- Another field's read after a counter advanced. -/
theorem get_inc_ne (s : Dev) {f g : Fld} (n : Nat) (h : f.key ≠ g.key) : (s.inc f n).get g = s.get g := get_set_ne s _ h

/-- A mask's read after bits were set in it. -/
theorem get_orF_self (s : Dev) (f : Fld) (m : Nat) : (s.orF f m).get f = (s.get f ||| m) % 2 ^ f.width := get_set_self s f _

/-- Another field's read after bits were set in a mask. -/
theorem get_orF_ne (s : Dev) {f g : Fld} (m : Nat) (h : f.key ≠ g.key) : (s.orF f m).get g = s.get g := get_set_ne s _ h

/-- Where the register files agree, every field reads the same. -/
theorem get_of_regs {s t : Dev} (h : t.regs = s.regs) (f : Fld) : t.get f = s.get f := by unfold Dev.get; rw [h]

/-- Where the register files agree, the mode is the same. -/
theorem modeOf_of_regs {s t : Dev} (h : t.regs = s.regs) : t.modeOf = s.modeOf := get_of_regs h _

@[simp] theorem get_post (s : Dev) (c u p q r : Nat) (f : Fld) : (s.post c u p q r).get f = s.get f := get_of_regs (by simp) f
@[simp] theorem get_postOpen (s : Dev) (c u : Nat) (l : List Nat) (f : Fld) : (s.postOpen c u l).get f = s.get f := get_of_regs (by simp) f
@[simp] theorem get_emit (s : Dev) (o : Out) (f : Fld) : (s.emit o).get f = s.get f := rfl
@[simp] theorem get_drawn (s : Dev) (f : Fld) : s.drawn.get f = s.get f := rfl
@[simp] theorem get_modEvt (s : Dev) (g : Recorder → Recorder) (f : Fld) : (s.modEvt g).get f = s.get f := rfl
@[simp] theorem get_modSp (s : Dev) (g : SpIf → SpIf) (f : Fld) : (s.modSp g).get f = s.get f := rfl
@[simp] theorem get_modMode (s : Dev) (g : ModeSt → ModeSt) (f : Fld) : (s.modMode g).get f = s.get f := rfl
@[simp] theorem get_modPwr (s : Dev) (g : PowerSt → PowerSt) (f : Fld) : (s.modPwr g).get f = s.get f := rfl
@[simp] theorem get_modTherm (s : Dev) (g : ThermalSt → ThermalSt) (f : Fld) : (s.modTherm g).get f = s.get f := rfl
@[simp] theorem get_modCal (s : Dev) (g : CalSt → CalSt) (f : Fld) : (s.modCal g).get f = s.get f := rfl
@[simp] theorem get_modInteg (s : Dev) (g : IntegSt → IntegSt) (f : Fld) : (s.modInteg g).get f = s.get f := rfl
@[simp] theorem get_modTier (s : Dev) (g : TierSt → TierSt) (f : Fld) : (s.modTier g).get f = s.get f := rfl
@[simp] theorem get_modLc (s : Dev) (g : LcSt → LcSt) (f : Fld) : (s.modLc g).get f = s.get f := rfl
@[simp] theorem get_modGal (s : Dev) (g : GalleySt → GalleySt) (f : Fld) : (s.modGal g).get f = s.get f := rfl
@[simp] theorem get_modNet (s : Dev) (g : NetSt → NetSt) (f : Fld) : (s.modNet g).get f = s.get f := rfl
@[simp] theorem get_modRgn (s : Dev) (g : RegionSt → RegionSt) (f : Fld) : (s.modRgn g).get f = s.get f := rfl
@[simp] theorem get_modDq (s : Dev) (g : DevQs → DevQs) (f : Fld) : (s.modDq g).get f = s.get f := rfl
@[simp] theorem get_modKeys (s : Dev) (g : KeySt → KeySt) (f : Fld) : (s.modKeys g).get f = s.get f := rfl
@[simp] theorem get_modMem (s : Dev) (g : MemSt → MemSt) (f : Fld) : (s.modMem g).get f = s.get f := rfl
@[simp] theorem get_modFm (s : Dev) (g : FlashSt → FlashSt) (f : Fld) : (s.modFm g).get f = s.get f := rfl
@[simp] theorem get_modNand (s : Dev) (g : NandSt → NandSt) (f : Fld) : (s.modNand g).get f = s.get f := rfl
@[simp] theorem get_modDb (s : Dev) (g : DbSt → DbSt) (f : Fld) : (s.modDb g).get f = s.get f := rfl
@[simp] theorem get_modJrn (s : Dev) (g : JournalSt → JournalSt) (f : Fld) : (s.modJrn g).get f = s.get f := rfl
@[simp] theorem get_modTwin (s : Dev) (g : TwinSt → TwinSt) (f : Fld) : (s.modTwin g).get f = s.get f := rfl
@[simp] theorem get_modForme (s : Dev) (g : FormeSt → FormeSt) (f : Fld) : (s.modForme g).get f = s.get f := rfl

/-- The register file stays canonical where a field is set. -/
theorem regs_wf_set (s : Dev) (f : Fld) (v : Nat) (h : Tab.wf s.regs.val = true) : Tab.wf (s.set f v).regs.val = true := by
  unfold Dev.set putField
  simp only
  split
  · exact Laws.tab_wf_del _ _ h
  · exact Laws.tab_wf_put _ _ _ h

/-! ### Doorbells -/

/-- An interrupt raised or not, the registers stay. -/
@[simp] theorem raiseIbi_regs (s : Dev) (b : Nat) : (s.raiseIbi b).regs = s.regs := by
  unfold Dev.raiseIbi
  dsimp only
  split <;> rfl

/-- A ring changes no field but `DB_TO_SP`. -/
theorem get_ring (s : Dev) (b : Nat) {f : Fld} (h : f.key ≠ Fld.DB_TO_SP_BITS.key) : (s.ring b).get f = s.get f := by
  unfold Dev.ring
  split
  · rfl
  · rw [get_of_regs (raiseIbi_regs _ _), get_orF_ne _ _ (Ne.symm h)]

/-- Outside a switch-over a ring sets its bits in `DB_TO_SP` (R577). -/
theorem ring_sets (s : Dev) (b : Nat) (h : s.modeOf ≠ mSWITCHOVER) :
    (s.ring b).get .DB_TO_SP_BITS = (s.get .DB_TO_SP_BITS ||| b) % 2 ^ 32 := by
  unfold Dev.ring
  rw [if_neg h, get_of_regs (raiseIbi_regs _ _), get_orF_self]
  rfl

/-- What the summary's doorbell leaves of every field but `DB_TO_SP`. -/
theorem get_summaryRing (s : Dev) (b : Nat) {f : Fld} (h : f.key ≠ Fld.DB_TO_SP_BITS.key) : (s.summaryRing b).get f = s.get f := by
  unfold Dev.summaryRing Dev.when
  split
  · exact get_ring s 4 h
  · rfl

/-- A ring changes the active registers and the SP interface alone, and there only what is held and whether an interrupt waits. -/
theorem ring_frame (s : Dev) (b : Nat) :
    ∃ r p, s.ring b = { s with regs := r, sp := p } ∧ r.shad = s.regs.shad ∧
      p = { s.sp with dbHeld := p.dbHeld, ibiPending := p.ibiPending } := by
  unfold Dev.ring
  split
  · exact ⟨_, _, rfl, rfl, rfl⟩
  · unfold Dev.raiseIbi
    dsimp only
    split
    · exact ⟨_, _, rfl, rfl, rfl⟩
    · exact ⟨_, _, rfl, rfl, rfl⟩

/-- The same of the summary's doorbell. -/
theorem summaryRing_frame (s : Dev) (b : Nat) :
    ∃ r p, s.summaryRing b = { s with regs := r, sp := p } ∧ r.shad = s.regs.shad ∧
      p = { s.sp with dbHeld := p.dbHeld, ibiPending := p.ibiPending } := by
  unfold Dev.summaryRing Dev.when
  by_cases h : (maskOff s.intPending b != 0) = true
  · rw [if_pos h]; exact ring_frame s 4
  · rw [if_neg h]; exact ⟨s.regs, s.sp, rfl, rfl, rfl⟩

/-! ### A command's outcome -/

/-- Every command's outcome is a next state; the queue stays, and the device is what the command made of it with the summary's
doorbell. -/
theorem finish_next (w : State) (f : Dev → Dev) :
    ∃ t, finish w f = .next t ∧ t.pending = w.pending ∧ t.dev = (f w.dev).summaryRing w.dev.intPending ∧ t.tap = w.tap.after w.dev t.dev :=
  ⟨_, rfl, rfl, rfl, rfl⟩

/-- Admission through a point touches the calendar alone. -/
theorem admitted_frame (s : Dev) (k : Nat) (p : Request → Bool) : ∃ c, s.admitted k p = { s with cal := c } := by
  unfold Dev.admitted
  dsimp only
  split
  · exact ⟨s.cal, rfl⟩
  · split
    · exact ⟨_, rfl⟩
    · split
      · exact ⟨s.cal, rfl⟩
      · exact ⟨_, rfl⟩

/-- A field's read is that of the device as the request at hand found it, after admission and at its end. -/
@[simp] theorem get_admitted (s : Dev) (k : Nat) (p : Request → Bool) (f : Fld) : (s.admitted k p).get f = s.get f := by
  obtain ⟨c, h⟩ := admitted_frame s k p
  rw [h]
  rfl

@[simp] theorem get_executed (s : Dev) (f : Fld) : s.executed.get f = s.get f := rfl

/-- A register write that reaches its address acts, as a request of point 34. -/
theorem regRow_acts (s : Dev) (a : Nat) (f : Dev → Dev) (h : s.reaches a = true) : s.regRow a f = s.atManagement f := by
  unfold Dev.regRow; simp [h]

/-- A register write that does not reach its address leaves everything. -/
theorem regRow_keeps (s : Dev) (a : Nat) (f : Dev → Dev) (h : s.reaches a = false) : s.regRow a f = s := by
  unfold Dev.regRow; simp [h]

/-- A transition that finds none under way is due, and shown. -/
theorem trigger_begins (s : Dev) (t : Trigger) (h : s.mode.due = none) :
    (s.trigger t).mode.due = some t ∧ (s.trigger t).get .MODE_STATE_TRANSIT = 1 ∧ (s.trigger t).get .MODE_STATE_TARGET = t.target % 16 := by
  unfold Dev.trigger
  rw [h]
  refine ⟨rfl, ?_, ?_⟩
  · show Dev.get (Dev.setL s _) _ = _
    simp only [Dev.setL, List.foldl]
    rw [get_set_ne _ _ (by decide), get_set_self]
    rfl
  · show Dev.get (Dev.setL s _) _ = _
    simp only [Dev.setL, List.foldl]
    rw [get_set_self]
    rfl

end Sys2Proof.Machine
end

