-- ==== Sys2Proof/Laws/Leaves.lean ====
section
/-!
SUPPORT. How to show what a command leaves: from what its meaning makes of the device, before the summary's doorbell.
-/

namespace Sys2Proof.Machine

open Sys2Proof

/-- A field keeps its value where another is set, with the fields the other way round. -/
theorem get_set_of_ne (s : Dev) {f g : Fld} (v : Nat) (h : g.key ≠ f.key) : (s.set f v).get g = s.get g := get_set_ne s v (Ne.symm h)

/-- Two devices agree beside the registers and the doorbells where they agree part by part. -/
theorem rest_of (t d : Dev) (he : t.evt = d.evt) (hsp : t.sp = { d.sp with dbHeld := t.sp.dbHeld, ibiPending := t.sp.ibiPending })
    (h1 : t.mode = d.mode) (h2 : t.pwr = d.pwr) (h3 : t.therm = d.therm) (h4 : t.cal = d.cal) (h5 : t.integ = d.integ) (h6 : t.tier = d.tier)
    (h7 : t.lc = d.lc) (h8 : t.gal = d.gal) (h9 : t.net = d.net) (h10 : t.rgn = d.rgn) (h11 : t.dq = d.dq) (h12 : t.keys = d.keys)
    (h13 : t.mem = d.mem) (h14 : t.fm = d.fm) (h15 : t.nand = d.nand) (h16 : t.db = d.db) (h17 : t.jrn = d.jrn) (h18 : t.twin = d.twin)
    (h19 : t.forme = d.forme) (h20 : t.sent = d.sent) (h21 : t.free = d.free) : t.rest d := by
  unfold Dev.rest
  cases t; cases d
  simp only at *
  subst he h1 h2 h3 h4 h5 h6 h7 h8 h9 h10 h11 h12 h13 h14 h15 h16 h17 h18 h19 h20 h21
  rw [← hsp]

/-- A doorbell changes nothing but the registers and what `Dev.rest` leaves open. -/
theorem rest_ring (t d : Dev) (b : Nat) (h : t.rest d) : (t.ring b).rest d := by
  obtain ⟨r, p, he, -, hp⟩ := ring_frame t b
  unfold Dev.rest at *
  rw [he]
  rw [h] at hp ⊢
  rw [hp]

/-- The same of the summary's doorbell. -/
theorem rest_summaryRing (t d : Dev) (b : Nat) (h : t.rest d) : (t.summaryRing b).rest d := by
  unfold Dev.summaryRing Dev.when
  split
  · exact rest_ring t d 4 h
  · exact h

/-- A doorbell clears no bit of `DB_TO_SP`. -/
theorem ring_keeps_bits (s : Dev) (b : Nat) :
    (s.ring b).get .DB_TO_SP_BITS &&& s.get .DB_TO_SP_BITS = s.get .DB_TO_SP_BITS := by
  unfold Dev.ring
  split
  · exact Nat.and_self _
  · rw [get_of_regs (raiseIbi_regs _ _), get_orF_self]
    have h := get_lt s .DB_TO_SP_BITS
    apply Nat.eq_of_testBit_eq
    intro i
    simp only [Nat.testBit_and, Nat.testBit_mod_two_pow, Nat.testBit_or]
    by_cases hi : i < Fld.width .DB_TO_SP_BITS
    · cases (s.get .DB_TO_SP_BITS).testBit i <;> simp [hi]
    · rw [Nat.testBit_lt_two_pow (Nat.lt_of_lt_of_le h (Nat.pow_le_pow_right (by decide) (Nat.le_of_not_lt hi)))]
      simp

/-- The same of the summary's doorbell. -/
theorem summaryRing_keeps_bits (s : Dev) (b : Nat) :
    (s.summaryRing b).get .DB_TO_SP_BITS &&& s.get .DB_TO_SP_BITS = s.get .DB_TO_SP_BITS := by
  unfold Dev.summaryRing Dev.when
  split
  · exact ring_keeps_bits s 4
  · exact Nat.and_self _

/-- A ring touches no shadow. -/
theorem shadow_summaryRing (s : Dev) (b : Nat) (f : Fld) : (s.summaryRing b).shadow f = s.shadow f := by
  obtain ⟨r, p, he, hs, -⟩ := summaryRing_frame s b
  unfold Dev.shadow
  rw [he]
  simp only [hs]

/-- What a command leaves, from what its meaning makes of the device. -/
theorem leaves_of {i : Instr} {w : State} {flds : List (Fld × Nat)} {d : Dev} (f : Dev → Dev) (hx : exec i w = finish w f)
    (hv : ∀ e ∈ flds, (f w.dev).get e.1 = e.2) (hk : ∀ e ∈ flds, e.1.key ≠ Fld.DB_TO_SP_BITS.key)
    (hf : ∀ g : Fld, g.key ≠ Fld.DB_TO_SP_BITS.key → (∀ e ∈ flds, g.key ≠ e.1.key) → (f w.dev).get g = w.dev.get g)
    (hb : (f w.dev).get .DB_TO_SP_BITS &&& w.dev.get .DB_TO_SP_BITS = w.dev.get .DB_TO_SP_BITS)
    (hs : ∀ g : Fld, (f w.dev).shadow g = w.dev.shadow g) (hr : (f w.dev).rest d) : Leaves i w flds d := by
  obtain ⟨t, ht, hp, hd, ha⟩ := finish_next w f
  refine ⟨t, by rw [hx, ht], hp, ha, ?_, ⟨?_, ?_⟩, ?_, ?_⟩
  · intro e he
    rw [hd, get_summaryRing _ _ (hk e he)]
    exact hv e he
  · intro g hg
    have h1 := hg .DB_TO_SP_BITS (by simp)
    rw [hd, get_summaryRing _ _ h1]
    exact hf g h1 fun e he => hg e.1 (by simp only [List.mem_cons, List.mem_map]; exact .inr ⟨e, he, rfl⟩)
  · intro g
    rw [hd, shadow_summaryRing, hs]
  · rw [hd]
    have h := summaryRing_keeps_bits (f w.dev) w.dev.intPending
    rw [← hb, ← Nat.and_assoc, h]
  · rw [hd]
    exact rest_summaryRing _ _ _ hr

end Sys2Proof.Machine
end

