-- ==== Sys2Proof/Tests/Base.lean ====
section
/-!
SUPPORT. States that the tests and the witnesses start from.
-/

namespace Sys2Proof.Tests

open Sys2Proof Sys2Proof.Machine

/-- A machine with one device part changed from reset. -/
def mk (f : Dev → Dev) : State := { State.reset with dev := f Dev.reset }

/-- A device in a mode, with CAL running or not. -/
def inMode (m : Nat) (run : Bool) (s : Dev) : Dev :=
  s.setL [(.MODE_STATE_MODE, m), (.MODE_STATE_TARGET, m), (.MODE_STATE_CAL_RUN, b2n run)]

end Sys2Proof.Tests
end

