-- ==== Sys2Proof/Tests/Slice0.lean ====
section
/-!
SUPPORT. Small tests of single steps, the smoke test of WellFormed, and for each clause of a statement that has hypotheses a state and
operands that meet them together.
-/

namespace Sys2Proof.Tests

open Sys2Proof Sys2Proof.Machine

/-! ### Modes and the Forme -/

/-- A device whose island runs, in a mode, with more changed. -/
def at_ (m : Nat) (f : Dev → Dev) : State := mk fun s => f ((inMode m (m != 0 && m != 1 && m != 9) s).modPwr fun p => { p with on := true })

/-- A report of training that found nothing. -/
def trained : TrainReport := { failed := [], short := [], family := 0, exhausted := [], lanes := [] }

/-- An arrangement of a running Forme with nothing in it. -/
def forme0 : Forme :=
  let geo : Geo := { gen := 0, sel := 0, bg := 0, ba := 0, col := 0, cid := 0, rank := 0, row := 0, sids := 0, ranksPerDimm := 0, mtS := 0, dieGbit := 0,
                     refTemp := 0, masks := [0, 0, 0, 0, 0, 0] }
  { slot := 1, svn := 3, keyIndex := 0, build := 1, digest := [], hbmGib := 16,
    fixed := { exposed := 0, pageCount := 0, dimmGen := 0, dpc := 0, dimmMask := 0, portCount := 0, targets := 0, luns := 0, grainLog2 := 0, nandMask := 0,
               t0Gib := 0, evbGib := 0, ctxGib := 0, mapdirGib := 0, dirtyCap := 0, flags := 0, lfsrSeed := 0 },
    records := [], pages := [], fallback := [], tables := [], policy := [],
    tiers := { seasonLog2 := 0, decayShift := 0, weightRead := 0, weightWrite := 0, promoteT1 := 0, promoteT0 := 0, lowPct := 0, highPct := 0, c2Pct := 0,
               c1Pct := 0, stageFrames := 0, savePower := 0, vigilFixed := 0, destageBase := 0, mapLoad := 0, moveTimeout := 0 },
    cc := { target := 0, ai := 0, rateMin := 0, rateInit := 0, probeUs := 0, windowMs := 0, cnpMult := 0, cnpHold := 0, bucketMtu := 0, entries := [] },
    dscp := [], dimm := geo, hbm := geo,
    flash := { vigilBands := 0, metaBands := 0, gcLow := 0, gcHigh := 0, wlSpread := 0, dwpdX100 := 0, peTlc := 0, lifeYears := 0, opMinPct := 0,
               readRefresh := 0, refreshDays := 0, logOpen := 0, ckptS := 0 },
    nands := [], ports := [], power := PowerSeq.default,
    curve := { hystW := 5, tempHyst := 30, sustain := 180, peak := 215, peakS := 10, windowS := 60, entries := [(950, 120)] } }

/-- A load of slot A with the other to follow, in its first or second pass. -/
def loading (pass : Nat) (s : Dev) : Dev := s.modForme fun f => { f with load := some ⟨1, pass, true, 0⟩ }

/-- Slot A holds a container of 512 bytes that names no section; the load is in its second pass. -/
def short (s : Dev) : Dev :=
  s.modForme fun f =>
    let g := { f with store := [(8, 0), (9, 2), (10, 0), (11, 0), (0x16, 0), (0x17, 0)] }
    { g with load := some ⟨1, 2, true, g.signedHash 1⟩ }

/-- A purge of everything that has finished. -/
def purged (p : Purge) (s : Dev) : Dev := s.modFm fun f => { f with purge := some p }

/-! ### Power -/

/-- Pins of a healthy board. -/
def goodPins : Pins := { pwrgd := true, resetN := true, extFault := false, roleStrap := 0, bootSel := false, twinPresentN := true, addrStrap := 0 }

/-- A powered device in a mode, with its sequencer on. -/
def powered (m : Nat) (f : Dev → Dev) : State :=
  at_ m fun s => f ((s.set .PWR_STATUS_SEQ seqON).modPwr fun p => { p with pins := goodPins })

/-- A Vigil at a step, limited or not. -/
def vigilAt (step : Nat) (limited noPrograms : Bool) : Vigil :=
  { step := step, limited := limited, from_ := 4, startMs := 0, foldStart := none, foldMs := 0, noPrograms := noPrograms, saved := 0, sealed := false,
    stopCycle := 9, open_ := 0 }

/-- A device in HOLDUP_SAVE with a Vigil. -/
def holding (v : Vigil) (f : Dev → Dev) : State := powered 9 fun s => f (s.modPwr fun p => { p with vigil := some v })

/-- An island that has a table of the store's ratings. -/
def rated (s : Dev) : Dev := s.modPwr fun p => { p with pulse := some 0, table := { p.table with battery := false, rTest := 500, esrMax := 100000, cMin := 0 } }

/-! ### Temperature and the Calendar -/

/-- A curve with one cap. -/
def curve0 : ThermalCurve := { hystW := 5, tempHyst := 30, sustain := 180, peak := 215, peakS := 10, windowS := 60, entries := [(950, 120)] }

/-- A serving node with a running Forme. -/
def running (m : Nat) (g : Forme → Forme) (f : Dev → Dev) : State :=
  powered m fun s => f (s.modForme fun x => { x with run := some (g { forme0 with curve := curve0 }), runtime := true })

/-- A page with two admission points whose SAMPLE entries stand at tick 5. -/
def page0 : Page :=
  { stations := [{ idx := 0xA0 + 34, typ := 0, runs := [(5, 0), (1, 0x400), (4090, 0)], param := none }], admits := [⟨1, 1, 0⟩, ⟨34, 1, 0⟩] }

/-- A page whose points of class C0 on ports 0 and 1 hold four. -/
def page1 : Page := { stations := [], admits := [⟨0, 4, 1⟩, ⟨4, 4, 1⟩] }

/-- An arrival that is no packet. -/
def arrival0 : Arrival := { id := 7, writes := true, folio := none, qpn := none, dscp := 0, request := false }

/-- A serving node that runs that page. -/
def paged (m : Nat) (f : Dev → Dev) : State := running m (fun x => { x with pages := [(0, page0)] }) f

/-- A serving node that runs the second. -/
def paged1 (m : Nat) (f : Dev → Dev) : State := running m (fun x => { x with pages := [(0, page1)] }) f

/-! ### Integrity -/

/-- A fault of a unit and kind. -/
def fault0 (unit kind : Nat) (recovered : Bool) : FaultOp :=
  { unit := unit, kind := kind, recovered := recovered, tick := 5, bank := 0, row := 0, col := 0, pos := 0, synd := 0, sub := 0, la := none }

/-! ### Ports and queue pairs -/

/-- A queue pair in RTS on port 1. -/
def qp0 : Qp :=
  { state := 3, kind := 0, cls := 0, fixed := true, port := 1, mtu := 5, ipv6 := false, nakSent := false, pd := 2, remoteQpn := 9, epsn := 100, msn := 3, spsn := 7,
    unacked := 7, pkey := 0xFFFF, timeout := 14, retry := 7, rnrRetry := 6, minRnr := 12, dscp := 0, host := 0, acache := [], rate := 1000,
    samples := [], rttLast := 0, lastDec := 0, lastCut := none, lastCnp := none, bucket := 4096000, immLast := 0, immCount := 0, dups := 0, retries := 0,
    tries := 0, rnrTries := 0, rnrWait := none, lastAck := 98, ackable := 99, since := 1, ackFrom := some 0, ackDue := false, reAck := none, halt := false, resps := [],
    msg := none, reqs := [], sa := none, nextSa := none, queue := none, respq := none, ring := [], asked := 0, produced := 0, area := [], downAt := none,
    cmDone := false, sentSince := false, sampledSince := false }

/-- A congestion curve. -/
def cc0 : CcCurve := { target := 1000, ai := 10, rateMin := 100, rateInit := 5000, probeUs := 100, windowMs := 10, cnpMult := 32768, cnpHold := 50, bucketMtu := 4, entries := [] }

/-- Port 1. -/
def port0 : PortRec := { port := 1, speed := 10, laneBase := 8, lanes := 8, fec := 2, maxFrame := 4200 }

/-- A serving node with port 1 up, one address of each kind, one host and its QP 3. -/
def wired (m : Nat) (f : Dev → Dev) : State :=
  running m (fun x => { x with ports := [port0], cc := cc0 }) fun s =>
    f (((s.setL [(.PORT_MAC_LO_MAC_LO 1, 77), (.PORT_ADDR_CTRL_VALID 1 0, 1), (.PORT_ADDR_DATA0_ADDR 1 0, 0x0A000001), (.PORT_ADDR_CTRL_VALID 1 1, 1),
      (.PORT_ADDR_CTRL_IPV6 1 1, 1), (.PORT_ADDR_DATA3_ADDR 1 1, 5), (.PORT_STATUS_LINK_UP 1, 1), (.PORT_CFG_ENABLED 1, 1), (.PORT_CFG_SPEED 1, 10),
      (.XPORT_ACK_TIMER, 10)]).modNet fun n =>
        { n with qps := [(3, qp0)], hosts := [(0, [1, 2])] }).modCal fun c => { c with cycle := 100 })

/-- A frame of 100 bytes for port 1. -/
def frame0 (k : FrameKind) : EthFrame := { port := 1, fcs := true, dst := 77, vid := none, len := 100, kind := k }

/-- Headers of IPv4 as R162 asks for them. -/
def ip0 : IpHdr := { ipv6 := false, ihl := 5, fragment := false, sumGood := true, next := 17, dport := 4791, udpSum := 0, udpGood := true, dscp := 0, ecn := 2 }

/-- A REQ for a service with a protection domain. -/
def req0 (service : Nat) : CmReq :=
  { port := 1, service := service, host := [1, 2], qpn := 5, psn := 10, mtu := 4, pkey := 0xFFFF, dscp := 0, ipv6 := false, pd := 2, token := 9, queue := 4 }

/-- A packet for QP 3. -/
def pkt0 (op psn : Nat) : Pkt :=
  { port := 1, qpn := 0x103, op := op, psn := psn, ackReq := true, tver := 0, pkey := 0xFFFF, dscp := 0, icrc := true, esp := none, va := 0, rkey := 0, len := 0, swap := 0,
    cmp := 0, imm := none, payload := [], whole := false, synd := 0 }

/-- A protection domain, and a queue of it. -/
def pd0 : Pd := { caps := 15, nextCaps := none, coming := false, token := 9, evq := 40, producer := 0, overflow := 0, records := [], marks := 0, dying := none }

/-- An empty queue of protection domain 2. -/
def queue0 : DevQ :=
  { pd := 2, depth := 4, cls := 2, domain := 0, base := 0x1000, region := 41, completed := 0, posted := 0, error := false, cause := 0, failedTag := 0,
    failedIndex := 0, qp := none, port := 1, run := none, imms := [], waiting := false, waitMs := 0, again := false, dying := none }

/-- With the services of R165, a protection domain and a queue. -/
def offering (s : Dev) : Dev :=
  ((s.setL [(.XPORT_CM_PORT_A_DATA_PORT, 20), (.XPORT_CM_PORT_A_CONTROL_PORT, 21), (.XPORT_CM_PORT_B_DEVQ_PORT, 22)]).modRgn fun t =>
    { t with pds := [(2, pd0)] }).modDq fun _ => [(4, queue0)]

/-! ### Regions -/

/-- A LIVE region of protection domain 2 at the start of the range, with every right. -/
def region0 : Region := { Region.free with state := .live, access := 31, pd := 2, vaBase := 0x10000, length := 0x4000 }

/-- A serving node with QP 3 of a kind and region 50, and more changed. -/
def serving_ (k : Nat) (f : Dev → Dev) : State :=
  wired 4 fun s => f (((offering s).updQp 3 fun q => { q with kind := k }).modRgn fun t => { t with regions := [(50, region0)] })

/-- A packet of region 50. -/
def at50 (op len : Nat) (payload : List Byte) : Pkt := { pkt0 op 100 with va := 0x10040, rkey := 50 * 4096 + 1, len := len, payload := payload }

/-- A queue pair with a probe outstanding. -/
def asking : Qp :=
  { qp0 with reqs := [{ first := 7, last := 7, queue := none, resent := false, va := 0, rkey := 0, imm := none, packets := [[]], sent := 1 }], spsn := 8 }

/-- A queue pair with an ESP SA of key slot 4. -/
def secured : Qp :=
  { qp0 with sa := some { spiIn := 7, spiOut := 8, saltIn := 0, saltOut := 0, slot := 4, top := 5, window := 1, seqOut := 1, live := true } }

/-- A serving node whose galley holds the line at the start of region 50's bytes poisoned. -/
def torn : State :=
  serving_ 0 (·.modGal fun g => { g with entries := [(g.base 1, { la := 1, data := 0, mask := fullMask, poison := true, stamp := 3, redrain := false, snap := none, retryAt := 0 })] })

/-! ### Verbs -/

/-- Domain 0 is keyed, the exposed range is 1 TiB, and queue pair 3 is in RTR. -/
def keyed (s : Dev) : Dev :=
  (((s.modKeys fun k => { k with
      domains := [(0, { state := .keyed, curSlot := 7, curEpoch := 1, prevSlot := 0, prevEpoch := 0 })],
      slots := [(7, { KeySlot.none with state := .active, kind := 1, key := 5, limit := 2 ^ 40, domain := some 0 }),
                (9, { KeySlot.none with state := .active, kind := 2, key := 6, owner := 2, limit := 2 ^ 40 }),
                (11, { KeySlot.none with state := .active, kind := 4, key := 7, limit := 2 ^ 40 }),
                (12, { KeySlot.none with state := .active, kind := 1, key := 8, limit := 2 ^ 40 })] }).updQp 3 fun q => { q with state := 2 }).modForme fun f =>
    { f with run := f.run.map fun x => { x with fixed := { x.fixed with exposed := 2 ^ 28 } } })

/-- A node that holds a verb of the SP. -/
def asked (m op : Nat) (body : List Byte) (f : Dev → Dev) : State :=
  wired m fun s => f ((keyed (offering s)).modSp fun x => { x with submitted := [{ seq := 3, bytes := verbRequest op 77 body }] })

/-- Fields of a body in order: width and value. -/
def body (l : List (Nat × Nat)) : List Byte := l.flatMap fun e => leBytes e.1 e.2

/-- With a LIVE LOG region 60 of 4 zones. -/
def withLog (s : Dev) : Dev :=
  s.modRgn fun t => { t with regions := [(60, { region0 with kind := .log, zoneLog2 := 8, vaBase := 0, length := 2 ^ 22, base := 2 ^ 22 })] }

/-- A serving node whose control queue pair 3 holds a verb. -/
def callerQp : State :=
  wired 4 fun s => ((keyed (offering s)).updQp 3 fun q => { q with kind := 1, ring := [(0, verbRequest 0x13 77 (body [(4, 50 * 4096)]), none)] })

/-! ### Device queues -/

/-- A serving node whose queue 4 holds one descriptor. -/
def queued (d : List (Nat × Nat)) (f : DevQ → DevQ) : State :=
  serving_ 0 fun s => (s.storeSpan .own 2 0 (queue0.entry 0) (body d)).updQueue 4 fun q => f { q with posted := 1 }

/-- A descriptor that has begun. -/
def begun (d : List (Nat × Nat)) : DescRun := { index := 0, bytes := body d, start := 5, done := 0, regions := [], last := 5, ended := false, onum := 0 }

/-- A COPY of one line within region 50. -/
def copies : List (Nat × Nat) := [(8, 1), (8, 64), (4, 50 * 4096 + 1), (4, 0), (8, 0x10000), (4, 50 * 4096 + 1), (4, 0), (8, 0x12000), (16, 0)]

/-- A queue pair that holds 64 messages. -/
def crowded : Qp := { qp0 with reqs := (List.range 64).map fun n => { first := n, last := n, queue := none, resent := false, va := 0, rkey := 0, imm := none, packets := [], sent := 0 } }

/-- A PUSH of one line of region 50 through QP 3. -/
def pushes : List (Nat × Nat) := [(8, 2), (8, 64), (4, 50 * 4096 + 1), (4, 3), (8, 0x10000), (4, 7), (4, 0), (8, 0), (16, 0)]

/-- A FLUSH of one line of region 50. -/
def flushes : List (Nat × Nat) := [(8, 3), (8, 64), (4, 50 * 4096 + 1), (4, 3), (8, 0x10000), (32, 0)]

/-- A serving node whose queue's ring cannot be read. -/
def ringless : State :=
  serving_ 0 fun s => (s.updQueue 4 fun q => { q with posted := 1 }).modGal fun g =>
    let la := queue0.entry 0 / 64
    { g with entries := [(g.base la, { la := la, data := 0, mask := fullMask, poison := true, stamp := 3, redrain := false, snap := none, retryAt := 0 })] }

/-! ### Keys -/

/-- A keyed node whose slot 7 has been used, and more changed. -/
def used (u auto : Nat) (f : KeySlot → KeySlot) : State :=
  wired 4 fun s => (keyed s).modKeys fun k => { k with slots := k.slots.upd 7 fun v => f { v with usage := u, autoPct := auto } }

/-- A node whose domain 5 is in a state. -/
def domainIn (st : DState) (s : Dev) : Dev :=
  s.modKeys fun k => { k with domains := k.domains.put 5 { state := st, curSlot := 7, curEpoch := 3, prevSlot := 12, prevEpoch := 2 } }

/-! ### Tiers and galley -/

/-- A serving node with 4 sets in T0 and T1, staging frames, an eviction buffer, and one folio in a state in T1, way 3 or frame 3. -/
def tiered (st : FState) (f : Dev → Dev) : State :=
  wired 4 fun s => f (((keyed s).modForme fun x =>
    { x with run := x.run.map fun y => { y with fixed := { y.fixed with evbGib := 1 }, tiers := { y.tiers with stageFrames := 4 } } }).modTier fun t =>
      { t with setsT0 := 4, setsT1 := 4, map := [(5, { state := st, t0 := false, loc := 3, home := none })],
               t1 := if st = .clean ∨ st = .dirty then [(35, { folio := 5, data := [(0, { data := 7, poison := false })] })] else [],
               stage := if st = .staged then [(3, { folio := 5, data := [(0, { data := 7, poison := false })] })] else [],
               dirty := if st = .dirty ∨ st = .staged then [5] else [] })

/-- A latch of a kind toward a destination. -/
def latch (k : LatchKind) (d : Dest) : Latch := { kind := k, dest := d, slot := none, home := none, redirty := false, epoch := 0, stamp := 1 }

/-- A write of one byte that waits. -/
def wait0 (la : Nat) : GWait := { stamp := 9, la := la, data := 0xAB, mask := 1, cls := 2, owner := .own, evac := false, poison := false }

/-- An entry of a line. -/
def entry0 (la : Nat) : GEntry := { la := la, data := 0xCD, mask := 2, poison := false, stamp := 3, redrain := false, snap := none, retryAt := 0 }

/-- A node with two DIMM channels in runs of 16 KiB, the first of them lost. -/
def halved : State :=
  tiered .clean fun s => ((s.modMem fun m => { m with chDimm := [0, 1] }).modForme fun x =>
    { x with run := x.run.map fun y => { y with fixed := { y.fixed with grainLog2 := 14 } } }).modTier fun t => { t with lostUnits := [0x0100] }



/-! ### Flash -/

/-- A one-plane NAND table with 8 blocks of 4 pages. -/
def nand0 : NandTable :=
  { family := 0, iface := 0, mtS := 2400, idMatch := 0, idMask := 0, planes := 1, bpc := 3, shield := 0, luns := 1, blocks := 8, pagesNative := 6, pagesSlc := 2,
    statusMs := 10, suspendUs := 20, times := [], cont := true, retrySlc := 2, retryNative := 2, softSlc := [false, false], softNative := [false, false] }

/-- A band of three members, with one image placed. -/
def band0 : Band :=
  { state := .closed, slc := false, members := [⟨0, [1]⟩, ⟨32, [1]⟩, ⟨64, [1]⟩], stream := some .destage, placed := 1, upto := 0, done := [], domains := [0],
    closedMs := 0, reads := [], checked := 0, finalStep := false, cut := none, why := 0 }

/-- The image of folio 5 in the first slot of band 2. -/
def slot0 : T2Slot :=
  { index := 5, isMeta := false, epoch := 1, wseq := 4, data := [], band := 2, page := 0, member := 1, plane := 0, committed := false, source := none, lost := false }

/-- HOME of that slot. -/
def home0 : Nat := homeOf 32 1 0 0

/-- Programs that make it ready: its page, its shield page and its stripe's parity. -/
def ready : List Nat := [doneKey 0 1 0, doneKey 2 1 0, doneKey 0 0 0]

/-- A node with three LUNs, band 2 and its slot, and folio 5 in a state. -/
def flashy (st : FState) (b : Band) (v : T2Slot) (f : Dev → Dev) : State :=
  tiered st fun s => f (s.modFm fun x =>
    { x with width := 3, luns := [0, 32, 64], table := some nand0, bands := [(2, b)], slots := [(home0, v)] })

/-- With flash limits. -/
def limits (low high : Nat) (s : Dev) : Dev :=
  s.modForme fun x => { x with run := x.run.map fun y => { y with flash := { y.flash with gcLow := low, gcHigh := high, readRefresh := 5, refreshDays := 5 } } }

/-- A purge of domain 5. -/
def purge0 : Purge := { domain := some 5, left := [], total := 1, done := 0, unverified := 0, zeroing := false }

/-! ### NAND engines -/

/-- An operation that started at once. -/
def op0 (j : NandJob) : NandOp := { seq := 5, job := j, start := 0, since := 0, suspends := 1, starved := false }

/-- A node whose LUN 32 runs a job. -/
def busy (j : NandJob) (f : Dev → Dev) : State :=
  flashy .dirty { band0 with state := .open_ } slot0 fun s => f (s.modNand fun n => { n with luns := [(32, { run := some (op0 j), susp := none, wait := [] })] })

/-- A status record. -/
def res0 (r : Nat) : NandRes := { result := r, planes := 0, status := 0, steps := 1, codewords := 4, bits := 9, data := [] }

/-- A QUIESCED node with a raw address. -/
def quiet_ (block page : Nat) (f : Dev → Dev) : State :=
  at_ 11 fun s => f ((s.setL [(.NANDC_RAW_ADDR0_BLOCK 1, block), (.NANDC_RAW_ADDR1_PAGE 1, page)]).modFm fun x =>
    { x with width := 3, luns := [0, 32, 64], table := some nand0, bands := [(2, band0)] })



/-! ### The twin -/

/-- A partner in a mode, of pair 0. -/
def partner0 (m : Nat) : Partner := { mode := m, strap := 1, digest := [], ledger := none, loss := false, oseq := 0, term := 0, pair := 0, onum := 0 }

/-- A node of a pair in a mode, its link up, its keys active and its partner in a mode. -/
def paired (m p : Nat) (f : Dev → Dev) : State :=
  wired m fun s => f (((((s.setL [(.TWIN_STATUS_LINK_UP, 1), (.TWIN_STATUS_PAIRED, 1), (.TWIN_KEY_CFG_SLOT0, 7), (.TWIN_KEY_CFG_SLOT1, 9), (.TWIN_STATUS_PARTNER_MODE, p)]).modKeys fun k =>
    { k with slots := [(7, { KeySlot.none with state := .active, kind := 3, key := 5, limit := 2 ^ 40 }), (9, { KeySlot.none with state := .active, kind := 3, key := 6, limit := 2 ^ 40 })] }).modForme
      fun x => { x with run := x.run.map fun y => { y with fixed := { y.fixed with flags := 1 } } }).modPwr fun x => { x with straps := { x.straps with twinPresentN := false } }).modTwin fun x =>
        { x with partner := some (partner0 p) })

/-- The first frame of a session, with nothing to acknowledge. -/
def first : FlHdr := { fseq := 0, ack := 0, credit := 3 }

/-- The first item of a budget. -/
def item0 : TwinItem := { onum := 1, stamp := 900, cls := 3, body := .budget 40 }

/-- A request for a lease. -/
def lease0 : Lease := { pair := 0, node := 0, mode := 6, term := 0, onum := 0, nonce := 77 }

/-- A resynchronisation in a phase. -/
def resync0 (p : Nat) : Resync := { phase := p, full := false, pass := 0, left := [2], bulk := none, next := [], final := false, ready := false, groups := 0, startMs := 0 }

/-- Tables with nothing in them. -/
def snap0 : Snapshot :=
  { qps := [], pds := [], regions := [], zones := [], extents := [], queues := [], heat := [], galley := [], oseq := 5, term := 1, pair := 2, onum := 9 }

/-- Point 32 holds four. -/
def queue32 (s : Dev) : Dev := s.modForme fun x => { x with run := x.run.map fun y => { y with pages := [(0, { page1 with admits := [⟨32, 4, 1⟩] })] } }

/-! ### The service processor's side -/

/-- A device whose island runs and whose I3C target has an address, with interrupts on. -/
def addressed (m mode : Nat) (f : Dev → Dev) : State :=
  at_ m fun s => f (s.setL [(.I3C_STATUS_BUSMODE, mode), (.I3C_STATUS_IBI_EN, 1), (.I3C_STATUS_DYN_ADDR, 9)])

/-- A frame of the register window. -/
def frame (cmd addr count : Nat) (data : List Nat) : SpFrame := { cmd := cmd, addr := addr, count := count, data := data, whole := true }

/-- A device with VDD_IO good and the pair at some values. -/
def tapped (m mode chk : Nat) : State :=
  let w := at_ m fun s => s.set (.PWR_RAIL_STATUS_STATE 3) 2
  { w with tap := { w.tap with mode := mode, chk := chk } }

/-! ### The event recorder -/

/-- The island runs, and nothing else has happened. -/
def on : State := mk fun s => s.modPwr fun p => { p with on := true }

/-- A posting as the recorder stages it. -/
def posted (code unit : Nat) : Posting :=
  { code := code, unit := unit, at_ := 0, vigil := false, rep := 0, suppressed := 0, p0 := 1, p1 := 2, p2 := 3 }

/-- A record of the ring. -/
def record (seq code : Nat) : EvRec :=
  { seq := seq, code := code, unit := 0, time := 0, cycle := 0, flags := 0x80, rep := 0, suppressed := 0, p0 := 0, p1 := 0, p2 := 0 }

/-- A running recorder in a mode, with its recorder changed. -/
def logging (m : Nat) (f : Recorder → Recorder) : State :=
  mk fun s => (((inMode m true s).set .EVT_STATUS_RUNNING 1).modPwr fun p => { p with on := true }).modEvt f

/-- A node with an open Meta band. -/
def metaBand (f : Recorder → Recorder) : State :=
  flashy .dirty band0 slot0 fun s =>
    (limits 1 1 (s.modFm fun x => { x with bands := x.bands ++ [(3, { band0 with state := .open_, slc := true, placed := 0, stream := some .meta_ })] })).modEvt f

/-! ### Well-formed commands: each check refuses a command that breaks it -/

theorem test_wf_guard_of_mode_op : (Instr.quiesce .reg 256).wf = false := by decide
theorem test_wf_tag_of_mode_verb : (Instr.quiesce (.verb (.sp 3) (2 ^ 32)) 0).wf = false := by decide
theorem test_wf_sequence_of_sp : (Instr.pdCreate (.sp 256) 0 []).wf = false := by decide
theorem test_wf_index_of_qp : (Instr.pdCreate (.qp 131072 0) 0 []).wf = false := by decide
set_option maxRecDepth 32768 in
theorem test_wf_body_of_verb : (Instr.regCreate (.sp 0) 0 (List.replicate 4081 0)).wf = false := by decide
theorem test_wf_port_of_packet : (Instr.send { pkt0 4 0 with port := 8 }).wf = false := by decide
theorem test_wf_psn_of_packet : (Instr.send { pkt0 4 0 with psn := 2 ^ 24 }).wf = false := by decide
theorem test_wf_esp_of_packet : (Instr.send { pkt0 4 0 with esp := some ⟨2 ^ 32, 0, true⟩ }).wf = false := by decide
theorem test_wf_opcode_of_send : (Instr.send (pkt0 6 0)).wf = false := by decide
theorem test_wf_opcode_of_write : (Instr.rdmaWrite (pkt0 4 0)).wf = false := by decide
theorem test_wf_opcode_of_read : (Instr.rdmaReadRequest (pkt0 4 0)).wf = false := by decide
theorem test_wf_opcode_of_cmp_swap : (Instr.cmpSwap (pkt0 0x14 0)).wf = false := by decide
theorem test_wf_opcode_of_fetch_add : (Instr.fetchAdd (pkt0 0x13 0)).wf = false := by decide
theorem test_wf_opcode_of_flush : (Instr.rdmaFlush (pkt0 4 0)).wf = false := by decide
theorem test_wf_opcode_of_atomic_write : (Instr.atomicWrite (pkt0 4 0)).wf = false := by decide
theorem test_wf_opcode_of_acknowledge : (Instr.acknowledge (pkt0 4 0) 1).wf = false := by decide
theorem test_wf_opcode_of_cnp : (Instr.cnp (pkt0 4 0)).wf = false := by decide
theorem test_wf_packet_is_well_formed : (Instr.send (pkt0 4 0)).wf = true := by decide
theorem test_wf_destination_of_frame : (Instr.frameReceived { frame0 .pause with dst := 2 ^ 48 }).wf = false := by decide
theorem test_wf_vid_of_frame : (Instr.frameReceived { frame0 .pause with vid := some 4096 }).wf = false := by decide
theorem test_wf_kind_of_frame : (Instr.frameReceived (frame0 (.arp (2 ^ 32)))).wf = false := by decide
theorem test_wf_qpn_of_frame : (Instr.frameReceived (frame0 (.roce ip0 true (2 ^ 24) 4 none))).wf = false := by decide
theorem test_wf_host_of_req : (Instr.cmReq (req0 0)).wf = false := by decide
theorem test_wf_tick_of_fault : (Instr.faultDetected { fault0 0x901 1 true with tick := 4096 }).wf = false := by decide
theorem test_wf_cmd_of_write : (Instr.write { cmd := 2, addr := 0, count := 1, data := [], whole := true }).wf = false := by decide
theorem test_wf_word_of_write : (Instr.write { cmd := 1, addr := 0, count := 1, data := [2 ^ 32], whole := true }).wf = false := by decide
theorem test_wf_cmd_of_read : (Instr.read { cmd := 1, addr := 0, count := 1, data := [], whole := true }).wf = false := by decide
theorem test_wf_cmd_of_burst : (Instr.writeBurst { cmd := 1, addr := 0, count := 1, data := [], whole := true }).wf = false := by decide
theorem test_wf_straps_of_pins : (Instr.powerUp { goodPins with roleStrap := 4 }).wf = false := by decide
theorem test_wf_unit_of_report : (Instr.trainingComplete { trained with failed := [(65536, 0, 0)] }).wf = false := by decide
theorem test_wf_result_of_nand : (Instr.nandStatus 0 ⟨16, 0, 0, 0, 0, 0, []⟩).wf = false := by decide
theorem test_wf_header_of_flesal : (Instr.idle ⟨2 ^ 32, 0, 0⟩).wf = false := by decide
theorem test_wf_class_of_item : (Instr.item ⟨0, 0, 0⟩ ⟨1, 0, 4, .timeout 0⟩).wf = false := by decide
theorem test_wf_body_of_item : (Instr.item ⟨0, 0, 0⟩ ⟨1, 0, 0, .timeout 4096⟩).wf = false := by decide
theorem test_wf_state_of_group : (Instr.group ⟨0, 0, 0⟩ 1 [⟨0, 6, false, 0, []⟩]).wf = false := by decide
theorem test_wf_rail : (Instr.railFault 16 0).wf = false := by decide
theorem test_wf_sensor : (Instr.thermtrip 32).wf = false := by decide
theorem test_wf_readings : (Instr.sensorSample (List.replicate 26 0)).wf = false := by decide
theorem test_wf_live_pair : (Instr.livePairWrite 0x60000 0).wf = false := by decide
theorem test_wf_alignment_of_write : (Instr.registerWrite 0x60001 0).wf = false := by decide
theorem test_wf_admission_point : (Instr.sample 64 0).wf = false := by decide
theorem test_wf_region : (Instr.regionRevoked 1048576).wf = false := by decide
theorem test_wf_queue : (Instr.descNop 4096).wf = false := by decide
theorem test_wf_folio : (Instr.moveCommit (2 ^ 34)).wf = false := by decide
theorem test_wf_home : (Instr.slotCommit (2 ^ 33)).wf = false := by decide
theorem test_wf_lun : (Instr.lunFailed 1024).wf = false := by decide
theorem test_wf_step_of_retry : (Instr.readRetry 0 128 0 0 0 true).wf = false := by decide
theorem test_wf_test_of_entropy : (Instr.entropyHealthFail 0).wf = false := by decide
theorem test_wf_slot : (Instr.usageThreshold 8192 0).wf = false := by decide
theorem test_wf_address_of_ccc : (Instr.setnewda 128).wf = false := by decide
theorem test_wf_data_of_sideband : (Instr.sidebandXfer 0 true (List.replicate 9 0)).wf = false := by decide
theorem test_wf_view : (Instr.viewSelect 0 0).wf = false := by decide
set_option maxRecDepth 32768 in
theorem test_wf_pins_of_tap : (Instr.extest (2 ^ 4096) 0).wf = false := by decide
theorem test_wf_error_of_scrub : (Instr.scrub true 32 0 0 none).wf = false := by decide

/-! ### The machine as a whole: states and commands that meet the hypotheses -/

/-- StepTakesTheCommandAtTheFront, both clauses: a command at the front, and none. -/
theorem witness_StepTakesTheCommandAtTheFront :
    ({ State.reset with pending := [.idle first, .flesalLost] } : State).pending = .idle first :: [.flesalLost] ∧ State.reset.pending = [] := ⟨rfl, rfl⟩

set_option maxRecDepth 8192 in
/-- NewPendingCausesRingTheServiceProcessor, clause 2: the loss of Flesal is a new cause. -/
theorem witness_NewPendingCausesRingTheServiceProcessor :
    ∃ t, exec .flesalLost (paired 4 4 id) = .next t ∧ maskOff t.dev.intPending (paired 4 4 id).dev.intPending ≠ 0 := ⟨_, rfl, by decide⟩

/-- NewPendingCausesRingTheServiceProcessor, clause 3. -/
theorem witness_NewPendingCausesRingTheServiceProcessor_2 : (paired 4 4 id).dev.pwr.on = true := by decide

/-- A state that is safe, with a command at the front. -/
def state_EveryStepKeepsThePortSafe : State := { paired 4 4 id with pending := [.flesalLost] }

set_option maxRecDepth 8192 in
/-- EveryStepKeepsThePortSafe: a step of a state that is safe. -/
theorem witness_EveryStepKeepsThePortSafe :
    state_EveryStepKeepsThePortSafe.portSafe ∧ ∃ t, step state_EveryStepKeepsThePortSafe = .next t :=
  ⟨⟨fun h => absurd h (by decide), fun _ => rfl⟩, _, rfl⟩

/-- TheThermalGovernorActsOnTjGov, clauses 1 and 2: a device with short refresh at a memory unit, and one with none. -/
theorem witness_TheThermalGovernorActsOnTjGov_0 :
    (∃ n < 24, (Dev.reset.set (.MEM_STATUS_REFRESH_SHORT 3) 1).bit (.MEM_STATUS_REFRESH_SHORT n) = true) ∧
    ∀ n < 24, Dev.reset.bit (.MEM_STATUS_REFRESH_SHORT n) = false := ⟨⟨3, by decide, by decide⟩, by decide⟩

/-- AckTimersAndCongestionCutsActOnTheirQp, clause 5: the first sample of a queue pair is its least. -/
theorem witness_AckTimersAndCongestionCutsActOnTheirQp_4 :
    900 ≤ (leastOf (900 :: ((qp0.samples.filter fun e => decide (e.1 + 50 ≥ 0)).map Prod.snd))).getD 900 + 100 := by decide

/-- DaybookRebuildsScrubsAndWritesIntents, clause 21: a MARK entry that names a band. -/
theorem witness_DaybookRebuildsScrubsAndWritesIntents_20 : (5 : Nat) ≠ 0xFFFF := by decide

/-! ### Witnesses: the hypotheses of a clause hold together -/

/-- For `witness_ModeOperationsBeginTheirTransitionsOrAreRefused_0`. -/
def state_ModeOperationsBeginTheirTransitionsOrAreRefused_0 : State := at_ 4 id

/-- ModeOperationsBeginTheirTransitionsOrAreRefused, clause 1. -/
theorem witness_ModeOperationsBeginTheirTransitionsOrAreRefused_0 :
    state_ModeOperationsBeginTheirTransitionsOrAreRefused_0.dev.reaches 40 = true ∧ state_ModeOperationsBeginTheirTransitionsOrAreRefused_0.dev.calRuns = true := by decide

/-- For `witness_ModeOperationsBeginTheirTransitionsOrAreRefused_1`. -/
def state_ModeOperationsBeginTheirTransitionsOrAreRefused_1 : State := at_ 4 id

/-- ModeOperationsBeginTheirTransitionsOrAreRefused, clause 2. -/
theorem witness_ModeOperationsBeginTheirTransitionsOrAreRefused_1 :
    (Instr.quiesce ModeSrc.reg 90, 1, 18, mQUIESCED, [mSOLO, mSTANDBY, mRESYNC]) ∈ [(Instr.quiesce ModeSrc.reg 90, 1, 18, mQUIESCED, [mSOLO, mSTANDBY, mRESYNC]), (Instr.resume ModeSrc.reg 90, 2, 19, mRECOVERING, [mQUIESCED]), (Instr.sanitize ModeSrc.reg 90, 3, 20, mSANITIZING, [mQUIESCED])] ∧ state_ModeOperationsBeginTheirTransitionsOrAreRefused_1.dev.pwr.on = true ∧ state_ModeOperationsBeginTheirTransitionsOrAreRefused_1.dev.calRuns = true ∧ state_ModeOperationsBeginTheirTransitionsOrAreRefused_1.dev.mode.due = none ∧ state_ModeOperationsBeginTheirTransitionsOrAreRefused_1.dev.bit Fld.MODE_STATE_TRANSIT = false ∧ state_ModeOperationsBeginTheirTransitionsOrAreRefused_1.dev.bit Fld.TWIN_STATUS_FENCED = false ∧ state_ModeOperationsBeginTheirTransitionsOrAreRefused_1.dev.inMode [mSOLO, mSTANDBY, mRESYNC] = true := by decide

/-- For `witness_ModeOperationsBeginTheirTransitionsOrAreRefused_1b`. -/
def state_ModeOperationsBeginTheirTransitionsOrAreRefused_1b : State := at_ 11 id

/-- ModeOperationsBeginTheirTransitionsOrAreRefused, clause 2. -/
theorem witness_ModeOperationsBeginTheirTransitionsOrAreRefused_1b :
    (Instr.resume ModeSrc.reg 90, 2, 19, mRECOVERING, [mQUIESCED]) ∈ [(Instr.quiesce ModeSrc.reg 90, 1, 18, mQUIESCED, [mSOLO, mSTANDBY, mRESYNC]), (Instr.resume ModeSrc.reg 90, 2, 19, mRECOVERING, [mQUIESCED]), (Instr.sanitize ModeSrc.reg 90, 3, 20, mSANITIZING, [mQUIESCED])] ∧ state_ModeOperationsBeginTheirTransitionsOrAreRefused_1b.dev.pwr.on = true ∧ state_ModeOperationsBeginTheirTransitionsOrAreRefused_1b.dev.calRuns = true ∧ state_ModeOperationsBeginTheirTransitionsOrAreRefused_1b.dev.mode.due = none ∧ state_ModeOperationsBeginTheirTransitionsOrAreRefused_1b.dev.bit Fld.MODE_STATE_TRANSIT = false ∧ state_ModeOperationsBeginTheirTransitionsOrAreRefused_1b.dev.bit Fld.TWIN_STATUS_FENCED = false ∧ state_ModeOperationsBeginTheirTransitionsOrAreRefused_1b.dev.inMode [mQUIESCED] = true := by decide

/-- For `witness_ModeOperationsBeginTheirTransitionsOrAreRefused_1c`. -/
def state_ModeOperationsBeginTheirTransitionsOrAreRefused_1c : State := at_ 11 id

/-- ModeOperationsBeginTheirTransitionsOrAreRefused, clause 2. -/
theorem witness_ModeOperationsBeginTheirTransitionsOrAreRefused_1c :
    (Instr.sanitize ModeSrc.reg 90, 3, 20, mSANITIZING, [mQUIESCED]) ∈ [(Instr.quiesce ModeSrc.reg 90, 1, 18, mQUIESCED, [mSOLO, mSTANDBY, mRESYNC]), (Instr.resume ModeSrc.reg 90, 2, 19, mRECOVERING, [mQUIESCED]), (Instr.sanitize ModeSrc.reg 90, 3, 20, mSANITIZING, [mQUIESCED])] ∧ state_ModeOperationsBeginTheirTransitionsOrAreRefused_1c.dev.pwr.on = true ∧ state_ModeOperationsBeginTheirTransitionsOrAreRefused_1c.dev.calRuns = true ∧ state_ModeOperationsBeginTheirTransitionsOrAreRefused_1c.dev.mode.due = none ∧ state_ModeOperationsBeginTheirTransitionsOrAreRefused_1c.dev.bit Fld.MODE_STATE_TRANSIT = false ∧ state_ModeOperationsBeginTheirTransitionsOrAreRefused_1c.dev.bit Fld.TWIN_STATUS_FENCED = false ∧ state_ModeOperationsBeginTheirTransitionsOrAreRefused_1c.dev.inMode [mQUIESCED] = true := by decide

/-- For `witness_ModeOperationsBeginTheirTransitionsOrAreRefused_2`. -/
def state_ModeOperationsBeginTheirTransitionsOrAreRefused_2 : State := at_ 3 (·.set .MODE_STATE_WAIT_TWIN 1)

/-- ModeOperationsBeginTheirTransitionsOrAreRefused, clause 3. -/
theorem witness_ModeOperationsBeginTheirTransitionsOrAreRefused_2 :
    state_ModeOperationsBeginTheirTransitionsOrAreRefused_2.dev.pwr.on = true ∧ state_ModeOperationsBeginTheirTransitionsOrAreRefused_2.dev.calRuns = true ∧ state_ModeOperationsBeginTheirTransitionsOrAreRefused_2.dev.mode.due = none ∧ state_ModeOperationsBeginTheirTransitionsOrAreRefused_2.dev.bit Fld.MODE_STATE_TRANSIT = false ∧ state_ModeOperationsBeginTheirTransitionsOrAreRefused_2.dev.bit Fld.TWIN_STATUS_FENCED = false ∧ state_ModeOperationsBeginTheirTransitionsOrAreRefused_2.dev.modeOf = mRECOVERING ∧ state_ModeOperationsBeginTheirTransitionsOrAreRefused_2.dev.bit Fld.MODE_STATE_WAIT_TWIN = true := by decide

/-- For `witness_ModeOperationsBeginTheirTransitionsOrAreRefused_3`. -/
def state_ModeOperationsBeginTheirTransitionsOrAreRefused_3 : State := at_ 5 id

/-- ModeOperationsBeginTheirTransitionsOrAreRefused, clause 4. -/
theorem witness_ModeOperationsBeginTheirTransitionsOrAreRefused_3 :
    state_ModeOperationsBeginTheirTransitionsOrAreRefused_3.dev.pwr.on = true ∧ state_ModeOperationsBeginTheirTransitionsOrAreRefused_3.dev.calRuns = true ∧ state_ModeOperationsBeginTheirTransitionsOrAreRefused_3.dev.mode.due = none ∧ state_ModeOperationsBeginTheirTransitionsOrAreRefused_3.dev.inMode [mDORMANT, mHOLDUP] = false := by decide

/-- For `witness_ModeOperationsBeginTheirTransitionsOrAreRefused_4`. -/
def state_ModeOperationsBeginTheirTransitionsOrAreRefused_4 : State := at_ 5 id

/-- ModeOperationsBeginTheirTransitionsOrAreRefused, clause 5. -/
theorem witness_ModeOperationsBeginTheirTransitionsOrAreRefused_4 :
    state_ModeOperationsBeginTheirTransitionsOrAreRefused_4.dev.pwr.on = true ∧ state_ModeOperationsBeginTheirTransitionsOrAreRefused_4.dev.calRuns = true ∧ state_ModeOperationsBeginTheirTransitionsOrAreRefused_4.dev.bit Fld.MODE_STATE_TRANSIT = false ∧ state_ModeOperationsBeginTheirTransitionsOrAreRefused_4.dev.bit Fld.TWIN_STATUS_FENCED = false ∧ state_ModeOperationsBeginTheirTransitionsOrAreRefused_4.dev.modeOf = mACTIVE ∧ state_ModeOperationsBeginTheirTransitionsOrAreRefused_4.dev.twin.handover = none := by decide

/-- For `witness_ModeOperationsBeginTheirTransitionsOrAreRefused_5`. -/
def state_ModeOperationsBeginTheirTransitionsOrAreRefused_5 : State := at_ 1 (·.set .FORME_CTRL_NEXT_SLOT 2)

/-- ModeOperationsBeginTheirTransitionsOrAreRefused, clause 6. -/
theorem witness_ModeOperationsBeginTheirTransitionsOrAreRefused_5 :
    state_ModeOperationsBeginTheirTransitionsOrAreRefused_5.dev.pwr.on = true ∧ state_ModeOperationsBeginTheirTransitionsOrAreRefused_5.dev.mode.due = none ∧ state_ModeOperationsBeginTheirTransitionsOrAreRefused_5.dev.bit Fld.MODE_STATE_TRANSIT = false ∧ state_ModeOperationsBeginTheirTransitionsOrAreRefused_5.dev.bit Fld.TWIN_STATUS_FENCED = false ∧ state_ModeOperationsBeginTheirTransitionsOrAreRefused_5.dev.modeOf = mCONFIGURING ∧ state_ModeOperationsBeginTheirTransitionsOrAreRefused_5.dev.forme.load = none ∧ state_ModeOperationsBeginTheirTransitionsOrAreRefused_5.dev.forme.run = none ∧ state_ModeOperationsBeginTheirTransitionsOrAreRefused_5.dev.forme.storeGood = true := by decide

/-- For `witness_ModeOperationsBeginTheirTransitionsOrAreRefused_6`. -/
def state_ModeOperationsBeginTheirTransitionsOrAreRefused_6 : State := at_ 4 id

/-- ModeOperationsBeginTheirTransitionsOrAreRefused, clause 7. -/
theorem witness_ModeOperationsBeginTheirTransitionsOrAreRefused_6 :
    state_ModeOperationsBeginTheirTransitionsOrAreRefused_6.dev.reaches 40 = true ∧ state_ModeOperationsBeginTheirTransitionsOrAreRefused_6.dev.bit Fld.MODE_RESULT_REFUSED = false ∧ ((Instr.quiesce ModeSrc.reg 0, 1) ∈ [(Instr.nop ModeSrc.reg 0, 0), (Instr.quiesce ModeSrc.reg 0, 1), (Instr.resume ModeSrc.reg 0, 2), (Instr.sanitize ModeSrc.reg 0, 3), (Instr.handover ModeSrc.reg 0, 4), (Instr.powerOff ModeSrc.reg 0, 5), (Instr.soloOverride ModeSrc.reg 0, 6), (Instr.reload ModeSrc.reg 0, 7)] ∧ 3 = 3 ∨ (Instr.quiesce ModeSrc.reg 0, 1) ∈ [(Instr.quiesce ModeSrc.reg 90, 1), (Instr.resume ModeSrc.reg 90, 2), (Instr.sanitize ModeSrc.reg 90, 3), (Instr.handover ModeSrc.reg 90, 4), (Instr.soloOverride ModeSrc.reg 90, 6), (Instr.reload ModeSrc.reg 90, 7)] ∧ 3 = 5 ∧ state_ModeOperationsBeginTheirTransitionsOrAreRefused_6.dev.bit Fld.MODE_STATE_TRANSIT = false ∧ (state_ModeOperationsBeginTheirTransitionsOrAreRefused_6.dev.modeOf = mSANITIZING ∨ state_ModeOperationsBeginTheirTransitionsOrAreRefused_6.dev.bit Fld.TWIN_STATUS_FENCED = true) ∨ (Instr.quiesce ModeSrc.reg 0, 1) ∈ [(Instr.quiesce ModeSrc.reg 90, 1), (Instr.resume ModeSrc.reg 90, 2), (Instr.sanitize ModeSrc.reg 90, 3), (Instr.handover ModeSrc.reg 90, 4), (Instr.soloOverride ModeSrc.reg 90, 6), (Instr.reload ModeSrc.reg 90, 7)] ∧ 3 = 1 ∧ state_ModeOperationsBeginTheirTransitionsOrAreRefused_6.dev.bit Fld.MODE_STATE_TRANSIT = true ∨ Instr.quiesce ModeSrc.reg 0 = Instr.quiesce ModeSrc.reg 90 ∧ 1 = 1 ∧ 3 = 4 ∧ state_ModeOperationsBeginTheirTransitionsOrAreRefused_6.dev.modeOf = mACTIVE ∧ state_ModeOperationsBeginTheirTransitionsOrAreRefused_6.dev.bit Fld.MODE_STATE_TRANSIT = false ∧ state_ModeOperationsBeginTheirTransitionsOrAreRefused_6.dev.bit Fld.TWIN_STATUS_FENCED = false) := by decide

/-- For `witness_ModeOperationsBeginTheirTransitionsOrAreRefused_6b`. -/
def state_ModeOperationsBeginTheirTransitionsOrAreRefused_6b : State := at_ 10 id

/-- ModeOperationsBeginTheirTransitionsOrAreRefused, clause 7. -/
theorem witness_ModeOperationsBeginTheirTransitionsOrAreRefused_6b :
    state_ModeOperationsBeginTheirTransitionsOrAreRefused_6b.dev.reaches 40 = true ∧ state_ModeOperationsBeginTheirTransitionsOrAreRefused_6b.dev.bit Fld.MODE_RESULT_REFUSED = false ∧ ((Instr.resume ModeSrc.reg 90, 2) ∈ [(Instr.nop ModeSrc.reg 0, 0), (Instr.quiesce ModeSrc.reg 0, 1), (Instr.resume ModeSrc.reg 0, 2), (Instr.sanitize ModeSrc.reg 0, 3), (Instr.handover ModeSrc.reg 0, 4), (Instr.powerOff ModeSrc.reg 0, 5), (Instr.soloOverride ModeSrc.reg 0, 6), (Instr.reload ModeSrc.reg 0, 7)] ∧ 5 = 3 ∨ (Instr.resume ModeSrc.reg 90, 2) ∈ [(Instr.quiesce ModeSrc.reg 90, 1), (Instr.resume ModeSrc.reg 90, 2), (Instr.sanitize ModeSrc.reg 90, 3), (Instr.handover ModeSrc.reg 90, 4), (Instr.soloOverride ModeSrc.reg 90, 6), (Instr.reload ModeSrc.reg 90, 7)] ∧ 5 = 5 ∧ state_ModeOperationsBeginTheirTransitionsOrAreRefused_6b.dev.bit Fld.MODE_STATE_TRANSIT = false ∧ (state_ModeOperationsBeginTheirTransitionsOrAreRefused_6b.dev.modeOf = mSANITIZING ∨ state_ModeOperationsBeginTheirTransitionsOrAreRefused_6b.dev.bit Fld.TWIN_STATUS_FENCED = true) ∨ (Instr.resume ModeSrc.reg 90, 2) ∈ [(Instr.quiesce ModeSrc.reg 90, 1), (Instr.resume ModeSrc.reg 90, 2), (Instr.sanitize ModeSrc.reg 90, 3), (Instr.handover ModeSrc.reg 90, 4), (Instr.soloOverride ModeSrc.reg 90, 6), (Instr.reload ModeSrc.reg 90, 7)] ∧ 5 = 1 ∧ state_ModeOperationsBeginTheirTransitionsOrAreRefused_6b.dev.bit Fld.MODE_STATE_TRANSIT = true ∨ Instr.resume ModeSrc.reg 90 = Instr.quiesce ModeSrc.reg 90 ∧ 2 = 1 ∧ 5 = 4 ∧ state_ModeOperationsBeginTheirTransitionsOrAreRefused_6b.dev.modeOf = mACTIVE ∧ state_ModeOperationsBeginTheirTransitionsOrAreRefused_6b.dev.bit Fld.MODE_STATE_TRANSIT = false ∧ state_ModeOperationsBeginTheirTransitionsOrAreRefused_6b.dev.bit Fld.TWIN_STATUS_FENCED = false) := by decide

/-- For `witness_ModeOperationsBeginTheirTransitionsOrAreRefused_6c`. -/
def state_ModeOperationsBeginTheirTransitionsOrAreRefused_6c : State := at_ 4 (·.set .MODE_STATE_TRANSIT 1)

/-- ModeOperationsBeginTheirTransitionsOrAreRefused, clause 7. -/
theorem witness_ModeOperationsBeginTheirTransitionsOrAreRefused_6c :
    state_ModeOperationsBeginTheirTransitionsOrAreRefused_6c.dev.reaches 40 = true ∧ state_ModeOperationsBeginTheirTransitionsOrAreRefused_6c.dev.bit Fld.MODE_RESULT_REFUSED = false ∧ ((Instr.handover ModeSrc.reg 90, 4) ∈ [(Instr.nop ModeSrc.reg 0, 0), (Instr.quiesce ModeSrc.reg 0, 1), (Instr.resume ModeSrc.reg 0, 2), (Instr.sanitize ModeSrc.reg 0, 3), (Instr.handover ModeSrc.reg 0, 4), (Instr.powerOff ModeSrc.reg 0, 5), (Instr.soloOverride ModeSrc.reg 0, 6), (Instr.reload ModeSrc.reg 0, 7)] ∧ 1 = 3 ∨ (Instr.handover ModeSrc.reg 90, 4) ∈ [(Instr.quiesce ModeSrc.reg 90, 1), (Instr.resume ModeSrc.reg 90, 2), (Instr.sanitize ModeSrc.reg 90, 3), (Instr.handover ModeSrc.reg 90, 4), (Instr.soloOverride ModeSrc.reg 90, 6), (Instr.reload ModeSrc.reg 90, 7)] ∧ 1 = 5 ∧ state_ModeOperationsBeginTheirTransitionsOrAreRefused_6c.dev.bit Fld.MODE_STATE_TRANSIT = false ∧ (state_ModeOperationsBeginTheirTransitionsOrAreRefused_6c.dev.modeOf = mSANITIZING ∨ state_ModeOperationsBeginTheirTransitionsOrAreRefused_6c.dev.bit Fld.TWIN_STATUS_FENCED = true) ∨ (Instr.handover ModeSrc.reg 90, 4) ∈ [(Instr.quiesce ModeSrc.reg 90, 1), (Instr.resume ModeSrc.reg 90, 2), (Instr.sanitize ModeSrc.reg 90, 3), (Instr.handover ModeSrc.reg 90, 4), (Instr.soloOverride ModeSrc.reg 90, 6), (Instr.reload ModeSrc.reg 90, 7)] ∧ 1 = 1 ∧ state_ModeOperationsBeginTheirTransitionsOrAreRefused_6c.dev.bit Fld.MODE_STATE_TRANSIT = true ∨ Instr.handover ModeSrc.reg 90 = Instr.quiesce ModeSrc.reg 90 ∧ 4 = 1 ∧ 1 = 4 ∧ state_ModeOperationsBeginTheirTransitionsOrAreRefused_6c.dev.modeOf = mACTIVE ∧ state_ModeOperationsBeginTheirTransitionsOrAreRefused_6c.dev.bit Fld.MODE_STATE_TRANSIT = false ∧ state_ModeOperationsBeginTheirTransitionsOrAreRefused_6c.dev.bit Fld.TWIN_STATUS_FENCED = false) := by decide

/-- For `witness_ModeOperationsBeginTheirTransitionsOrAreRefused_6d`. -/
def state_ModeOperationsBeginTheirTransitionsOrAreRefused_6d : State := at_ 5 id

/-- ModeOperationsBeginTheirTransitionsOrAreRefused, clause 7. -/
theorem witness_ModeOperationsBeginTheirTransitionsOrAreRefused_6d :
    state_ModeOperationsBeginTheirTransitionsOrAreRefused_6d.dev.reaches 40 = true ∧ state_ModeOperationsBeginTheirTransitionsOrAreRefused_6d.dev.bit Fld.MODE_RESULT_REFUSED = false ∧ ((Instr.quiesce ModeSrc.reg 90, 1) ∈ [(Instr.nop ModeSrc.reg 0, 0), (Instr.quiesce ModeSrc.reg 0, 1), (Instr.resume ModeSrc.reg 0, 2), (Instr.sanitize ModeSrc.reg 0, 3), (Instr.handover ModeSrc.reg 0, 4), (Instr.powerOff ModeSrc.reg 0, 5), (Instr.soloOverride ModeSrc.reg 0, 6), (Instr.reload ModeSrc.reg 0, 7)] ∧ 4 = 3 ∨ (Instr.quiesce ModeSrc.reg 90, 1) ∈ [(Instr.quiesce ModeSrc.reg 90, 1), (Instr.resume ModeSrc.reg 90, 2), (Instr.sanitize ModeSrc.reg 90, 3), (Instr.handover ModeSrc.reg 90, 4), (Instr.soloOverride ModeSrc.reg 90, 6), (Instr.reload ModeSrc.reg 90, 7)] ∧ 4 = 5 ∧ state_ModeOperationsBeginTheirTransitionsOrAreRefused_6d.dev.bit Fld.MODE_STATE_TRANSIT = false ∧ (state_ModeOperationsBeginTheirTransitionsOrAreRefused_6d.dev.modeOf = mSANITIZING ∨ state_ModeOperationsBeginTheirTransitionsOrAreRefused_6d.dev.bit Fld.TWIN_STATUS_FENCED = true) ∨ (Instr.quiesce ModeSrc.reg 90, 1) ∈ [(Instr.quiesce ModeSrc.reg 90, 1), (Instr.resume ModeSrc.reg 90, 2), (Instr.sanitize ModeSrc.reg 90, 3), (Instr.handover ModeSrc.reg 90, 4), (Instr.soloOverride ModeSrc.reg 90, 6), (Instr.reload ModeSrc.reg 90, 7)] ∧ 4 = 1 ∧ state_ModeOperationsBeginTheirTransitionsOrAreRefused_6d.dev.bit Fld.MODE_STATE_TRANSIT = true ∨ Instr.quiesce ModeSrc.reg 90 = Instr.quiesce ModeSrc.reg 90 ∧ 1 = 1 ∧ 4 = 4 ∧ state_ModeOperationsBeginTheirTransitionsOrAreRefused_6d.dev.modeOf = mACTIVE ∧ state_ModeOperationsBeginTheirTransitionsOrAreRefused_6d.dev.bit Fld.MODE_STATE_TRANSIT = false ∧ state_ModeOperationsBeginTheirTransitionsOrAreRefused_6d.dev.bit Fld.TWIN_STATUS_FENCED = false) := by decide

/-- For `witness_OwnCompletionsBeginTheirRows_0`. -/
def state_OwnCompletionsBeginTheirRows_0 : State := at_ 1 (loading 1)

/-- For `witness_OwnCompletionsBeginTheirRows_0`. -/
def arg1_OwnCompletionsBeginTheirRows_0 : FormeLoad := ⟨1, 1, true, 0⟩

/-- OwnCompletionsBeginTheirRows, clause 1. -/
theorem witness_OwnCompletionsBeginTheirRows_0 :
    state_OwnCompletionsBeginTheirRows_0.dev.mode.due = none ∧ state_OwnCompletionsBeginTheirRows_0.dev.forme.load = some arg1_OwnCompletionsBeginTheirRows_0 ∧ arg1_OwnCompletionsBeginTheirRows_0.pass = 1 := by decide

/-- For `witness_OwnCompletionsBeginTheirRows_2`. -/
def state_OwnCompletionsBeginTheirRows_2 : State := at_ 1 (loading 2)

/-- For `witness_OwnCompletionsBeginTheirRows_2`. -/
def arg2_OwnCompletionsBeginTheirRows_2 : FormeLoad := ⟨1, 2, true, 0⟩

/-- OwnCompletionsBeginTheirRows, clause 3. -/
theorem witness_OwnCompletionsBeginTheirRows_2 :
    state_OwnCompletionsBeginTheirRows_2.dev.mode.due = none ∧ state_OwnCompletionsBeginTheirRows_2.dev.forme.load = some arg2_OwnCompletionsBeginTheirRows_2 ∧ arg2_OwnCompletionsBeginTheirRows_2.pass = 2 ∧ arg2_OwnCompletionsBeginTheirRows_2.other = true ∧ arg2_OwnCompletionsBeginTheirRows_2.slot = 1 ∧ (true = true ∨ state_OwnCompletionsBeginTheirRows_2.dev.forme.signedHash 1 ≠ arg2_OwnCompletionsBeginTheirRows_2.hash) := by decide

/-- For `witness_OwnCompletionsBeginTheirRows_3`. -/
def state_OwnCompletionsBeginTheirRows_3 : State := at_ 1 short

/-- For `witness_OwnCompletionsBeginTheirRows_3`. -/
def arg1_OwnCompletionsBeginTheirRows_3 : FormeLoad := ⟨1, 2, true, (short Dev.reset).forme.signedHash 1⟩

/-- OwnCompletionsBeginTheirRows, clause 4. -/
theorem witness_OwnCompletionsBeginTheirRows_3 :
    state_OwnCompletionsBeginTheirRows_3.dev.forme.load = some arg1_OwnCompletionsBeginTheirRows_3 ∧ arg1_OwnCompletionsBeginTheirRows_3.pass = 2 ∧ state_OwnCompletionsBeginTheirRows_3.dev.forme.signedHash arg1_OwnCompletionsBeginTheirRows_3.slot = arg1_OwnCompletionsBeginTheirRows_3.hash := ⟨rfl, rfl, rfl⟩

/-- For `witness_OwnCompletionsBeginTheirRows_1`. -/
def state_OwnCompletionsBeginTheirRows_1 : State := at_ 1 (loading 2)

/-- For `witness_OwnCompletionsBeginTheirRows_1`. -/
def arg2_OwnCompletionsBeginTheirRows_1 : FormeLoad := ⟨1, 2, true, 0⟩

/-- OwnCompletionsBeginTheirRows, clause 2. -/
theorem witness_OwnCompletionsBeginTheirRows_1 :
    state_OwnCompletionsBeginTheirRows_1.dev.mode.due = none ∧ state_OwnCompletionsBeginTheirRows_1.dev.forme.load = some arg2_OwnCompletionsBeginTheirRows_1 ∧ arg2_OwnCompletionsBeginTheirRows_1.pass = 2 ∧ arg2_OwnCompletionsBeginTheirRows_1.other = true ∧ arg2_OwnCompletionsBeginTheirRows_1.slot = 1 ∧ 1024 < 2 ^ 32 := by decide

/-- For `witness_OwnCompletionsBeginTheirRows_4`. -/
def state_OwnCompletionsBeginTheirRows_4 : State := at_ 2 (·.modForme fun f => { f with run := some forme0 })

/-- OwnCompletionsBeginTheirRows, clause 5. -/
theorem witness_OwnCompletionsBeginTheirRows_4 :
    state_OwnCompletionsBeginTheirRows_4.dev.modeOf = mTRAINING ∧ state_OwnCompletionsBeginTheirRows_4.dev.forme.run = some forme0 := by decide

/-- For `witness_OwnCompletionsBeginTheirRows_6`. -/
def state_OwnCompletionsBeginTheirRows_6 : State := at_ 3 id

/-- OwnCompletionsBeginTheirRows, clause 7. -/
theorem witness_OwnCompletionsBeginTheirRows_6 :
    state_OwnCompletionsBeginTheirRows_6.dev.modeOf = mRECOVERING ∧ state_OwnCompletionsBeginTheirRows_6.dev.mode.due = none ∧ state_OwnCompletionsBeginTheirRows_6.dev.bit Fld.MODE_STATE_WAIT_TWIN = false ∧ state_OwnCompletionsBeginTheirRows_6.dev.twinFitted = false := by decide

/-- For `witness_OwnCompletionsBeginTheirRows_7`. -/
def state_OwnCompletionsBeginTheirRows_7 : State := at_ 10 (purged ⟨none, [], 0, 0, 0, false⟩)

/-- For `witness_OwnCompletionsBeginTheirRows_7`. -/
def arg1_OwnCompletionsBeginTheirRows_7 : Purge := ⟨none, [], 0, 0, 0, false⟩

/-- OwnCompletionsBeginTheirRows, clause 8. -/
theorem witness_OwnCompletionsBeginTheirRows_7 :
    state_OwnCompletionsBeginTheirRows_7.dev.modeOf = mSANITIZING ∧ state_OwnCompletionsBeginTheirRows_7.dev.fm.purge = some arg1_OwnCompletionsBeginTheirRows_7 ∧ arg1_OwnCompletionsBeginTheirRows_7.left = [] ∧ arg1_OwnCompletionsBeginTheirRows_7.zeroing = false ∧ arg1_OwnCompletionsBeginTheirRows_7.domain = none := by decide

/-- For `witness_OwnCompletionsBeginTheirRows_8`. -/
def state_OwnCompletionsBeginTheirRows_8 : State := at_ 11 (·.modMode fun m => { m with quiescing := true })

/-- OwnCompletionsBeginTheirRows, clause 9. -/
theorem witness_OwnCompletionsBeginTheirRows_8 :
    state_OwnCompletionsBeginTheirRows_8.dev.mode.quiescing = true ∧ state_OwnCompletionsBeginTheirRows_8.dev.net.qps = [] := by decide

/-- For `witness_CommitsRevocationsAndImpressChangeOnlyTheirOwn_0`. -/
def state_CommitsRevocationsAndImpressChangeOnlyTheirOwn_0 : State := at_ 4 fun s => (s.modForme fun f => { f with run := some forme0 }).set .FORME_SVN_RUNNING 3

/-- CommitsRevocationsAndImpressChangeOnlyTheirOwn, clause 1. -/
theorem witness_CommitsRevocationsAndImpressChangeOnlyTheirOwn_0 :
    state_CommitsRevocationsAndImpressChangeOnlyTheirOwn_0.dev.reaches 327696 = true ∧ state_CommitsRevocationsAndImpressChangeOnlyTheirOwn_0.dev.inMode [mSOLO, mACTIVE, mSTANDBY, mQUIESCED] = true ∧ state_CommitsRevocationsAndImpressChangeOnlyTheirOwn_0.dev.forme.run.isSome = true ∧ state_CommitsRevocationsAndImpressChangeOnlyTheirOwn_0.dev.get Fld.FORME_SVN_FUSED < state_CommitsRevocationsAndImpressChangeOnlyTheirOwn_0.dev.get Fld.FORME_SVN_RUNNING := by decide

/-- For `witness_CommitsRevocationsAndImpressChangeOnlyTheirOwn_1`. -/
def state_CommitsRevocationsAndImpressChangeOnlyTheirOwn_1 : State := at_ 4 (·.set .FORME_SVN_RUNNING 3)

/-- CommitsRevocationsAndImpressChangeOnlyTheirOwn, clause 2. -/
theorem witness_CommitsRevocationsAndImpressChangeOnlyTheirOwn_1 :
    0 ≠ 165 ∨ state_CommitsRevocationsAndImpressChangeOnlyTheirOwn_1.dev.get Fld.FORME_SVN_RUNNING ≤ state_CommitsRevocationsAndImpressChangeOnlyTheirOwn_1.dev.get Fld.FORME_SVN_FUSED := by decide

/-- For `witness_CommitsRevocationsAndImpressChangeOnlyTheirOwn_2`. -/
def state_CommitsRevocationsAndImpressChangeOnlyTheirOwn_2 : State := at_ 4 id

/-- CommitsRevocationsAndImpressChangeOnlyTheirOwn, clause 3. -/
theorem witness_CommitsRevocationsAndImpressChangeOnlyTheirOwn_2 :
    state_CommitsRevocationsAndImpressChangeOnlyTheirOwn_2.dev.reaches 327696 = true ∧ 2 < 4 ∧ Option.map (fun f => f.keyIndex) state_CommitsRevocationsAndImpressChangeOnlyTheirOwn_2.dev.forme.run ≠ some 2 ∧ setBit (state_CommitsRevocationsAndImpressChangeOnlyTheirOwn_2.dev.get Fld.FORME_SVN_REVOKED) 2 ≠ 15 := by decide

/-- For `witness_CommitsRevocationsAndImpressChangeOnlyTheirOwn_3`. -/
def state_CommitsRevocationsAndImpressChangeOnlyTheirOwn_3 : State := at_ 4 (·.set .FORME_SVN_REVOKED 7)

/-- CommitsRevocationsAndImpressChangeOnlyTheirOwn, clause 4. -/
theorem witness_CommitsRevocationsAndImpressChangeOnlyTheirOwn_3 :
    165 ≠ 165 ∨ Option.map (fun f => f.keyIndex) state_CommitsRevocationsAndImpressChangeOnlyTheirOwn_3.dev.forme.run = some 3 ∨ setBit (state_CommitsRevocationsAndImpressChangeOnlyTheirOwn_3.dev.get Fld.FORME_SVN_REVOKED) 3 = 15 := by decide

/-- For `witness_CommitsRevocationsAndImpressChangeOnlyTheirOwn_4`. -/
def state_CommitsRevocationsAndImpressChangeOnlyTheirOwn_4 : State := at_ 4 id

/-- CommitsRevocationsAndImpressChangeOnlyTheirOwn, clause 5. -/
theorem witness_CommitsRevocationsAndImpressChangeOnlyTheirOwn_4 :
    state_CommitsRevocationsAndImpressChangeOnlyTheirOwn_4.dev.reaches 327936 = true ∧ state_CommitsRevocationsAndImpressChangeOnlyTheirOwn_4.dev.inMode [mHOLDUP, mSANITIZING, mSTANDBY, mRESYNC] = false := by decide

/-- For `witness_CommitsRevocationsAndImpressChangeOnlyTheirOwn_5`. -/
def state_CommitsRevocationsAndImpressChangeOnlyTheirOwn_5 : State := at_ 6 id

/-- CommitsRevocationsAndImpressChangeOnlyTheirOwn, clause 6. -/
theorem witness_CommitsRevocationsAndImpressChangeOnlyTheirOwn_5 :
    state_CommitsRevocationsAndImpressChangeOnlyTheirOwn_5.dev.pwr.on = true ∧ state_CommitsRevocationsAndImpressChangeOnlyTheirOwn_5.dev.follower = true := by decide

/-- For `witness_CommitsRevocationsAndImpressChangeOnlyTheirOwn_6`. -/
def state_CommitsRevocationsAndImpressChangeOnlyTheirOwn_6 : State := at_ 4 (·.modCal fun c => { c with impress := true })

/-- CommitsRevocationsAndImpressChangeOnlyTheirOwn, clause 7. -/
theorem witness_CommitsRevocationsAndImpressChangeOnlyTheirOwn_6 :
    state_CommitsRevocationsAndImpressChangeOnlyTheirOwn_6.dev.cal.impress = true ∧ state_CommitsRevocationsAndImpressChangeOnlyTheirOwn_6.dev.cal.impressWaits = false ∧ state_CommitsRevocationsAndImpressChangeOnlyTheirOwn_6.dev.inMode [mHOLDUP, mSANITIZING, mACTIVE] = false ∧ state_CommitsRevocationsAndImpressChangeOnlyTheirOwn_6.dev.pendingFields = [] := by decide

/-- For `witness_CommitsRevocationsAndImpressChangeOnlyTheirOwn_7`. -/
def state_CommitsRevocationsAndImpressChangeOnlyTheirOwn_7 : State := at_ 4 fun s => (s.setShadow .EVT_RATE_COUNT 3).modCal fun c => { c with impress := true }

/-- CommitsRevocationsAndImpressChangeOnlyTheirOwn, clause 8. -/
theorem witness_CommitsRevocationsAndImpressChangeOnlyTheirOwn_7 :
    state_CommitsRevocationsAndImpressChangeOnlyTheirOwn_7.dev.cal.impress = true ∧ state_CommitsRevocationsAndImpressChangeOnlyTheirOwn_7.dev.cal.impressWaits = false ∧ state_CommitsRevocationsAndImpressChangeOnlyTheirOwn_7.dev.inMode [mHOLDUP, mSANITIZING, mACTIVE] = false ∧ ∀ (f : Fld), f ∈ state_CommitsRevocationsAndImpressChangeOnlyTheirOwn_7.dev.pendingFields → state_CommitsRevocationsAndImpressChangeOnlyTheirOwn_7.dev.onRetired f = false ∧ state_CommitsRevocationsAndImpressChangeOnlyTheirOwn_7.dev.shadowLegal f = true ∧ ¬(f ∈ sizingFields ∧ state_CommitsRevocationsAndImpressChangeOnlyTheirOwn_7.dev.shadow f = 0) := by decide

/-- For `witness_CommitsRevocationsAndImpressChangeOnlyTheirOwn_8`. -/
def state_CommitsRevocationsAndImpressChangeOnlyTheirOwn_8 : State := at_ 4 id

/-- CommitsRevocationsAndImpressChangeOnlyTheirOwn, clause 9. -/
theorem witness_CommitsRevocationsAndImpressChangeOnlyTheirOwn_8 :
    state_CommitsRevocationsAndImpressChangeOnlyTheirOwn_8.dev.cal.impress = false ∨ state_CommitsRevocationsAndImpressChangeOnlyTheirOwn_8.dev.cal.impressWaits = true := by decide

/-- For `witness_CommitsRevocationsAndImpressChangeOnlyTheirOwn_9`. -/
def state_CommitsRevocationsAndImpressChangeOnlyTheirOwn_9 : State := at_ 4 (·.setShadow .EVT_RATE_COUNT 3)

/-- CommitsRevocationsAndImpressChangeOnlyTheirOwn, clause 10. -/
theorem witness_CommitsRevocationsAndImpressChangeOnlyTheirOwn_9 :
    state_CommitsRevocationsAndImpressChangeOnlyTheirOwn_9.dev.reaches 327936 = true := by decide

/-- For `witness_OwnCompletionsBeginTheirRows_5`. -/
def state_OwnCompletionsBeginTheirRows_5 : State := at_ 2 (·.modForme fun f => { f with run := some forme0 })

/-- OwnCompletionsBeginTheirRows, clause 6. -/
theorem witness_OwnCompletionsBeginTheirRows_5 :
    state_OwnCompletionsBeginTheirRows_5.dev.modeOf = mTRAINING ∧ state_OwnCompletionsBeginTheirRows_5.dev.forme.run.isSome = true ∧ state_OwnCompletionsBeginTheirRows_5.dev.mode.due = none ∧ state_OwnCompletionsBeginTheirRows_5.dev.calRuns = true := by decide

/-- For `witness_OwnCompletionsBeginTheirRows_9`. -/
def state_OwnCompletionsBeginTheirRows_9 : State := at_ 11 (·.modMode fun m => { m with quiescing := true })

/-- OwnCompletionsBeginTheirRows, clause 10. -/
theorem witness_OwnCompletionsBeginTheirRows_9 :
    state_OwnCompletionsBeginTheirRows_9.dev.mode.quiescing = true := by decide

/-- For `witness_PowerUpRunsStepByStepAndFailuresShutDown_0`. -/
def state_PowerUpRunsStepByStepAndFailuresShutDown_0 : State := at_ 0 id

/-- PowerUpRunsStepByStepAndFailuresShutDown, clause 1. -/
theorem witness_PowerUpRunsStepByStepAndFailuresShutDown_0 :
    state_PowerUpRunsStepByStepAndFailuresShutDown_0.dev.pwr.on = true ∧ state_PowerUpRunsStepByStepAndFailuresShutDown_0.dev.modeOf = mDORMANT ∧ state_PowerUpRunsStepByStepAndFailuresShutDown_0.dev.seq = seqOFF ∧ state_PowerUpRunsStepByStepAndFailuresShutDown_0.dev.therm.trip = false ∧ state_PowerUpRunsStepByStepAndFailuresShutDown_0.dev.bit Fld.PWR_STATUS_LOCKOUT = false ∧ goodPins.pwrgd = true ∧ goodPins.resetN = true ∧ goodPins.extFault = false := by decide

/-- For `witness_PowerUpRunsStepByStepAndFailuresShutDown_1`. -/
def state_PowerUpRunsStepByStepAndFailuresShutDown_1 : State := at_ 0 fun s => (s.modPwr fun p => { p with table := PowerSeq.default }).setL [(.PWR_STATUS_SEQ, 1), (.PWR_STATUS_STEP, 2)]

/-- PowerUpRunsStepByStepAndFailuresShutDown, clause 2. -/
theorem witness_PowerUpRunsStepByStepAndFailuresShutDown_1 :
    state_PowerUpRunsStepByStepAndFailuresShutDown_1.dev.pwr.on = true ∧ state_PowerUpRunsStepByStepAndFailuresShutDown_1.dev.seq = seqUP ∧ state_PowerUpRunsStepByStepAndFailuresShutDown_1.dev.stepGood (List.map (fun r => (PowerSeq.default.rail r).uv) (List.range 14)) = true ∧ state_PowerUpRunsStepByStepAndFailuresShutDown_1.dev.pwr.offReq = none ∧ state_PowerUpRunsStepByStepAndFailuresShutDown_1.dev.get Fld.PWR_STATUS_STEP < state_PowerUpRunsStepByStepAndFailuresShutDown_1.dev.pwr.table.lastUp ∧ state_PowerUpRunsStepByStepAndFailuresShutDown_1.dev.get Fld.PWR_STATUS_STEP < 15 ∧ (state_PowerUpRunsStepByStepAndFailuresShutDown_1.dev.pwr.table.rail 13).upStep ≠ state_PowerUpRunsStepByStepAndFailuresShutDown_1.dev.get Fld.PWR_STATUS_STEP := by decide

/-- For `witness_PowerUpRunsStepByStepAndFailuresShutDown_6`. -/
def state_PowerUpRunsStepByStepAndFailuresShutDown_6 : State := at_ 0 (·.set .PWR_STATUS_SEQ seqDWELL)

/-- For `witness_PowerUpRunsStepByStepAndFailuresShutDown_6`. -/
def arg1_PowerUpRunsStepByStepAndFailuresShutDown_6 : Pins := { goodPins with pwrgd := false }

/-- PowerUpRunsStepByStepAndFailuresShutDown, clause 7. -/
theorem witness_PowerUpRunsStepByStepAndFailuresShutDown_6 :
    state_PowerUpRunsStepByStepAndFailuresShutDown_6.dev.pwr.on = true ∧ state_PowerUpRunsStepByStepAndFailuresShutDown_6.dev.modeOf = mDORMANT ∧ state_PowerUpRunsStepByStepAndFailuresShutDown_6.dev.seq = seqDWELL ∧ state_PowerUpRunsStepByStepAndFailuresShutDown_6.dev.bit Fld.PWR_STATUS_LOCKOUT = false ∧ (arg1_PowerUpRunsStepByStepAndFailuresShutDown_6.pwrgd = false ∨ arg1_PowerUpRunsStepByStepAndFailuresShutDown_6.resetN = false ∨ arg1_PowerUpRunsStepByStepAndFailuresShutDown_6.extFault = true) := by decide

/-- For `witness_PowerUpRunsStepByStepAndFailuresShutDown_7`. -/
def state_PowerUpRunsStepByStepAndFailuresShutDown_7 : State := at_ 0 (·.setL [(.PWR_STATUS_SEQ, seqDWELL), (.PWR_STATUS_LOCKOUT, 1)])

/-- PowerUpRunsStepByStepAndFailuresShutDown, clause 8. -/
theorem witness_PowerUpRunsStepByStepAndFailuresShutDown_7 :
    state_PowerUpRunsStepByStepAndFailuresShutDown_7.dev.pwr.on = true ∧ state_PowerUpRunsStepByStepAndFailuresShutDown_7.dev.modeOf = mDORMANT ∧ state_PowerUpRunsStepByStepAndFailuresShutDown_7.dev.seq = seqDWELL ∧ state_PowerUpRunsStepByStepAndFailuresShutDown_7.dev.bit Fld.PWR_STATUS_LOCKOUT = true ∧ (goodPins.pwrgd = true ∨ state_PowerUpRunsStepByStepAndFailuresShutDown_7.dev.bit Fld.PWR_STATUS_FAULT_OWN = true) := by decide

/-- For `witness_PowerUpRunsStepByStepAndFailuresShutDown_8`. -/
def state_PowerUpRunsStepByStepAndFailuresShutDown_8 : State := at_ 0 (·.setL [(.PWR_STATUS_SEQ, 1), (.PWR_STATUS_STEP, 2)])

/-- For `witness_PowerUpRunsStepByStepAndFailuresShutDown_8`. -/
def arg1_PowerUpRunsStepByStepAndFailuresShutDown_8 : Pins := { goodPins with pwrgd := false, resetN := false }

/-- PowerUpRunsStepByStepAndFailuresShutDown, clause 9. -/
theorem witness_PowerUpRunsStepByStepAndFailuresShutDown_8 :
    state_PowerUpRunsStepByStepAndFailuresShutDown_8.dev.pwr.on = true ∧ state_PowerUpRunsStepByStepAndFailuresShutDown_8.dev.seq = seqUP ∧ state_PowerUpRunsStepByStepAndFailuresShutDown_8.dev.pwr.offReq = none ∧ state_PowerUpRunsStepByStepAndFailuresShutDown_8.dev.bit Fld.PWR_STATUS_LOCKOUT = false ∧ (1, arg1_PowerUpRunsStepByStepAndFailuresShutDown_8) ∈ [(0, have __src := state_PowerUpRunsStepByStepAndFailuresShutDown_8.dev.pwr.pins; { pwrgd := false, resetN := __src.resetN, extFault := __src.extFault, roleStrap := __src.roleStrap, bootSel := __src.bootSel, twinPresentN := __src.twinPresentN, addrStrap := __src.addrStrap : Pins }), (1, have __src := state_PowerUpRunsStepByStepAndFailuresShutDown_8.dev.pwr.pins; { pwrgd := __src.pwrgd, resetN := false, extFault := __src.extFault, roleStrap := __src.roleStrap, bootSel := __src.bootSel, twinPresentN := __src.twinPresentN, addrStrap := __src.addrStrap : Pins }), (2, have __src := state_PowerUpRunsStepByStepAndFailuresShutDown_8.dev.pwr.pins; { pwrgd := __src.pwrgd, resetN := __src.resetN, extFault := true, roleStrap := __src.roleStrap, bootSel := __src.bootSel, twinPresentN := __src.twinPresentN, addrStrap := __src.addrStrap : Pins })] := by decide

/-- For `witness_PowerUpRunsStepByStepAndFailuresShutDown_10`. -/
def state_PowerUpRunsStepByStepAndFailuresShutDown_10 : State := at_ 0 (·.setL [(.PWR_STATUS_SEQ, 1), (.PWR_STATUS_STEP, 2), (.PWR_RAIL_STATUS_STATE 5, 1), (.PWR_RAIL_STATUS_EN 5, 1)])

/-- PowerUpRunsStepByStepAndFailuresShutDown, clause 11. -/
theorem witness_PowerUpRunsStepByStepAndFailuresShutDown_10 :
    state_PowerUpRunsStepByStepAndFailuresShutDown_10.dev.pwr.on = true ∧ state_PowerUpRunsStepByStepAndFailuresShutDown_10.dev.seq = seqUP ∧ 5 < 14 ∧ state_PowerUpRunsStepByStepAndFailuresShutDown_10.dev.get (Fld.PWR_RAIL_STATUS_STATE 5) = 1 := by decide

/-- For `witness_PowerUpRunsStepByStepAndFailuresShutDown_12`. -/
def arg2_PowerUpRunsStepByStepAndFailuresShutDown_12 : Dev := (at_ 0 fun s => s.modPwr fun p => { p with table := PowerSeq.default }).dev

/-- PowerUpRunsStepByStepAndFailuresShutDown, clause 13. -/
theorem witness_PowerUpRunsStepByStepAndFailuresShutDown_12 :
    arg2_PowerUpRunsStepByStepAndFailuresShutDown_12.get Fld.PWR_STATUS_RETRIES < arg2_PowerUpRunsStepByStepAndFailuresShutDown_12.pwr.table.retryMax ∧ arg2_PowerUpRunsStepByStepAndFailuresShutDown_12.get Fld.PWR_STATUS_RETRIES < 7 := by decide

/-- For `witness_PowerUpRunsStepByStepAndFailuresShutDown_13`. -/
def state_PowerUpRunsStepByStepAndFailuresShutDown_13 : State := at_ 0 fun s => (s.modPwr fun p => { p with table := PowerSeq.default }).setL [(.PWR_STATUS_SEQ, 3), (.PWR_STATUS_STEP, 1), (.PWR_RAIL_STATUS_STATE 5, 1), (.PWR_RAIL_STATUS_EN 5, 1)]

/-- PowerUpRunsStepByStepAndFailuresShutDown, clause 14. -/
theorem witness_PowerUpRunsStepByStepAndFailuresShutDown_13 :
    state_PowerUpRunsStepByStepAndFailuresShutDown_13.dev.pwr.on = true ∧ state_PowerUpRunsStepByStepAndFailuresShutDown_13.dev.seq = seqDOWN ∧ state_PowerUpRunsStepByStepAndFailuresShutDown_13.dev.get Fld.PWR_STATUS_STEP ≠ 0 ∧ state_PowerUpRunsStepByStepAndFailuresShutDown_13.dev.downHeld = false := by decide

/-- For `witness_PowerUpRunsStepByStepAndFailuresShutDown_15`. -/
def state_PowerUpRunsStepByStepAndFailuresShutDown_15 : State := at_ 0 id

/-- PowerUpRunsStepByStepAndFailuresShutDown, clause 16. -/
theorem witness_PowerUpRunsStepByStepAndFailuresShutDown_15 :
    state_PowerUpRunsStepByStepAndFailuresShutDown_15.dev.seq ≠ seqDOWN ∨ state_PowerUpRunsStepByStepAndFailuresShutDown_15.dev.get Fld.PWR_STATUS_STEP = 0 := by decide

/-- For `witness_SupplyFaultsAreRecordedAndBeginTheVigil_0`. -/
def state_SupplyFaultsAreRecordedAndBeginTheVigil_0 : State := powered 4 fun s => (s.modPwr fun p => { p with table := PowerSeq.default }).set (.PWR_RAIL_STATUS_STATE 6) 2

/-- SupplyFaultsAreRecordedAndBeginTheVigil, clause 1. -/
theorem witness_SupplyFaultsAreRecordedAndBeginTheVigil_0 :
    state_SupplyFaultsAreRecordedAndBeginTheVigil_0.dev.pwr.on = true ∧ state_SupplyFaultsAreRecordedAndBeginTheVigil_0.dev.seq = seqON ∧ state_SupplyFaultsAreRecordedAndBeginTheVigil_0.dev.modeOf ≠ mHOLDUP ∧ 6 < 14 ∧ 6 ≠ 4 ∧ 6 ≠ 5 ∧ state_SupplyFaultsAreRecordedAndBeginTheVigil_0.dev.get (Fld.PWR_RAIL_STATUS_STATE 6) = 2 ∧ 3 < (state_SupplyFaultsAreRecordedAndBeginTheVigil_0.dev.pwr.table.rail 6).uv := by decide

/-- For `witness_SupplyFaultsAreRecordedAndBeginTheVigil_1`. -/
def state_SupplyFaultsAreRecordedAndBeginTheVigil_1 : State := powered 4 fun s => (s.modPwr fun p => { p with table := PowerSeq.default }).set (.PWR_RAIL_STATUS_STATE 13) 2

/-- SupplyFaultsAreRecordedAndBeginTheVigil, clause 2. -/
theorem witness_SupplyFaultsAreRecordedAndBeginTheVigil_1 :
    state_SupplyFaultsAreRecordedAndBeginTheVigil_1.dev.pwr.on = true ∧ state_SupplyFaultsAreRecordedAndBeginTheVigil_1.dev.seq = seqON ∧ state_SupplyFaultsAreRecordedAndBeginTheVigil_1.dev.modeOf ≠ mHOLDUP ∧ 13 < 14 ∧ 13 ≠ 4 ∧ 13 ≠ 5 ∧ state_SupplyFaultsAreRecordedAndBeginTheVigil_1.dev.get (Fld.PWR_RAIL_STATUS_STATE 13) = 2 ∧ (state_SupplyFaultsAreRecordedAndBeginTheVigil_1.dev.pwr.table.rail 13).uv ≤ 60000 ∧ (state_SupplyFaultsAreRecordedAndBeginTheVigil_1.dev.pwr.table.rail 13).ov < 60000 := by decide

/-- For `witness_SupplyFaultsAreRecordedAndBeginTheVigil_3`. -/
def state_SupplyFaultsAreRecordedAndBeginTheVigil_3 : State := powered 4 id

/-- SupplyFaultsAreRecordedAndBeginTheVigil, clause 4. -/
theorem witness_SupplyFaultsAreRecordedAndBeginTheVigil_3 :
    state_SupplyFaultsAreRecordedAndBeginTheVigil_3.dev.pwr.on = true ∧ state_SupplyFaultsAreRecordedAndBeginTheVigil_3.dev.seq ≠ seqUP ∧ state_SupplyFaultsAreRecordedAndBeginTheVigil_3.dev.modeOf ≠ mDORMANT := by decide

/-- For `witness_SupplyFaultsAreRecordedAndBeginTheVigil_4`. -/
def state_SupplyFaultsAreRecordedAndBeginTheVigil_4 : State := powered 4 id

/-- SupplyFaultsAreRecordedAndBeginTheVigil, clause 5. -/
theorem witness_SupplyFaultsAreRecordedAndBeginTheVigil_4 :
    state_SupplyFaultsAreRecordedAndBeginTheVigil_4.dev.pwr.on = true ∧ state_SupplyFaultsAreRecordedAndBeginTheVigil_4.dev.seq ≠ seqUP ∧ state_SupplyFaultsAreRecordedAndBeginTheVigil_4.dev.pwr.pins.pwrgd = true ∧ state_SupplyFaultsAreRecordedAndBeginTheVigil_4.dev.bit Fld.PWR_STATUS_LOCKOUT = false ∧ state_SupplyFaultsAreRecordedAndBeginTheVigil_4.dev.pwr.pulse = none ∧ row22From.contains state_SupplyFaultsAreRecordedAndBeginTheVigil_4.dev.modeOf = true ∧ state_SupplyFaultsAreRecordedAndBeginTheVigil_4.dev.calRuns = true ∧ state_SupplyFaultsAreRecordedAndBeginTheVigil_4.dev.mode.due = none := by decide

/-- For `witness_SupplyFaultsAreRecordedAndBeginTheVigil_5`. -/
def state_SupplyFaultsAreRecordedAndBeginTheVigil_5 : State := powered 5 id

/-- SupplyFaultsAreRecordedAndBeginTheVigil, clause 6. -/
theorem witness_SupplyFaultsAreRecordedAndBeginTheVigil_5 :
    state_SupplyFaultsAreRecordedAndBeginTheVigil_5.dev.pwr.on = true ∧ state_SupplyFaultsAreRecordedAndBeginTheVigil_5.dev.seq ≠ seqUP ∧ row22From.contains state_SupplyFaultsAreRecordedAndBeginTheVigil_5.dev.modeOf = true ∧ state_SupplyFaultsAreRecordedAndBeginTheVigil_5.dev.calRuns = true ∧ state_SupplyFaultsAreRecordedAndBeginTheVigil_5.dev.mode.due = none := by decide

/-- For `witness_SupplyFaultsAreRecordedAndBeginTheVigil_6`. -/
def state_SupplyFaultsAreRecordedAndBeginTheVigil_6 : State := powered 6 id

/-- SupplyFaultsAreRecordedAndBeginTheVigil, clause 7. -/
theorem witness_SupplyFaultsAreRecordedAndBeginTheVigil_6 :
    state_SupplyFaultsAreRecordedAndBeginTheVigil_6.dev.pwr.on = true ∧ state_SupplyFaultsAreRecordedAndBeginTheVigil_6.dev.therm.trip = false ∧ state_SupplyFaultsAreRecordedAndBeginTheVigil_6.dev.seq ≠ seqUP ∧ row22From.contains state_SupplyFaultsAreRecordedAndBeginTheVigil_6.dev.modeOf = true ∧ state_SupplyFaultsAreRecordedAndBeginTheVigil_6.dev.calRuns = true ∧ state_SupplyFaultsAreRecordedAndBeginTheVigil_6.dev.mode.due = none := by decide

/-- For `witness_TheEnergyStoreTheIslandAndTheVigilRunInOrder_0`. -/
def state_TheEnergyStoreTheIslandAndTheVigilRunInOrder_0 : State := at_ 0 (·.setL [(.PWR_STATUS_SEQ, 5), (.PWR_STATUS_LOCKOUT, 1), (.PWR_STATUS_RETRIES, 3)])

/-- TheEnergyStoreTheIslandAndTheVigilRunInOrder, clause 1. -/
theorem witness_TheEnergyStoreTheIslandAndTheVigilRunInOrder_0 :
    state_TheEnergyStoreTheIslandAndTheVigilRunInOrder_0.dev.reaches 65540 = true := by decide

/-- TheEnergyStoreTheIslandAndTheVigilRunInOrder, clause 2. -/
theorem witness_TheEnergyStoreTheIslandAndTheVigilRunInOrder_1 :
    1 ≠ 155 := by decide

/-- For `witness_TheEnergyStoreTheIslandAndTheVigilRunInOrder_2`. -/
def state_TheEnergyStoreTheIslandAndTheVigilRunInOrder_2 : State := powered 4 id

/-- TheEnergyStoreTheIslandAndTheVigilRunInOrder, clause 3. -/
theorem witness_TheEnergyStoreTheIslandAndTheVigilRunInOrder_2 :
    state_TheEnergyStoreTheIslandAndTheVigilRunInOrder_2.dev.reaches 65540 = true ∧ state_TheEnergyStoreTheIslandAndTheVigilRunInOrder_2.dev.mayMeasure = true := by decide

/-- For `witness_TheEnergyStoreTheIslandAndTheVigilRunInOrder_3`. -/
def state_TheEnergyStoreTheIslandAndTheVigilRunInOrder_3 : State := powered 4 fun s => s.modPwr fun p => { p with ageMs := 10000000 }

/-- TheEnergyStoreTheIslandAndTheVigilRunInOrder, clause 4. -/
theorem witness_TheEnergyStoreTheIslandAndTheVigilRunInOrder_3 :
    state_TheEnergyStoreTheIslandAndTheVigilRunInOrder_3.dev.pwr.on = true ∧ state_TheEnergyStoreTheIslandAndTheVigilRunInOrder_3.dev.mayMeasure = true ∧ state_TheEnergyStoreTheIslandAndTheVigilRunInOrder_3.dev.pwr.table.measS * 1000 ≤ state_TheEnergyStoreTheIslandAndTheVigilRunInOrder_3.dev.pwr.ageMs := by decide

/-- For `witness_TheEnergyStoreTheIslandAndTheVigilRunInOrder_4`. -/
def state_TheEnergyStoreTheIslandAndTheVigilRunInOrder_4 : State := powered 4 rated

/-- TheEnergyStoreTheIslandAndTheVigilRunInOrder, clause 5. -/
theorem witness_TheEnergyStoreTheIslandAndTheVigilRunInOrder_4 :
    state_TheEnergyStoreTheIslandAndTheVigilRunInOrder_4.dev.pwr.on = true ∧ state_TheEnergyStoreTheIslandAndTheVigilRunInOrder_4.dev.pwr.pulse.isSome = true ∧ 11900000 ≠ 0 ∧ 20000 ≠ 0 ∧ state_TheEnergyStoreTheIslandAndTheVigilRunInOrder_4.dev.pwr.table.battery = false ∧ state_TheEnergyStoreTheIslandAndTheVigilRunInOrder_4.dev.saveWatts = none ∧ 11950000 * 10 ^ 6 / (state_TheEnergyStoreTheIslandAndTheVigilRunInOrder_4.dev.pwr.table.rTest * 20000) < 2 ^ 32 ∧ min ((12000000 - 11900000) * state_TheEnergyStoreTheIslandAndTheVigilRunInOrder_4.dev.pwr.table.rTest * 1000 / 11900000) (2 ^ 32 - 1) ≤ state_TheEnergyStoreTheIslandAndTheVigilRunInOrder_4.dev.pwr.table.esrMax ∧ state_TheEnergyStoreTheIslandAndTheVigilRunInOrder_4.dev.pwr.table.cMin ≤ 11950000 * 10 ^ 6 / (state_TheEnergyStoreTheIslandAndTheVigilRunInOrder_4.dev.pwr.table.rTest * 20000) := by decide

/-- For `witness_TheEnergyStoreTheIslandAndTheVigilRunInOrder_5`. -/
def state_TheEnergyStoreTheIslandAndTheVigilRunInOrder_5 : State := powered 4 id

/-- TheEnergyStoreTheIslandAndTheVigilRunInOrder, clause 6. -/
theorem witness_TheEnergyStoreTheIslandAndTheVigilRunInOrder_5 :
    state_TheEnergyStoreTheIslandAndTheVigilRunInOrder_5.dev.pwr.on = true ∧ state_TheEnergyStoreTheIslandAndTheVigilRunInOrder_5.dev.saveWatts = none := by decide

/-- For `witness_TheEnergyStoreTheIslandAndTheVigilRunInOrder_6`. -/
def state_TheEnergyStoreTheIslandAndTheVigilRunInOrder_6 : State := powered 4 fun s => s.modPwr fun p => { p with measured := true, savePower := some 100, table := PowerSeq.default }

/-- TheEnergyStoreTheIslandAndTheVigilRunInOrder, clause 7. -/
theorem witness_TheEnergyStoreTheIslandAndTheVigilRunInOrder_6 :
    state_TheEnergyStoreTheIslandAndTheVigilRunInOrder_6.dev.pwr.on = true ∧ state_TheEnergyStoreTheIslandAndTheVigilRunInOrder_6.dev.saveWatts = some 100 ∧ state_TheEnergyStoreTheIslandAndTheVigilRunInOrder_6.dev.pwr.measured = true := by decide

/-- For `witness_TheEnergyStoreTheIslandAndTheVigilRunInOrder_7`. -/
def state_TheEnergyStoreTheIslandAndTheVigilRunInOrder_7 : State := powered 4 id

/-- TheEnergyStoreTheIslandAndTheVigilRunInOrder, clause 8. -/
theorem witness_TheEnergyStoreTheIslandAndTheVigilRunInOrder_7 :
    state_TheEnergyStoreTheIslandAndTheVigilRunInOrder_7.dev.pwr.on = true := by decide

/-- For `witness_TheEnergyStoreTheIslandAndTheVigilRunInOrder_9`. -/
def state_TheEnergyStoreTheIslandAndTheVigilRunInOrder_9 : State := mk (·.modPwr fun p => { p with on := false })

/-- TheEnergyStoreTheIslandAndTheVigilRunInOrder, clause 10. -/
theorem witness_TheEnergyStoreTheIslandAndTheVigilRunInOrder_9 :
    state_TheEnergyStoreTheIslandAndTheVigilRunInOrder_9.dev.pwr.on = false := by decide

/-- For `witness_TheEnergyStoreTheIslandAndTheVigilRunInOrder_10`. -/
def state_TheEnergyStoreTheIslandAndTheVigilRunInOrder_10 : State := holding (vigilAt 1 true false) (·.set .PWR_STATUS_STEP 2)

/-- For `witness_TheEnergyStoreTheIslandAndTheVigilRunInOrder_10`. -/
def arg1_TheEnergyStoreTheIslandAndTheVigilRunInOrder_10 : Vigil := vigilAt 1 true false

/-- TheEnergyStoreTheIslandAndTheVigilRunInOrder, clause 11. -/
theorem witness_TheEnergyStoreTheIslandAndTheVigilRunInOrder_10 :
    state_TheEnergyStoreTheIslandAndTheVigilRunInOrder_10.dev.pwr.vigil = some arg1_TheEnergyStoreTheIslandAndTheVigilRunInOrder_10 ∧ arg1_TheEnergyStoreTheIslandAndTheVigilRunInOrder_10.step = 1 ∧ arg1_TheEnergyStoreTheIslandAndTheVigilRunInOrder_10.limited = true ∧ arg1_TheEnergyStoreTheIslandAndTheVigilRunInOrder_10.foldStart = none ∧ state_TheEnergyStoreTheIslandAndTheVigilRunInOrder_10.dev.get Fld.PWR_STATUS_STEP ≠ 0 := by decide

/-- For `witness_TheEnergyStoreTheIslandAndTheVigilRunInOrder_13`. -/
def state_TheEnergyStoreTheIslandAndTheVigilRunInOrder_13 : State := holding (vigilAt 3 false true) id

/-- For `witness_TheEnergyStoreTheIslandAndTheVigilRunInOrder_13`. -/
def arg1_TheEnergyStoreTheIslandAndTheVigilRunInOrder_13 : Vigil := vigilAt 3 false true

/-- TheEnergyStoreTheIslandAndTheVigilRunInOrder, clause 14. -/
theorem witness_TheEnergyStoreTheIslandAndTheVigilRunInOrder_13 :
    state_TheEnergyStoreTheIslandAndTheVigilRunInOrder_13.dev.pwr.vigil = some arg1_TheEnergyStoreTheIslandAndTheVigilRunInOrder_13 ∧ arg1_TheEnergyStoreTheIslandAndTheVigilRunInOrder_13.step = 3 ∧ arg1_TheEnergyStoreTheIslandAndTheVigilRunInOrder_13.limited = false ∧ arg1_TheEnergyStoreTheIslandAndTheVigilRunInOrder_13.noPrograms = true := by decide

/-- For `witness_TheEnergyStoreTheIslandAndTheVigilRunInOrder_14`. -/
def state_TheEnergyStoreTheIslandAndTheVigilRunInOrder_14 : State := holding (vigilAt 4 false false) id

/-- For `witness_TheEnergyStoreTheIslandAndTheVigilRunInOrder_14`. -/
def arg2_TheEnergyStoreTheIslandAndTheVigilRunInOrder_14 : Vigil := vigilAt 4 false false

/-- TheEnergyStoreTheIslandAndTheVigilRunInOrder, clause 15. -/
theorem witness_TheEnergyStoreTheIslandAndTheVigilRunInOrder_14 :
    state_TheEnergyStoreTheIslandAndTheVigilRunInOrder_14.dev.pwr.vigil = some arg2_TheEnergyStoreTheIslandAndTheVigilRunInOrder_14 ∧ arg2_TheEnergyStoreTheIslandAndTheVigilRunInOrder_14.limited = false ∧ arg2_TheEnergyStoreTheIslandAndTheVigilRunInOrder_14.step ≤ 4 ∧ arg2_TheEnergyStoreTheIslandAndTheVigilRunInOrder_14.noPrograms = false ∧ state_TheEnergyStoreTheIslandAndTheVigilRunInOrder_14.dev.reserveReached 5000 = true := by decide

/-- For `witness_TheEnergyStoreTheIslandAndTheVigilRunInOrder_16`. -/
def state_TheEnergyStoreTheIslandAndTheVigilRunInOrder_16 : State := holding (vigilAt 4 false false) id

/-- For `witness_TheEnergyStoreTheIslandAndTheVigilRunInOrder_16`. -/
def arg1_TheEnergyStoreTheIslandAndTheVigilRunInOrder_16 : Vigil := vigilAt 4 false false

/-- TheEnergyStoreTheIslandAndTheVigilRunInOrder, clause 17. -/
theorem witness_TheEnergyStoreTheIslandAndTheVigilRunInOrder_16 :
    state_TheEnergyStoreTheIslandAndTheVigilRunInOrder_16.dev.pwr.vigil = some arg1_TheEnergyStoreTheIslandAndTheVigilRunInOrder_16 ∧ arg1_TheEnergyStoreTheIslandAndTheVigilRunInOrder_16.limited = false ∧ (arg1_TheEnergyStoreTheIslandAndTheVigilRunInOrder_16.step = 4 ∨ arg1_TheEnergyStoreTheIslandAndTheVigilRunInOrder_16.step = 5) ∧ state_TheEnergyStoreTheIslandAndTheVigilRunInOrder_16.dev.vigilIdle = true ∧ state_TheEnergyStoreTheIslandAndTheVigilRunInOrder_16.dev.storeIdle = true := by decide

/-- For `witness_TheEnergyStoreTheIslandAndTheVigilRunInOrder_17`. -/
def state_TheEnergyStoreTheIslandAndTheVigilRunInOrder_17 : State := holding (vigilAt 6 false false) (·.set .PWR_STATUS_SEQ seqDWELL)

/-- For `witness_TheEnergyStoreTheIslandAndTheVigilRunInOrder_17`. -/
def arg1_TheEnergyStoreTheIslandAndTheVigilRunInOrder_17 : Vigil := vigilAt 6 false false

/-- TheEnergyStoreTheIslandAndTheVigilRunInOrder, clause 18. -/
theorem witness_TheEnergyStoreTheIslandAndTheVigilRunInOrder_17 :
    state_TheEnergyStoreTheIslandAndTheVigilRunInOrder_17.dev.modeOf = mHOLDUP ∧ state_TheEnergyStoreTheIslandAndTheVigilRunInOrder_17.dev.pwr.vigil = some arg1_TheEnergyStoreTheIslandAndTheVigilRunInOrder_17 ∧ arg1_TheEnergyStoreTheIslandAndTheVigilRunInOrder_17.step = 6 ∧ state_TheEnergyStoreTheIslandAndTheVigilRunInOrder_17.dev.seq = seqDWELL := by decide

/-- For `witness_TheEnergyStoreTheIslandAndTheVigilRunInOrder_19`. -/
def state_TheEnergyStoreTheIslandAndTheVigilRunInOrder_19 : State := at_ 4 id

/-- TheEnergyStoreTheIslandAndTheVigilRunInOrder, clause 20. -/
theorem witness_TheEnergyStoreTheIslandAndTheVigilRunInOrder_19 :
    state_TheEnergyStoreTheIslandAndTheVigilRunInOrder_19.dev.pwr.vigil = none := by decide

/-- For `witness_PowerUpRunsStepByStepAndFailuresShutDown_2`. -/
def state_PowerUpRunsStepByStepAndFailuresShutDown_2 : State := at_ 0 fun s => (s.modPwr fun p => { p with table := PowerSeq.default }).setL [(.PWR_STATUS_SEQ, 1), (.PWR_STATUS_STEP, PowerSeq.default.lastUp)]

/-- PowerUpRunsStepByStepAndFailuresShutDown, clause 3. -/
theorem witness_PowerUpRunsStepByStepAndFailuresShutDown_2 :
    state_PowerUpRunsStepByStepAndFailuresShutDown_2.dev.pwr.on = true ∧ (state_PowerUpRunsStepByStepAndFailuresShutDown_2.dev.upSettled (List.map (fun r => (PowerSeq.default.rail r).uv) (List.range 14))).snd = true := by decide

/-- For `witness_PowerUpRunsStepByStepAndFailuresShutDown_3`. -/
def state_PowerUpRunsStepByStepAndFailuresShutDown_3 : State := at_ 0 fun s => ((s.modPwr fun p => { p with table := PowerSeq.default }).setL [(.PWR_STATUS_SEQ, 1), (.PWR_STATUS_STEP, PowerSeq.default.lastUp)])

/-- PowerUpRunsStepByStepAndFailuresShutDown, clause 4. -/
theorem witness_PowerUpRunsStepByStepAndFailuresShutDown_3 :
    state_PowerUpRunsStepByStepAndFailuresShutDown_3.dev.pwr.on = true ∧ state_PowerUpRunsStepByStepAndFailuresShutDown_3.dev.seq = seqUP ∧ state_PowerUpRunsStepByStepAndFailuresShutDown_3.dev.stepGood (List.map (fun r => (PowerSeq.default.rail r).uv) (List.range 14)) = true ∧ state_PowerUpRunsStepByStepAndFailuresShutDown_3.dev.pwr.offReq = none ∧ state_PowerUpRunsStepByStepAndFailuresShutDown_3.dev.pwr.table.lastUp ≤ state_PowerUpRunsStepByStepAndFailuresShutDown_3.dev.get Fld.PWR_STATUS_STEP ∧ state_PowerUpRunsStepByStepAndFailuresShutDown_3.dev.calRuns = false ∧ state_PowerUpRunsStepByStepAndFailuresShutDown_3.dev.mode.due = none := by decide

/-- For `witness_PowerUpRunsStepByStepAndFailuresShutDown_4`. -/
def state_PowerUpRunsStepByStepAndFailuresShutDown_4 : State := at_ 0 (·.setL [(.PWR_STATUS_SEQ, 3), (.PWR_STATUS_STEP, 2)])

/-- PowerUpRunsStepByStepAndFailuresShutDown, clause 5. -/
theorem witness_PowerUpRunsStepByStepAndFailuresShutDown_4 :
    state_PowerUpRunsStepByStepAndFailuresShutDown_4.dev.pwr.on = true ∧ state_PowerUpRunsStepByStepAndFailuresShutDown_4.dev.seq = seqDOWN ∧ state_PowerUpRunsStepByStepAndFailuresShutDown_4.dev.therm.trip = false ∧ state_PowerUpRunsStepByStepAndFailuresShutDown_4.dev.bit Fld.PWR_STATUS_LOCKOUT = false ∧ goodPins.pwrgd = true ∧ goodPins.resetN = true ∧ goodPins.extFault = false := by decide

/-- For `witness_PowerUpRunsStepByStepAndFailuresShutDown_5`. -/
def state_PowerUpRunsStepByStepAndFailuresShutDown_5 : State := at_ 0 (·.set .PWR_STATUS_SEQ seqDWELL)

/-- PowerUpRunsStepByStepAndFailuresShutDown, clause 6. -/
theorem witness_PowerUpRunsStepByStepAndFailuresShutDown_5 :
    state_PowerUpRunsStepByStepAndFailuresShutDown_5.dev.pwr.on = true ∧ state_PowerUpRunsStepByStepAndFailuresShutDown_5.dev.modeOf = mDORMANT ∧ state_PowerUpRunsStepByStepAndFailuresShutDown_5.dev.seq = seqDWELL ∧ state_PowerUpRunsStepByStepAndFailuresShutDown_5.dev.therm.trip = false ∧ state_PowerUpRunsStepByStepAndFailuresShutDown_5.dev.bit Fld.PWR_STATUS_LOCKOUT = false ∧ goodPins.pwrgd = true ∧ goodPins.resetN = true ∧ goodPins.extFault = false := by decide

/-- For `witness_PowerUpRunsStepByStepAndFailuresShutDown_9`. -/
def state_PowerUpRunsStepByStepAndFailuresShutDown_9 : State := at_ 0 fun s => (s.setL [(.PWR_STATUS_SEQ, 1), (.PWR_STATUS_STEP, 2)]).modTherm fun x => { x with trip := true }

/-- PowerUpRunsStepByStepAndFailuresShutDown, clause 10. -/
theorem witness_PowerUpRunsStepByStepAndFailuresShutDown_9 :
    state_PowerUpRunsStepByStepAndFailuresShutDown_9.dev.pwr.on = true ∧ state_PowerUpRunsStepByStepAndFailuresShutDown_9.dev.seq = seqUP ∧ state_PowerUpRunsStepByStepAndFailuresShutDown_9.dev.pwr.offReq = none ∧ state_PowerUpRunsStepByStepAndFailuresShutDown_9.dev.therm.trip = true := by decide

/-- For `witness_SupplyFaultsAreRecordedAndBeginTheVigil_2`. -/
def state_SupplyFaultsAreRecordedAndBeginTheVigil_2 : State := wired 4 fun s => ((s.modPwr fun p => { p with table := PowerSeq.default }).set (.PWR_RAIL_STATUS_STATE 5) 2).set .PWR_STATUS_SEQ seqON

/-- SupplyFaultsAreRecordedAndBeginTheVigil, clause 3. -/
theorem witness_SupplyFaultsAreRecordedAndBeginTheVigil_2 :
    state_SupplyFaultsAreRecordedAndBeginTheVigil_2.dev.pwr.on = true ∧ state_SupplyFaultsAreRecordedAndBeginTheVigil_2.dev.seq = seqON ∧ state_SupplyFaultsAreRecordedAndBeginTheVigil_2.dev.inMode [mDORMANT, mHOLDUP] = false ∧ (5 = 4 ∨ 5 = 5) ∧ state_SupplyFaultsAreRecordedAndBeginTheVigil_2.dev.get (Fld.PWR_RAIL_STATUS_STATE 5) = 2 ∧ state_SupplyFaultsAreRecordedAndBeginTheVigil_2.dev.outside 5 3 = true := by decide

/-- For `witness_TheEnergyStoreTheIslandAndTheVigilRunInOrder_11`. -/
def state_TheEnergyStoreTheIslandAndTheVigilRunInOrder_11 : State := holding (vigilAt 1 false false) id

/-- For `witness_TheEnergyStoreTheIslandAndTheVigilRunInOrder_11`. -/
def arg1_TheEnergyStoreTheIslandAndTheVigilRunInOrder_11 : Vigil := vigilAt 1 false false

/-- TheEnergyStoreTheIslandAndTheVigilRunInOrder, clause 12. -/
theorem witness_TheEnergyStoreTheIslandAndTheVigilRunInOrder_11 :
    state_TheEnergyStoreTheIslandAndTheVigilRunInOrder_11.dev.pwr.vigil = some arg1_TheEnergyStoreTheIslandAndTheVigilRunInOrder_11 ∧ arg1_TheEnergyStoreTheIslandAndTheVigilRunInOrder_11.step = 1 ∧ arg1_TheEnergyStoreTheIslandAndTheVigilRunInOrder_11.limited = false := by decide

/-- For `witness_TheEnergyStoreTheIslandAndTheVigilRunInOrder_12`. -/
def state_TheEnergyStoreTheIslandAndTheVigilRunInOrder_12 : State := holding (vigilAt 3 false false) id

/-- For `witness_TheEnergyStoreTheIslandAndTheVigilRunInOrder_12`. -/
def arg1_TheEnergyStoreTheIslandAndTheVigilRunInOrder_12 : Vigil := vigilAt 3 false false

/-- TheEnergyStoreTheIslandAndTheVigilRunInOrder, clause 13. -/
theorem witness_TheEnergyStoreTheIslandAndTheVigilRunInOrder_12 :
    state_TheEnergyStoreTheIslandAndTheVigilRunInOrder_12.dev.pwr.vigil = some arg1_TheEnergyStoreTheIslandAndTheVigilRunInOrder_12 ∧ arg1_TheEnergyStoreTheIslandAndTheVigilRunInOrder_12.step = 3 ∧ arg1_TheEnergyStoreTheIslandAndTheVigilRunInOrder_12.limited = false ∧ arg1_TheEnergyStoreTheIslandAndTheVigilRunInOrder_12.noPrograms = false := by decide

/-- For `witness_PowerUpRunsStepByStepAndFailuresShutDown_11`. -/
def state_PowerUpRunsStepByStepAndFailuresShutDown_11 : State := at_ 0 (·.setL [(.PWR_STATUS_SEQ, 1), (.PWR_STATUS_STEP, 2), (.PWR_RAIL_STATUS_STATE 5, 1), (.PWR_RAIL_STATUS_EN 5, 1)])

/-- PowerUpRunsStepByStepAndFailuresShutDown, clause 12. -/
theorem witness_PowerUpRunsStepByStepAndFailuresShutDown_11 :
    state_PowerUpRunsStepByStepAndFailuresShutDown_11.dev.pwr.on = true ∧ state_PowerUpRunsStepByStepAndFailuresShutDown_11.dev.seq = seqUP ∧ 5 < 14 ∧ state_PowerUpRunsStepByStepAndFailuresShutDown_11.dev.get (Fld.PWR_RAIL_STATUS_STATE 5) = 1 := by decide

/-- For `witness_PowerUpRunsStepByStepAndFailuresShutDown_14`. -/
def state_PowerUpRunsStepByStepAndFailuresShutDown_14 : State := at_ 0 fun s => (s.modPwr fun p => { p with table := PowerSeq.default }).setL [(.PWR_STATUS_SEQ, 3), (.PWR_STATUS_STEP, 1), (.PWR_RAIL_STATUS_STATE 5, 1), (.PWR_RAIL_STATUS_EN 5, 1)]

/-- PowerUpRunsStepByStepAndFailuresShutDown, clause 15. -/
theorem witness_PowerUpRunsStepByStepAndFailuresShutDown_14 :
    state_PowerUpRunsStepByStepAndFailuresShutDown_14.dev.pwr.on = true ∧ state_PowerUpRunsStepByStepAndFailuresShutDown_14.dev.seq = seqDOWN ∧ state_PowerUpRunsStepByStepAndFailuresShutDown_14.dev.get Fld.PWR_STATUS_STEP ≠ 0 ∧ state_PowerUpRunsStepByStepAndFailuresShutDown_14.dev.downHeld = false ∧ ∀ (n : Nat), n ∈ List.range 14 → state_PowerUpRunsStepByStepAndFailuresShutDown_14.dev.get Fld.PWR_STATUS_STEP < n → state_PowerUpRunsStepByStepAndFailuresShutDown_14.dev.downRails n = [] := by decide

/-- For `witness_TheEnergyStoreTheIslandAndTheVigilRunInOrder_8`. -/
def state_TheEnergyStoreTheIslandAndTheVigilRunInOrder_8 : State := powered 4 id

/-- TheEnergyStoreTheIslandAndTheVigilRunInOrder, clause 9. -/
theorem witness_TheEnergyStoreTheIslandAndTheVigilRunInOrder_8 :
    state_TheEnergyStoreTheIslandAndTheVigilRunInOrder_8.dev.pwr.on = true := by decide

/-- For `witness_TheEnergyStoreTheIslandAndTheVigilRunInOrder_15`. -/
def state_TheEnergyStoreTheIslandAndTheVigilRunInOrder_15 : State := holding (vigilAt 4 false false) id

/-- For `witness_TheEnergyStoreTheIslandAndTheVigilRunInOrder_15`. -/
def arg2_TheEnergyStoreTheIslandAndTheVigilRunInOrder_15 : Vigil := vigilAt 4 false false

/-- TheEnergyStoreTheIslandAndTheVigilRunInOrder, clause 16. -/
theorem witness_TheEnergyStoreTheIslandAndTheVigilRunInOrder_15 :
    state_TheEnergyStoreTheIslandAndTheVigilRunInOrder_15.dev.pwr.vigil = some arg2_TheEnergyStoreTheIslandAndTheVigilRunInOrder_15 ∧ arg2_TheEnergyStoreTheIslandAndTheVigilRunInOrder_15.limited = false ∧ arg2_TheEnergyStoreTheIslandAndTheVigilRunInOrder_15.step ≤ 4 ∧ arg2_TheEnergyStoreTheIslandAndTheVigilRunInOrder_15.noPrograms = false ∧ state_TheEnergyStoreTheIslandAndTheVigilRunInOrder_15.dev.reserveReached 5000 = true := by decide

/-- For `witness_TheEnergyStoreTheIslandAndTheVigilRunInOrder_18`. -/
def state_TheEnergyStoreTheIslandAndTheVigilRunInOrder_18 : State := holding (vigilAt 6 false false) (·.set .PWR_STATUS_SEQ seqDWELL)

/-- For `witness_TheEnergyStoreTheIslandAndTheVigilRunInOrder_18`. -/
def arg1_TheEnergyStoreTheIslandAndTheVigilRunInOrder_18 : Vigil := vigilAt 6 false false

/-- TheEnergyStoreTheIslandAndTheVigilRunInOrder, clause 19. -/
theorem witness_TheEnergyStoreTheIslandAndTheVigilRunInOrder_18 :
    state_TheEnergyStoreTheIslandAndTheVigilRunInOrder_18.dev.modeOf = mHOLDUP ∧ state_TheEnergyStoreTheIslandAndTheVigilRunInOrder_18.dev.pwr.vigil = some arg1_TheEnergyStoreTheIslandAndTheVigilRunInOrder_18 ∧ arg1_TheEnergyStoreTheIslandAndTheVigilRunInOrder_18.step = 6 ∧ state_TheEnergyStoreTheIslandAndTheVigilRunInOrder_18.dev.seq = seqDWELL := by decide

/-- For `witness_TheThermalGovernorActsOnTjGov_2`. -/
def state_TheThermalGovernorActsOnTjGov_2 : State := running 4 id id

/-- TheThermalGovernorActsOnTjGov, clause 3. -/
theorem witness_TheThermalGovernorActsOnTjGov_2 :
    state_TheThermalGovernorActsOnTjGov_2.dev.thermCurve = some curve0 ∧ state_TheThermalGovernorActsOnTjGov_2.dev.calRuns = true := by decide

/-- For `witness_SensorsSetTjAndTheGovernorMovesALevel_0`. -/
def state_SensorsSetTjAndTheGovernorMovesALevel_0 : State := powered 1 id

/-- SensorsSetTjAndTheGovernorMovesALevel, clause 1. -/
theorem witness_SensorsSetTjAndTheGovernorMovesALevel_0 :
    state_SensorsSetTjAndTheGovernorMovesALevel_0.dev.pwr.on = true ∧ state_SensorsSetTjAndTheGovernorMovesALevel_0.dev.therm.failed = 0 ∧ (∀ (i : Nat), i ∈ List.range 25 → badReading (List.replicate 25 455) i = false) ∧ state_SensorsSetTjAndTheGovernorMovesALevel_0.dev.thermCurve = none ∧ state_SensorsSetTjAndTheGovernorMovesALevel_0.dev.calRuns = false := by decide

/-- For `witness_SensorsSetTjAndTheGovernorMovesALevel_1`. -/
def state_SensorsSetTjAndTheGovernorMovesALevel_1 : State := powered 1 id

/-- SensorsSetTjAndTheGovernorMovesALevel, clause 2. -/
theorem witness_SensorsSetTjAndTheGovernorMovesALevel_1 :
    state_SensorsSetTjAndTheGovernorMovesALevel_1.dev.pwr.on = true ∧ 0 < 25 ∧ state_SensorsSetTjAndTheGovernorMovesALevel_1.dev.therm.failed.testBit 0 = false ∧ badReading [2000] 0 = true := by decide

/-- For `witness_SensorsSetTjAndTheGovernorMovesALevel_2`. -/
def state_SensorsSetTjAndTheGovernorMovesALevel_2 : State := at_ 0 (·.modTherm fun t => { t with trip := true, top := none })

/-- SensorsSetTjAndTheGovernorMovesALevel, clause 3. -/
theorem witness_SensorsSetTjAndTheGovernorMovesALevel_2 :
    state_SensorsSetTjAndTheGovernorMovesALevel_2.dev.modeOf = mDORMANT ∧ state_SensorsSetTjAndTheGovernorMovesALevel_2.dev.therm.trip = true ∧ (state_SensorsSetTjAndTheGovernorMovesALevel_2.dev.therm.top = none ∨ ∃ x, state_SensorsSetTjAndTheGovernorMovesALevel_2.dev.therm.top = some x ∧ x < 950) := by decide

/-- For `witness_SensorsSetTjAndTheGovernorMovesALevel_3`. -/
def state_SensorsSetTjAndTheGovernorMovesALevel_3 : State := at_ 4 id

/-- SensorsSetTjAndTheGovernorMovesALevel, clause 4. -/
theorem witness_SensorsSetTjAndTheGovernorMovesALevel_3 :
    state_SensorsSetTjAndTheGovernorMovesALevel_3.dev.modeOf ≠ mDORMANT := by decide

/-- For `witness_SensorsSetTjAndTheGovernorMovesALevel_4`. -/
def state_SensorsSetTjAndTheGovernorMovesALevel_4 : State := running 4 id id

/-- SensorsSetTjAndTheGovernorMovesALevel, clause 5. -/
theorem witness_SensorsSetTjAndTheGovernorMovesALevel_4 :
    state_SensorsSetTjAndTheGovernorMovesALevel_4.dev.thermCurve = some curve0 ∧ state_SensorsSetTjAndTheGovernorMovesALevel_4.dev.calRuns = true := by decide

/-- For `witness_SensorsSetTjAndTheGovernorMovesALevel_4b`. -/
def state_SensorsSetTjAndTheGovernorMovesALevel_4b : State := running 6 id (·.set .GOV_STATUS_LEVEL 5)

/-- SensorsSetTjAndTheGovernorMovesALevel, clause 5. -/
theorem witness_SensorsSetTjAndTheGovernorMovesALevel_4b :
    state_SensorsSetTjAndTheGovernorMovesALevel_4b.dev.thermCurve = some curve0 ∧ state_SensorsSetTjAndTheGovernorMovesALevel_4b.dev.calRuns = true := by decide

/-- For `witness_SensorsSetTjAndTheGovernorMovesALevel_5`. -/
def state_SensorsSetTjAndTheGovernorMovesALevel_5 : State := running 4 id fun s => (s.set .GOV_STATUS_LEVEL 8).modTherm fun t => { t with unmet := 15 }

/-- SensorsSetTjAndTheGovernorMovesALevel, clause 6. -/
theorem witness_SensorsSetTjAndTheGovernorMovesALevel_5 :
    state_SensorsSetTjAndTheGovernorMovesALevel_5.dev.thermCurve = some curve0 ∧ state_SensorsSetTjAndTheGovernorMovesALevel_5.dev.calRuns = true ∧ state_SensorsSetTjAndTheGovernorMovesALevel_5.dev.get Fld.GOV_STATUS_LEVEL = 8 ∧ state_SensorsSetTjAndTheGovernorMovesALevel_5.dev.follower = false ∧ state_SensorsSetTjAndTheGovernorMovesALevel_5.dev.therm.unmet = 15 ∧ 10 * state_SensorsSetTjAndTheGovernorMovesALevel_5.dev.recap.govLimit curve0 < 3000 := by decide

/-- For `witness_SensorsSetTjAndTheGovernorMovesALevel_6`. -/
def state_SensorsSetTjAndTheGovernorMovesALevel_6 : State := running 4 id fun s => s.modTherm fun t => { t with sumP := 4000, periods := 2 }

/-- SensorsSetTjAndTheGovernorMovesALevel, clause 7. -/
theorem witness_SensorsSetTjAndTheGovernorMovesALevel_6 :
    state_SensorsSetTjAndTheGovernorMovesALevel_6.dev.thermCurve = some curve0 ∧ state_SensorsSetTjAndTheGovernorMovesALevel_6.dev.calRuns = true := by decide

/-- For `witness_SensorsSetTjAndTheGovernorMovesALevel_7`. -/
def state_SensorsSetTjAndTheGovernorMovesALevel_7 : State := at_ 4 id

/-- SensorsSetTjAndTheGovernorMovesALevel, clause 8. -/
theorem witness_SensorsSetTjAndTheGovernorMovesALevel_7 :
    state_SensorsSetTjAndTheGovernorMovesALevel_7.dev.thermCurve = none ∨ state_SensorsSetTjAndTheGovernorMovesALevel_7.dev.calRuns = false := by decide

/-- For `witness_ClockFaultsAreMarkedCountedAndLogged_0`. -/
def state_ClockFaultsAreMarkedCountedAndLogged_0 : State := powered 4 id

/-- ClockFaultsAreMarkedCountedAndLogged, clause 1. -/
theorem witness_ClockFaultsAreMarkedCountedAndLogged_0 :
    state_ClockFaultsAreMarkedCountedAndLogged_0.dev.modeOf ≠ mDORMANT ∧ state_ClockFaultsAreMarkedCountedAndLogged_0.dev.bit Fld.CLK_STATE_HOLDOVER = false := by decide

/-- For `witness_ClockFaultsAreMarkedCountedAndLogged_1`. -/
def state_ClockFaultsAreMarkedCountedAndLogged_1 : State := powered 4 (·.set .CLK_STATE_HOLDOVER 1)

/-- ClockFaultsAreMarkedCountedAndLogged, clause 2. -/
theorem witness_ClockFaultsAreMarkedCountedAndLogged_1 :
    state_ClockFaultsAreMarkedCountedAndLogged_1.dev.modeOf ≠ mDORMANT ∧ state_ClockFaultsAreMarkedCountedAndLogged_1.dev.bit Fld.CLK_STATE_HOLDOVER = true := by decide

/-- For `witness_ClockFaultsAreMarkedCountedAndLogged_2`. -/
def state_ClockFaultsAreMarkedCountedAndLogged_2 : State := at_ 0 id

/-- ClockFaultsAreMarkedCountedAndLogged, clause 3. -/
theorem witness_ClockFaultsAreMarkedCountedAndLogged_2 :
    state_ClockFaultsAreMarkedCountedAndLogged_2.dev.modeOf = mDORMANT := by decide

/-- For `witness_ClockFaultsAreMarkedCountedAndLogged_4`. -/
def state_ClockFaultsAreMarkedCountedAndLogged_4 : State := at_ 0 (·.set .PWR_STATUS_SEQ seqUP)

/-- ClockFaultsAreMarkedCountedAndLogged, clause 5. -/
theorem witness_ClockFaultsAreMarkedCountedAndLogged_4 :
    state_ClockFaultsAreMarkedCountedAndLogged_4.dev.seq = seqUP ∧ state_ClockFaultsAreMarkedCountedAndLogged_4.dev.modeOf ≠ mCONFIGURING ∧ 3 < 24 := by decide

/-- For `witness_ClockFaultsAreMarkedCountedAndLogged_5`. -/
def state_ClockFaultsAreMarkedCountedAndLogged_5 : State := at_ 2 id

/-- ClockFaultsAreMarkedCountedAndLogged, clause 6. -/
theorem witness_ClockFaultsAreMarkedCountedAndLogged_5 :
    state_ClockFaultsAreMarkedCountedAndLogged_5.dev.seq ≠ seqUP ∧ state_ClockFaultsAreMarkedCountedAndLogged_5.dev.modeOf = mTRAINING ∧ 4 < 24 ∧ List.filter state_ClockFaultsAreMarkedCountedAndLogged_5.dev.unitPresent (clockedUnits 4) = [] := by decide

/-- For `witness_ClockFaultsAreMarkedCountedAndLogged_6`. -/
def state_ClockFaultsAreMarkedCountedAndLogged_6 : State := powered 4 id

/-- ClockFaultsAreMarkedCountedAndLogged, clause 7. -/
theorem witness_ClockFaultsAreMarkedCountedAndLogged_6 :
    state_ClockFaultsAreMarkedCountedAndLogged_6.dev.seq ≠ seqUP ∧ state_ClockFaultsAreMarkedCountedAndLogged_6.dev.modeOf ≠ mTRAINING ∧ state_ClockFaultsAreMarkedCountedAndLogged_6.dev.modeOf ≠ mCONFIGURING := by decide

/-- For `witness_ClockFaultsAreMarkedCountedAndLogged_7`. -/
def state_ClockFaultsAreMarkedCountedAndLogged_7 : State := powered 4 id

/-- ClockFaultsAreMarkedCountedAndLogged, clause 8. -/
theorem witness_ClockFaultsAreMarkedCountedAndLogged_7 :
    state_ClockFaultsAreMarkedCountedAndLogged_7.dev.pwr.on = true ∧ state_ClockFaultsAreMarkedCountedAndLogged_7.dev.bit Fld.CLK_STATE_XTAL_FAIL = false := by decide

/-- For `witness_ClockFaultsAreMarkedCountedAndLogged_8`. -/
def state_ClockFaultsAreMarkedCountedAndLogged_8 : State := powered 4 (·.set .CLK_STATE_XTAL_FAIL 1)

/-- ClockFaultsAreMarkedCountedAndLogged, clause 9. -/
theorem witness_ClockFaultsAreMarkedCountedAndLogged_8 :
    state_ClockFaultsAreMarkedCountedAndLogged_8.dev.bit Fld.CLK_STATE_XTAL_FAIL = true := by decide

/-- For `witness_ArrivalsJoinAndSamplesStampTheHead_0`. -/
def state_ArrivalsJoinAndSamplesStampTheHead_0 : State := paged 4 id

/-- For `witness_ArrivalsJoinAndSamplesStampTheHead_0`. -/
def arg1_ArrivalsJoinAndSamplesStampTheHead_0 : AdmitDesc := ⟨1, 1, 0⟩

/-- ArrivalsJoinAndSamplesStampTheHead, clause 1. -/
theorem witness_ArrivalsJoinAndSamplesStampTheHead_0 :
    state_ArrivalsJoinAndSamplesStampTheHead_0.dev.admission 1 = some arg1_ArrivalsJoinAndSamplesStampTheHead_0 ∧ state_ArrivalsJoinAndSamplesStampTheHead_0.dev.calRuns = true ∧ (1 < 32 → state_ArrivalsJoinAndSamplesStampTheHead_0.dev.follower = false) ∧ (arrival0.qpn = none ∨ 32 ≤ 1) ∧ (state_ArrivalsJoinAndSamplesStampTheHead_0.dev.cal.queue 1).length < arg1_ArrivalsJoinAndSamplesStampTheHead_0.depth ∧ ¬(1 < 32 ∧ 1 % 4 = 0 ∧ arg1_ArrivalsJoinAndSamplesStampTheHead_0.burst < (state_ArrivalsJoinAndSamplesStampTheHead_0.dev.cal.queue 1).length) := by decide

/-- For `witness_ArrivalsJoinAndSamplesStampTheHead_3`. -/
def state_ArrivalsJoinAndSamplesStampTheHead_3 : State := paged 4 (·.modCal fun c => { c with queues := [(1, [arrival0])] })

/-- For `witness_ArrivalsJoinAndSamplesStampTheHead_3`. -/
def arg1_ArrivalsJoinAndSamplesStampTheHead_3 : AdmitDesc := ⟨1, 1, 0⟩

/-- ArrivalsJoinAndSamplesStampTheHead, clause 4. -/
theorem witness_ArrivalsJoinAndSamplesStampTheHead_3 :
    state_ArrivalsJoinAndSamplesStampTheHead_3.dev.admission 1 = some arg1_ArrivalsJoinAndSamplesStampTheHead_3 ∧ state_ArrivalsJoinAndSamplesStampTheHead_3.dev.calRuns = true ∧ state_ArrivalsJoinAndSamplesStampTheHead_3.dev.follower = false ∧ arrival0.qpn = none ∧ 1 < 32 ∧ arg1_ArrivalsJoinAndSamplesStampTheHead_3.depth ≤ (state_ArrivalsJoinAndSamplesStampTheHead_3.dev.cal.queue 1).length := by decide

/-- For `witness_ArrivalsJoinAndSamplesStampTheHead_4`. -/
def state_ArrivalsJoinAndSamplesStampTheHead_4 : State := paged 4 (·.modCal fun c => { c with queues := [(34, [arrival0])] })

/-- For `witness_ArrivalsJoinAndSamplesStampTheHead_4`. -/
def arg1_ArrivalsJoinAndSamplesStampTheHead_4 : AdmitDesc := ⟨34, 1, 0⟩

/-- ArrivalsJoinAndSamplesStampTheHead, clause 5. -/
theorem witness_ArrivalsJoinAndSamplesStampTheHead_4 :
    state_ArrivalsJoinAndSamplesStampTheHead_4.dev.admission 34 = some arg1_ArrivalsJoinAndSamplesStampTheHead_4 ∧ state_ArrivalsJoinAndSamplesStampTheHead_4.dev.calRuns = true ∧ arg1_ArrivalsJoinAndSamplesStampTheHead_4.depth ≤ (state_ArrivalsJoinAndSamplesStampTheHead_4.dev.cal.queue 34).length := by decide

/-- For `witness_ArrivalsJoinAndSamplesStampTheHead_5`. -/
def state_ArrivalsJoinAndSamplesStampTheHead_5 : State := paged 4 (·.modCal fun c => { c with queues := [(34, [arrival0])] })

/-- ArrivalsJoinAndSamplesStampTheHead, clause 6. -/
theorem witness_ArrivalsJoinAndSamplesStampTheHead_5 :
    state_ArrivalsJoinAndSamplesStampTheHead_5.dev.calRuns = true ∧ 5 < 4096 ∧ slotOp (state_ArrivalsJoinAndSamplesStampTheHead_5.dev.entryAt (160 + 34) 5) = 1 ∧ (∀ (l : Nat), l ∈ state_ArrivalsJoinAndSamplesStampTheHead_5.dev.cal.lastStamp → l < state_ArrivalsJoinAndSamplesStampTheHead_5.dev.cal.cycle * 4096 + 5) ∧ (34 < 32 → state_ArrivalsJoinAndSamplesStampTheHead_5.dev.portsAdmit = true ∧ state_ArrivalsJoinAndSamplesStampTheHead_5.dev.gateOpen 34 arrival0 = true ∧ state_ArrivalsJoinAndSamplesStampTheHead_5.dev.quieted arrival0 = false) ∧ 34 ≠ 32 ∧ state_ArrivalsJoinAndSamplesStampTheHead_5.dev.cal.queue 34 = [arrival0] ∧ List.find? (fun e => e.fst == 34) state_ArrivalsJoinAndSamplesStampTheHead_5.dev.cal.stalled = none := by decide

/-- For `witness_ArrivalsJoinAndSamplesStampTheHead_6`. -/
def state_ArrivalsJoinAndSamplesStampTheHead_6 : State := paged 4 (·.modCal fun c => { c with load := some ⟨2, [(0, 1)], 0x101, 1⟩ })

/-- For `witness_ArrivalsJoinAndSamplesStampTheHead_6`. -/
def arg1_ArrivalsJoinAndSamplesStampTheHead_6 : PageLoad := ⟨2, [(0, 1)], 0x101, 1⟩

/-- ArrivalsJoinAndSamplesStampTheHead, clause 7. -/
theorem witness_ArrivalsJoinAndSamplesStampTheHead_6 :
    state_ArrivalsJoinAndSamplesStampTheHead_6.dev.cal.load = some arg1_ArrivalsJoinAndSamplesStampTheHead_6 ∧ state_ArrivalsJoinAndSamplesStampTheHead_6.dev.gal.evac = [] ∧ state_ArrivalsJoinAndSamplesStampTheHead_6.dev.cal.losses = [] ∧ arg1_ArrivalsJoinAndSamplesStampTheHead_6.toPage < 16 := by decide

/-- For `witness_ArrivalsJoinAndSamplesStampTheHead_7`. -/
def state_ArrivalsJoinAndSamplesStampTheHead_7 : State := paged 4 id

/-- ArrivalsJoinAndSamplesStampTheHead, clause 8. -/
theorem witness_ArrivalsJoinAndSamplesStampTheHead_7 :
    state_ArrivalsJoinAndSamplesStampTheHead_7.dev.cal.load = none := by decide

/-- For `witness_ClockFaultsAreMarkedCountedAndLogged_3`. -/
def state_ClockFaultsAreMarkedCountedAndLogged_3 : State := powered 1 id

/-- ClockFaultsAreMarkedCountedAndLogged, clause 4. -/
theorem witness_ClockFaultsAreMarkedCountedAndLogged_3 :
    state_ClockFaultsAreMarkedCountedAndLogged_3.dev.modeOf = mCONFIGURING ∧ state_ClockFaultsAreMarkedCountedAndLogged_3.dev.seq ≠ seqUP ∧ 6 < 24 := by decide

/-- For `witness_ArrivalsJoinAndSamplesStampTheHead_1`. -/
def state_ArrivalsJoinAndSamplesStampTheHead_1 : State := paged1 4 (·.modCal fun c => { c with queues := [(0, [arrival0, arrival0])] })

/-- For `witness_ArrivalsJoinAndSamplesStampTheHead_1`. -/
def arg1_ArrivalsJoinAndSamplesStampTheHead_1 : AdmitDesc := ⟨0, 4, 1⟩

/-- ArrivalsJoinAndSamplesStampTheHead, clause 2. -/
theorem witness_ArrivalsJoinAndSamplesStampTheHead_1 :
    state_ArrivalsJoinAndSamplesStampTheHead_1.dev.admission 0 = some arg1_ArrivalsJoinAndSamplesStampTheHead_1 ∧ state_ArrivalsJoinAndSamplesStampTheHead_1.dev.calRuns = true ∧ state_ArrivalsJoinAndSamplesStampTheHead_1.dev.follower = false ∧ arrival0.qpn = none ∧ 0 < 32 ∧ 0 % 4 = 0 ∧ (state_ArrivalsJoinAndSamplesStampTheHead_1.dev.cal.queue 0).length < arg1_ArrivalsJoinAndSamplesStampTheHead_1.depth ∧ arg1_ArrivalsJoinAndSamplesStampTheHead_1.burst < (state_ArrivalsJoinAndSamplesStampTheHead_1.dev.cal.queue 0).length := by decide

/-- For `witness_ArrivalsJoinAndSamplesStampTheHead_2`. -/
def state_ArrivalsJoinAndSamplesStampTheHead_2 : State := wired 4 fun s => (s.modForme fun x => { x with run := x.run.map fun y => { y with pages := [(0, page1)] } })

/-- For `witness_ArrivalsJoinAndSamplesStampTheHead_2`. -/
def arg5_ArrivalsJoinAndSamplesStampTheHead_2 : Arrival := { arrival0 with qpn := some 0x103 }

/-- For `witness_ArrivalsJoinAndSamplesStampTheHead_2`. -/
def arg1_ArrivalsJoinAndSamplesStampTheHead_2 : AdmitDesc := ⟨4, 4, 1⟩

/-- ArrivalsJoinAndSamplesStampTheHead, clause 3. -/
theorem witness_ArrivalsJoinAndSamplesStampTheHead_2 :
    state_ArrivalsJoinAndSamplesStampTheHead_2.dev.calRuns = true ∧ state_ArrivalsJoinAndSamplesStampTheHead_2.dev.follower = false ∧ 6 < 32 ∧ arg5_ArrivalsJoinAndSamplesStampTheHead_2.qpn = some 259 ∧ state_ArrivalsJoinAndSamplesStampTheHead_2.dev.quieted arg5_ArrivalsJoinAndSamplesStampTheHead_2 = false ∧ state_ArrivalsJoinAndSamplesStampTheHead_2.dev.net.qpOf 259 = some (3, qp0) ∧ qp0.fixed = true ∧ 259 ≠ 1 ∧ qp0.cls < 3 ∧ state_ArrivalsJoinAndSamplesStampTheHead_2.dev.admission (6 / 4 * 4 + qp0.cls) = some arg1_ArrivalsJoinAndSamplesStampTheHead_2 ∧ (state_ArrivalsJoinAndSamplesStampTheHead_2.dev.cal.queue (6 / 4 * 4 + qp0.cls)).length < arg1_ArrivalsJoinAndSamplesStampTheHead_2.depth := by decide

/-- For `witness_BoundariesAndIntegrityWindows_0`. -/
def state_BoundariesAndIntegrityWindows_0 : State := paged 4 id

/-- BoundariesAndIntegrityWindows, clause 1. -/
theorem witness_BoundariesAndIntegrityWindows_0 :
    state_BoundariesAndIntegrityWindows_0.dev.calRuns = true ∧ state_BoundariesAndIntegrityWindows_0.dev.serveCycle.pageAt.follows = false ∧ state_BoundariesAndIntegrityWindows_0.dev.serveCycle.pageAt.stampedModes.calRuns = true ∧ (state_BoundariesAndIntegrityWindows_0.dev.serveCycle.pageAt.stampedModes.countCycle.modTherm fun x => { failed := x.failed, tj := x.tj, trip := x.trip, cap := x.cap, seconds := x.seconds, sumP := x.sumP, periods := x.periods, unmet := x.unmet, top := x.top, acting := state_BoundariesAndIntegrityWindows_0.dev.serveCycle.pageAt.stampedModes.get Fld.GOV_STATUS_LEVEL : ThermalSt }).follows = false ∧ (state_BoundariesAndIntegrityWindows_0.dev.serveCycle.pageAt.stampedModes.countCycle.modTherm fun x => { failed := x.failed, tj := x.tj, trip := x.trip, cap := x.cap, seconds := x.seconds, sumP := x.sumP, periods := x.periods, unmet := x.unmet, top := x.top, acting := state_BoundariesAndIntegrityWindows_0.dev.serveCycle.pageAt.stampedModes.get Fld.GOV_STATUS_LEVEL : ThermalSt }).modeOf ≠ mSWITCHOVER := by decide

/-- For `witness_BoundariesAndIntegrityWindows_2`. -/
def arg1_BoundariesAndIntegrityWindows_2 : Dev := (paged 4 id).dev

/-- BoundariesAndIntegrityWindows, clause 3. -/
theorem witness_BoundariesAndIntegrityWindows_2 :
    arg1_BoundariesAndIntegrityWindows_2.follows = false := by decide

/-- For `witness_BoundariesAndIntegrityWindows_3`. -/
def state_BoundariesAndIntegrityWindows_3 : State := powered 1 id

/-- BoundariesAndIntegrityWindows, clause 4. -/
theorem witness_BoundariesAndIntegrityWindows_3 :
    state_BoundariesAndIntegrityWindows_3.dev.calRuns = false := by decide

/-- For `witness_FaultsAreCountedLoggedReplayedAndInjected_0`. -/
def state_FaultsAreCountedLoggedReplayedAndInjected_0 : State := running 4 id id

/-- For `witness_FaultsAreCountedLoggedReplayedAndInjected_0`. -/
def arg1_FaultsAreCountedLoggedReplayedAndInjected_0 : FaultOp := fault0 0x901 12 true

/-- FaultsAreCountedLoggedReplayedAndInjected, clause 1. -/
theorem witness_FaultsAreCountedLoggedReplayedAndInjected_0 :
    arg1_FaultsAreCountedLoggedReplayedAndInjected_0.shown = true ∧ state_FaultsAreCountedLoggedReplayedAndInjected_0.dev.unitPresent arg1_FaultsAreCountedLoggedReplayedAndInjected_0.unit = true ∧ state_FaultsAreCountedLoggedReplayedAndInjected_0.dev.countsFaults arg1_FaultsAreCountedLoggedReplayedAndInjected_0.unit = true ∧ arg1_FaultsAreCountedLoggedReplayedAndInjected_0.kind ∈ [8, 12, 15] ∧ [12, 13].contains (unitClass arg1_FaultsAreCountedLoggedReplayedAndInjected_0.unit) = false ∧ List.filter (fun e => state_FaultsAreCountedLoggedReplayedAndInjected_0.dev.engineLost (e.fst + 256)) state_FaultsAreCountedLoggedReplayedAndInjected_0.dev.net.qps = [] ∧ ((state_FaultsAreCountedLoggedReplayedAndInjected_0.dev.policyOf arg1_FaultsAreCountedLoggedReplayedAndInjected_0.unit arg1_FaultsAreCountedLoggedReplayedAndInjected_0.kind).snd.snd = false ∨ state_FaultsAreCountedLoggedReplayedAndInjected_0.dev.integ.counts.getD (arg1_FaultsAreCountedLoggedReplayedAndInjected_0.unit * 256 + arg1_FaultsAreCountedLoggedReplayedAndInjected_0.kind) 0 + 1 < (state_FaultsAreCountedLoggedReplayedAndInjected_0.dev.policyOf arg1_FaultsAreCountedLoggedReplayedAndInjected_0.unit arg1_FaultsAreCountedLoggedReplayedAndInjected_0.kind).fst) := by decide

/-- For `witness_FaultsAreCountedLoggedReplayedAndInjected_0b`. -/
def state_FaultsAreCountedLoggedReplayedAndInjected_0b : State := running 4 id id

/-- For `witness_FaultsAreCountedLoggedReplayedAndInjected_0b`. -/
def arg1_FaultsAreCountedLoggedReplayedAndInjected_0b : FaultOp := fault0 0x700 8 false

/-- FaultsAreCountedLoggedReplayedAndInjected, clause 1. -/
theorem witness_FaultsAreCountedLoggedReplayedAndInjected_0b :
    arg1_FaultsAreCountedLoggedReplayedAndInjected_0b.shown = true ∧ state_FaultsAreCountedLoggedReplayedAndInjected_0b.dev.unitPresent arg1_FaultsAreCountedLoggedReplayedAndInjected_0b.unit = true ∧ state_FaultsAreCountedLoggedReplayedAndInjected_0b.dev.countsFaults arg1_FaultsAreCountedLoggedReplayedAndInjected_0b.unit = true ∧ arg1_FaultsAreCountedLoggedReplayedAndInjected_0b.kind ∈ [8, 12, 15] ∧ [12, 13].contains (unitClass arg1_FaultsAreCountedLoggedReplayedAndInjected_0b.unit) = false ∧ List.filter (fun e => state_FaultsAreCountedLoggedReplayedAndInjected_0b.dev.engineLost (e.fst + 256)) state_FaultsAreCountedLoggedReplayedAndInjected_0b.dev.net.qps = [] ∧ ((state_FaultsAreCountedLoggedReplayedAndInjected_0b.dev.policyOf arg1_FaultsAreCountedLoggedReplayedAndInjected_0b.unit arg1_FaultsAreCountedLoggedReplayedAndInjected_0b.kind).snd.snd = false ∨ state_FaultsAreCountedLoggedReplayedAndInjected_0b.dev.integ.counts.getD (arg1_FaultsAreCountedLoggedReplayedAndInjected_0b.unit * 256 + arg1_FaultsAreCountedLoggedReplayedAndInjected_0b.kind) 0 + 1 < (state_FaultsAreCountedLoggedReplayedAndInjected_0b.dev.policyOf arg1_FaultsAreCountedLoggedReplayedAndInjected_0b.unit arg1_FaultsAreCountedLoggedReplayedAndInjected_0b.kind).fst) := by decide

/-- For `witness_FaultsAreCountedLoggedReplayedAndInjected_1`. -/
def state_FaultsAreCountedLoggedReplayedAndInjected_1 : State := running 4 id id

/-- For `witness_FaultsAreCountedLoggedReplayedAndInjected_1`. -/
def arg1_FaultsAreCountedLoggedReplayedAndInjected_1 : FaultOp := { fault0 0x901 2 true with seen := .copies .tableLookup 1 2 }

/-- FaultsAreCountedLoggedReplayedAndInjected, clause 2. -/
theorem witness_FaultsAreCountedLoggedReplayedAndInjected_1 :
    arg1_FaultsAreCountedLoggedReplayedAndInjected_1.shown = true ∧ state_FaultsAreCountedLoggedReplayedAndInjected_1.dev.unitPresent arg1_FaultsAreCountedLoggedReplayedAndInjected_1.unit = true ∧ state_FaultsAreCountedLoggedReplayedAndInjected_1.dev.countsFaults arg1_FaultsAreCountedLoggedReplayedAndInjected_1.unit = true ∧ arg1_FaultsAreCountedLoggedReplayedAndInjected_1.kind ∈ [1, 2] ∧ arg1_FaultsAreCountedLoggedReplayedAndInjected_1.recovered = true ∧ [12, 13].contains (unitClass arg1_FaultsAreCountedLoggedReplayedAndInjected_1.unit) = false ∧ List.filter (fun e => state_FaultsAreCountedLoggedReplayedAndInjected_1.dev.engineLost (e.fst + 256)) state_FaultsAreCountedLoggedReplayedAndInjected_1.dev.net.qps = [] ∧ state_FaultsAreCountedLoggedReplayedAndInjected_1.dev.get Fld.INTEG_LOG_HEAD_NEXT ≠ 255 ∧ ((state_FaultsAreCountedLoggedReplayedAndInjected_1.dev.policyOf arg1_FaultsAreCountedLoggedReplayedAndInjected_1.unit arg1_FaultsAreCountedLoggedReplayedAndInjected_1.kind).snd.snd = false ∨ state_FaultsAreCountedLoggedReplayedAndInjected_1.dev.integ.counts.getD (arg1_FaultsAreCountedLoggedReplayedAndInjected_1.unit * 256 + arg1_FaultsAreCountedLoggedReplayedAndInjected_1.kind) 0 + 1 < (state_FaultsAreCountedLoggedReplayedAndInjected_1.dev.policyOf arg1_FaultsAreCountedLoggedReplayedAndInjected_1.unit arg1_FaultsAreCountedLoggedReplayedAndInjected_1.kind).fst) := by decide

/-- For `witness_FaultsAreCountedLoggedReplayedAndInjected_2`. -/
def state_FaultsAreCountedLoggedReplayedAndInjected_2 : State := running 4 id (·.modInteg fun i => { i with counts := [(0x801 * 256 + 15, 1)] })

/-- For `witness_FaultsAreCountedLoggedReplayedAndInjected_2`. -/
def arg1_FaultsAreCountedLoggedReplayedAndInjected_2 : FaultOp := fault0 0x801 15 false

/-- FaultsAreCountedLoggedReplayedAndInjected, clause 3. -/
theorem witness_FaultsAreCountedLoggedReplayedAndInjected_2 :
    arg1_FaultsAreCountedLoggedReplayedAndInjected_2.shown = true ∧ state_FaultsAreCountedLoggedReplayedAndInjected_2.dev.unitPresent arg1_FaultsAreCountedLoggedReplayedAndInjected_2.unit = true ∧ state_FaultsAreCountedLoggedReplayedAndInjected_2.dev.countsFaults arg1_FaultsAreCountedLoggedReplayedAndInjected_2.unit = true ∧ arg1_FaultsAreCountedLoggedReplayedAndInjected_2.kind ∈ [8, 12, 15] ∧ [9, 12, 13].contains (unitClass arg1_FaultsAreCountedLoggedReplayedAndInjected_2.unit) = false ∧ (state_FaultsAreCountedLoggedReplayedAndInjected_2.dev.policyOf arg1_FaultsAreCountedLoggedReplayedAndInjected_2.unit arg1_FaultsAreCountedLoggedReplayedAndInjected_2.kind).snd.snd = true ∧ (state_FaultsAreCountedLoggedReplayedAndInjected_2.dev.policyOf arg1_FaultsAreCountedLoggedReplayedAndInjected_2.unit arg1_FaultsAreCountedLoggedReplayedAndInjected_2.kind).fst ≤ state_FaultsAreCountedLoggedReplayedAndInjected_2.dev.integ.counts.getD (arg1_FaultsAreCountedLoggedReplayedAndInjected_2.unit * 256 + arg1_FaultsAreCountedLoggedReplayedAndInjected_2.kind) 0 + 1 := by decide

/-- For `witness_FaultsAreCountedLoggedReplayedAndInjected_4`. -/
def state_FaultsAreCountedLoggedReplayedAndInjected_4 : State := running 4 id id

/-- For `witness_FaultsAreCountedLoggedReplayedAndInjected_4`. -/
def arg1_FaultsAreCountedLoggedReplayedAndInjected_4 : FaultOp := fault0 0x101 12 true

/-- FaultsAreCountedLoggedReplayedAndInjected, clause 5. -/
theorem witness_FaultsAreCountedLoggedReplayedAndInjected_4 :
    arg1_FaultsAreCountedLoggedReplayedAndInjected_4.shown = false ∨ state_FaultsAreCountedLoggedReplayedAndInjected_4.dev.unitPresent arg1_FaultsAreCountedLoggedReplayedAndInjected_4.unit = false ∧ unitClass arg1_FaultsAreCountedLoggedReplayedAndInjected_4.unit ≠ 8 := by decide

/-- For `witness_FaultsAreCountedLoggedReplayedAndInjected_5`. -/
def state_FaultsAreCountedLoggedReplayedAndInjected_5 : State := running 4 id (·.modInteg fun i => { i with replays := [(77, ⟨0x901, 1, 0, 5, none⟩)] })

/-- For `witness_FaultsAreCountedLoggedReplayedAndInjected_5`. -/
def arg1_FaultsAreCountedLoggedReplayedAndInjected_5 : Replay := ⟨0x901, 1, 0, 5, none⟩

/-- FaultsAreCountedLoggedReplayedAndInjected, clause 6. -/
theorem witness_FaultsAreCountedLoggedReplayedAndInjected_5 :
    state_FaultsAreCountedLoggedReplayedAndInjected_5.dev.integ.replays.get? 77 = some arg1_FaultsAreCountedLoggedReplayedAndInjected_5 := by decide

/-- For `witness_FaultsAreCountedLoggedReplayedAndInjected_6`. -/
def state_FaultsAreCountedLoggedReplayedAndInjected_6 : State := running 4 id (·.modInteg fun i => { i with replays := [(77, ⟨0x901, 1, 1, 5, none⟩)], states := [(0x901, 3)] })

/-- For `witness_FaultsAreCountedLoggedReplayedAndInjected_6`. -/
def arg1_FaultsAreCountedLoggedReplayedAndInjected_6 : Replay := ⟨0x901, 1, 1, 5, none⟩

/-- FaultsAreCountedLoggedReplayedAndInjected, clause 7. -/
theorem witness_FaultsAreCountedLoggedReplayedAndInjected_6 :
    state_FaultsAreCountedLoggedReplayedAndInjected_6.dev.integ.replays.get? 77 = some arg1_FaultsAreCountedLoggedReplayedAndInjected_6 ∧ arg1_FaultsAreCountedLoggedReplayedAndInjected_6.count = 1 ∧ state_FaultsAreCountedLoggedReplayedAndInjected_6.dev.countsFaults arg1_FaultsAreCountedLoggedReplayedAndInjected_6.unit = false ∧ state_FaultsAreCountedLoggedReplayedAndInjected_6.dev.net.qps = [] ∧ ∀ (e : Nat × DevQ), e ∈ state_FaultsAreCountedLoggedReplayedAndInjected_6.dev.dq → e.snd.run = none := by decide

/-- For `witness_FaultsAreCountedLoggedReplayedAndInjected_7`. -/
def state_FaultsAreCountedLoggedReplayedAndInjected_7 : State := running 4 id fun s => (s.modInteg fun i => { i with armed := some (0x901, 12) }).set .INTEG_INJECT_B_CHECK 0xFFFFFFFF

/-- For `witness_FaultsAreCountedLoggedReplayedAndInjected_7`. -/
def arg1_FaultsAreCountedLoggedReplayedAndInjected_7 : FaultOp := fault0 0x901 12 true

/-- FaultsAreCountedLoggedReplayedAndInjected, clause 8. -/
theorem witness_FaultsAreCountedLoggedReplayedAndInjected_7 :
    state_FaultsAreCountedLoggedReplayedAndInjected_7.dev.injectAgrees = true ∧ state_FaultsAreCountedLoggedReplayedAndInjected_7.dev.integ.armed = some (arg1_FaultsAreCountedLoggedReplayedAndInjected_7.unit, arg1_FaultsAreCountedLoggedReplayedAndInjected_7.kind) := by decide

/-- For `witness_FaultsAreCountedLoggedReplayedAndInjected_8`. -/
def state_FaultsAreCountedLoggedReplayedAndInjected_8 : State := running 4 id id

/-- For `witness_FaultsAreCountedLoggedReplayedAndInjected_8`. -/
def arg1_FaultsAreCountedLoggedReplayedAndInjected_8 : FaultOp := fault0 0x901 12 true

/-- FaultsAreCountedLoggedReplayedAndInjected, clause 9. -/
theorem witness_FaultsAreCountedLoggedReplayedAndInjected_8 :
    state_FaultsAreCountedLoggedReplayedAndInjected_8.dev.integ.armed ≠ some (arg1_FaultsAreCountedLoggedReplayedAndInjected_8.unit, arg1_FaultsAreCountedLoggedReplayedAndInjected_8.kind) ∨ state_FaultsAreCountedLoggedReplayedAndInjected_8.dev.injectAgrees = false := by decide

/-- For `witness_FaultsAreCountedLoggedReplayedAndInjected_9`. -/
def state_FaultsAreCountedLoggedReplayedAndInjected_9 : State := running 4 id id

/-- FaultsAreCountedLoggedReplayedAndInjected, clause 10. -/
theorem witness_FaultsAreCountedLoggedReplayedAndInjected_9 :
    2 < 5 ∧ state_FaultsAreCountedLoggedReplayedAndInjected_9.dev.modeOf ≠ mDORMANT ∧ state_FaultsAreCountedLoggedReplayedAndInjected_9.dev.countsFaults (2048 + 2) = true ∧ state_FaultsAreCountedLoggedReplayedAndInjected_9.dev.integ.counts.getD ((2048 + 2) * 256 + 15) 0 + 1 < (state_FaultsAreCountedLoggedReplayedAndInjected_9.dev.policyOf (2048 + 2) 15).fst := by decide

/-- For `witness_BoundariesAndIntegrityWindows_5`. -/
def state_BoundariesAndIntegrityWindows_5 : State := running 11 id (·.modInteg fun i => { i with records := [0x901] })

/-- BoundariesAndIntegrityWindows, clause 6. -/
theorem witness_BoundariesAndIntegrityWindows_5 :
    state_BoundariesAndIntegrityWindows_5.dev.reaches 393240 = true ∧ state_BoundariesAndIntegrityWindows_5.dev.modeOf = mQUIESCED ∧ state_BoundariesAndIntegrityWindows_5.dev.integ.records.contains 2305 = true := by decide

/-- For `witness_BoundariesAndIntegrityWindows_6`. -/
def state_BoundariesAndIntegrityWindows_6 : State := running 4 id id

/-- BoundariesAndIntegrityWindows, clause 7. -/
theorem witness_BoundariesAndIntegrityWindows_6 :
    195 ≠ 195 ∨ state_BoundariesAndIntegrityWindows_6.dev.modeOf ≠ mQUIESCED := by decide

/-- For `witness_BoundariesAndIntegrityWindows_7`. -/
def state_BoundariesAndIntegrityWindows_7 : State := running 4 id id

/-- BoundariesAndIntegrityWindows, clause 8. -/
theorem witness_BoundariesAndIntegrityWindows_7 :
    state_BoundariesAndIntegrityWindows_7.dev.reaches 393232 = true := by decide

/-- For `witness_BoundariesAndIntegrityWindows_1`. -/
def state_BoundariesAndIntegrityWindows_1 : State := paged 4 (·.set .GOV_STATUS_LEVEL 3)

/-- BoundariesAndIntegrityWindows, clause 2. -/
theorem witness_BoundariesAndIntegrityWindows_1 :
    state_BoundariesAndIntegrityWindows_1.dev.calRuns = true ∧ state_BoundariesAndIntegrityWindows_1.dev.mode.due = none ∧ state_BoundariesAndIntegrityWindows_1.dev.mode.waiting = [] ∧ state_BoundariesAndIntegrityWindows_1.dev.mode.recheck = none := by decide

/-- FaultsAreCountedLoggedReplayedAndInjected, clause 4. -/
theorem witness_FaultsAreCountedLoggedReplayedAndInjected_3 :
    3 < 2 ^ 8 ∧ 200 < 2 ^ 8 := by decide

/-- For `witness_PortsCountFramesAndAnswerForTheirAddresses_0`. -/
def state_PortsCountFramesAndAnswerForTheirAddresses_0 : State := wired 4 id

/-- For `witness_PortsCountFramesAndAnswerForTheirAddresses_0`. -/
def arg3_PortsCountFramesAndAnswerForTheirAddresses_0 : EthFrame := frame0 (.arp 5)

/-- PortsCountFramesAndAnswerForTheirAddresses, clause 1. -/
theorem witness_PortsCountFramesAndAnswerForTheirAddresses_0 :
    state_PortsCountFramesAndAnswerForTheirAddresses_0.dev.portRec arg3_PortsCountFramesAndAnswerForTheirAddresses_0.port = some port0 ∧ state_PortsCountFramesAndAnswerForTheirAddresses_0.dev.portsServe = true ∧ arg3_PortsCountFramesAndAnswerForTheirAddresses_0.fcs = true ∧ state_PortsCountFramesAndAnswerForTheirAddresses_0.dev.macOk arg3_PortsCountFramesAndAnswerForTheirAddresses_0 = true ∧ state_PortsCountFramesAndAnswerForTheirAddresses_0.dev.vlanOk arg3_PortsCountFramesAndAnswerForTheirAddresses_0 = true ∧ arg3_PortsCountFramesAndAnswerForTheirAddresses_0.len ≤ port0.maxFrame ∧ arg3_PortsCountFramesAndAnswerForTheirAddresses_0.kind ∈ [FrameKind.arp 5, FrameKind.neighbour 5, FrameKind.echo 5] := by decide

/-- For `witness_PortsCountFramesAndAnswerForTheirAddresses_3`. -/
def state_PortsCountFramesAndAnswerForTheirAddresses_3 : State := wired 3 id

/-- For `witness_PortsCountFramesAndAnswerForTheirAddresses_3`. -/
def arg1_PortsCountFramesAndAnswerForTheirAddresses_3 : EthFrame := { frame0 .other with fcs := false }

/-- PortsCountFramesAndAnswerForTheirAddresses, clause 4. -/
theorem witness_PortsCountFramesAndAnswerForTheirAddresses_3 :
    (state_PortsCountFramesAndAnswerForTheirAddresses_3.dev.portRec arg1_PortsCountFramesAndAnswerForTheirAddresses_3.port).isSome = true ∧ state_PortsCountFramesAndAnswerForTheirAddresses_3.dev.portsUp = true ∧ arg1_PortsCountFramesAndAnswerForTheirAddresses_3.fcs = false := by decide

/-- For `witness_PortsCountFramesAndAnswerForTheirAddresses_4`. -/
def state_PortsCountFramesAndAnswerForTheirAddresses_4 : State := wired 4 id

/-- For `witness_PortsCountFramesAndAnswerForTheirAddresses_4`. -/
def arg7_PortsCountFramesAndAnswerForTheirAddresses_4 : EthFrame := { frame0 (.arp 4) with len := 4201 }

/-- PortsCountFramesAndAnswerForTheirAddresses, clause 5. -/
theorem witness_PortsCountFramesAndAnswerForTheirAddresses_4 :
    state_PortsCountFramesAndAnswerForTheirAddresses_4.dev.portRec arg7_PortsCountFramesAndAnswerForTheirAddresses_4.port = some port0 ∧ state_PortsCountFramesAndAnswerForTheirAddresses_4.dev.portsUp = true ∧ arg7_PortsCountFramesAndAnswerForTheirAddresses_4.fcs = true ∧ arg7_PortsCountFramesAndAnswerForTheirAddresses_4.kind ≠ FrameKind.pause ∧ (state_PortsCountFramesAndAnswerForTheirAddresses_4.dev.portsServe = false ∨ state_PortsCountFramesAndAnswerForTheirAddresses_4.dev.macOk arg7_PortsCountFramesAndAnswerForTheirAddresses_4 = false ∨ state_PortsCountFramesAndAnswerForTheirAddresses_4.dev.vlanOk arg7_PortsCountFramesAndAnswerForTheirAddresses_4 = false ∨ port0.maxFrame < arg7_PortsCountFramesAndAnswerForTheirAddresses_4.len ∨ arg7_PortsCountFramesAndAnswerForTheirAddresses_4.kind = FrameKind.other ∨ arg7_PortsCountFramesAndAnswerForTheirAddresses_4.kind = FrameKind.roce ip0 true 0 4 none ∧ ip0.ok = false) := by decide

/-- For `witness_PortsCountFramesAndAnswerForTheirAddresses_5`. -/
def state_PortsCountFramesAndAnswerForTheirAddresses_5 : State := wired 4 id

/-- For `witness_PortsCountFramesAndAnswerForTheirAddresses_5`. -/
def arg6_PortsCountFramesAndAnswerForTheirAddresses_5 : EthFrame := frame0 (.roce ip0 true 0x103 4 (some ⟨7, 1, true⟩))

/-- For `witness_PortsCountFramesAndAnswerForTheirAddresses_5`. -/
def arg1_PortsCountFramesAndAnswerForTheirAddresses_5 : Esp := ⟨7, 1, true⟩

/-- PortsCountFramesAndAnswerForTheirAddresses, clause 6. -/
theorem witness_PortsCountFramesAndAnswerForTheirAddresses_5 :
    state_PortsCountFramesAndAnswerForTheirAddresses_5.dev.portRec arg6_PortsCountFramesAndAnswerForTheirAddresses_5.port = some port0 ∧ state_PortsCountFramesAndAnswerForTheirAddresses_5.dev.portsServe = true ∧ arg6_PortsCountFramesAndAnswerForTheirAddresses_5.fcs = true ∧ state_PortsCountFramesAndAnswerForTheirAddresses_5.dev.macOk arg6_PortsCountFramesAndAnswerForTheirAddresses_5 = true ∧ state_PortsCountFramesAndAnswerForTheirAddresses_5.dev.vlanOk arg6_PortsCountFramesAndAnswerForTheirAddresses_5 = true ∧ arg6_PortsCountFramesAndAnswerForTheirAddresses_5.len ≤ port0.maxFrame ∧ arg6_PortsCountFramesAndAnswerForTheirAddresses_5.kind = FrameKind.roce ip0 true 259 4 (some arg1_PortsCountFramesAndAnswerForTheirAddresses_5) ∧ ip0.ok = true ∧ ((state_PortsCountFramesAndAnswerForTheirAddresses_5.dev.net.qpOf 259).bind fun x => x.snd.liveSa) = none ∧ state_PortsCountFramesAndAnswerForTheirAddresses_5.dev.get (Fld.PORT_RX_ESP_FAIL_RX_ESP_FAIL arg6_PortsCountFramesAndAnswerForTheirAddresses_5.port) < 2 ^ 32 - 1 := by decide

/-- For `witness_PortsCountFramesAndAnswerForTheirAddresses_6`. -/
def state_PortsCountFramesAndAnswerForTheirAddresses_6 : State := wired 4 id

/-- For `witness_PortsCountFramesAndAnswerForTheirAddresses_6`. -/
def arg1_PortsCountFramesAndAnswerForTheirAddresses_6 : EthFrame := { frame0 .other with port := 2 }

/-- PortsCountFramesAndAnswerForTheirAddresses, clause 7. -/
theorem witness_PortsCountFramesAndAnswerForTheirAddresses_6 :
    state_PortsCountFramesAndAnswerForTheirAddresses_6.dev.portRec arg1_PortsCountFramesAndAnswerForTheirAddresses_6.port = none ∨ state_PortsCountFramesAndAnswerForTheirAddresses_6.dev.portsUp = false := by decide

/-- For `witness_PortsCountFramesAndAnswerForTheirAddresses_7`. -/
def state_PortsCountFramesAndAnswerForTheirAddresses_7 : State := wired 4 id

/-- PortsCountFramesAndAnswerForTheirAddresses, clause 8. -/
theorem witness_PortsCountFramesAndAnswerForTheirAddresses_7 :
    state_PortsCountFramesAndAnswerForTheirAddresses_7.dev.portsServe = true ∧ (state_PortsCountFramesAndAnswerForTheirAddresses_7.dev.pausedOn 1).testBit (state_PortsCountFramesAndAnswerForTheirAddresses_7.dev.get (Fld.PORT_VLAN_PCP_OTHER 1)) = false ∧ List.find? (fun i => state_PortsCountFramesAndAnswerForTheirAddresses_7.dev.portAddr 1 i == 167772161) (state_PortsCountFramesAndAnswerForTheirAddresses_7.dev.portAddrs 1 false) = some 0 := by decide

/-- For `witness_PortsCountFramesAndAnswerForTheirAddresses_8`. -/
def state_PortsCountFramesAndAnswerForTheirAddresses_8 : State := wired 4 id

/-- PortsCountFramesAndAnswerForTheirAddresses, clause 9. -/
theorem witness_PortsCountFramesAndAnswerForTheirAddresses_8 :
    state_PortsCountFramesAndAnswerForTheirAddresses_8.dev.portsServe = true ∧ (state_PortsCountFramesAndAnswerForTheirAddresses_8.dev.pausedOn 1).testBit (state_PortsCountFramesAndAnswerForTheirAddresses_8.dev.get (Fld.PORT_VLAN_PCP_OTHER 1)) = false ∧ List.find? (fun i => state_PortsCountFramesAndAnswerForTheirAddresses_8.dev.portAddr 1 i == 5) (state_PortsCountFramesAndAnswerForTheirAddresses_8.dev.portAddrs 1 true) = some 1 := by decide

/-- For `witness_PortsCountFramesAndAnswerForTheirAddresses_10`. -/
def state_PortsCountFramesAndAnswerForTheirAddresses_10 : State := wired 4 id

/-- PortsCountFramesAndAnswerForTheirAddresses, clause 11. -/
theorem witness_PortsCountFramesAndAnswerForTheirAddresses_10 :
    state_PortsCountFramesAndAnswerForTheirAddresses_10.dev.portsServe = true ∧ (state_PortsCountFramesAndAnswerForTheirAddresses_10.dev.pausedOn 1).testBit (state_PortsCountFramesAndAnswerForTheirAddresses_10.dev.get (Fld.PORT_VLAN_PCP_OTHER 1)) = false := by decide

/-- For `witness_PortsCountFramesAndAnswerForTheirAddresses_10b`. -/
def state_PortsCountFramesAndAnswerForTheirAddresses_10b : State := wired 4 (·.modNet fun n => { n with echoes := [(1, (0, 1000))] })

/-- PortsCountFramesAndAnswerForTheirAddresses, clause 11. -/
theorem witness_PortsCountFramesAndAnswerForTheirAddresses_10b :
    state_PortsCountFramesAndAnswerForTheirAddresses_10b.dev.portsServe = true ∧ (state_PortsCountFramesAndAnswerForTheirAddresses_10b.dev.pausedOn 1).testBit (state_PortsCountFramesAndAnswerForTheirAddresses_10b.dev.get (Fld.PORT_VLAN_PCP_OTHER 1)) = false := by decide

/-- For `witness_PortsCountFramesAndAnswerForTheirAddresses_11`. -/
def state_PortsCountFramesAndAnswerForTheirAddresses_11 : State := wired 6 id

/-- PortsCountFramesAndAnswerForTheirAddresses, clause 12. -/
theorem witness_PortsCountFramesAndAnswerForTheirAddresses_11 :
    state_PortsCountFramesAndAnswerForTheirAddresses_11.dev.portsServe = false := by decide

/-- For `witness_PausesAndLinksAreMarkedAndLogged_0`. -/
def state_PausesAndLinksAreMarkedAndLogged_0 : State := wired 4 id

/-- PausesAndLinksAreMarkedAndLogged, clause 1. -/
theorem witness_PausesAndLinksAreMarkedAndLogged_0 :
    (state_PausesAndLinksAreMarkedAndLogged_0.dev.portRec 1).isSome = true := by decide

/-- For `witness_PausesAndLinksAreMarkedAndLogged_0b`. -/
def state_PausesAndLinksAreMarkedAndLogged_0b : State := wired 4 id

/-- PausesAndLinksAreMarkedAndLogged, clause 1. -/
theorem witness_PausesAndLinksAreMarkedAndLogged_0b :
    (state_PausesAndLinksAreMarkedAndLogged_0b.dev.portRec 1).isSome = true := by decide

/-- For `witness_PausesAndLinksAreMarkedAndLogged_1`. -/
def state_PausesAndLinksAreMarkedAndLogged_1 : State := wired 4 id

/-- PausesAndLinksAreMarkedAndLogged, clause 2. -/
theorem witness_PausesAndLinksAreMarkedAndLogged_1 :
    state_PausesAndLinksAreMarkedAndLogged_1.dev.portRec 2 = none := by decide

/-- For `witness_PausesAndLinksAreMarkedAndLogged_2`. -/
def state_PausesAndLinksAreMarkedAndLogged_2 : State := wired 4 (·.modNet fun n => { n with paused := [(1, 3)] })

/-- PausesAndLinksAreMarkedAndLogged, clause 3. -/
theorem witness_PausesAndLinksAreMarkedAndLogged_2 :
    (maskOff (state_PausesAndLinksAreMarkedAndLogged_2.dev.pausedOn 1) (2 % 256)).testBit (state_PausesAndLinksAreMarkedAndLogged_2.dev.pcp 1 0) = true ∧ state_PausesAndLinksAreMarkedAndLogged_2.dev.net.waitTx = [] := by decide

/-- For `witness_PausesAndLinksAreMarkedAndLogged_3`. -/
def state_PausesAndLinksAreMarkedAndLogged_3 : State := wired 4 (·.modNet fun n => { n with paused := [(1, 3)] })

/-- PausesAndLinksAreMarkedAndLogged, clause 4. -/
theorem witness_PausesAndLinksAreMarkedAndLogged_3 :
    maskOff (state_PausesAndLinksAreMarkedAndLogged_3.dev.pausedOn 1) (3 % 256) = 0 ∧ state_PausesAndLinksAreMarkedAndLogged_3.dev.net.waitTx = [] := by decide

/-- For `witness_PausesAndLinksAreMarkedAndLogged_5`. -/
def state_PausesAndLinksAreMarkedAndLogged_5 : State := wired 4 id

/-- PausesAndLinksAreMarkedAndLogged, clause 6. -/
theorem witness_PausesAndLinksAreMarkedAndLogged_5 :
    state_PausesAndLinksAreMarkedAndLogged_5.dev.bit (Fld.PORT_STATUS_LINK_UP 1) = true ∧ state_PausesAndLinksAreMarkedAndLogged_5.dev.bit (Fld.PORT_STATUS_HELD 1) = false := by decide

/-- For `witness_PausesAndLinksAreMarkedAndLogged_6`. -/
def state_PausesAndLinksAreMarkedAndLogged_6 : State := wired 4 (·.set (.PORT_STATUS_LINK_UP 1) 0)

/-- PausesAndLinksAreMarkedAndLogged, clause 7. -/
theorem witness_PausesAndLinksAreMarkedAndLogged_6 :
    state_PausesAndLinksAreMarkedAndLogged_6.dev.bit (Fld.PORT_CFG_ENABLED 1) = true ∧ state_PausesAndLinksAreMarkedAndLogged_6.dev.bit (Fld.PORT_STATUS_LINK_UP 1) = false ∧ state_PausesAndLinksAreMarkedAndLogged_6.dev.bit (Fld.PORT_STATUS_HELD 1) = false ∧ state_PausesAndLinksAreMarkedAndLogged_6.dev.inMode [mDORMANT, mCONFIGURING, mHOLDUP, mSANITIZING] = false := by decide

/-- For `witness_PausesAndLinksAreMarkedAndLogged_7`. -/
def state_PausesAndLinksAreMarkedAndLogged_7 : State := wired 4 (·.set (.PORT_STATUS_HELD 1) 1)

/-- PausesAndLinksAreMarkedAndLogged, clause 8. -/
theorem witness_PausesAndLinksAreMarkedAndLogged_7 :
    state_PausesAndLinksAreMarkedAndLogged_7.dev.bit (Fld.PORT_STATUS_LINK_UP 1) = true ∧ state_PausesAndLinksAreMarkedAndLogged_7.dev.bit (Fld.PORT_STATUS_HELD 1) = true := by decide

/-- For `witness_PausesAndLinksAreMarkedAndLogged_8`. -/
def state_PausesAndLinksAreMarkedAndLogged_8 : State := wired 4 id

/-- PausesAndLinksAreMarkedAndLogged, clause 9. -/
theorem witness_PausesAndLinksAreMarkedAndLogged_8 :
    state_PausesAndLinksAreMarkedAndLogged_8.dev.bit (Fld.PORT_STATUS_LINK_UP 2) = false := by decide

/-- For `witness_PausesAndLinksAreMarkedAndLogged_9`. -/
def state_PausesAndLinksAreMarkedAndLogged_9 : State := wired 4 id

/-- PausesAndLinksAreMarkedAndLogged, clause 10. -/
theorem witness_PausesAndLinksAreMarkedAndLogged_9 :
    state_PausesAndLinksAreMarkedAndLogged_9.dev.bit (Fld.PORT_CFG_ENABLED 2) = false ∨ state_PausesAndLinksAreMarkedAndLogged_9.dev.bit (Fld.PORT_STATUS_LINK_UP 2) = true ∨ state_PausesAndLinksAreMarkedAndLogged_9.dev.inMode [mDORMANT, mCONFIGURING, mHOLDUP, mSANITIZING] = true := by decide

/-- For `witness_ConnectionsAreMadeAndTakenDown_0`. -/
def state_ConnectionsAreMadeAndTakenDown_0 : State := wired 4 offering

/-- For `witness_ConnectionsAreMadeAndTakenDown_0`. -/
def arg2_ConnectionsAreMadeAndTakenDown_0 : CmReq := req0 0x01060014

/-- ConnectionsAreMadeAndTakenDown, clause 1. -/
theorem witness_ConnectionsAreMadeAndTakenDown_0 :
    state_ConnectionsAreMadeAndTakenDown_0.dev.portsServe = true ∧ state_ConnectionsAreMadeAndTakenDown_0.dev.forwards = false ∧ state_ConnectionsAreMadeAndTakenDown_0.dev.cmReject arg2_ConnectionsAreMadeAndTakenDown_0 = none ∧ state_ConnectionsAreMadeAndTakenDown_0.dev.serviceKind arg2_ConnectionsAreMadeAndTakenDown_0.service = some 0 ∧ (state_ConnectionsAreMadeAndTakenDown_0.dev.pausedOn arg2_ConnectionsAreMadeAndTakenDown_0.port).testBit (state_ConnectionsAreMadeAndTakenDown_0.dev.get (Fld.PORT_VLAN_PCP_OTHER arg2_ConnectionsAreMadeAndTakenDown_0.port)) = false ∧ state_ConnectionsAreMadeAndTakenDown_0.dev.silent = false ∧ state_ConnectionsAreMadeAndTakenDown_0.dev.net.freeQp = some 0 := by decide

/-- For `witness_ConnectionsAreMadeAndTakenDown_2`. -/
def state_ConnectionsAreMadeAndTakenDown_2 : State := wired 4 offering

/-- For `witness_ConnectionsAreMadeAndTakenDown_2`. -/
def arg2_ConnectionsAreMadeAndTakenDown_2 : CmReq := req0 0x01060016

/-- ConnectionsAreMadeAndTakenDown, clause 3. -/
theorem witness_ConnectionsAreMadeAndTakenDown_2 :
    state_ConnectionsAreMadeAndTakenDown_2.dev.portsServe = true ∧ state_ConnectionsAreMadeAndTakenDown_2.dev.forwards = false ∧ state_ConnectionsAreMadeAndTakenDown_2.dev.cmReject arg2_ConnectionsAreMadeAndTakenDown_2 = none ∧ state_ConnectionsAreMadeAndTakenDown_2.dev.serviceKind arg2_ConnectionsAreMadeAndTakenDown_2.service = some 2 ∧ state_ConnectionsAreMadeAndTakenDown_2.dev.net.freeQp = some 0 := by decide

/-- For `witness_ConnectionsAreMadeAndTakenDown_3`. -/
def state_ConnectionsAreMadeAndTakenDown_3 : State := wired 4 offering

/-- For `witness_ConnectionsAreMadeAndTakenDown_3`. -/
def arg2_ConnectionsAreMadeAndTakenDown_3 : CmReq := req0 0x01060017

/-- ConnectionsAreMadeAndTakenDown, clause 4. -/
theorem witness_ConnectionsAreMadeAndTakenDown_3 :
    state_ConnectionsAreMadeAndTakenDown_3.dev.portsServe = true ∧ state_ConnectionsAreMadeAndTakenDown_3.dev.forwards = false ∧ state_ConnectionsAreMadeAndTakenDown_3.dev.cmReject arg2_ConnectionsAreMadeAndTakenDown_3 = some 8 ∧ (state_ConnectionsAreMadeAndTakenDown_3.dev.pausedOn arg2_ConnectionsAreMadeAndTakenDown_3.port).testBit (state_ConnectionsAreMadeAndTakenDown_3.dev.get (Fld.PORT_VLAN_PCP_OTHER arg2_ConnectionsAreMadeAndTakenDown_3.port)) = false ∧ state_ConnectionsAreMadeAndTakenDown_3.dev.silent = false := by decide

/-- For `witness_ConnectionsAreMadeAndTakenDown_4`. -/
def state_ConnectionsAreMadeAndTakenDown_4 : State := wired 6 offering

/-- ConnectionsAreMadeAndTakenDown, clause 5. -/
theorem witness_ConnectionsAreMadeAndTakenDown_4 :
    state_ConnectionsAreMadeAndTakenDown_4.dev.portsServe = false := by decide

/-- For `witness_ConnectionsAreMadeAndTakenDown_5`. -/
def state_ConnectionsAreMadeAndTakenDown_5 : State := wired 4 (·.updQp 3 fun q => { q with state := 2 })

/-- For `witness_ConnectionsAreMadeAndTakenDown_5`. -/
def arg1_ConnectionsAreMadeAndTakenDown_5 : Qp := { qp0 with state := 2 }

/-- ConnectionsAreMadeAndTakenDown, clause 6. -/
theorem witness_ConnectionsAreMadeAndTakenDown_5 :
    state_ConnectionsAreMadeAndTakenDown_5.dev.portsServe = true ∧ state_ConnectionsAreMadeAndTakenDown_5.dev.forwards = false ∧ state_ConnectionsAreMadeAndTakenDown_5.dev.net.qps.get? 3 = some arg1_ConnectionsAreMadeAndTakenDown_5 ∧ arg1_ConnectionsAreMadeAndTakenDown_5.state = 2 := by decide

/-- For `witness_ConnectionsAreMadeAndTakenDown_7`. -/
def state_ConnectionsAreMadeAndTakenDown_7 : State := wired 4 id

/-- ConnectionsAreMadeAndTakenDown, clause 8. -/
theorem witness_ConnectionsAreMadeAndTakenDown_7 :
    state_ConnectionsAreMadeAndTakenDown_7.dev.portsServe = true ∧ state_ConnectionsAreMadeAndTakenDown_7.dev.forwards = false ∧ state_ConnectionsAreMadeAndTakenDown_7.dev.net.qps.get? 3 = some qp0 ∧ state_ConnectionsAreMadeAndTakenDown_7.dev.isDown qp0 = false ∧ (state_ConnectionsAreMadeAndTakenDown_7.dev.pausedOn qp0.port).testBit (state_ConnectionsAreMadeAndTakenDown_7.dev.get (Fld.PORT_VLAN_PCP_OTHER qp0.port)) = false ∧ state_ConnectionsAreMadeAndTakenDown_7.dev.silent = false := by decide

/-- For `witness_ConnectionsAreMadeAndTakenDown_8`. -/
def state_ConnectionsAreMadeAndTakenDown_8 : State := wired 4 (·.updQp 3 fun q => { q with state := 4 })

/-- For `witness_ConnectionsAreMadeAndTakenDown_8`. -/
def arg1_ConnectionsAreMadeAndTakenDown_8 : Qp := { qp0 with state := 4 }

/-- ConnectionsAreMadeAndTakenDown, clause 9. -/
theorem witness_ConnectionsAreMadeAndTakenDown_8 :
    state_ConnectionsAreMadeAndTakenDown_8.dev.portsServe = true ∧ state_ConnectionsAreMadeAndTakenDown_8.dev.forwards = false ∧ state_ConnectionsAreMadeAndTakenDown_8.dev.net.qps.get? 3 = some arg1_ConnectionsAreMadeAndTakenDown_8 ∧ arg1_ConnectionsAreMadeAndTakenDown_8.state = 4 ∧ (state_ConnectionsAreMadeAndTakenDown_8.dev.pausedOn arg1_ConnectionsAreMadeAndTakenDown_8.port).testBit (state_ConnectionsAreMadeAndTakenDown_8.dev.get (Fld.PORT_VLAN_PCP_OTHER arg1_ConnectionsAreMadeAndTakenDown_8.port)) = false ∧ state_ConnectionsAreMadeAndTakenDown_8.dev.silent = false := by decide

/-- For `witness_ConnectionsAreMadeAndTakenDown_9`. -/
def state_ConnectionsAreMadeAndTakenDown_9 : State := wired 4 (·.updQp 3 fun q => { q with state := 4 })

/-- For `witness_ConnectionsAreMadeAndTakenDown_9`. -/
def arg1_ConnectionsAreMadeAndTakenDown_9 : Qp := { qp0 with state := 4 }

/-- ConnectionsAreMadeAndTakenDown, clause 10. -/
theorem witness_ConnectionsAreMadeAndTakenDown_9 :
    state_ConnectionsAreMadeAndTakenDown_9.dev.portsServe = true ∧ state_ConnectionsAreMadeAndTakenDown_9.dev.forwards = false ∧ state_ConnectionsAreMadeAndTakenDown_9.dev.net.qps.get? 3 = some arg1_ConnectionsAreMadeAndTakenDown_9 ∧ arg1_ConnectionsAreMadeAndTakenDown_9.state = 4 ∧ arg1_ConnectionsAreMadeAndTakenDown_9.kind = 0 ∧ arg1_ConnectionsAreMadeAndTakenDown_9.respq = none ∧ arg1_ConnectionsAreMadeAndTakenDown_9.resps = [] ∧ arg1_ConnectionsAreMadeAndTakenDown_9.reqs = [] ∧ arg1_ConnectionsAreMadeAndTakenDown_9.msg = none := by decide

/-- For `witness_ConnectionsAreMadeAndTakenDown_10`. -/
def state_ConnectionsAreMadeAndTakenDown_10 : State := wired 4 id

/-- ConnectionsAreMadeAndTakenDown, clause 11. -/
theorem witness_ConnectionsAreMadeAndTakenDown_10 :
    state_ConnectionsAreMadeAndTakenDown_10.dev.net.qps.get? 2 = none := by decide

/-- For `witness_AckTimersAndCongestionCutsActOnTheirQp_0`. -/
def state_AckTimersAndCongestionCutsActOnTheirQp_0 : State := wired 4 id

/-- AckTimersAndCongestionCutsActOnTheirQp, clause 1. -/
theorem witness_AckTimersAndCongestionCutsActOnTheirQp_0 :
    state_AckTimersAndCongestionCutsActOnTheirQp_0.dev.net.qps.get? 3 = some qp0 ∧ qp0.ackLate (state_AckTimersAndCongestionCutsActOnTheirQp_0.dev.get Fld.XPORT_ACK_TIMER) state_AckTimersAndCongestionCutsActOnTheirQp_0.dev.cal.cycle = true ∧ state_AckTimersAndCongestionCutsActOnTheirQp_0.dev.silent = false ∧ state_AckTimersAndCongestionCutsActOnTheirQp_0.dev.maySend qp0 = true ∧ qp0.sa = none ∧ qp0.reAck = none ∧ qp0.resps = [] ∧ qp0.reqs = [] := by decide

/-- For `witness_AckTimersAndCongestionCutsActOnTheirQp_1`. -/
def state_AckTimersAndCongestionCutsActOnTheirQp_1 : State := wired 4 (·.modCal fun c => { c with cycle := 5 })

/-- AckTimersAndCongestionCutsActOnTheirQp, clause 2. -/
theorem witness_AckTimersAndCongestionCutsActOnTheirQp_1 :
    state_AckTimersAndCongestionCutsActOnTheirQp_1.dev.net.qps.get? 3 = some qp0 ∧ qp0.ackLate (state_AckTimersAndCongestionCutsActOnTheirQp_1.dev.get Fld.XPORT_ACK_TIMER) state_AckTimersAndCongestionCutsActOnTheirQp_1.dev.cal.cycle = false := by decide

/-- For `witness_AckTimersAndCongestionCutsActOnTheirQp_2`. -/
def state_AckTimersAndCongestionCutsActOnTheirQp_2 : State := wired 4 id

/-- For `witness_AckTimersAndCongestionCutsActOnTheirQp_2`. -/
def arg4_AckTimersAndCongestionCutsActOnTheirQp_2 : Pkt := pkt0 0x81 0

/-- AckTimersAndCongestionCutsActOnTheirQp, clause 3. -/
theorem witness_AckTimersAndCongestionCutsActOnTheirQp_2 :
    state_AckTimersAndCongestionCutsActOnTheirQp_2.dev.net.qpOf arg4_AckTimersAndCongestionCutsActOnTheirQp_2.qpn = some (3, qp0) ∧ state_AckTimersAndCongestionCutsActOnTheirQp_2.dev.curve = some cc0 ∧ state_AckTimersAndCongestionCutsActOnTheirQp_2.dev.portsServe = true ∧ arg4_AckTimersAndCongestionCutsActOnTheirQp_2.op = 129 ∧ arg4_AckTimersAndCongestionCutsActOnTheirQp_2.icrc = true ∧ arg4_AckTimersAndCongestionCutsActOnTheirQp_2.tver = 0 ∧ arg4_AckTimersAndCongestionCutsActOnTheirQp_2.esp = none ∧ qp0.sa = none ∧ arg4_AckTimersAndCongestionCutsActOnTheirQp_2.port = qp0.port ∧ arg4_AckTimersAndCongestionCutsActOnTheirQp_2.pkey % 32768 = qp0.pkey % 32768 ∧ (qp0.state = 2 ∨ qp0.state = 3) := by decide

/-- For `witness_AckTimersAndCongestionCutsActOnTheirQp_6`. -/
def state_AckTimersAndCongestionCutsActOnTheirQp_6 : State := wired 6 id

/-- AckTimersAndCongestionCutsActOnTheirQp, clause 7. -/
theorem witness_AckTimersAndCongestionCutsActOnTheirQp_6 :
    state_AckTimersAndCongestionCutsActOnTheirQp_6.dev.portsServe = false := by decide

/-- For `witness_PortsCountFramesAndAnswerForTheirAddresses_1`. -/
def state_PortsCountFramesAndAnswerForTheirAddresses_1 : State := wired 4 (·.updQp 3 fun q => { q with fixed := false })

/-- For `witness_PortsCountFramesAndAnswerForTheirAddresses_1`. -/
def arg5_PortsCountFramesAndAnswerForTheirAddresses_1 : EthFrame := frame0 (.roce ip0 true 0x103 4 none)

/-- PortsCountFramesAndAnswerForTheirAddresses, clause 2. -/
theorem witness_PortsCountFramesAndAnswerForTheirAddresses_1 :
    state_PortsCountFramesAndAnswerForTheirAddresses_1.dev.portRec arg5_PortsCountFramesAndAnswerForTheirAddresses_1.port = some port0 ∧ state_PortsCountFramesAndAnswerForTheirAddresses_1.dev.portsServe = true ∧ arg5_PortsCountFramesAndAnswerForTheirAddresses_1.fcs = true ∧ state_PortsCountFramesAndAnswerForTheirAddresses_1.dev.macOk arg5_PortsCountFramesAndAnswerForTheirAddresses_1 = true ∧ state_PortsCountFramesAndAnswerForTheirAddresses_1.dev.vlanOk arg5_PortsCountFramesAndAnswerForTheirAddresses_1 = true ∧ arg5_PortsCountFramesAndAnswerForTheirAddresses_1.len ≤ port0.maxFrame ∧ arg5_PortsCountFramesAndAnswerForTheirAddresses_1.kind = FrameKind.roce ip0 true 259 4 none ∧ ip0.ok = true ∧ ip0.ecn ≠ 3 ∧ ((state_PortsCountFramesAndAnswerForTheirAddresses_1.dev.net.qpOf 259).bind fun e => e.snd.liveSa) = none := by decide

/-- For `witness_PortsCountFramesAndAnswerForTheirAddresses_2`. -/
def state_PortsCountFramesAndAnswerForTheirAddresses_2 : State := wired 4 id

/-- For `witness_PortsCountFramesAndAnswerForTheirAddresses_2`. -/
def arg5_PortsCountFramesAndAnswerForTheirAddresses_2 : EthFrame := frame0 (.roce ip0 false 0x103 4 none)

/-- PortsCountFramesAndAnswerForTheirAddresses, clause 3. -/
theorem witness_PortsCountFramesAndAnswerForTheirAddresses_2 :
    state_PortsCountFramesAndAnswerForTheirAddresses_2.dev.portRec arg5_PortsCountFramesAndAnswerForTheirAddresses_2.port = some port0 ∧ state_PortsCountFramesAndAnswerForTheirAddresses_2.dev.portsServe = true ∧ arg5_PortsCountFramesAndAnswerForTheirAddresses_2.fcs = true ∧ state_PortsCountFramesAndAnswerForTheirAddresses_2.dev.macOk arg5_PortsCountFramesAndAnswerForTheirAddresses_2 = true ∧ state_PortsCountFramesAndAnswerForTheirAddresses_2.dev.vlanOk arg5_PortsCountFramesAndAnswerForTheirAddresses_2 = true ∧ arg5_PortsCountFramesAndAnswerForTheirAddresses_2.len ≤ port0.maxFrame ∧ arg5_PortsCountFramesAndAnswerForTheirAddresses_2.kind = FrameKind.roce ip0 false 259 4 none ∧ ip0.ok = true ∧ ((state_PortsCountFramesAndAnswerForTheirAddresses_2.dev.net.qpOf 259).bind fun e => e.snd.liveSa) = none := by decide

/-- For `witness_PortsCountFramesAndAnswerForTheirAddresses_9`. -/
def state_PortsCountFramesAndAnswerForTheirAddresses_9 : State := wired 4 (·.modNet fun n => { n with paused := [(1, 255)] })

/-- PortsCountFramesAndAnswerForTheirAddresses, clause 10. -/
theorem witness_PortsCountFramesAndAnswerForTheirAddresses_9 :
    state_PortsCountFramesAndAnswerForTheirAddresses_9.dev.portsServe = true ∧ (state_PortsCountFramesAndAnswerForTheirAddresses_9.dev.pausedOn 1).testBit (state_PortsCountFramesAndAnswerForTheirAddresses_9.dev.get (Fld.PORT_VLAN_PCP_OTHER 1)) = true ∧ List.find? (fun i => state_PortsCountFramesAndAnswerForTheirAddresses_9.dev.portAddr 1 i == 167772161) (state_PortsCountFramesAndAnswerForTheirAddresses_9.dev.portAddrs 1 false) = some 0 := by decide

/-- For `witness_PausesAndLinksAreMarkedAndLogged_4`. -/
def state_PausesAndLinksAreMarkedAndLogged_4 : State := wired 4 (·.modNet fun n => { n with paused := [(1, 3)], waitTx := [(1, 1, .eth 1 .arpReply 0)] })

/-- PausesAndLinksAreMarkedAndLogged, clause 5. -/
theorem witness_PausesAndLinksAreMarkedAndLogged_4 :
    maskOff (state_PausesAndLinksAreMarkedAndLogged_4.dev.pausedOn 1) (3 % 256) = 0 ∧ state_PausesAndLinksAreMarkedAndLogged_4.dev.net.waitTx = [(1, 1, Out.eth 1 EthKind.arpReply 0)] ∧ (state_PausesAndLinksAreMarkedAndLogged_4.dev.net.paused.del 1).get? 1 = none := by decide

/-- For `witness_ConnectionsAreMadeAndTakenDown_6`. -/
def state_ConnectionsAreMadeAndTakenDown_6 : State := wired 4 (·.updQp 3 fun q => { q with downAt := some 90 })

/-- For `witness_ConnectionsAreMadeAndTakenDown_6`. -/
def arg1_ConnectionsAreMadeAndTakenDown_6 : Qp := { qp0 with downAt := some 90 }

/-- ConnectionsAreMadeAndTakenDown, clause 7. -/
theorem witness_ConnectionsAreMadeAndTakenDown_6 :
    state_ConnectionsAreMadeAndTakenDown_6.dev.portsServe = true ∧ state_ConnectionsAreMadeAndTakenDown_6.dev.forwards = false ∧ state_ConnectionsAreMadeAndTakenDown_6.dev.net.qps.get? 3 = some arg1_ConnectionsAreMadeAndTakenDown_6 ∧ state_ConnectionsAreMadeAndTakenDown_6.dev.isDown arg1_ConnectionsAreMadeAndTakenDown_6 = true := by decide

/-- For `witness_AckTimersAndCongestionCutsActOnTheirQp_5`. -/
def state_AckTimersAndCongestionCutsActOnTheirQp_5 : State := wired 4 id

/-- For `witness_AckTimersAndCongestionCutsActOnTheirQp_5`. -/
def arg1_AckTimersAndCongestionCutsActOnTheirQp_5 : Pkt := { pkt0 0x81 0 with qpn := 0x107 }

/-- AckTimersAndCongestionCutsActOnTheirQp, clause 6. -/
theorem witness_AckTimersAndCongestionCutsActOnTheirQp_5 :
    state_AckTimersAndCongestionCutsActOnTheirQp_5.dev.portsServe = true ∧ arg1_AckTimersAndCongestionCutsActOnTheirQp_5.op = 129 ∧ state_AckTimersAndCongestionCutsActOnTheirQp_5.dev.net.qpOf arg1_AckTimersAndCongestionCutsActOnTheirQp_5.qpn = none := by decide

/-- For `witness_HostRequestsReachTheirQpOrAreDiscarded_0`. -/
def state_HostRequestsReachTheirQpOrAreDiscarded_0 : State := serving_ 0 id

/-- For `witness_HostRequestsReachTheirQpOrAreDiscarded_0`. -/
def arg5_HostRequestsReachTheirQpOrAreDiscarded_0 : Pkt := pkt0 0x0A 100

/-- HostRequestsReachTheirQpOrAreDiscarded, clause 1. -/
theorem witness_HostRequestsReachTheirQpOrAreDiscarded_0 :
    (Instr.rdmaWrite (pkt0 10 100), OpKind.write) ∈ requestRows arg5_HostRequestsReachTheirQpOrAreDiscarded_0 ∧ opKind arg5_HostRequestsReachTheirQpOrAreDiscarded_0.op = OpKind.write ∧ state_HostRequestsReachTheirQpOrAreDiscarded_0.dev.reached 3 qp0 arg5_HostRequestsReachTheirQpOrAreDiscarded_0 = true ∧ (state_HostRequestsReachTheirQpOrAreDiscarded_0.dev.engineLost arg5_HostRequestsReachTheirQpOrAreDiscarded_0.qpn = false ∨ arg5_HostRequestsReachTheirQpOrAreDiscarded_0.psn ≠ qp0.epsn) := by decide

/-- For `witness_HostRequestsReachTheirQpOrAreDiscarded_0b`. -/
def state_HostRequestsReachTheirQpOrAreDiscarded_0b : State := wired 5 id

/-- For `witness_HostRequestsReachTheirQpOrAreDiscarded_0b`. -/
def arg5_HostRequestsReachTheirQpOrAreDiscarded_0b : Pkt := pkt0 0x0A 100

/-- HostRequestsReachTheirQpOrAreDiscarded, clause 1. -/
theorem witness_HostRequestsReachTheirQpOrAreDiscarded_0b :
    (Instr.rdmaWrite (pkt0 10 100), OpKind.write) ∈ requestRows arg5_HostRequestsReachTheirQpOrAreDiscarded_0b ∧ opKind arg5_HostRequestsReachTheirQpOrAreDiscarded_0b.op = OpKind.write ∧ state_HostRequestsReachTheirQpOrAreDiscarded_0b.dev.reached 3 qp0 arg5_HostRequestsReachTheirQpOrAreDiscarded_0b = true ∧ (state_HostRequestsReachTheirQpOrAreDiscarded_0b.dev.engineLost arg5_HostRequestsReachTheirQpOrAreDiscarded_0b.qpn = false ∨ arg5_HostRequestsReachTheirQpOrAreDiscarded_0b.psn ≠ qp0.epsn) := by decide

/-- For `witness_HostRequestsReachTheirQpOrAreDiscarded_0c`. -/
def state_HostRequestsReachTheirQpOrAreDiscarded_0c : State := serving_ 0 (·.updQp 3 fun _ => secured)

/-- For `witness_HostRequestsReachTheirQpOrAreDiscarded_0c`. -/
def arg5_HostRequestsReachTheirQpOrAreDiscarded_0c : Pkt := { pkt0 0x0A 100 with esp := some ⟨7, 6, true⟩ }

/-- HostRequestsReachTheirQpOrAreDiscarded, clause 1. -/
theorem witness_HostRequestsReachTheirQpOrAreDiscarded_0c :
    (Instr.rdmaWrite (let __src := pkt0 10 100; { port := __src.port, qpn := __src.qpn, op := __src.op, psn := __src.psn, ackReq := __src.ackReq, tver := __src.tver, pkey := __src.pkey, dscp := __src.dscp, icrc := __src.icrc, esp := some { spi := 7, seq := 6, icv := true : Esp }, va := __src.va, rkey := __src.rkey, len := __src.len, swap := __src.swap, cmp := __src.cmp, imm := __src.imm, payload := __src.payload, whole := __src.whole, synd := __src.synd : Pkt }), OpKind.write) ∈ requestRows arg5_HostRequestsReachTheirQpOrAreDiscarded_0c ∧ opKind arg5_HostRequestsReachTheirQpOrAreDiscarded_0c.op = OpKind.write ∧ state_HostRequestsReachTheirQpOrAreDiscarded_0c.dev.reached 3 secured arg5_HostRequestsReachTheirQpOrAreDiscarded_0c = true ∧ (state_HostRequestsReachTheirQpOrAreDiscarded_0c.dev.engineLost arg5_HostRequestsReachTheirQpOrAreDiscarded_0c.qpn = false ∨ arg5_HostRequestsReachTheirQpOrAreDiscarded_0c.psn ≠ secured.epsn) := by decide

/-- For `witness_HostRequestsReachTheirQpOrAreDiscarded_1`. -/
def arg3_HostRequestsReachTheirQpOrAreDiscarded_1 : Pkt := pkt0 0x0A 100

/-- HostRequestsReachTheirQpOrAreDiscarded, clause 2. -/
theorem witness_HostRequestsReachTheirQpOrAreDiscarded_1 :
    Dev.packetOk qp0 arg3_HostRequestsReachTheirQpOrAreDiscarded_1 = true ∧ arg3_HostRequestsReachTheirQpOrAreDiscarded_1.icrc = true ∧ arg3_HostRequestsReachTheirQpOrAreDiscarded_1.esp = none ∧ qp0.liveSa = none := by decide

/-- For `witness_HostRequestsReachTheirQpOrAreDiscarded_2`. -/
def arg5_HostRequestsReachTheirQpOrAreDiscarded_2 : Pkt := { pkt0 0x0A 100 with esp := some ⟨7, 6, true⟩ }

/-- For `witness_HostRequestsReachTheirQpOrAreDiscarded_2`. -/
def arg2_HostRequestsReachTheirQpOrAreDiscarded_2 : EspSa := { spiIn := 7, spiOut := 8, saltIn := 0, saltOut := 0, slot := 4, top := 5, window := 1, seqOut := 1, live := true }

/-- For `witness_HostRequestsReachTheirQpOrAreDiscarded_2`. -/
def arg1_HostRequestsReachTheirQpOrAreDiscarded_2 : Esp := ⟨7, 6, true⟩

/-- HostRequestsReachTheirQpOrAreDiscarded, clause 3. -/
theorem witness_HostRequestsReachTheirQpOrAreDiscarded_2 :
    Dev.packetOk secured arg5_HostRequestsReachTheirQpOrAreDiscarded_2 = true ∧ arg5_HostRequestsReachTheirQpOrAreDiscarded_2.icrc = true ∧ arg5_HostRequestsReachTheirQpOrAreDiscarded_2.esp = some arg1_HostRequestsReachTheirQpOrAreDiscarded_2 ∧ secured.sa = some arg2_HostRequestsReachTheirQpOrAreDiscarded_2 ∧ arg2_HostRequestsReachTheirQpOrAreDiscarded_2.live = true ∧ espFault (some arg2_HostRequestsReachTheirQpOrAreDiscarded_2) arg1_HostRequestsReachTheirQpOrAreDiscarded_2 = none := by decide

/-- For `witness_HostRequestsReachTheirQpOrAreDiscarded_3`. -/
def state_HostRequestsReachTheirQpOrAreDiscarded_3 : State := serving_ 0 id

/-- For `witness_HostRequestsReachTheirQpOrAreDiscarded_3`. -/
def arg3_HostRequestsReachTheirQpOrAreDiscarded_3 : Pkt := pkt0 0x44 100

/-- HostRequestsReachTheirQpOrAreDiscarded, clause 4. -/
theorem witness_HostRequestsReachTheirQpOrAreDiscarded_3 :
    opAllowed arg3_HostRequestsReachTheirQpOrAreDiscarded_3.op qp0.kind = false ∧ state_HostRequestsReachTheirQpOrAreDiscarded_3.dev.plain 3 qp0 arg3_HostRequestsReachTheirQpOrAreDiscarded_3 = true := by decide

/-- For `witness_HostRequestsReachTheirQpOrAreDiscarded_4`. -/
def state_HostRequestsReachTheirQpOrAreDiscarded_4 : State := serving_ 0 id

/-- For `witness_HostRequestsReachTheirQpOrAreDiscarded_4`. -/
def arg3_HostRequestsReachTheirQpOrAreDiscarded_4 : Pkt := pkt0 0x0A 100

/-- HostRequestsReachTheirQpOrAreDiscarded, clause 5. -/
theorem witness_HostRequestsReachTheirQpOrAreDiscarded_4 :
    opAllowed arg3_HostRequestsReachTheirQpOrAreDiscarded_4.op qp0.kind = true ∧ state_HostRequestsReachTheirQpOrAreDiscarded_4.dev.net.qpOf arg3_HostRequestsReachTheirQpOrAreDiscarded_4.qpn = some (3, qp0) := by decide

/-- For `witness_HostRequestsReachTheirQpOrAreDiscarded_5`. -/
def arg3_HostRequestsReachTheirQpOrAreDiscarded_5 : Pkt := pkt0 0x0A 100

/-- HostRequestsReachTheirQpOrAreDiscarded, clause 6. -/
theorem witness_HostRequestsReachTheirQpOrAreDiscarded_5 :
    (Instr.send (pkt0 10 100), OpKind.send) ∈ requestRows arg3_HostRequestsReachTheirQpOrAreDiscarded_5 ∧ opKind arg3_HostRequestsReachTheirQpOrAreDiscarded_5.op ≠ OpKind.send := by decide

/-- For `witness_HostRequestsReachTheirQpOrAreDiscarded_6`. -/
def state_HostRequestsReachTheirQpOrAreDiscarded_6 : State := serving_ 0 (·.modInteg fun t => { t with states := [(0x0E93, 3)] })

/-- For `witness_HostRequestsReachTheirQpOrAreDiscarded_6`. -/
def arg5_HostRequestsReachTheirQpOrAreDiscarded_6 : Pkt := pkt0 0x1D 100

/-- HostRequestsReachTheirQpOrAreDiscarded, clause 7. -/
theorem witness_HostRequestsReachTheirQpOrAreDiscarded_6 :
    (Instr.atomicWrite (pkt0 29 100), OpKind.atomicWrite) ∈ requestRows arg5_HostRequestsReachTheirQpOrAreDiscarded_6 ∧ opKind arg5_HostRequestsReachTheirQpOrAreDiscarded_6.op = OpKind.atomicWrite ∧ state_HostRequestsReachTheirQpOrAreDiscarded_6.dev.reached 3 qp0 arg5_HostRequestsReachTheirQpOrAreDiscarded_6 = true ∧ state_HostRequestsReachTheirQpOrAreDiscarded_6.dev.engineLost arg5_HostRequestsReachTheirQpOrAreDiscarded_6.qpn = true ∧ arg5_HostRequestsReachTheirQpOrAreDiscarded_6.psn = qp0.epsn ∧ arg5_HostRequestsReachTheirQpOrAreDiscarded_6.esp = none := by decide

/-- For `witness_HostRequestsReachTheirQpOrAreDiscarded_7`. -/
def state_HostRequestsReachTheirQpOrAreDiscarded_7 : State := serving_ 0 id

/-- For `witness_HostRequestsReachTheirQpOrAreDiscarded_7`. -/
def arg3_HostRequestsReachTheirQpOrAreDiscarded_7 : Pkt := { pkt0 0x0C 100 with qpn := 0x104 }

/-- HostRequestsReachTheirQpOrAreDiscarded, clause 8. -/
theorem witness_HostRequestsReachTheirQpOrAreDiscarded_7 :
    (Instr.rdmaReadRequest (let __src := pkt0 12 100; { port := __src.port, qpn := 260, op := __src.op, psn := __src.psn, ackReq := __src.ackReq, tver := __src.tver, pkey := __src.pkey, dscp := __src.dscp, icrc := __src.icrc, esp := __src.esp, va := __src.va, rkey := __src.rkey, len := __src.len, swap := __src.swap, cmp := __src.cmp, imm := __src.imm, payload := __src.payload, whole := __src.whole, synd := __src.synd : Pkt }), OpKind.read) ∈ requestRows arg3_HostRequestsReachTheirQpOrAreDiscarded_7 ∧ opKind arg3_HostRequestsReachTheirQpOrAreDiscarded_7.op = OpKind.read ∧ state_HostRequestsReachTheirQpOrAreDiscarded_7.dev.net.qpOf arg3_HostRequestsReachTheirQpOrAreDiscarded_7.qpn = none ∧ state_HostRequestsReachTheirQpOrAreDiscarded_7.dev.portsServe = true := by decide

/-- For `witness_HostRequestsReachTheirQpOrAreDiscarded_8`. -/
def state_HostRequestsReachTheirQpOrAreDiscarded_8 : State := serving_ 0 id

/-- For `witness_HostRequestsReachTheirQpOrAreDiscarded_8`. -/
def arg5_HostRequestsReachTheirQpOrAreDiscarded_8 : Pkt := { pkt0 0x0C 100 with tver := 1 }

/-- HostRequestsReachTheirQpOrAreDiscarded, clause 9. -/
theorem witness_HostRequestsReachTheirQpOrAreDiscarded_8 :
    (Instr.rdmaReadRequest (let __src := pkt0 12 100; { port := __src.port, qpn := __src.qpn, op := __src.op, psn := __src.psn, ackReq := __src.ackReq, tver := 1, pkey := __src.pkey, dscp := __src.dscp, icrc := __src.icrc, esp := __src.esp, va := __src.va, rkey := __src.rkey, len := __src.len, swap := __src.swap, cmp := __src.cmp, imm := __src.imm, payload := __src.payload, whole := __src.whole, synd := __src.synd : Pkt }), OpKind.read) ∈ requestRows arg5_HostRequestsReachTheirQpOrAreDiscarded_8 ∧ opKind arg5_HostRequestsReachTheirQpOrAreDiscarded_8.op = OpKind.read ∧ state_HostRequestsReachTheirQpOrAreDiscarded_8.dev.net.qpOf arg5_HostRequestsReachTheirQpOrAreDiscarded_8.qpn = some (3, qp0) ∧ (state_HostRequestsReachTheirQpOrAreDiscarded_8.dev.turn arg5_HostRequestsReachTheirQpOrAreDiscarded_8).executes qp0 false = true ∧ (qp0.state = 4 ∨ qp0.port ≠ arg5_HostRequestsReachTheirQpOrAreDiscarded_8.port ∨ arg5_HostRequestsReachTheirQpOrAreDiscarded_8.tver ≠ 0 ∨ qp0.pkey % 32768 ≠ arg5_HostRequestsReachTheirQpOrAreDiscarded_8.pkey % 32768 ∨ arg5_HostRequestsReachTheirQpOrAreDiscarded_8.icrc = true ∧ qp0.espBad arg5_HostRequestsReachTheirQpOrAreDiscarded_8 = some none) := by decide

/-- For `witness_HostRequestsReachTheirQpOrAreDiscarded_9`. -/
def state_HostRequestsReachTheirQpOrAreDiscarded_9 : State := serving_ 0 id

/-- For `witness_HostRequestsReachTheirQpOrAreDiscarded_9`. -/
def arg7_HostRequestsReachTheirQpOrAreDiscarded_9 : Pkt := { pkt0 4 100 with esp := some ⟨7, 6, true⟩ }

/-- For `witness_HostRequestsReachTheirQpOrAreDiscarded_9`. -/
def arg2_HostRequestsReachTheirQpOrAreDiscarded_9 : Esp := ⟨7, 6, true⟩

/-- HostRequestsReachTheirQpOrAreDiscarded, clause 10. -/
theorem witness_HostRequestsReachTheirQpOrAreDiscarded_9 :
    (Instr.send (let __src := pkt0 4 100; { port := __src.port, qpn := __src.qpn, op := __src.op, psn := __src.psn, ackReq := __src.ackReq, tver := __src.tver, pkey := __src.pkey, dscp := __src.dscp, icrc := __src.icrc, esp := some { spi := 7, seq := 6, icv := true : Esp }, va := __src.va, rkey := __src.rkey, len := __src.len, swap := __src.swap, cmp := __src.cmp, imm := __src.imm, payload := __src.payload, whole := __src.whole, synd := __src.synd : Pkt }), OpKind.send) ∈ requestRows arg7_HostRequestsReachTheirQpOrAreDiscarded_9 ∧ opKind arg7_HostRequestsReachTheirQpOrAreDiscarded_9.op = OpKind.send ∧ state_HostRequestsReachTheirQpOrAreDiscarded_9.dev.net.qpOf arg7_HostRequestsReachTheirQpOrAreDiscarded_9.qpn = some (3, qp0) ∧ (state_HostRequestsReachTheirQpOrAreDiscarded_9.dev.turn arg7_HostRequestsReachTheirQpOrAreDiscarded_9).executes qp0 false = true ∧ Dev.packetOk qp0 arg7_HostRequestsReachTheirQpOrAreDiscarded_9 = true ∧ arg7_HostRequestsReachTheirQpOrAreDiscarded_9.icrc = true ∧ arg7_HostRequestsReachTheirQpOrAreDiscarded_9.esp = some arg2_HostRequestsReachTheirQpOrAreDiscarded_9 ∧ espFault qp0.liveSa arg2_HostRequestsReachTheirQpOrAreDiscarded_9 = some 0 := by decide

/-- For `witness_HostRequestsReachTheirQpOrAreDiscarded_10`. -/
def state_HostRequestsReachTheirQpOrAreDiscarded_10 : State := serving_ 0 id

/-- For `witness_HostRequestsReachTheirQpOrAreDiscarded_10`. -/
def arg5_HostRequestsReachTheirQpOrAreDiscarded_10 : Pkt := { pkt0 0x0C 100 with icrc := false }

/-- HostRequestsReachTheirQpOrAreDiscarded, clause 11. -/
theorem witness_HostRequestsReachTheirQpOrAreDiscarded_10 :
    (Instr.rdmaReadRequest (let __src := pkt0 12 100; { port := __src.port, qpn := __src.qpn, op := __src.op, psn := __src.psn, ackReq := __src.ackReq, tver := __src.tver, pkey := __src.pkey, dscp := __src.dscp, icrc := false, esp := __src.esp, va := __src.va, rkey := __src.rkey, len := __src.len, swap := __src.swap, cmp := __src.cmp, imm := __src.imm, payload := __src.payload, whole := __src.whole, synd := __src.synd : Pkt }), OpKind.read) ∈ requestRows arg5_HostRequestsReachTheirQpOrAreDiscarded_10 ∧ opKind arg5_HostRequestsReachTheirQpOrAreDiscarded_10.op = OpKind.read ∧ state_HostRequestsReachTheirQpOrAreDiscarded_10.dev.net.qpOf arg5_HostRequestsReachTheirQpOrAreDiscarded_10.qpn = some (3, qp0) ∧ ((state_HostRequestsReachTheirQpOrAreDiscarded_10.dev.turn arg5_HostRequestsReachTheirQpOrAreDiscarded_10).executes qp0 false = false ∨ Dev.packetOk qp0 arg5_HostRequestsReachTheirQpOrAreDiscarded_10 = true ∧ arg5_HostRequestsReachTheirQpOrAreDiscarded_10.icrc = false) := by decide

/-- For `witness_HostRequestsReachTheirQpOrAreDiscarded_11`. -/
def state_HostRequestsReachTheirQpOrAreDiscarded_11 : State := serving_ 0 id

/-- For `witness_HostRequestsReachTheirQpOrAreDiscarded_11`. -/
def arg3_HostRequestsReachTheirQpOrAreDiscarded_11 : Pkt := { pkt0 0x44 100 with icrc := false }

/-- HostRequestsReachTheirQpOrAreDiscarded, clause 12. -/
theorem witness_HostRequestsReachTheirQpOrAreDiscarded_11 :
    opAllowed arg3_HostRequestsReachTheirQpOrAreDiscarded_11.op qp0.kind = false ∧ state_HostRequestsReachTheirQpOrAreDiscarded_11.dev.net.qpOf arg3_HostRequestsReachTheirQpOrAreDiscarded_11.qpn = some (3, qp0) ∧ ((state_HostRequestsReachTheirQpOrAreDiscarded_11.dev.turn arg3_HostRequestsReachTheirQpOrAreDiscarded_11).executes qp0 false = false ∨ Dev.packetOk qp0 arg3_HostRequestsReachTheirQpOrAreDiscarded_11 = true ∧ arg3_HostRequestsReachTheirQpOrAreDiscarded_11.icrc = false) := by decide

/-- For `witness_ExpectedRequestsAdvanceTheirQpAndAnswer_0`. -/
def state_ExpectedRequestsAdvanceTheirQpAndAnswer_0 : State := serving_ 0 id

/-- For `witness_ExpectedRequestsAdvanceTheirQpAndAnswer_0`. -/
def arg5_ExpectedRequestsAdvanceTheirQpAndAnswer_0 : Pkt := pkt0 0x0C 100

/-- ExpectedRequestsAdvanceTheirQpAndAnswer, clause 1. -/
theorem witness_ExpectedRequestsAdvanceTheirQpAndAnswer_0 :
    (Instr.rdmaReadRequest (pkt0 12 100), arg5_ExpectedRequestsAdvanceTheirQpAndAnswer_0.op, TxKind.readResponse) ∈ [(Instr.rdmaReadRequest arg5_ExpectedRequestsAdvanceTheirQpAndAnswer_0, 12, TxKind.readResponse), (Instr.rdmaFlush arg5_ExpectedRequestsAdvanceTheirQpAndAnswer_0, 28, TxKind.flushResponse)] ∧ state_ExpectedRequestsAdvanceTheirQpAndAnswer_0.dev.isNext 3 qp0 arg5_ExpectedRequestsAdvanceTheirQpAndAnswer_0 = true ∧ state_ExpectedRequestsAdvanceTheirQpAndAnswer_0.dev.quiet qp0 = true ∧ arg5_ExpectedRequestsAdvanceTheirQpAndAnswer_0.len = 0 ∧ arg5_ExpectedRequestsAdvanceTheirQpAndAnswer_0.whole = false ∧ arg5_ExpectedRequestsAdvanceTheirQpAndAnswer_0.psn < 2 ^ 24 ∧ (TxKind.readResponse = TxKind.readResponse → state_ExpectedRequestsAdvanceTheirQpAndAnswer_0.dev.bucketHolds qp0 20 = true) := by decide

/-- For `witness_ExpectedRequestsAdvanceTheirQpAndAnswer_0c`. -/
def state_ExpectedRequestsAdvanceTheirQpAndAnswer_0c : State := serving_ 0 (·.updQp 3 fun q => { q with cls := 1 })

/-- For `witness_ExpectedRequestsAdvanceTheirQpAndAnswer_0c`. -/
def arg5_ExpectedRequestsAdvanceTheirQpAndAnswer_0c : Pkt := pkt0 0x0C 100

/-- For `witness_ExpectedRequestsAdvanceTheirQpAndAnswer_0c`. -/
def arg3_ExpectedRequestsAdvanceTheirQpAndAnswer_0c : Qp := { qp0 with cls := 1 }

/-- ExpectedRequestsAdvanceTheirQpAndAnswer, clause 1. -/
theorem witness_ExpectedRequestsAdvanceTheirQpAndAnswer_0c :
    (Instr.rdmaReadRequest (pkt0 12 100), arg5_ExpectedRequestsAdvanceTheirQpAndAnswer_0c.op, TxKind.readResponse) ∈ [(Instr.rdmaReadRequest arg5_ExpectedRequestsAdvanceTheirQpAndAnswer_0c, 12, TxKind.readResponse), (Instr.rdmaFlush arg5_ExpectedRequestsAdvanceTheirQpAndAnswer_0c, 28, TxKind.flushResponse)] ∧ state_ExpectedRequestsAdvanceTheirQpAndAnswer_0c.dev.isNext 3 arg3_ExpectedRequestsAdvanceTheirQpAndAnswer_0c arg5_ExpectedRequestsAdvanceTheirQpAndAnswer_0c = true ∧ state_ExpectedRequestsAdvanceTheirQpAndAnswer_0c.dev.quiet arg3_ExpectedRequestsAdvanceTheirQpAndAnswer_0c = true ∧ arg5_ExpectedRequestsAdvanceTheirQpAndAnswer_0c.len = 0 ∧ arg5_ExpectedRequestsAdvanceTheirQpAndAnswer_0c.whole = false ∧ arg5_ExpectedRequestsAdvanceTheirQpAndAnswer_0c.psn < 2 ^ 24 ∧ (TxKind.readResponse = TxKind.readResponse → state_ExpectedRequestsAdvanceTheirQpAndAnswer_0c.dev.bucketHolds arg3_ExpectedRequestsAdvanceTheirQpAndAnswer_0c 20 = true) := by decide

/-- For `witness_ExpectedRequestsAdvanceTheirQpAndAnswer_0b`. -/
def state_ExpectedRequestsAdvanceTheirQpAndAnswer_0b : State := serving_ 0 id

/-- For `witness_ExpectedRequestsAdvanceTheirQpAndAnswer_0b`. -/
def arg5_ExpectedRequestsAdvanceTheirQpAndAnswer_0b : Pkt := pkt0 0x1C 100

/-- ExpectedRequestsAdvanceTheirQpAndAnswer, clause 1. -/
theorem witness_ExpectedRequestsAdvanceTheirQpAndAnswer_0b :
    (Instr.rdmaFlush (pkt0 28 100), arg5_ExpectedRequestsAdvanceTheirQpAndAnswer_0b.op, TxKind.flushResponse) ∈ [(Instr.rdmaReadRequest arg5_ExpectedRequestsAdvanceTheirQpAndAnswer_0b, 12, TxKind.readResponse), (Instr.rdmaFlush arg5_ExpectedRequestsAdvanceTheirQpAndAnswer_0b, 28, TxKind.flushResponse)] ∧ state_ExpectedRequestsAdvanceTheirQpAndAnswer_0b.dev.isNext 3 qp0 arg5_ExpectedRequestsAdvanceTheirQpAndAnswer_0b = true ∧ state_ExpectedRequestsAdvanceTheirQpAndAnswer_0b.dev.quiet qp0 = true ∧ arg5_ExpectedRequestsAdvanceTheirQpAndAnswer_0b.len = 0 ∧ arg5_ExpectedRequestsAdvanceTheirQpAndAnswer_0b.whole = false ∧ arg5_ExpectedRequestsAdvanceTheirQpAndAnswer_0b.psn < 2 ^ 24 ∧ (TxKind.flushResponse = TxKind.readResponse → state_ExpectedRequestsAdvanceTheirQpAndAnswer_0b.dev.bucketHolds qp0 20 = true) := by decide

/-- For `witness_ExpectedRequestsAdvanceTheirQpAndAnswer_1`. -/
def state_ExpectedRequestsAdvanceTheirQpAndAnswer_1 : State := serving_ 0 id

/-- For `witness_ExpectedRequestsAdvanceTheirQpAndAnswer_1`. -/
def arg3_ExpectedRequestsAdvanceTheirQpAndAnswer_1 : Pkt := pkt0 0x0A 100

/-- ExpectedRequestsAdvanceTheirQpAndAnswer, clause 2. -/
theorem witness_ExpectedRequestsAdvanceTheirQpAndAnswer_1 :
    (arg3_ExpectedRequestsAdvanceTheirQpAndAnswer_1.op = 10 ∨ arg3_ExpectedRequestsAdvanceTheirQpAndAnswer_1.op = 11) ∧ state_ExpectedRequestsAdvanceTheirQpAndAnswer_1.dev.isNext 3 qp0 arg3_ExpectedRequestsAdvanceTheirQpAndAnswer_1 = true ∧ state_ExpectedRequestsAdvanceTheirQpAndAnswer_1.dev.quiet qp0 = true ∧ arg3_ExpectedRequestsAdvanceTheirQpAndAnswer_1.len = 0 ∧ arg3_ExpectedRequestsAdvanceTheirQpAndAnswer_1.ackReq = true ∧ arg3_ExpectedRequestsAdvanceTheirQpAndAnswer_1.psn < 2 ^ 24 := by decide

/-- For `witness_ExpectedRequestsAdvanceTheirQpAndAnswer_2`. -/
def state_ExpectedRequestsAdvanceTheirQpAndAnswer_2 : State := serving_ 1 id

/-- For `witness_ExpectedRequestsAdvanceTheirQpAndAnswer_2`. -/
def arg3_ExpectedRequestsAdvanceTheirQpAndAnswer_2 : Pkt := { pkt0 4 100 with payload := verbRequest 0x51 7 [] }

/-- For `witness_ExpectedRequestsAdvanceTheirQpAndAnswer_2`. -/
def arg1_ExpectedRequestsAdvanceTheirQpAndAnswer_2 : Qp := { qp0 with kind := 1 }

/-- ExpectedRequestsAdvanceTheirQpAndAnswer, clause 3. -/
theorem witness_ExpectedRequestsAdvanceTheirQpAndAnswer_2 :
    (arg3_ExpectedRequestsAdvanceTheirQpAndAnswer_2.op = 4 ∨ arg3_ExpectedRequestsAdvanceTheirQpAndAnswer_2.op = 5) ∧ arg1_ExpectedRequestsAdvanceTheirQpAndAnswer_2.kind = 1 ∧ state_ExpectedRequestsAdvanceTheirQpAndAnswer_2.dev.isNext 3 arg1_ExpectedRequestsAdvanceTheirQpAndAnswer_2 arg3_ExpectedRequestsAdvanceTheirQpAndAnswer_2 = true ∧ state_ExpectedRequestsAdvanceTheirQpAndAnswer_2.dev.quiet arg1_ExpectedRequestsAdvanceTheirQpAndAnswer_2 = true ∧ List.length arg1_ExpectedRequestsAdvanceTheirQpAndAnswer_2.ring < 16 ∧ arg3_ExpectedRequestsAdvanceTheirQpAndAnswer_2.ackReq = true ∧ verbMalformed arg3_ExpectedRequestsAdvanceTheirQpAndAnswer_2.payload = false ∧ arg3_ExpectedRequestsAdvanceTheirQpAndAnswer_2.psn < 2 ^ 24 := by decide

/-- For `witness_ExpectedRequestsAdvanceTheirQpAndAnswer_3`. -/
def state_ExpectedRequestsAdvanceTheirQpAndAnswer_3 : State := serving_ 1 (·.updQp 3 fun q => { q with ring := (List.range 16).map fun n => (n, [], none) })

/-- For `witness_ExpectedRequestsAdvanceTheirQpAndAnswer_3`. -/
def arg3_ExpectedRequestsAdvanceTheirQpAndAnswer_3 : Pkt := pkt0 4 100

/-- For `witness_ExpectedRequestsAdvanceTheirQpAndAnswer_3`. -/
def arg1_ExpectedRequestsAdvanceTheirQpAndAnswer_3 : Qp := { qp0 with kind := 1, ring := (List.range 16).map fun n => (n, [], none) }

/-- ExpectedRequestsAdvanceTheirQpAndAnswer, clause 4. -/
theorem witness_ExpectedRequestsAdvanceTheirQpAndAnswer_3 :
    (arg3_ExpectedRequestsAdvanceTheirQpAndAnswer_3.op = 4 ∨ arg3_ExpectedRequestsAdvanceTheirQpAndAnswer_3.op = 5) ∧ arg1_ExpectedRequestsAdvanceTheirQpAndAnswer_3.kind = 1 ∧ state_ExpectedRequestsAdvanceTheirQpAndAnswer_3.dev.isNext 3 arg1_ExpectedRequestsAdvanceTheirQpAndAnswer_3 arg3_ExpectedRequestsAdvanceTheirQpAndAnswer_3 = true ∧ state_ExpectedRequestsAdvanceTheirQpAndAnswer_3.dev.quiet arg1_ExpectedRequestsAdvanceTheirQpAndAnswer_3 = true ∧ 16 ≤ List.length arg1_ExpectedRequestsAdvanceTheirQpAndAnswer_3.ring ∧ arg1_ExpectedRequestsAdvanceTheirQpAndAnswer_3.minRnr < 32 := by decide

/-- For `witness_RegionRequestsReadWriteAndCheckTheirSpan_0`. -/
def state_RegionRequestsReadWriteAndCheckTheirSpan_0 : State := serving_ 0 id

/-- For `witness_RegionRequestsReadWriteAndCheckTheirSpan_0`. -/
def arg8_RegionRequestsReadWriteAndCheckTheirSpan_0 : Pkt := { at50 0x0C 64 [] with rkey := 51 * 4096 + 1 }

/-- RegionRequestsReadWriteAndCheckTheirSpan, clause 1. -/
theorem witness_RegionRequestsReadWriteAndCheckTheirSpan_0 :
    (Instr.rdmaReadRequest (let __src := at50 12 64 []; { port := __src.port, qpn := __src.qpn, op := __src.op, psn := __src.psn, ackReq := __src.ackReq, tver := __src.tver, pkey := __src.pkey, dscp := __src.dscp, icrc := __src.icrc, esp := __src.esp, va := __src.va, rkey := 51 * 4096 + 1, len := __src.len, swap := __src.swap, cmp := __src.cmp, imm := __src.imm, payload := __src.payload, whole := __src.whole, synd := __src.synd : Pkt }), arg8_RegionRequestsReadWriteAndCheckTheirSpan_0.op, 1, 64) ∈ [(Instr.rdmaReadRequest arg8_RegionRequestsReadWriteAndCheckTheirSpan_0, 12, aREAD, arg8_RegionRequestsReadWriteAndCheckTheirSpan_0.len), (Instr.cmpSwap arg8_RegionRequestsReadWriteAndCheckTheirSpan_0, 19, aATOMIC, 8), (Instr.fetchAdd arg8_RegionRequestsReadWriteAndCheckTheirSpan_0, 20, aATOMIC, 8), (Instr.atomicWrite arg8_RegionRequestsReadWriteAndCheckTheirSpan_0, 29, aATOMIC, 8)] ∧ state_RegionRequestsReadWriteAndCheckTheirSpan_0.dev.isNext 3 qp0 arg8_RegionRequestsReadWriteAndCheckTheirSpan_0 = true ∧ 64 ≠ 0 ∧ state_RegionRequestsReadWriteAndCheckTheirSpan_0.dev.check qp0.pd arg8_RegionRequestsReadWriteAndCheckTheirSpan_0.rkey arg8_RegionRequestsReadWriteAndCheckTheirSpan_0.va 64 1 false = (none, some 1) := by decide

/-- For `witness_RegionRequestsReadWriteAndCheckTheirSpan_1`. -/
def state_RegionRequestsReadWriteAndCheckTheirSpan_1 : State := serving_ 0 (·.modRgn fun t => { t with regions := [(50, { region0 with access := 1 })] })

/-- For `witness_RegionRequestsReadWriteAndCheckTheirSpan_1`. -/
def arg5_RegionRequestsReadWriteAndCheckTheirSpan_1 : Pkt := at50 0x0A 4 [1, 2, 3, 4]

/-- RegionRequestsReadWriteAndCheckTheirSpan, clause 2. -/
theorem witness_RegionRequestsReadWriteAndCheckTheirSpan_1 :
    (arg5_RegionRequestsReadWriteAndCheckTheirSpan_1.op = 10 ∨ arg5_RegionRequestsReadWriteAndCheckTheirSpan_1.op = 11) ∧ state_RegionRequestsReadWriteAndCheckTheirSpan_1.dev.isNext 3 qp0 arg5_RegionRequestsReadWriteAndCheckTheirSpan_1 = true ∧ arg5_RegionRequestsReadWriteAndCheckTheirSpan_1.len ≠ 0 ∧ state_RegionRequestsReadWriteAndCheckTheirSpan_1.dev.check qp0.pd arg5_RegionRequestsReadWriteAndCheckTheirSpan_1.rkey arg5_RegionRequestsReadWriteAndCheckTheirSpan_1.va arg5_RegionRequestsReadWriteAndCheckTheirSpan_1.len aWRITE true = (some 50, some 4) := by decide

/-- For `witness_RegionRequestsReadWriteAndCheckTheirSpan_2`. -/
def state_RegionRequestsReadWriteAndCheckTheirSpan_2 : State := serving_ 0 id

/-- For `witness_RegionRequestsReadWriteAndCheckTheirSpan_2`. -/
def arg4_RegionRequestsReadWriteAndCheckTheirSpan_2 : Pkt := at50 0x0A 4 [1, 2, 3, 4]

/-- RegionRequestsReadWriteAndCheckTheirSpan, clause 3. -/
theorem witness_RegionRequestsReadWriteAndCheckTheirSpan_2 :
    (arg4_RegionRequestsReadWriteAndCheckTheirSpan_2.op = 10 ∨ arg4_RegionRequestsReadWriteAndCheckTheirSpan_2.op = 11) ∧ state_RegionRequestsReadWriteAndCheckTheirSpan_2.dev.isNext 3 qp0 arg4_RegionRequestsReadWriteAndCheckTheirSpan_2 = true ∧ arg4_RegionRequestsReadWriteAndCheckTheirSpan_2.len ≠ 0 ∧ state_RegionRequestsReadWriteAndCheckTheirSpan_2.dev.check qp0.pd arg4_RegionRequestsReadWriteAndCheckTheirSpan_2.rkey arg4_RegionRequestsReadWriteAndCheckTheirSpan_2.va arg4_RegionRequestsReadWriteAndCheckTheirSpan_2.len aWRITE true = (some 50, none) := by decide

/-- For `witness_RegionRequestsReadWriteAndCheckTheirSpan_3`. -/
def state_RegionRequestsReadWriteAndCheckTheirSpan_3 : State := serving_ 0 id

/-- For `witness_RegionRequestsReadWriteAndCheckTheirSpan_3`. -/
def arg5_RegionRequestsReadWriteAndCheckTheirSpan_3 : Pkt := at50 0x0C 4 []

set_option maxRecDepth 8192 in
/-- RegionRequestsReadWriteAndCheckTheirSpan, clause 4. -/
theorem witness_RegionRequestsReadWriteAndCheckTheirSpan_3 :
    arg5_RegionRequestsReadWriteAndCheckTheirSpan_3.op = 12 ∧ state_RegionRequestsReadWriteAndCheckTheirSpan_3.dev.isNext 3 qp0 arg5_RegionRequestsReadWriteAndCheckTheirSpan_3 = true ∧ arg5_RegionRequestsReadWriteAndCheckTheirSpan_3.len ≠ 0 ∧ state_RegionRequestsReadWriteAndCheckTheirSpan_3.dev.check qp0.pd arg5_RegionRequestsReadWriteAndCheckTheirSpan_3.rkey arg5_RegionRequestsReadWriteAndCheckTheirSpan_3.va arg5_RegionRequestsReadWriteAndCheckTheirSpan_3.len aREAD false = (some 50, none) ∧ ((((state_RegionRequestsReadWriteAndCheckTheirSpan_3.dev.turn arg5_RegionRequestsReadWriteAndCheckTheirSpan_3).took 3 (qp0.psnsOf arg5_RegionRequestsReadWriteAndCheckTheirSpan_3) true).regionEnter 50).readSpan qp0.cls 50 arg5_RegionRequestsReadWriteAndCheckTheirSpan_3.va arg5_RegionRequestsReadWriteAndCheckTheirSpan_3.len).snd = some ([0, 0, 0, 0], 0, [], 0, 0) ∧ ((((state_RegionRequestsReadWriteAndCheckTheirSpan_3.dev.turn arg5_RegionRequestsReadWriteAndCheckTheirSpan_3).took 3 (qp0.psnsOf arg5_RegionRequestsReadWriteAndCheckTheirSpan_3) true).regionEnter 50).readSpan qp0.cls 50 arg5_RegionRequestsReadWriteAndCheckTheirSpan_3.va arg5_RegionRequestsReadWriteAndCheckTheirSpan_3.len).fst.reported 0 = true := by decide

/-- For `witness_RegionRequestsReadWriteAndCheckTheirSpan_4`. -/
def arg4_RegionRequestsReadWriteAndCheckTheirSpan_4 : Pkt := at50 0x0C 4 []

set_option maxRecDepth 8192 in
/-- RegionRequestsReadWriteAndCheckTheirSpan, clause 5. -/
theorem witness_RegionRequestsReadWriteAndCheckTheirSpan_4 :
    arg4_RegionRequestsReadWriteAndCheckTheirSpan_4.op = 12 ∧ torn.dev.isNext 3 qp0 arg4_RegionRequestsReadWriteAndCheckTheirSpan_4 = true ∧ arg4_RegionRequestsReadWriteAndCheckTheirSpan_4.len ≠ 0 ∧ torn.dev.check qp0.pd arg4_RegionRequestsReadWriteAndCheckTheirSpan_4.rkey arg4_RegionRequestsReadWriteAndCheckTheirSpan_4.va arg4_RegionRequestsReadWriteAndCheckTheirSpan_4.len aREAD false = (some 50, none) ∧ ((((torn.dev.turn arg4_RegionRequestsReadWriteAndCheckTheirSpan_4).took 3 (qp0.psnsOf arg4_RegionRequestsReadWriteAndCheckTheirSpan_4) true).regionEnter 50).readSpan qp0.cls 50 arg4_RegionRequestsReadWriteAndCheckTheirSpan_4.va arg4_RegionRequestsReadWriteAndCheckTheirSpan_4.len).snd = none := by decide

/-- For `witness_RegionRequestsReadWriteAndCheckTheirSpan_5`. -/
def state_RegionRequestsReadWriteAndCheckTheirSpan_5 : State := serving_ 0 id

/-- For `witness_RegionRequestsReadWriteAndCheckTheirSpan_5`. -/
def arg6_RegionRequestsReadWriteAndCheckTheirSpan_5 : Pkt := { at50 0x13 0 [] with swap := 5 }

set_option maxRecDepth 8192 in
/-- RegionRequestsReadWriteAndCheckTheirSpan, clause 6. -/
theorem witness_RegionRequestsReadWriteAndCheckTheirSpan_5 :
    (Instr.cmpSwap (let __src := at50 19 0 []; { port := __src.port, qpn := __src.qpn, op := __src.op, psn := __src.psn, ackReq := __src.ackReq, tver := __src.tver, pkey := __src.pkey, dscp := __src.dscp, icrc := __src.icrc, esp := __src.esp, va := __src.va, rkey := __src.rkey, len := __src.len, swap := 5, cmp := __src.cmp, imm := __src.imm, payload := __src.payload, whole := __src.whole, synd := __src.synd : Pkt }), arg6_RegionRequestsReadWriteAndCheckTheirSpan_5.op) ∈ [(Instr.cmpSwap arg6_RegionRequestsReadWriteAndCheckTheirSpan_5, 19), (Instr.fetchAdd arg6_RegionRequestsReadWriteAndCheckTheirSpan_5, 20)] ∧ state_RegionRequestsReadWriteAndCheckTheirSpan_5.dev.isNext 3 qp0 arg6_RegionRequestsReadWriteAndCheckTheirSpan_5 = true ∧ state_RegionRequestsReadWriteAndCheckTheirSpan_5.dev.check qp0.pd arg6_RegionRequestsReadWriteAndCheckTheirSpan_5.rkey arg6_RegionRequestsReadWriteAndCheckTheirSpan_5.va 8 aATOMIC false = (some 50, none) ∧ (((((state_RegionRequestsReadWriteAndCheckTheirSpan_5.dev.turn arg6_RegionRequestsReadWriteAndCheckTheirSpan_5).took 3 1 true).regionEnter 50).hostTouch true [((state_RegionRequestsReadWriteAndCheckTheirSpan_5.dev.rgn.region 50).base + (arg6_RegionRequestsReadWriteAndCheckTheirSpan_5.va - (state_RegionRequestsReadWriteAndCheckTheirSpan_5.dev.rgn.region 50).vaBase)) / 4096]).loadLines qp0.cls (spanLines ((state_RegionRequestsReadWriteAndCheckTheirSpan_5.dev.rgn.region 50).base + (arg6_RegionRequestsReadWriteAndCheckTheirSpan_5.va - (state_RegionRequestsReadWriteAndCheckTheirSpan_5.dev.rgn.region 50).vaBase)) 8)).snd = some [{ data := 0, poison := false : LineVal }] := by decide

/-- For `witness_RegionRequestsReadWriteAndCheckTheirSpan_5b`. -/
def state_RegionRequestsReadWriteAndCheckTheirSpan_5b : State := serving_ 0 id

/-- For `witness_RegionRequestsReadWriteAndCheckTheirSpan_5b`. -/
def arg6_RegionRequestsReadWriteAndCheckTheirSpan_5b : Pkt := { at50 0x14 0 [] with swap := 5 }

set_option maxRecDepth 8192 in
/-- RegionRequestsReadWriteAndCheckTheirSpan, clause 6. -/
theorem witness_RegionRequestsReadWriteAndCheckTheirSpan_5b :
    (Instr.fetchAdd (let __src := at50 20 0 []; { port := __src.port, qpn := __src.qpn, op := __src.op, psn := __src.psn, ackReq := __src.ackReq, tver := __src.tver, pkey := __src.pkey, dscp := __src.dscp, icrc := __src.icrc, esp := __src.esp, va := __src.va, rkey := __src.rkey, len := __src.len, swap := 5, cmp := __src.cmp, imm := __src.imm, payload := __src.payload, whole := __src.whole, synd := __src.synd : Pkt }), arg6_RegionRequestsReadWriteAndCheckTheirSpan_5b.op) ∈ [(Instr.cmpSwap arg6_RegionRequestsReadWriteAndCheckTheirSpan_5b, 19), (Instr.fetchAdd arg6_RegionRequestsReadWriteAndCheckTheirSpan_5b, 20)] ∧ state_RegionRequestsReadWriteAndCheckTheirSpan_5b.dev.isNext 3 qp0 arg6_RegionRequestsReadWriteAndCheckTheirSpan_5b = true ∧ state_RegionRequestsReadWriteAndCheckTheirSpan_5b.dev.check qp0.pd arg6_RegionRequestsReadWriteAndCheckTheirSpan_5b.rkey arg6_RegionRequestsReadWriteAndCheckTheirSpan_5b.va 8 aATOMIC false = (some 50, none) ∧ (((((state_RegionRequestsReadWriteAndCheckTheirSpan_5b.dev.turn arg6_RegionRequestsReadWriteAndCheckTheirSpan_5b).took 3 1 true).regionEnter 50).hostTouch true [((state_RegionRequestsReadWriteAndCheckTheirSpan_5b.dev.rgn.region 50).base + (arg6_RegionRequestsReadWriteAndCheckTheirSpan_5b.va - (state_RegionRequestsReadWriteAndCheckTheirSpan_5b.dev.rgn.region 50).vaBase)) / 4096]).loadLines qp0.cls (spanLines ((state_RegionRequestsReadWriteAndCheckTheirSpan_5b.dev.rgn.region 50).base + (arg6_RegionRequestsReadWriteAndCheckTheirSpan_5b.va - (state_RegionRequestsReadWriteAndCheckTheirSpan_5b.dev.rgn.region 50).vaBase)) 8)).snd = some [{ data := 0, poison := false : LineVal }] := by decide

/-- For `witness_RegionRequestsReadWriteAndCheckTheirSpan_6`. -/
def arg5_RegionRequestsReadWriteAndCheckTheirSpan_6 : Pkt := at50 0x14 0 []

/-- RegionRequestsReadWriteAndCheckTheirSpan, clause 7. -/
theorem witness_RegionRequestsReadWriteAndCheckTheirSpan_6 :
    (Instr.fetchAdd (at50 20 0 []), arg5_RegionRequestsReadWriteAndCheckTheirSpan_6.op) ∈ [(Instr.cmpSwap arg5_RegionRequestsReadWriteAndCheckTheirSpan_6, 19), (Instr.fetchAdd arg5_RegionRequestsReadWriteAndCheckTheirSpan_6, 20)] ∧ torn.dev.isNext 3 qp0 arg5_RegionRequestsReadWriteAndCheckTheirSpan_6 = true ∧ torn.dev.check qp0.pd arg5_RegionRequestsReadWriteAndCheckTheirSpan_6.rkey arg5_RegionRequestsReadWriteAndCheckTheirSpan_6.va 8 aATOMIC false = (some 50, none) ∧ (((((torn.dev.turn arg5_RegionRequestsReadWriteAndCheckTheirSpan_6).took 3 1 true).regionEnter 50).hostTouch true [((torn.dev.rgn.region 50).base + (arg5_RegionRequestsReadWriteAndCheckTheirSpan_6.va - (torn.dev.rgn.region 50).vaBase)) / 4096]).loadLines qp0.cls (spanLines ((torn.dev.rgn.region 50).base + (arg5_RegionRequestsReadWriteAndCheckTheirSpan_6.va - (torn.dev.rgn.region 50).vaBase)) 8)).snd = none := by decide

/-- For `witness_RegionRequestsReadWriteAndCheckTheirSpan_7`. -/
def state_RegionRequestsReadWriteAndCheckTheirSpan_7 : State := serving_ 0 id

/-- For `witness_RegionRequestsReadWriteAndCheckTheirSpan_7`. -/
def arg4_RegionRequestsReadWriteAndCheckTheirSpan_7 : Pkt := at50 0x1D 0 [1, 2, 3, 4, 5, 6, 7, 8]

/-- RegionRequestsReadWriteAndCheckTheirSpan, clause 8. -/
theorem witness_RegionRequestsReadWriteAndCheckTheirSpan_7 :
    arg4_RegionRequestsReadWriteAndCheckTheirSpan_7.op = 29 ∧ state_RegionRequestsReadWriteAndCheckTheirSpan_7.dev.isNext 3 qp0 arg4_RegionRequestsReadWriteAndCheckTheirSpan_7 = true ∧ state_RegionRequestsReadWriteAndCheckTheirSpan_7.dev.check qp0.pd arg4_RegionRequestsReadWriteAndCheckTheirSpan_7.rkey arg4_RegionRequestsReadWriteAndCheckTheirSpan_7.va 8 aATOMIC false = (some 50, none) := by decide

/-- For `witness_GapsDuplicatesAndBadOpcodesAreAnsweredOnce_0`. -/
def state_GapsDuplicatesAndBadOpcodesAreAnsweredOnce_0 : State := serving_ 0 id

/-- For `witness_GapsDuplicatesAndBadOpcodesAreAnsweredOnce_0`. -/
def arg3_GapsDuplicatesAndBadOpcodesAreAnsweredOnce_0 : Pkt := pkt0 0x0A 105

/-- GapsDuplicatesAndBadOpcodesAreAnsweredOnce, clause 1. -/
theorem witness_GapsDuplicatesAndBadOpcodesAreAnsweredOnce_0 :
    opKind arg3_GapsDuplicatesAndBadOpcodesAreAnsweredOnce_0.op = OpKind.write ∧ state_GapsDuplicatesAndBadOpcodesAreAnsweredOnce_0.dev.plain 3 qp0 arg3_GapsDuplicatesAndBadOpcodesAreAnsweredOnce_0 = true ∧ state_GapsDuplicatesAndBadOpcodesAreAnsweredOnce_0.dev.quiet qp0 = true ∧ 0 < psnSub arg3_GapsDuplicatesAndBadOpcodesAreAnsweredOnce_0.psn qp0.epsn ∧ psnSub arg3_GapsDuplicatesAndBadOpcodesAreAnsweredOnce_0.psn qp0.epsn < 2 ^ 23 ∧ qp0.nakSent = false := by decide

/-- For `witness_GapsDuplicatesAndBadOpcodesAreAnsweredOnce_1`. -/
def state_GapsDuplicatesAndBadOpcodesAreAnsweredOnce_1 : State := serving_ 0 (·.updQp 3 fun q => { q with nakSent := true })

/-- For `witness_GapsDuplicatesAndBadOpcodesAreAnsweredOnce_1`. -/
def arg5_GapsDuplicatesAndBadOpcodesAreAnsweredOnce_1 : Pkt := pkt0 0x0A 105

/-- For `witness_GapsDuplicatesAndBadOpcodesAreAnsweredOnce_1`. -/
def arg3_GapsDuplicatesAndBadOpcodesAreAnsweredOnce_1 : Qp := { qp0 with nakSent := true }

/-- GapsDuplicatesAndBadOpcodesAreAnsweredOnce, clause 2. -/
theorem witness_GapsDuplicatesAndBadOpcodesAreAnsweredOnce_1 :
    (Instr.rdmaWrite (pkt0 10 105), OpKind.write) ∈ requestRows arg5_GapsDuplicatesAndBadOpcodesAreAnsweredOnce_1 ∧ opKind arg5_GapsDuplicatesAndBadOpcodesAreAnsweredOnce_1.op = OpKind.write ∧ state_GapsDuplicatesAndBadOpcodesAreAnsweredOnce_1.dev.plain 3 arg3_GapsDuplicatesAndBadOpcodesAreAnsweredOnce_1 arg5_GapsDuplicatesAndBadOpcodesAreAnsweredOnce_1 = true ∧ 0 < psnSub arg5_GapsDuplicatesAndBadOpcodesAreAnsweredOnce_1.psn arg3_GapsDuplicatesAndBadOpcodesAreAnsweredOnce_1.epsn ∧ psnSub arg5_GapsDuplicatesAndBadOpcodesAreAnsweredOnce_1.psn arg3_GapsDuplicatesAndBadOpcodesAreAnsweredOnce_1.epsn < 2 ^ 23 ∧ arg3_GapsDuplicatesAndBadOpcodesAreAnsweredOnce_1.nakSent = true := by decide

/-- For `witness_GapsDuplicatesAndBadOpcodesAreAnsweredOnce_2`. -/
def state_GapsDuplicatesAndBadOpcodesAreAnsweredOnce_2 : State := serving_ 0 id

/-- For `witness_GapsDuplicatesAndBadOpcodesAreAnsweredOnce_2`. -/
def arg3_GapsDuplicatesAndBadOpcodesAreAnsweredOnce_2 : Pkt := { pkt0 6 90 with ackReq := false }

/-- GapsDuplicatesAndBadOpcodesAreAnsweredOnce, clause 3. -/
theorem witness_GapsDuplicatesAndBadOpcodesAreAnsweredOnce_2 :
    opKind arg3_GapsDuplicatesAndBadOpcodesAreAnsweredOnce_2.op = OpKind.write ∧ state_GapsDuplicatesAndBadOpcodesAreAnsweredOnce_2.dev.plain 3 qp0 arg3_GapsDuplicatesAndBadOpcodesAreAnsweredOnce_2 = true ∧ qp0.kind = 0 ∧ 2 ^ 23 ≤ psnSub arg3_GapsDuplicatesAndBadOpcodesAreAnsweredOnce_2.psn qp0.epsn ∧ (packetPos arg3_GapsDuplicatesAndBadOpcodesAreAnsweredOnce_2.op < 2 ∧ arg3_GapsDuplicatesAndBadOpcodesAreAnsweredOnce_2.ackReq = false ∨ qp0.pendingFor arg3_GapsDuplicatesAndBadOpcodesAreAnsweredOnce_2.psn = true) := by decide

/-- For `witness_GapsDuplicatesAndBadOpcodesAreAnsweredOnce_3`. -/
def state_GapsDuplicatesAndBadOpcodesAreAnsweredOnce_3 : State := serving_ 0 id

/-- For `witness_GapsDuplicatesAndBadOpcodesAreAnsweredOnce_3`. -/
def arg3_GapsDuplicatesAndBadOpcodesAreAnsweredOnce_3 : Pkt := pkt0 0x0A 90

/-- GapsDuplicatesAndBadOpcodesAreAnsweredOnce, clause 4. -/
theorem witness_GapsDuplicatesAndBadOpcodesAreAnsweredOnce_3 :
    opKind arg3_GapsDuplicatesAndBadOpcodesAreAnsweredOnce_3.op = OpKind.write ∧ state_GapsDuplicatesAndBadOpcodesAreAnsweredOnce_3.dev.plain 3 qp0 arg3_GapsDuplicatesAndBadOpcodesAreAnsweredOnce_3 = true ∧ state_GapsDuplicatesAndBadOpcodesAreAnsweredOnce_3.dev.quiet qp0 = true ∧ qp0.kind = 0 ∧ 2 ^ 23 ≤ psnSub arg3_GapsDuplicatesAndBadOpcodesAreAnsweredOnce_3.psn qp0.epsn ∧ (2 ≤ packetPos arg3_GapsDuplicatesAndBadOpcodesAreAnsweredOnce_3.op ∨ arg3_GapsDuplicatesAndBadOpcodesAreAnsweredOnce_3.ackReq = true) ∧ qp0.pendingFor arg3_GapsDuplicatesAndBadOpcodesAreAnsweredOnce_3.psn = false := by decide

/-- For `witness_GapsDuplicatesAndBadOpcodesAreAnsweredOnce_4`. -/
def state_GapsDuplicatesAndBadOpcodesAreAnsweredOnce_4 : State := serving_ 0 (·.updQp 3 fun q => { q with acache := [(90, some 6)] })

/-- For `witness_GapsDuplicatesAndBadOpcodesAreAnsweredOnce_4`. -/
def arg5_GapsDuplicatesAndBadOpcodesAreAnsweredOnce_4 : Pkt := pkt0 0x13 90

/-- For `witness_GapsDuplicatesAndBadOpcodesAreAnsweredOnce_4`. -/
def arg3_GapsDuplicatesAndBadOpcodesAreAnsweredOnce_4 : Qp := { qp0 with acache := [(90, some 6)] }

/-- GapsDuplicatesAndBadOpcodesAreAnsweredOnce, clause 5. -/
theorem witness_GapsDuplicatesAndBadOpcodesAreAnsweredOnce_4 :
    (Instr.cmpSwap (pkt0 19 90), arg5_GapsDuplicatesAndBadOpcodesAreAnsweredOnce_4.op) ∈ [(Instr.cmpSwap arg5_GapsDuplicatesAndBadOpcodesAreAnsweredOnce_4, 19), (Instr.fetchAdd arg5_GapsDuplicatesAndBadOpcodesAreAnsweredOnce_4, 20)] ∧ state_GapsDuplicatesAndBadOpcodesAreAnsweredOnce_4.dev.plain 3 arg3_GapsDuplicatesAndBadOpcodesAreAnsweredOnce_4 arg5_GapsDuplicatesAndBadOpcodesAreAnsweredOnce_4 = true ∧ state_GapsDuplicatesAndBadOpcodesAreAnsweredOnce_4.dev.quiet arg3_GapsDuplicatesAndBadOpcodesAreAnsweredOnce_4 = true ∧ arg3_GapsDuplicatesAndBadOpcodesAreAnsweredOnce_4.kind = 0 ∧ 2 ^ 23 ≤ psnSub arg5_GapsDuplicatesAndBadOpcodesAreAnsweredOnce_4.psn arg3_GapsDuplicatesAndBadOpcodesAreAnsweredOnce_4.epsn ∧ arg3_GapsDuplicatesAndBadOpcodesAreAnsweredOnce_4.pendingFor arg5_GapsDuplicatesAndBadOpcodesAreAnsweredOnce_4.psn = false ∧ List.find? (fun e => e.fst == arg5_GapsDuplicatesAndBadOpcodesAreAnsweredOnce_4.psn) arg3_GapsDuplicatesAndBadOpcodesAreAnsweredOnce_4.acache = some (arg5_GapsDuplicatesAndBadOpcodesAreAnsweredOnce_4.psn, some 6) := by decide

/-- For `witness_GapsDuplicatesAndBadOpcodesAreAnsweredOnce_5`. -/
def state_GapsDuplicatesAndBadOpcodesAreAnsweredOnce_5 : State := serving_ 0 id

/-- For `witness_GapsDuplicatesAndBadOpcodesAreAnsweredOnce_5`. -/
def arg4_GapsDuplicatesAndBadOpcodesAreAnsweredOnce_5 : Pkt := pkt0 0x1D 90

/-- GapsDuplicatesAndBadOpcodesAreAnsweredOnce, clause 6. -/
theorem witness_GapsDuplicatesAndBadOpcodesAreAnsweredOnce_5 :
    (Instr.atomicWrite (pkt0 29 90), arg4_GapsDuplicatesAndBadOpcodesAreAnsweredOnce_5.op) ∈ [(Instr.cmpSwap arg4_GapsDuplicatesAndBadOpcodesAreAnsweredOnce_5, 19), (Instr.fetchAdd arg4_GapsDuplicatesAndBadOpcodesAreAnsweredOnce_5, 20), (Instr.atomicWrite arg4_GapsDuplicatesAndBadOpcodesAreAnsweredOnce_5, 29)] ∧ state_GapsDuplicatesAndBadOpcodesAreAnsweredOnce_5.dev.plain 3 qp0 arg4_GapsDuplicatesAndBadOpcodesAreAnsweredOnce_5 = true ∧ state_GapsDuplicatesAndBadOpcodesAreAnsweredOnce_5.dev.quiet qp0 = true ∧ qp0.kind = 0 ∧ 2 ^ 23 ≤ psnSub arg4_GapsDuplicatesAndBadOpcodesAreAnsweredOnce_5.psn qp0.epsn ∧ qp0.pendingFor arg4_GapsDuplicatesAndBadOpcodesAreAnsweredOnce_5.psn = false ∧ List.find? (fun e => e.fst == arg4_GapsDuplicatesAndBadOpcodesAreAnsweredOnce_5.psn) qp0.acache = none ∧ qp0.msg = none := by decide

/-- For `witness_GapsDuplicatesAndBadOpcodesAreAnsweredOnce_6`. -/
def state_GapsDuplicatesAndBadOpcodesAreAnsweredOnce_6 : State := serving_ 0 id

/-- For `witness_GapsDuplicatesAndBadOpcodesAreAnsweredOnce_6`. -/
def arg3_GapsDuplicatesAndBadOpcodesAreAnsweredOnce_6 : Pkt := pkt0 0x44 100

/-- GapsDuplicatesAndBadOpcodesAreAnsweredOnce, clause 7. -/
theorem witness_GapsDuplicatesAndBadOpcodesAreAnsweredOnce_6 :
    opAllowed arg3_GapsDuplicatesAndBadOpcodesAreAnsweredOnce_6.op qp0.kind = false ∧ state_GapsDuplicatesAndBadOpcodesAreAnsweredOnce_6.dev.plain 3 qp0 arg3_GapsDuplicatesAndBadOpcodesAreAnsweredOnce_6 = true ∧ state_GapsDuplicatesAndBadOpcodesAreAnsweredOnce_6.dev.quiet qp0 = true ∧ qp0.msg = none ∧ psnSub arg3_GapsDuplicatesAndBadOpcodesAreAnsweredOnce_6.psn qp0.epsn = 0 := by decide

/-- For `witness_RequesterAcknowledgementsTimersAndProbes_0`. -/
def state_RequesterAcknowledgementsTimersAndProbes_0 : State := serving_ 0 (·.updQp 3 fun _ => asking)

/-- For `witness_RequesterAcknowledgementsTimersAndProbes_0`. -/
def arg4_RequesterAcknowledgementsTimersAndProbes_0 : Pkt := pkt0 0x11 7

/-- RequesterAcknowledgementsTimersAndProbes, clause 1. -/
theorem witness_RequesterAcknowledgementsTimersAndProbes_0 :
    state_RequesterAcknowledgementsTimersAndProbes_0.dev.net.qpOf arg4_RequesterAcknowledgementsTimersAndProbes_0.qpn = some (3, asking) ∧ state_RequesterAcknowledgementsTimersAndProbes_0.dev.portsServe = true ∧ arg4_RequesterAcknowledgementsTimersAndProbes_0.op = 17 ∧ Dev.packetOk asking arg4_RequesterAcknowledgementsTimersAndProbes_0 = true ∧ asking.reqs ≠ [] ∧ arg4_RequesterAcknowledgementsTimersAndProbes_0.icrc = true ∧ arg4_RequesterAcknowledgementsTimersAndProbes_0.esp = none ∧ asking.sa = none ∧ asking.halt = false ∧ arg4_RequesterAcknowledgementsTimersAndProbes_0.synd / 32 = 0 ∧ state_RequesterAcknowledgementsTimersAndProbes_0.dev.forwards = false := by decide

/-- For `witness_RequesterAcknowledgementsTimersAndProbes_1`. -/
def state_RequesterAcknowledgementsTimersAndProbes_1 : State := serving_ 0 (·.updQp 3 fun _ => asking)

/-- For `witness_RequesterAcknowledgementsTimersAndProbes_1`. -/
def arg4_RequesterAcknowledgementsTimersAndProbes_1 : Pkt := { pkt0 0x11 7 with synd := 0x22 }

/-- RequesterAcknowledgementsTimersAndProbes, clause 2. -/
theorem witness_RequesterAcknowledgementsTimersAndProbes_1 :
    state_RequesterAcknowledgementsTimersAndProbes_1.dev.net.qpOf arg4_RequesterAcknowledgementsTimersAndProbes_1.qpn = some (3, asking) ∧ state_RequesterAcknowledgementsTimersAndProbes_1.dev.portsServe = true ∧ arg4_RequesterAcknowledgementsTimersAndProbes_1.op = 17 ∧ Dev.packetOk asking arg4_RequesterAcknowledgementsTimersAndProbes_1 = true ∧ asking.reqs ≠ [] ∧ arg4_RequesterAcknowledgementsTimersAndProbes_1.icrc = true ∧ arg4_RequesterAcknowledgementsTimersAndProbes_1.esp = none ∧ asking.sa = none ∧ asking.halt = false ∧ arg4_RequesterAcknowledgementsTimersAndProbes_1.synd / 32 = 1 ∧ (asking.rnrRetry = 7 ∨ asking.rnrTries < asking.rnrRetry) := by decide

/-- For `witness_RequesterAcknowledgementsTimersAndProbes_2`. -/
def state_RequesterAcknowledgementsTimersAndProbes_2 : State := serving_ 0 (·.updQp 3 fun _ => asking)

/-- For `witness_RequesterAcknowledgementsTimersAndProbes_2`. -/
def arg4_RequesterAcknowledgementsTimersAndProbes_2 : Pkt := { pkt0 0x11 7 with synd := 0x62 }

/-- RequesterAcknowledgementsTimersAndProbes, clause 3. -/
theorem witness_RequesterAcknowledgementsTimersAndProbes_2 :
    state_RequesterAcknowledgementsTimersAndProbes_2.dev.net.qpOf arg4_RequesterAcknowledgementsTimersAndProbes_2.qpn = some (3, asking) ∧ state_RequesterAcknowledgementsTimersAndProbes_2.dev.portsServe = true ∧ arg4_RequesterAcknowledgementsTimersAndProbes_2.op = 17 ∧ Dev.packetOk asking arg4_RequesterAcknowledgementsTimersAndProbes_2 = true ∧ asking.reqs ≠ [] ∧ arg4_RequesterAcknowledgementsTimersAndProbes_2.icrc = true ∧ arg4_RequesterAcknowledgementsTimersAndProbes_2.esp = none ∧ asking.sa = none ∧ asking.halt = false ∧ (arg4_RequesterAcknowledgementsTimersAndProbes_2.synd / 32 = 1 ∧ asking.rnrRetry ≠ 7 ∧ asking.rnrRetry ≤ asking.rnrTries ∨ arg4_RequesterAcknowledgementsTimersAndProbes_2.synd ∈ [97, 98, 99]) := by decide

/-- For `witness_RequesterAcknowledgementsTimersAndProbes_3`. -/
def state_RequesterAcknowledgementsTimersAndProbes_3 : State := serving_ 0 (·.updQp 3 fun _ => asking)

/-- For `witness_RequesterAcknowledgementsTimersAndProbes_3`. -/
def arg4_RequesterAcknowledgementsTimersAndProbes_3 : Pkt := { pkt0 0x11 7 with synd := 0x60 }

/-- RequesterAcknowledgementsTimersAndProbes, clause 4. -/
theorem witness_RequesterAcknowledgementsTimersAndProbes_3 :
    state_RequesterAcknowledgementsTimersAndProbes_3.dev.net.qpOf arg4_RequesterAcknowledgementsTimersAndProbes_3.qpn = some (3, asking) ∧ state_RequesterAcknowledgementsTimersAndProbes_3.dev.portsServe = true ∧ arg4_RequesterAcknowledgementsTimersAndProbes_3.op = 17 ∧ Dev.packetOk asking arg4_RequesterAcknowledgementsTimersAndProbes_3 = true ∧ asking.reqs ≠ [] ∧ arg4_RequesterAcknowledgementsTimersAndProbes_3.icrc = true ∧ arg4_RequesterAcknowledgementsTimersAndProbes_3.esp = none ∧ asking.sa = none ∧ asking.halt = false ∧ arg4_RequesterAcknowledgementsTimersAndProbes_3.synd = 96 ∧ state_RequesterAcknowledgementsTimersAndProbes_3.dev.forwards = false := by decide

/-- For `witness_RequesterAcknowledgementsTimersAndProbes_4`. -/
def state_RequesterAcknowledgementsTimersAndProbes_4 : State := serving_ 0 id

/-- For `witness_RequesterAcknowledgementsTimersAndProbes_4`. -/
def arg4_RequesterAcknowledgementsTimersAndProbes_4 : Pkt := pkt0 0x11 7

/-- RequesterAcknowledgementsTimersAndProbes, clause 5. -/
theorem witness_RequesterAcknowledgementsTimersAndProbes_4 :
    state_RequesterAcknowledgementsTimersAndProbes_4.dev.net.qpOf arg4_RequesterAcknowledgementsTimersAndProbes_4.qpn = some (3, qp0) ∧ state_RequesterAcknowledgementsTimersAndProbes_4.dev.portsServe = true ∧ arg4_RequesterAcknowledgementsTimersAndProbes_4.op = 17 ∧ Dev.packetOk qp0 arg4_RequesterAcknowledgementsTimersAndProbes_4 = true ∧ qp0.reqs = [] ∧ arg4_RequesterAcknowledgementsTimersAndProbes_4.icrc = true ∧ arg4_RequesterAcknowledgementsTimersAndProbes_4.esp = none ∧ qp0.sa = none := by decide

/-- For `witness_RequesterAcknowledgementsTimersAndProbes_5`. -/
def state_RequesterAcknowledgementsTimersAndProbes_5 : State := serving_ 0 id

/-- For `witness_RequesterAcknowledgementsTimersAndProbes_5`. -/
def arg2_RequesterAcknowledgementsTimersAndProbes_5 : Pkt := { pkt0 0x11 7 with qpn := 5 }

/-- RequesterAcknowledgementsTimersAndProbes, clause 6. -/
theorem witness_RequesterAcknowledgementsTimersAndProbes_5 :
    state_RequesterAcknowledgementsTimersAndProbes_5.dev.portsServe = true ∧ arg2_RequesterAcknowledgementsTimersAndProbes_5.op = 17 ∧ state_RequesterAcknowledgementsTimersAndProbes_5.dev.net.qpOf arg2_RequesterAcknowledgementsTimersAndProbes_5.qpn = none := by decide

/-- For `witness_RequesterAcknowledgementsTimersAndProbes_6`. -/
def state_RequesterAcknowledgementsTimersAndProbes_6 : State := wired 6 id

/-- For `witness_RequesterAcknowledgementsTimersAndProbes_6`. -/
def arg2_RequesterAcknowledgementsTimersAndProbes_6 : Pkt := pkt0 0x11 7

/-- RequesterAcknowledgementsTimersAndProbes, clause 7. -/
theorem witness_RequesterAcknowledgementsTimersAndProbes_6 :
    state_RequesterAcknowledgementsTimersAndProbes_6.dev.portsServe = false ∨ arg2_RequesterAcknowledgementsTimersAndProbes_6.op ≠ 17 := by decide

/-- For `witness_RequesterAcknowledgementsTimersAndProbes_7`. -/
def state_RequesterAcknowledgementsTimersAndProbes_7 : State := serving_ 0 (·.updQp 3 fun _ => asking)

/-- RequesterAcknowledgementsTimersAndProbes, clause 8. -/
theorem witness_RequesterAcknowledgementsTimersAndProbes_7 :
    state_RequesterAcknowledgementsTimersAndProbes_7.dev.net.qps.get? 3 = some asking ∧ state_RequesterAcknowledgementsTimersAndProbes_7.dev.serving = true ∧ asking.reqs ≠ [] ∧ asking.rnrWait = none ∧ asking.state = 3 ∧ asking.tries < asking.retry ∧ state_RequesterAcknowledgementsTimersAndProbes_7.dev.forwards = false := by decide

/-- For `witness_RequesterAcknowledgementsTimersAndProbes_8`. -/
def state_RequesterAcknowledgementsTimersAndProbes_8 : State := serving_ 0 (·.updQp 3 fun _ => { asking with tries := 7 })

/-- For `witness_RequesterAcknowledgementsTimersAndProbes_8`. -/
def arg1_RequesterAcknowledgementsTimersAndProbes_8 : Qp := { asking with tries := 7 }

/-- RequesterAcknowledgementsTimersAndProbes, clause 9. -/
theorem witness_RequesterAcknowledgementsTimersAndProbes_8 :
    state_RequesterAcknowledgementsTimersAndProbes_8.dev.net.qps.get? 3 = some arg1_RequesterAcknowledgementsTimersAndProbes_8 ∧ state_RequesterAcknowledgementsTimersAndProbes_8.dev.serving = true ∧ arg1_RequesterAcknowledgementsTimersAndProbes_8.reqs ≠ [] ∧ arg1_RequesterAcknowledgementsTimersAndProbes_8.rnrWait = none ∧ arg1_RequesterAcknowledgementsTimersAndProbes_8.state = 3 ∧ arg1_RequesterAcknowledgementsTimersAndProbes_8.retry ≤ arg1_RequesterAcknowledgementsTimersAndProbes_8.tries := by decide

/-- For `witness_RequesterAcknowledgementsTimersAndProbes_9`. -/
def state_RequesterAcknowledgementsTimersAndProbes_9 : State := serving_ 0 (·.updQp 3 fun _ => { asking with rnrWait := some (7, 2) })

/-- For `witness_RequesterAcknowledgementsTimersAndProbes_9`. -/
def arg3_RequesterAcknowledgementsTimersAndProbes_9 : Qp := { asking with rnrWait := some (7, 2) }

/-- RequesterAcknowledgementsTimersAndProbes, clause 10. -/
theorem witness_RequesterAcknowledgementsTimersAndProbes_9 :
    state_RequesterAcknowledgementsTimersAndProbes_9.dev.net.qps.get? 3 = some arg3_RequesterAcknowledgementsTimersAndProbes_9 ∧ arg3_RequesterAcknowledgementsTimersAndProbes_9.rnrWait = some (7, 2) ∧ state_RequesterAcknowledgementsTimersAndProbes_9.dev.serving = true ∧ state_RequesterAcknowledgementsTimersAndProbes_9.dev.forwards = false := by decide

/-- For `witness_RequesterAcknowledgementsTimersAndProbes_10`. -/
def state_RequesterAcknowledgementsTimersAndProbes_10 : State := serving_ 0 (·.updQp 3 fun q => { q with sentSince := true })

/-- For `witness_RequesterAcknowledgementsTimersAndProbes_10`. -/
def arg2_RequesterAcknowledgementsTimersAndProbes_10 : Qp := { qp0 with sentSince := true }

/-- RequesterAcknowledgementsTimersAndProbes, clause 11. -/
theorem witness_RequesterAcknowledgementsTimersAndProbes_10 :
    state_RequesterAcknowledgementsTimersAndProbes_10.dev.net.qps.get? 3 = some arg2_RequesterAcknowledgementsTimersAndProbes_10 ∧ state_RequesterAcknowledgementsTimersAndProbes_10.dev.curve = some cc0 ∧ state_RequesterAcknowledgementsTimersAndProbes_10.dev.serving = true ∧ cc0.probeUs ≠ 0 ∧ state_RequesterAcknowledgementsTimersAndProbes_10.dev.forwards = false ∧ arg2_RequesterAcknowledgementsTimersAndProbes_10.kind = 0 ∧ arg2_RequesterAcknowledgementsTimersAndProbes_10.state = 3 ∧ arg2_RequesterAcknowledgementsTimersAndProbes_10.downAt = none ∧ arg2_RequesterAcknowledgementsTimersAndProbes_10.halt = false ∧ arg2_RequesterAcknowledgementsTimersAndProbes_10.sentSince = true ∧ arg2_RequesterAcknowledgementsTimersAndProbes_10.sampledSince = false ∧ arg2_RequesterAcknowledgementsTimersAndProbes_10.reqs.length < 64 := by decide

/-- For `witness_RequesterAcknowledgementsTimersAndProbes_11`. -/
def state_RequesterAcknowledgementsTimersAndProbes_11 : State := serving_ 0 id

/-- RequesterAcknowledgementsTimersAndProbes, clause 12. -/
theorem witness_RequesterAcknowledgementsTimersAndProbes_11 :
    state_RequesterAcknowledgementsTimersAndProbes_11.dev.net.qps.get? 3 = some qp0 ∧ state_RequesterAcknowledgementsTimersAndProbes_11.dev.curve = some cc0 ∧ state_RequesterAcknowledgementsTimersAndProbes_11.dev.serving = true ∧ cc0.probeUs ≠ 0 ∧ (qp0.sentSince = false ∨ qp0.sampledSince = true) := by decide

/-- For `witness_RequesterAcknowledgementsTimersAndProbes_12`. -/
def state_RequesterAcknowledgementsTimersAndProbes_12 : State := serving_ 0 id

/-- RequesterAcknowledgementsTimersAndProbes, clause 13. -/
theorem witness_RequesterAcknowledgementsTimersAndProbes_12 :
    state_RequesterAcknowledgementsTimersAndProbes_12.dev.net.qps.get? 4 = none := by decide

/-- For `witness_VerbsRunOnceAndAreScreenedByModeAndCapability_0`. -/
def state_VerbsRunOnceAndAreScreenedByModeAndCapability_0 : State := asked 4 0x13 (body [(4, 50 * 4096)]) id

/-- VerbsRunOnceAndAreScreenedByModeAndCapability, clause 1. -/
theorem witness_VerbsRunOnceAndAreScreenedByModeAndCapability_0 :
    (Instr.regQuery (Caller.sp 3) 77 (body [(4, 50 * 4096)]), 19) ∈ [(Instr.pdCreate (Caller.sp 3) 77 (body [(4, 50 * 4096)]), 1), (Instr.pdDestroy (Caller.sp 3) 77 (body [(4, 50 * 4096)]), 2), (Instr.pdSetCaps (Caller.sp 3) 77 (body [(4, 50 * 4096)]), 3), (Instr.regCreate (Caller.sp 3) 77 (body [(4, 50 * 4096)]), 16), (Instr.logCreate (Caller.sp 3) 77 (body [(4, 50 * 4096)]), 17), (Instr.regRevoke (Caller.sp 3) 77 (body [(4, 50 * 4096)]), 18), (Instr.regQuery (Caller.sp 3) 77 (body [(4, 50 * 4096)]), 19), (Instr.zoneReset (Caller.sp 3) 77 (body [(4, 50 * 4096)]), 32), (Instr.zoneQuery (Caller.sp 3) 77 (body [(4, 50 * 4096)]), 33), (Instr.kdAssign (Caller.sp 3) 77 (body [(4, 50 * 4096)]), 48), (Instr.saInstall (Caller.sp 3) 77 (body [(4, 50 * 4096)]), 64), (Instr.qpTeardown (Caller.sp 3) 77 (body [(4, 50 * 4096)]), 65), (Instr.keyGenerate (Caller.sp 3) 77 (body [(4, 50 * 4096)]), 96), (Instr.keyImport (Caller.sp 3) 77 (body [(4, 50 * 4096)]), 97), (Instr.keyDestroy (Caller.sp 3) 77 (body [(4, 50 * 4096)]), 98), (Instr.keyQuery (Caller.sp 3) 77 (body [(4, 50 * 4096)]), 99), (Instr.kdKey (Caller.sp 3) 77 (body [(4, 50 * 4096)]), 100), (Instr.kdRekey (Caller.sp 3) 77 (body [(4, 50 * 4096)]), 101), (Instr.kdDestroy (Caller.sp 3) 77 (body [(4, 50 * 4096)]), 102), (Instr.kdQuery (Caller.sp 3) 77 (body [(4, 50 * 4096)]), 103), (Instr.dqCreate (Caller.sp 3) 77 (body [(4, 50 * 4096)]), 112), (Instr.dqDestroy (Caller.sp 3) 77 (body [(4, 50 * 4096)]), 113), (Instr.dqReset (Caller.sp 3) 77 (body [(4, 50 * 4096)]), 114), (Instr.dqQuery (Caller.sp 3) 77 (body [(4, 50 * 4096)]), 115)] ∧ state_VerbsRunOnceAndAreScreenedByModeAndCapability_0.dev.get Fld.MB_FLAGS_TO_DEV_FULL = 0 := by decide

/-- For `witness_VerbsRunOnceAndAreScreenedByModeAndCapability_0b`. -/
def state_VerbsRunOnceAndAreScreenedByModeAndCapability_0b : State := asked 5 0x03 (body [(4, 2), (4, 1)]) id

/-- VerbsRunOnceAndAreScreenedByModeAndCapability, clause 1. -/
theorem witness_VerbsRunOnceAndAreScreenedByModeAndCapability_0b :
    (Instr.pdSetCaps (Caller.sp 3) 77 (body [(4, 2), (4, 1)]), 3) ∈ [(Instr.pdCreate (Caller.sp 3) 77 (body [(4, 2), (4, 1)]), 1), (Instr.pdDestroy (Caller.sp 3) 77 (body [(4, 2), (4, 1)]), 2), (Instr.pdSetCaps (Caller.sp 3) 77 (body [(4, 2), (4, 1)]), 3), (Instr.regCreate (Caller.sp 3) 77 (body [(4, 2), (4, 1)]), 16), (Instr.logCreate (Caller.sp 3) 77 (body [(4, 2), (4, 1)]), 17), (Instr.regRevoke (Caller.sp 3) 77 (body [(4, 2), (4, 1)]), 18), (Instr.regQuery (Caller.sp 3) 77 (body [(4, 2), (4, 1)]), 19), (Instr.zoneReset (Caller.sp 3) 77 (body [(4, 2), (4, 1)]), 32), (Instr.zoneQuery (Caller.sp 3) 77 (body [(4, 2), (4, 1)]), 33), (Instr.kdAssign (Caller.sp 3) 77 (body [(4, 2), (4, 1)]), 48), (Instr.saInstall (Caller.sp 3) 77 (body [(4, 2), (4, 1)]), 64), (Instr.qpTeardown (Caller.sp 3) 77 (body [(4, 2), (4, 1)]), 65), (Instr.keyGenerate (Caller.sp 3) 77 (body [(4, 2), (4, 1)]), 96), (Instr.keyImport (Caller.sp 3) 77 (body [(4, 2), (4, 1)]), 97), (Instr.keyDestroy (Caller.sp 3) 77 (body [(4, 2), (4, 1)]), 98), (Instr.keyQuery (Caller.sp 3) 77 (body [(4, 2), (4, 1)]), 99), (Instr.kdKey (Caller.sp 3) 77 (body [(4, 2), (4, 1)]), 100), (Instr.kdRekey (Caller.sp 3) 77 (body [(4, 2), (4, 1)]), 101), (Instr.kdDestroy (Caller.sp 3) 77 (body [(4, 2), (4, 1)]), 102), (Instr.kdQuery (Caller.sp 3) 77 (body [(4, 2), (4, 1)]), 103), (Instr.dqCreate (Caller.sp 3) 77 (body [(4, 2), (4, 1)]), 112), (Instr.dqDestroy (Caller.sp 3) 77 (body [(4, 2), (4, 1)]), 113), (Instr.dqReset (Caller.sp 3) 77 (body [(4, 2), (4, 1)]), 114), (Instr.dqQuery (Caller.sp 3) 77 (body [(4, 2), (4, 1)]), 115)] ∧ state_VerbsRunOnceAndAreScreenedByModeAndCapability_0b.dev.get Fld.MB_FLAGS_TO_DEV_FULL = 0 := by decide

/-- For `witness_VerbsRunOnceAndAreScreenedByModeAndCapability_0c`. -/
def state_VerbsRunOnceAndAreScreenedByModeAndCapability_0c : State := wired 4 id

/-- VerbsRunOnceAndAreScreenedByModeAndCapability, clause 1. -/
theorem witness_VerbsRunOnceAndAreScreenedByModeAndCapability_0c :
    (Instr.pdSetCaps (Caller.sp 3) 77 (body [(4, 2), (4, 1)]), 3) ∈ [(Instr.pdCreate (Caller.sp 3) 77 (body [(4, 2), (4, 1)]), 1), (Instr.pdDestroy (Caller.sp 3) 77 (body [(4, 2), (4, 1)]), 2), (Instr.pdSetCaps (Caller.sp 3) 77 (body [(4, 2), (4, 1)]), 3), (Instr.regCreate (Caller.sp 3) 77 (body [(4, 2), (4, 1)]), 16), (Instr.logCreate (Caller.sp 3) 77 (body [(4, 2), (4, 1)]), 17), (Instr.regRevoke (Caller.sp 3) 77 (body [(4, 2), (4, 1)]), 18), (Instr.regQuery (Caller.sp 3) 77 (body [(4, 2), (4, 1)]), 19), (Instr.zoneReset (Caller.sp 3) 77 (body [(4, 2), (4, 1)]), 32), (Instr.zoneQuery (Caller.sp 3) 77 (body [(4, 2), (4, 1)]), 33), (Instr.kdAssign (Caller.sp 3) 77 (body [(4, 2), (4, 1)]), 48), (Instr.saInstall (Caller.sp 3) 77 (body [(4, 2), (4, 1)]), 64), (Instr.qpTeardown (Caller.sp 3) 77 (body [(4, 2), (4, 1)]), 65), (Instr.keyGenerate (Caller.sp 3) 77 (body [(4, 2), (4, 1)]), 96), (Instr.keyImport (Caller.sp 3) 77 (body [(4, 2), (4, 1)]), 97), (Instr.keyDestroy (Caller.sp 3) 77 (body [(4, 2), (4, 1)]), 98), (Instr.keyQuery (Caller.sp 3) 77 (body [(4, 2), (4, 1)]), 99), (Instr.kdKey (Caller.sp 3) 77 (body [(4, 2), (4, 1)]), 100), (Instr.kdRekey (Caller.sp 3) 77 (body [(4, 2), (4, 1)]), 101), (Instr.kdDestroy (Caller.sp 3) 77 (body [(4, 2), (4, 1)]), 102), (Instr.kdQuery (Caller.sp 3) 77 (body [(4, 2), (4, 1)]), 103), (Instr.dqCreate (Caller.sp 3) 77 (body [(4, 2), (4, 1)]), 112), (Instr.dqDestroy (Caller.sp 3) 77 (body [(4, 2), (4, 1)]), 113), (Instr.dqReset (Caller.sp 3) 77 (body [(4, 2), (4, 1)]), 114), (Instr.dqQuery (Caller.sp 3) 77 (body [(4, 2), (4, 1)]), 115)] ∧ state_VerbsRunOnceAndAreScreenedByModeAndCapability_0c.dev.get Fld.MB_FLAGS_TO_DEV_FULL = 0 := by decide

/-- For `witness_VerbsRunOnceAndAreScreenedByModeAndCapability_2`. -/
def arg3_VerbsRunOnceAndAreScreenedByModeAndCapability_2 : Dev := (wired 6 id).dev

/-- For `witness_VerbsRunOnceAndAreScreenedByModeAndCapability_2`. -/
def arg2_VerbsRunOnceAndAreScreenedByModeAndCapability_2 : Call := spCall 3 3 77 (body [(4, 2), (4, 1)])

/-- VerbsRunOnceAndAreScreenedByModeAndCapability, clause 3. -/
theorem witness_VerbsRunOnceAndAreScreenedByModeAndCapability_2 :
    arg3_VerbsRunOnceAndAreScreenedByModeAndCapability_2.follower = true ∧ verbLength arg2_VerbsRunOnceAndAreScreenedByModeAndCapability_2.op = some 8 ∧ arg2_VerbsRunOnceAndAreScreenedByModeAndCapability_2.body.length = 8 ∧ verbQuery arg2_VerbsRunOnceAndAreScreenedByModeAndCapability_2.op = false ∧ arg2_VerbsRunOnceAndAreScreenedByModeAndCapability_2.op ≠ 80 := by decide

/-- For `witness_VerbsRunOnceAndAreScreenedByModeAndCapability_3`. -/
def arg3_VerbsRunOnceAndAreScreenedByModeAndCapability_3 : Dev := (wired 3 id).dev

/-- For `witness_VerbsRunOnceAndAreScreenedByModeAndCapability_3`. -/
def arg2_VerbsRunOnceAndAreScreenedByModeAndCapability_3 : Call := spCall 3 3 77 (body [(4, 2), (4, 1)])

/-- VerbsRunOnceAndAreScreenedByModeAndCapability, clause 4. -/
theorem witness_VerbsRunOnceAndAreScreenedByModeAndCapability_3 :
    arg3_VerbsRunOnceAndAreScreenedByModeAndCapability_3.inMode [mCONFIGURING, mTRAINING, mRECOVERING, mSWITCHOVER] = true ∧ verbLength arg2_VerbsRunOnceAndAreScreenedByModeAndCapability_3.op = some 8 ∧ arg2_VerbsRunOnceAndAreScreenedByModeAndCapability_3.body.length = 8 ∧ arg2_VerbsRunOnceAndAreScreenedByModeAndCapability_3.op ≠ 80 := by decide

/-- For `witness_VerbsRunOnceAndAreScreenedByModeAndCapability_4`. -/
def arg5_VerbsRunOnceAndAreScreenedByModeAndCapability_4 : Dev := (wired 4 fun s => (offering s).modRgn fun t => { t with pds := [(2, { pd0 with caps := 1 })] }).dev

/-- For `witness_VerbsRunOnceAndAreScreenedByModeAndCapability_4`. -/
def arg4_VerbsRunOnceAndAreScreenedByModeAndCapability_4 : Call := { spCall 3 3 77 (body [(4, 2), (4, 1)]) with who := .qp 3 0 }

/-- VerbsRunOnceAndAreScreenedByModeAndCapability, clause 5. -/
theorem witness_VerbsRunOnceAndAreScreenedByModeAndCapability_4 :
    arg4_VerbsRunOnceAndAreScreenedByModeAndCapability_4.who = Caller.qp 3 0 ∧ arg5_VerbsRunOnceAndAreScreenedByModeAndCapability_4.inMode [mSOLO, mACTIVE, mQUIESCED] = true ∧ verbLength arg4_VerbsRunOnceAndAreScreenedByModeAndCapability_4.op = some 8 ∧ arg4_VerbsRunOnceAndAreScreenedByModeAndCapability_4.body.length = 8 ∧ (arg5_VerbsRunOnceAndAreScreenedByModeAndCapability_4.callerCaps arg4_VerbsRunOnceAndAreScreenedByModeAndCapability_4.who = 0 ∨ arg5_VerbsRunOnceAndAreScreenedByModeAndCapability_4.callerCaps arg4_VerbsRunOnceAndAreScreenedByModeAndCapability_4.who = 1 ∧ verbAdmin arg4_VerbsRunOnceAndAreScreenedByModeAndCapability_4.op = true) := by decide

/-- For `witness_VerbsRunOnceAndAreScreenedByModeAndCapability_5`. -/
def arg4_VerbsRunOnceAndAreScreenedByModeAndCapability_5 : Dev := (wired 4 id).dev

/-- For `witness_VerbsRunOnceAndAreScreenedByModeAndCapability_5`. -/
def arg3_VerbsRunOnceAndAreScreenedByModeAndCapability_5 : Call := spCall 3 3 77 (body [(4, 2), (4, 1)])

/-- VerbsRunOnceAndAreScreenedByModeAndCapability, clause 6. -/
theorem witness_VerbsRunOnceAndAreScreenedByModeAndCapability_5 :
    arg3_VerbsRunOnceAndAreScreenedByModeAndCapability_5.who = Caller.sp 3 ∧ arg4_VerbsRunOnceAndAreScreenedByModeAndCapability_5.inMode [mSOLO, mACTIVE, mQUIESCED] = true ∧ verbLength arg3_VerbsRunOnceAndAreScreenedByModeAndCapability_5.op = some 8 ∧ arg3_VerbsRunOnceAndAreScreenedByModeAndCapability_5.body.length = 8 := by decide

/-- For `witness_PdVerbsCreateDestroyAndSetCapabilities_0`. -/
def state_PdVerbsCreateDestroyAndSetCapabilities_0 : State := asked 4 1 (body [(4, 1)]) id

/-- PdVerbsCreateDestroyAndSetCapabilities, clause 1. -/
theorem witness_PdVerbsCreateDestroyAndSetCapabilities_0 :
    state_PdVerbsCreateDestroyAndSetCapabilities_0.dev.holdsVerb 3 1 77 (body [(4, 1)]) = true ∧ (spCall 3 1 77 (body [(4, 1)])).at_ 0 4 < 4 ∧ state_PdVerbsCreateDestroyAndSetCapabilities_0.dev.bit Fld.CIPHER_STATUS_ENTROPY_FAIL = false := by decide

/-- For `witness_PdVerbsCreateDestroyAndSetCapabilities_2`. -/
def state_PdVerbsCreateDestroyAndSetCapabilities_2 : State := asked 4 2 (body [(4, 2)]) fun s => (s.modNet fun n => { n with qps := [] }).modRgn fun t => { t with regions := [(40, { region0 with kind := .eventq })] }

/-- PdVerbsCreateDestroyAndSetCapabilities, clause 3. -/
theorem witness_PdVerbsCreateDestroyAndSetCapabilities_2 :
    state_PdVerbsCreateDestroyAndSetCapabilities_2.dev.holdsVerb 3 2 77 (body [(4, 2)]) = true ∧ (spCall 3 2 77 (body [(4, 2)])).at_ 0 4 ≠ 0 ∧ state_PdVerbsCreateDestroyAndSetCapabilities_2.dev.rgn.pds.get? ((spCall 3 2 77 (body [(4, 2)])).at_ 0 4) = some pd0 ∧ pd0.coming = false ∧ pd0.dying = none ∧ (List.any state_PdVerbsCreateDestroyAndSetCapabilities_2.dev.net.qps fun e => e.snd.pd == (spCall 3 2 77 (body [(4, 2)])).at_ 0 4) = false ∧ (List.any state_PdVerbsCreateDestroyAndSetCapabilities_2.dev.rgn.regions fun e => e.snd.pd == (spCall 3 2 77 (body [(4, 2)])).at_ 0 4 && (e.snd.kind == RKind.ordinary || e.snd.kind == RKind.log) && (e.snd.state == RState.live || e.snd.state == RState.revoking)) = false := by decide

/-- For `witness_PdVerbsCreateDestroyAndSetCapabilities_3`. -/
def state_PdVerbsCreateDestroyAndSetCapabilities_3 : State := asked 4 2 (body [(4, 2)]) id

/-- PdVerbsCreateDestroyAndSetCapabilities, clause 4. -/
theorem witness_PdVerbsCreateDestroyAndSetCapabilities_3 :
    state_PdVerbsCreateDestroyAndSetCapabilities_3.dev.holdsVerb 3 2 77 (body [(4, 2)]) = true ∧ (spCall 3 2 77 (body [(4, 2)])).at_ 0 4 ≠ 0 ∧ state_PdVerbsCreateDestroyAndSetCapabilities_3.dev.rgn.pds.get? ((spCall 3 2 77 (body [(4, 2)])).at_ 0 4) = some pd0 ∧ pd0.coming = false ∧ ((List.any state_PdVerbsCreateDestroyAndSetCapabilities_3.dev.net.qps fun e => e.snd.pd == (spCall 3 2 77 (body [(4, 2)])).at_ 0 4) = true ∨ (List.any state_PdVerbsCreateDestroyAndSetCapabilities_3.dev.rgn.regions fun e => e.snd.pd == (spCall 3 2 77 (body [(4, 2)])).at_ 0 4 && e.snd.kind == RKind.ordinary && (e.snd.state == RState.live || e.snd.state == RState.revoking)) = true) := by decide

/-- For `witness_PdVerbsCreateDestroyAndSetCapabilities_4`. -/
def state_PdVerbsCreateDestroyAndSetCapabilities_4 : State := asked 4 3 (body [(4, 2), (4, 1)]) id

/-- PdVerbsCreateDestroyAndSetCapabilities, clause 5. -/
theorem witness_PdVerbsCreateDestroyAndSetCapabilities_4 :
    state_PdVerbsCreateDestroyAndSetCapabilities_4.dev.holdsVerb 3 3 77 (body [(4, 2), (4, 1)]) = true ∧ (spCall 3 3 77 (body [(4, 2), (4, 1)])).at_ 0 4 ≠ 0 ∧ state_PdVerbsCreateDestroyAndSetCapabilities_4.dev.rgn.pds.get? ((spCall 3 3 77 (body [(4, 2), (4, 1)])).at_ 0 4) = some pd0 ∧ pd0.coming = false ∧ (spCall 3 3 77 (body [(4, 2), (4, 1)])).at_ 4 4 < 4 := by decide

/-- For `witness_RegionVerbsRegisterRevokeResetAndQuery_0`. -/
def state_RegionVerbsRegisterRevokeResetAndQuery_0 : State := asked 4 0x10 (body [(4, 2), (1, 3), (1, 0), (2, 0), (8, 0), (8, 4096), (8, 0)]) id

/-- RegionVerbsRegisterRevokeResetAndQuery, clause 1. -/
theorem witness_RegionVerbsRegisterRevokeResetAndQuery_0 :
    (16, RKind.ordinary) ∈ [(16, RKind.ordinary), (17, RKind.log)] ∧ state_RegionVerbsRegisterRevokeResetAndQuery_0.dev.holdsVerb 3 16 77 (body [(4, 2), (1, 3), (1, 0), (2, 0), (8, 0), (8, 4096), (8, 0)]) = true := by decide

/-- For `witness_RegionVerbsRegisterRevokeResetAndQuery_0b`. -/
def state_RegionVerbsRegisterRevokeResetAndQuery_0b : State := asked 4 0x11 (body [(4, 2), (1, 3), (1, 8), (2, 0), (8, 0), (8, 2 ^ 22), (8, 2 ^ 22)]) id

/-- RegionVerbsRegisterRevokeResetAndQuery, clause 1. -/
theorem witness_RegionVerbsRegisterRevokeResetAndQuery_0b :
    (17, RKind.log) ∈ [(16, RKind.ordinary), (17, RKind.log)] ∧ state_RegionVerbsRegisterRevokeResetAndQuery_0b.dev.holdsVerb 3 17 77 (body [(4, 2), (1, 3), (1, 8), (2, 0), (8, 0), (8, 2 ^ 22), (8, 2 ^ 22)]) = true := by decide

/-- For `witness_RegionVerbsRegisterRevokeResetAndQuery_0c`. -/
def state_RegionVerbsRegisterRevokeResetAndQuery_0c : State := asked 4 0x10 (body [(4, 2), (1, 3), (1, 1), (2, 0), (8, 0), (8, 4096), (8, 0)]) id

/-- RegionVerbsRegisterRevokeResetAndQuery, clause 1. -/
theorem witness_RegionVerbsRegisterRevokeResetAndQuery_0c :
    (16, RKind.ordinary) ∈ [(16, RKind.ordinary), (17, RKind.log)] ∧ state_RegionVerbsRegisterRevokeResetAndQuery_0c.dev.holdsVerb 3 16 77 (body [(4, 2), (1, 3), (1, 1), (2, 0), (8, 0), (8, 4096), (8, 0)]) = true := by decide

/-- For `witness_RegionVerbsRegisterRevokeResetAndQuery_1`. -/
def state_RegionVerbsRegisterRevokeResetAndQuery_1 : State := asked 4 0x12 (body [(4, 60 * 4096 + 1)]) withLog

/-- RegionVerbsRegisterRevokeResetAndQuery, clause 2. -/
theorem witness_RegionVerbsRegisterRevokeResetAndQuery_1 :
    state_RegionVerbsRegisterRevokeResetAndQuery_1.dev.holdsVerb 3 18 77 (body [(4, 60 * 4096 + 1)]) = true ∧ (state_RegionVerbsRegisterRevokeResetAndQuery_1.dev.rgn.region (spCall 3 18 77 (body [(4, 60 * 4096 + 1)])).index).state = RState.live ∧ (state_RegionVerbsRegisterRevokeResetAndQuery_1.dev.rgn.region (spCall 3 18 77 (body [(4, 60 * 4096 + 1)])).index).coming = false ∧ (state_RegionVerbsRegisterRevokeResetAndQuery_1.dev.rgn.region (spCall 3 18 77 (body [(4, 60 * 4096 + 1)])).index).kind ≠ RKind.eventq ∧ (state_RegionVerbsRegisterRevokeResetAndQuery_1.dev.rgn.region (spCall 3 18 77 (body [(4, 60 * 4096 + 1)])).index).gen = (spCall 3 18 77 (body [(4, 60 * 4096 + 1)])).at_ 0 4 % 4096 := by decide

/-- For `witness_RegionVerbsRegisterRevokeResetAndQuery_3`. -/
def state_RegionVerbsRegisterRevokeResetAndQuery_3 : State := asked 4 0x13 (body [(4, 60 * 4096 + 1)]) withLog

/-- RegionVerbsRegisterRevokeResetAndQuery, clause 4. -/
theorem witness_RegionVerbsRegisterRevokeResetAndQuery_3 :
    state_RegionVerbsRegisterRevokeResetAndQuery_3.dev.holdsVerb 3 19 77 (body [(4, 60 * 4096 + 1)]) = true ∧ state_RegionVerbsRegisterRevokeResetAndQuery_3.dev.answersGo = true := by decide

/-- For `witness_RegionVerbsRegisterRevokeResetAndQuery_4`. -/
def state_RegionVerbsRegisterRevokeResetAndQuery_4 : State := asked 4 0x20 (body [(4, 60 * 4096 + 1), (4, 2)]) withLog

/-- RegionVerbsRegisterRevokeResetAndQuery, clause 5. -/
theorem witness_RegionVerbsRegisterRevokeResetAndQuery_4 :
    state_RegionVerbsRegisterRevokeResetAndQuery_4.dev.holdsVerb 3 32 77 (body [(4, 60 * 4096 + 1), (4, 2)]) = true ∧ (state_RegionVerbsRegisterRevokeResetAndQuery_4.dev.rgn.region (spCall 3 32 77 (body [(4, 60 * 4096 + 1), (4, 2)])).index).state = RState.live ∧ (state_RegionVerbsRegisterRevokeResetAndQuery_4.dev.rgn.region (spCall 3 32 77 (body [(4, 60 * 4096 + 1), (4, 2)])).index).coming = false ∧ (state_RegionVerbsRegisterRevokeResetAndQuery_4.dev.rgn.region (spCall 3 32 77 (body [(4, 60 * 4096 + 1), (4, 2)])).index).kind = RKind.log ∧ (state_RegionVerbsRegisterRevokeResetAndQuery_4.dev.rgn.region (spCall 3 32 77 (body [(4, 60 * 4096 + 1), (4, 2)])).index).gen = (spCall 3 32 77 (body [(4, 60 * 4096 + 1), (4, 2)])).at_ 0 4 % 4096 ∧ (spCall 3 32 77 (body [(4, 60 * 4096 + 1), (4, 2)])).at_ 4 4 + 1 ≤ (state_RegionVerbsRegisterRevokeResetAndQuery_4.dev.rgn.region (spCall 3 32 77 (body [(4, 60 * 4096 + 1), (4, 2)])).index).length / ((state_RegionVerbsRegisterRevokeResetAndQuery_4.dev.rgn.region (spCall 3 32 77 (body [(4, 60 * 4096 + 1), (4, 2)])).index).zoneFolios * 4096) := by decide

/-- For `witness_RegionVerbsRegisterRevokeResetAndQuery_5`. -/
def state_RegionVerbsRegisterRevokeResetAndQuery_5 : State := asked 4 0x21 (body [(4, 60 * 4096 + 1), (4, 0), (4, 4)]) withLog

/-- RegionVerbsRegisterRevokeResetAndQuery, clause 6. -/
theorem witness_RegionVerbsRegisterRevokeResetAndQuery_5 :
    state_RegionVerbsRegisterRevokeResetAndQuery_5.dev.holdsVerb 3 33 77 (body [(4, 60 * 4096 + 1), (4, 0), (4, 4)]) = true ∧ state_RegionVerbsRegisterRevokeResetAndQuery_5.dev.answersGo = true ∧ (spCall 3 33 77 (body [(4, 60 * 4096 + 1), (4, 0), (4, 4)])).at_ 8 4 ≠ 0 ∧ (spCall 3 33 77 (body [(4, 60 * 4096 + 1), (4, 0), (4, 4)])).at_ 8 4 ≤ 1000 ∧ (state_RegionVerbsRegisterRevokeResetAndQuery_5.dev.rgn.region (spCall 3 33 77 (body [(4, 60 * 4096 + 1), (4, 0), (4, 4)])).index).state = RState.live ∧ (state_RegionVerbsRegisterRevokeResetAndQuery_5.dev.rgn.region (spCall 3 33 77 (body [(4, 60 * 4096 + 1), (4, 0), (4, 4)])).index).coming = false ∧ (state_RegionVerbsRegisterRevokeResetAndQuery_5.dev.rgn.region (spCall 3 33 77 (body [(4, 60 * 4096 + 1), (4, 0), (4, 4)])).index).kind = RKind.log ∧ (state_RegionVerbsRegisterRevokeResetAndQuery_5.dev.rgn.region (spCall 3 33 77 (body [(4, 60 * 4096 + 1), (4, 0), (4, 4)])).index).gen = (spCall 3 33 77 (body [(4, 60 * 4096 + 1), (4, 0), (4, 4)])).at_ 0 4 % 4096 ∧ (spCall 3 33 77 (body [(4, 60 * 4096 + 1), (4, 0), (4, 4)])).at_ 4 4 + (spCall 3 33 77 (body [(4, 60 * 4096 + 1), (4, 0), (4, 4)])).at_ 8 4 ≤ (state_RegionVerbsRegisterRevokeResetAndQuery_5.dev.rgn.region (spCall 3 33 77 (body [(4, 60 * 4096 + 1), (4, 0), (4, 4)])).index).length / ((state_RegionVerbsRegisterRevokeResetAndQuery_5.dev.rgn.region (spCall 3 33 77 (body [(4, 60 * 4096 + 1), (4, 0), (4, 4)])).index).zoneFolios * 4096) := by decide

/-- For `witness_RegionVerbsRegisterRevokeResetAndQuery_6`. -/
def state_RegionVerbsRegisterRevokeResetAndQuery_6 : State := asked 4 0x30 (body [(4, 3), (4, 2), (2, 0), (2, 0)]) id

/-- RegionVerbsRegisterRevokeResetAndQuery, clause 7. -/
theorem witness_RegionVerbsRegisterRevokeResetAndQuery_6 :
    state_RegionVerbsRegisterRevokeResetAndQuery_6.dev.holdsVerb 3 48 77 (body [(4, 3), (4, 2), (2, 0), (2, 0)]) = true ∧ (spCall 3 48 77 (body [(4, 3), (4, 2), (2, 0), (2, 0)])).at_ 0 4 * 2 ^ 26 < state_RegionVerbsRegisterRevokeResetAndQuery_6.dev.exposedBytes ∧ (spCall 3 48 77 (body [(4, 3), (4, 2), (2, 0), (2, 0)])).at_ 4 4 ≠ 0 ∧ ((spCall 3 48 77 (body [(4, 3), (4, 2), (2, 0), (2, 0)])).at_ 0 4 + (spCall 3 48 77 (body [(4, 3), (4, 2), (2, 0), (2, 0)])).at_ 4 4 - 1) * 2 ^ 26 < state_RegionVerbsRegisterRevokeResetAndQuery_6.dev.exposedBytes ∧ (spCall 3 48 77 (body [(4, 3), (4, 2), (2, 0), (2, 0)])).at_ 8 2 < 8192 ∧ (spCall 3 48 77 (body [(4, 3), (4, 2), (2, 0), (2, 0)])).at_ 10 2 = 0 ∧ (state_RegionVerbsRegisterRevokeResetAndQuery_6.dev.keys.dom ((spCall 3 48 77 (body [(4, 3), (4, 2), (2, 0), (2, 0)])).at_ 8 2)).serves = true ∧ state_RegionVerbsRegisterRevokeResetAndQuery_6.dev.extentsUsed ((spCall 3 48 77 (body [(4, 3), (4, 2), (2, 0), (2, 0)])).at_ 0 4) ((spCall 3 48 77 (body [(4, 3), (4, 2), (2, 0), (2, 0)])).at_ 4 4) ((spCall 3 48 77 (body [(4, 3), (4, 2), (2, 0), (2, 0)])).at_ 8 2) = false := by decide

/-- For `witness_RegionVerbsRegisterRevokeResetAndQuery_7`. -/
def state_RegionVerbsRegisterRevokeResetAndQuery_7 : State := asked 4 0x41 (body [(4, 3)]) id

/-- For `witness_RegionVerbsRegisterRevokeResetAndQuery_7`. -/
def arg1_RegionVerbsRegisterRevokeResetAndQuery_7 : Qp := { qp0 with state := 2 }

/-- RegionVerbsRegisterRevokeResetAndQuery, clause 8. -/
theorem witness_RegionVerbsRegisterRevokeResetAndQuery_7 :
    state_RegionVerbsRegisterRevokeResetAndQuery_7.dev.holdsVerb 3 65 77 (body [(4, 3)]) = true ∧ state_RegionVerbsRegisterRevokeResetAndQuery_7.dev.net.qps.get? ((spCall 3 65 77 (body [(4, 3)])).at_ 0 4) = some arg1_RegionVerbsRegisterRevokeResetAndQuery_7 ∧ arg1_RegionVerbsRegisterRevokeResetAndQuery_7.state ≠ 4 ∧ arg1_RegionVerbsRegisterRevokeResetAndQuery_7.downAt = none := by decide

/-- For `witness_RegionVerbsRegisterRevokeResetAndQuery_8`. -/
def state_RegionVerbsRegisterRevokeResetAndQuery_8 : State := asked 4 0x40 (body [(4, 3), (4, 1), (4, 2), (4, 3), (4, 4), (2, 9), (2, 0)]) id

/-- For `witness_RegionVerbsRegisterRevokeResetAndQuery_8`. -/
def arg1_RegionVerbsRegisterRevokeResetAndQuery_8 : Qp := { qp0 with state := 2 }

/-- RegionVerbsRegisterRevokeResetAndQuery, clause 9. -/
theorem witness_RegionVerbsRegisterRevokeResetAndQuery_8 :
    state_RegionVerbsRegisterRevokeResetAndQuery_8.dev.holdsVerb 3 64 77 (body [(4, 3), (4, 1), (4, 2), (4, 3), (4, 4), (2, 9), (2, 0)]) = true ∧ state_RegionVerbsRegisterRevokeResetAndQuery_8.dev.net.qps.get? ((spCall 3 64 77 (body [(4, 3), (4, 1), (4, 2), (4, 3), (4, 4), (2, 9), (2, 0)])).at_ 0 4) = some arg1_RegionVerbsRegisterRevokeResetAndQuery_8 ∧ (arg1_RegionVerbsRegisterRevokeResetAndQuery_8.state = 1 ∨ arg1_RegionVerbsRegisterRevokeResetAndQuery_8.state = 2) ∧ (spCall 3 64 77 (body [(4, 3), (4, 1), (4, 2), (4, 3), (4, 4), (2, 9), (2, 0)])).at_ 4 4 ≠ 0 ∧ (spCall 3 64 77 (body [(4, 3), (4, 1), (4, 2), (4, 3), (4, 4), (2, 9), (2, 0)])).at_ 8 4 ≠ 0 ∧ (spCall 3 64 77 (body [(4, 3), (4, 1), (4, 2), (4, 3), (4, 4), (2, 9), (2, 0)])).at_ 12 4 ≠ (spCall 3 64 77 (body [(4, 3), (4, 1), (4, 2), (4, 3), (4, 4), (2, 9), (2, 0)])).at_ 16 4 ∧ (spCall 3 64 77 (body [(4, 3), (4, 1), (4, 2), (4, 3), (4, 4), (2, 9), (2, 0)])).at_ 20 2 < allSlots ∧ (state_RegionVerbsRegisterRevokeResetAndQuery_8.dev.keys.slot ((spCall 3 64 77 (body [(4, 3), (4, 1), (4, 2), (4, 3), (4, 4), (2, 9), (2, 0)])).at_ 20 2)).state = KState.active ∧ (state_RegionVerbsRegisterRevokeResetAndQuery_8.dev.keys.slot ((spCall 3 64 77 (body [(4, 3), (4, 1), (4, 2), (4, 3), (4, 4), (2, 9), (2, 0)])).at_ 20 2)).kind = 2 ∧ ((state_RegionVerbsRegisterRevokeResetAndQuery_8.dev.keys.slot ((spCall 3 64 77 (body [(4, 3), (4, 1), (4, 2), (4, 3), (4, 4), (2, 9), (2, 0)])).at_ 20 2)).owner = 0 ∨ (state_RegionVerbsRegisterRevokeResetAndQuery_8.dev.keys.slot ((spCall 3 64 77 (body [(4, 3), (4, 1), (4, 2), (4, 3), (4, 4), (2, 9), (2, 0)])).at_ 20 2)).owner = arg1_RegionVerbsRegisterRevokeResetAndQuery_8.pd) ∧ (spCall 3 64 77 (body [(4, 3), (4, 1), (4, 2), (4, 3), (4, 4), (2, 9), (2, 0)])).at_ 22 2 = 0 := by decide

/-- For `witness_VerbsRunOnceAndAreScreenedByModeAndCapability_1`. -/
def arg5_VerbsRunOnceAndAreScreenedByModeAndCapability_1 : Dev := (asked 4 0x13 (body [(4, 50 * 4096)]) id).dev

/-- For `witness_VerbsRunOnceAndAreScreenedByModeAndCapability_1`. -/
def arg2_VerbsRunOnceAndAreScreenedByModeAndCapability_1 : SpMsg := { seq := 3, bytes := verbRequest 0x13 77 (body [(4, 50 * 4096)]) }

/-- VerbsRunOnceAndAreScreenedByModeAndCapability, clause 2. -/
theorem witness_VerbsRunOnceAndAreScreenedByModeAndCapability_1 :
    arg5_VerbsRunOnceAndAreScreenedByModeAndCapability_1.sp.submitted = [arg2_VerbsRunOnceAndAreScreenedByModeAndCapability_1] := by decide

/-- For `witness_VerbsRunOnceAndAreScreenedByModeAndCapability_6`. -/
def arg3_VerbsRunOnceAndAreScreenedByModeAndCapability_6 : Dev := (wired 4 id).dev

/-- For `witness_VerbsRunOnceAndAreScreenedByModeAndCapability_6`. -/
def arg2_VerbsRunOnceAndAreScreenedByModeAndCapability_6 : Call := spCall 3 3 77 (body [(4, 2)])

/-- VerbsRunOnceAndAreScreenedByModeAndCapability, clause 7. -/
theorem witness_VerbsRunOnceAndAreScreenedByModeAndCapability_6 :
    arg3_VerbsRunOnceAndAreScreenedByModeAndCapability_6.inMode [mSOLO, mACTIVE, mQUIESCED] = true ∧ verbLength arg2_VerbsRunOnceAndAreScreenedByModeAndCapability_6.op ≠ some 4 := by decide

/-- VerbsRunOnceAndAreScreenedByModeAndCapability, clause 1. -/
theorem witness_VerbsRunOnceAndAreScreenedByModeAndCapability_0d :
    (Instr.regQuery (Caller.qp 3 0) 77 (body [(4, 50 * 4096)]), 19) ∈ [(Instr.pdCreate (Caller.qp 3 0) 77 (body [(4, 50 * 4096)]), 1), (Instr.pdDestroy (Caller.qp 3 0) 77 (body [(4, 50 * 4096)]), 2), (Instr.pdSetCaps (Caller.qp 3 0) 77 (body [(4, 50 * 4096)]), 3), (Instr.regCreate (Caller.qp 3 0) 77 (body [(4, 50 * 4096)]), 16), (Instr.logCreate (Caller.qp 3 0) 77 (body [(4, 50 * 4096)]), 17), (Instr.regRevoke (Caller.qp 3 0) 77 (body [(4, 50 * 4096)]), 18), (Instr.regQuery (Caller.qp 3 0) 77 (body [(4, 50 * 4096)]), 19), (Instr.zoneReset (Caller.qp 3 0) 77 (body [(4, 50 * 4096)]), 32), (Instr.zoneQuery (Caller.qp 3 0) 77 (body [(4, 50 * 4096)]), 33), (Instr.kdAssign (Caller.qp 3 0) 77 (body [(4, 50 * 4096)]), 48), (Instr.saInstall (Caller.qp 3 0) 77 (body [(4, 50 * 4096)]), 64), (Instr.qpTeardown (Caller.qp 3 0) 77 (body [(4, 50 * 4096)]), 65), (Instr.keyGenerate (Caller.qp 3 0) 77 (body [(4, 50 * 4096)]), 96), (Instr.keyImport (Caller.qp 3 0) 77 (body [(4, 50 * 4096)]), 97), (Instr.keyDestroy (Caller.qp 3 0) 77 (body [(4, 50 * 4096)]), 98), (Instr.keyQuery (Caller.qp 3 0) 77 (body [(4, 50 * 4096)]), 99), (Instr.kdKey (Caller.qp 3 0) 77 (body [(4, 50 * 4096)]), 100), (Instr.kdRekey (Caller.qp 3 0) 77 (body [(4, 50 * 4096)]), 101), (Instr.kdDestroy (Caller.qp 3 0) 77 (body [(4, 50 * 4096)]), 102), (Instr.kdQuery (Caller.qp 3 0) 77 (body [(4, 50 * 4096)]), 103), (Instr.dqCreate (Caller.qp 3 0) 77 (body [(4, 50 * 4096)]), 112), (Instr.dqDestroy (Caller.qp 3 0) 77 (body [(4, 50 * 4096)]), 113), (Instr.dqReset (Caller.qp 3 0) 77 (body [(4, 50 * 4096)]), 114), (Instr.dqQuery (Caller.qp 3 0) 77 (body [(4, 50 * 4096)]), 115)] ∧ callerQp.dev.get Fld.MB_FLAGS_TO_DEV_FULL = 0 := by decide

/-- For `witness_PdVerbsCreateDestroyAndSetCapabilities_5`. -/
def state_PdVerbsCreateDestroyAndSetCapabilities_5 : State := asked 4 3 (body [(4, 9), (4, 1)]) id

/-- PdVerbsCreateDestroyAndSetCapabilities, clause 6. -/
theorem witness_PdVerbsCreateDestroyAndSetCapabilities_5 :
    state_PdVerbsCreateDestroyAndSetCapabilities_5.dev.holdsVerb 3 3 77 (body [(4, 9), (4, 1)]) = true ∧ (((spCall 3 3 77 (body [(4, 9), (4, 1)])).at_ 0 4 = 0 ∨ state_PdVerbsCreateDestroyAndSetCapabilities_5.dev.rgn.pds.get? ((spCall 3 3 77 (body [(4, 9), (4, 1)])).at_ 0 4) = none) ∨ state_PdVerbsCreateDestroyAndSetCapabilities_5.dev.rgn.pds.get? ((spCall 3 3 77 (body [(4, 9), (4, 1)])).at_ 0 4) = some pd0 ∧ pd0.coming = false ∧ 4 ≤ (spCall 3 3 77 (body [(4, 9), (4, 1)])).at_ 4 4) ∧ state_PdVerbsCreateDestroyAndSetCapabilities_5.dev.answersGo = true := by decide

/-- For `witness_PdVerbsCreateDestroyAndSetCapabilities_5b`. -/
def state_PdVerbsCreateDestroyAndSetCapabilities_5b : State := asked 4 3 (body [(4, 2), (4, 5)]) id

/-- PdVerbsCreateDestroyAndSetCapabilities, clause 6. -/
theorem witness_PdVerbsCreateDestroyAndSetCapabilities_5b :
    state_PdVerbsCreateDestroyAndSetCapabilities_5b.dev.holdsVerb 3 3 77 (body [(4, 2), (4, 5)]) = true ∧ (((spCall 3 3 77 (body [(4, 2), (4, 5)])).at_ 0 4 = 0 ∨ state_PdVerbsCreateDestroyAndSetCapabilities_5b.dev.rgn.pds.get? ((spCall 3 3 77 (body [(4, 2), (4, 5)])).at_ 0 4) = none) ∨ state_PdVerbsCreateDestroyAndSetCapabilities_5b.dev.rgn.pds.get? ((spCall 3 3 77 (body [(4, 2), (4, 5)])).at_ 0 4) = some pd0 ∧ pd0.coming = false ∧ 4 ≤ (spCall 3 3 77 (body [(4, 2), (4, 5)])).at_ 4 4) ∧ state_PdVerbsCreateDestroyAndSetCapabilities_5b.dev.answersGo = true := by decide

/-- For `witness_RegionVerbsRegisterRevokeResetAndQuery_2`. -/
def state_RegionVerbsRegisterRevokeResetAndQuery_2 : State := asked 4 0x12 (body [(4, 61 * 4096 + 1)]) withLog

/-- RegionVerbsRegisterRevokeResetAndQuery, clause 3. -/
theorem witness_RegionVerbsRegisterRevokeResetAndQuery_2 :
    state_RegionVerbsRegisterRevokeResetAndQuery_2.dev.holdsVerb 3 18 77 (body [(4, 61 * 4096 + 1)]) = true ∧ ((state_RegionVerbsRegisterRevokeResetAndQuery_2.dev.rgn.region (spCall 3 18 77 (body [(4, 61 * 4096 + 1)])).index).state ≠ RState.live ∨ (state_RegionVerbsRegisterRevokeResetAndQuery_2.dev.rgn.region (spCall 3 18 77 (body [(4, 61 * 4096 + 1)])).index).coming = true) ∧ state_RegionVerbsRegisterRevokeResetAndQuery_2.dev.answersGo = true := by decide

/-- For `witness_PdVerbsCreateDestroyAndSetCapabilities_1`. -/
def state_PdVerbsCreateDestroyAndSetCapabilities_1 : State := asked 4 1 (body [(4, 4)]) id

/-- PdVerbsCreateDestroyAndSetCapabilities, clause 2. -/
theorem witness_PdVerbsCreateDestroyAndSetCapabilities_1 :
    state_PdVerbsCreateDestroyAndSetCapabilities_1.dev.holdsVerb 3 1 77 (body [(4, 4)]) = true ∧ state_PdVerbsCreateDestroyAndSetCapabilities_1.dev.answersGo = true ∧ (4 ≤ (spCall 3 1 77 (body [(4, 4)])).at_ 0 4 ∨ state_PdVerbsCreateDestroyAndSetCapabilities_1.dev.bit Fld.CIPHER_STATUS_ENTROPY_FAIL = true) := by decide

/-- For `witness_ModeOperationsBeginTheirTransitionsOrAreRefused_7`. -/
def state_ModeOperationsBeginTheirTransitionsOrAreRefused_7 : State := asked 4 0x50 (body [(4, 1)]) id

/-- ModeOperationsBeginTheirTransitionsOrAreRefused, clause 8. -/
theorem witness_ModeOperationsBeginTheirTransitionsOrAreRefused_7 :
    (Instr.quiesce (ModeSrc.verb (Caller.sp 3) 77) 0, 1) ∈ [(Instr.nop (ModeSrc.verb (Caller.sp 3) 77) 0, 0), (Instr.quiesce (ModeSrc.verb (Caller.sp 3) 77) 0, 1), (Instr.resume (ModeSrc.verb (Caller.sp 3) 77) 0, 2), (Instr.sanitize (ModeSrc.verb (Caller.sp 3) 77) 0, 3), (Instr.handover (ModeSrc.verb (Caller.sp 3) 77) 0, 4), (Instr.powerOff (ModeSrc.verb (Caller.sp 3) 77) 0, 5), (Instr.soloOverride (ModeSrc.verb (Caller.sp 3) 77) 0, 6), (Instr.reload (ModeSrc.verb (Caller.sp 3) 77) 0, 7)] ∧ state_ModeOperationsBeginTheirTransitionsOrAreRefused_7.dev.holdsVerb 3 80 77 (leBytes 4 1) = true := by decide

/-- For `witness_ModeOperationsBeginTheirTransitionsOrAreRefused_7b`. -/
def state_ModeOperationsBeginTheirTransitionsOrAreRefused_7b : State := asked 4 0x50 (body [(4, 2)]) id

/-- ModeOperationsBeginTheirTransitionsOrAreRefused, clause 8. -/
theorem witness_ModeOperationsBeginTheirTransitionsOrAreRefused_7b :
    (Instr.resume (ModeSrc.verb (Caller.sp 3) 77) 0, 2) ∈ [(Instr.nop (ModeSrc.verb (Caller.sp 3) 77) 0, 0), (Instr.quiesce (ModeSrc.verb (Caller.sp 3) 77) 0, 1), (Instr.resume (ModeSrc.verb (Caller.sp 3) 77) 0, 2), (Instr.sanitize (ModeSrc.verb (Caller.sp 3) 77) 0, 3), (Instr.handover (ModeSrc.verb (Caller.sp 3) 77) 0, 4), (Instr.powerOff (ModeSrc.verb (Caller.sp 3) 77) 0, 5), (Instr.soloOverride (ModeSrc.verb (Caller.sp 3) 77) 0, 6), (Instr.reload (ModeSrc.verb (Caller.sp 3) 77) 0, 7)] ∧ state_ModeOperationsBeginTheirTransitionsOrAreRefused_7b.dev.holdsVerb 3 80 77 (leBytes 4 2) = true := by decide

/-- For `witness_CommitsRevocationsAndImpressChangeOnlyTheirOwn_10`. -/
def state_CommitsRevocationsAndImpressChangeOnlyTheirOwn_10 : State := asked 4 0x51 [] id

/-- CommitsRevocationsAndImpressChangeOnlyTheirOwn, clause 11. -/
theorem witness_CommitsRevocationsAndImpressChangeOnlyTheirOwn_10 :
    state_CommitsRevocationsAndImpressChangeOnlyTheirOwn_10.dev.holdsVerb 3 81 77 [] = true := by decide

/-- For `witness_DeviceQueueVerbsCreateDestroyResetAndQuery_0`. -/
def state_DeviceQueueVerbsCreateDestroyResetAndQuery_0 : State := asked 4 0x70 (body [(4, 2), (4, 16), (1, 1), (3, 0), (2, 0), (2, 0), (8, 0x10000)]) id

/-- DeviceQueueVerbsCreateDestroyResetAndQuery, clause 1. -/
theorem witness_DeviceQueueVerbsCreateDestroyResetAndQuery_0 :
    state_DeviceQueueVerbsCreateDestroyResetAndQuery_0.dev.holdsVerb 3 112 77 (body [(4, 2), (4, 16), (1, 1), (3, 0), (2, 0), (2, 0), (8, 65536)]) = true ∧ (spCall 3 112 77 (body [(4, 2), (4, 16), (1, 1), (3, 0), (2, 0), (2, 0), (8, 65536)])).at_ 0 4 ≠ 0 ∧ state_DeviceQueueVerbsCreateDestroyResetAndQuery_0.dev.rgn.pds.get? ((spCall 3 112 77 (body [(4, 2), (4, 16), (1, 1), (3, 0), (2, 0), (2, 0), (8, 65536)])).at_ 0 4) = some pd0 ∧ pd0.coming = false ∧ 16 ≤ (spCall 3 112 77 (body [(4, 2), (4, 16), (1, 1), (3, 0), (2, 0), (2, 0), (8, 65536)])).at_ 4 4 ∧ (spCall 3 112 77 (body [(4, 2), (4, 16), (1, 1), (3, 0), (2, 0), (2, 0), (8, 65536)])).at_ 4 4 ≤ 4096 ∧ (spCall 3 112 77 (body [(4, 2), (4, 16), (1, 1), (3, 0), (2, 0), (2, 0), (8, 65536)])).at_ 4 4 = 2 ^ ((spCall 3 112 77 (body [(4, 2), (4, 16), (1, 1), (3, 0), (2, 0), (2, 0), (8, 65536)])).at_ 4 4).log2 ∧ (spCall 3 112 77 (body [(4, 2), (4, 16), (1, 1), (3, 0), (2, 0), (2, 0), (8, 65536)])).at_ 8 1 ≤ 2 ∧ (spCall 3 112 77 (body [(4, 2), (4, 16), (1, 1), (3, 0), (2, 0), (2, 0), (8, 65536)])).at_ 9 3 = 0 ∧ (spCall 3 112 77 (body [(4, 2), (4, 16), (1, 1), (3, 0), (2, 0), (2, 0), (8, 65536)])).at_ 12 2 < 8192 ∧ (spCall 3 112 77 (body [(4, 2), (4, 16), (1, 1), (3, 0), (2, 0), (2, 0), (8, 65536)])).at_ 14 2 = 0 ∧ (spCall 3 112 77 (body [(4, 2), (4, 16), (1, 1), (3, 0), (2, 0), (2, 0), (8, 65536)])).at_ 16 8 % 64 = 0 ∧ (spCall 3 112 77 (body [(4, 2), (4, 16), (1, 1), (3, 0), (2, 0), (2, 0), (8, 65536)])).at_ 16 8 + (64 + 64 * (spCall 3 112 77 (body [(4, 2), (4, 16), (1, 1), (3, 0), (2, 0), (2, 0), (8, 65536)])).at_ 4 4) ≤ state_DeviceQueueVerbsCreateDestroyResetAndQuery_0.dev.exposedBytes ∧ state_DeviceQueueVerbsCreateDestroyResetAndQuery_0.dev.domainFor ((spCall 3 112 77 (body [(4, 2), (4, 16), (1, 1), (3, 0), (2, 0), (2, 0), (8, 65536)])).at_ 16 8) (64 + 64 * (spCall 3 112 77 (body [(4, 2), (4, 16), (1, 1), (3, 0), (2, 0), (2, 0), (8, 65536)])).at_ 4 4) ((spCall 3 112 77 (body [(4, 2), (4, 16), (1, 1), (3, 0), (2, 0), (2, 0), (8, 65536)])).at_ 12 2) = true ∧ Tab.firstGap state_DeviceQueueVerbsCreateDestroyResetAndQuery_0.dev.dq 0 4096 = some 0 ∧ state_DeviceQueueVerbsCreateDestroyResetAndQuery_0.dev.rgn.lowest = some 0 := by decide

/-- For `witness_DeviceQueueVerbsCreateDestroyResetAndQuery_1`. -/
def state_DeviceQueueVerbsCreateDestroyResetAndQuery_1 : State := asked 4 0x71 (body [(4, 4)]) (·.modRgn fun t => { t with regions := [(41, { region0 with length := 64, base := 0x1000 })] })

/-- DeviceQueueVerbsCreateDestroyResetAndQuery, clause 2. -/
theorem witness_DeviceQueueVerbsCreateDestroyResetAndQuery_1 :
    state_DeviceQueueVerbsCreateDestroyResetAndQuery_1.dev.holdsVerb 3 113 77 (body [(4, 4)]) = true ∧ (spCall 3 113 77 (body [(4, 4)])).at_ 0 4 < 4096 ∧ Tab.get? state_DeviceQueueVerbsCreateDestroyResetAndQuery_1.dev.dq ((spCall 3 113 77 (body [(4, 4)])).at_ 0 4) = some queue0 ∧ queue0.dying = none ∧ queue0.qp = none ∧ (queue0.error = true ∨ queue0.posted = queue0.completed) ∧ state_DeviceQueueVerbsCreateDestroyResetAndQuery_1.dev.statusRegion queue0 = true := by decide

/-- For `witness_DeviceQueueVerbsCreateDestroyResetAndQuery_2`. -/
def state_DeviceQueueVerbsCreateDestroyResetAndQuery_2 : State := asked 4 0x71 (body [(4, 4)]) (·.updQueue 4 fun q => { q with posted := 1 })

/-- For `witness_DeviceQueueVerbsCreateDestroyResetAndQuery_2`. -/
def arg1_DeviceQueueVerbsCreateDestroyResetAndQuery_2 : DevQ := { queue0 with posted := 1 }

/-- DeviceQueueVerbsCreateDestroyResetAndQuery, clause 3. -/
theorem witness_DeviceQueueVerbsCreateDestroyResetAndQuery_2 :
    state_DeviceQueueVerbsCreateDestroyResetAndQuery_2.dev.holdsVerb 3 113 77 (body [(4, 4)]) = true ∧ state_DeviceQueueVerbsCreateDestroyResetAndQuery_2.dev.answersGo = true ∧ (spCall 3 113 77 (body [(4, 4)])).at_ 0 4 < 4096 ∧ Tab.get? state_DeviceQueueVerbsCreateDestroyResetAndQuery_2.dev.dq ((spCall 3 113 77 (body [(4, 4)])).at_ 0 4) = some arg1_DeviceQueueVerbsCreateDestroyResetAndQuery_2 ∧ (arg1_DeviceQueueVerbsCreateDestroyResetAndQuery_2.qp.isSome = true ∨ arg1_DeviceQueueVerbsCreateDestroyResetAndQuery_2.error = false ∧ arg1_DeviceQueueVerbsCreateDestroyResetAndQuery_2.posted ≠ arg1_DeviceQueueVerbsCreateDestroyResetAndQuery_2.completed) := by decide

/-- For `witness_DeviceQueueVerbsCreateDestroyResetAndQuery_3`. -/
def state_DeviceQueueVerbsCreateDestroyResetAndQuery_3 : State := asked 4 0x72 (body [(4, 4)]) (·.updQueue 4 fun q => { q with posted := 1, error := true })

/-- For `witness_DeviceQueueVerbsCreateDestroyResetAndQuery_3`. -/
def arg1_DeviceQueueVerbsCreateDestroyResetAndQuery_3 : DevQ := { queue0 with posted := 1, error := true }

/-- DeviceQueueVerbsCreateDestroyResetAndQuery, clause 4. -/
theorem witness_DeviceQueueVerbsCreateDestroyResetAndQuery_3 :
    state_DeviceQueueVerbsCreateDestroyResetAndQuery_3.dev.holdsVerb 3 114 77 (body [(4, 4)]) = true ∧ (spCall 3 114 77 (body [(4, 4)])).at_ 0 4 < 4096 ∧ Tab.get? state_DeviceQueueVerbsCreateDestroyResetAndQuery_3.dev.dq ((spCall 3 114 77 (body [(4, 4)])).at_ 0 4) = some arg1_DeviceQueueVerbsCreateDestroyResetAndQuery_3 ∧ arg1_DeviceQueueVerbsCreateDestroyResetAndQuery_3.error = true := by decide

/-- For `witness_DeviceQueueVerbsCreateDestroyResetAndQuery_4`. -/
def state_DeviceQueueVerbsCreateDestroyResetAndQuery_4 : State := asked 4 0x73 (body [(4, 4)]) id

/-- DeviceQueueVerbsCreateDestroyResetAndQuery, clause 5. -/
theorem witness_DeviceQueueVerbsCreateDestroyResetAndQuery_4 :
    state_DeviceQueueVerbsCreateDestroyResetAndQuery_4.dev.holdsVerb 3 115 77 (body [(4, 4)]) = true ∧ state_DeviceQueueVerbsCreateDestroyResetAndQuery_4.dev.answersGo = true ∧ (spCall 3 115 77 (body [(4, 4)])).at_ 0 4 < 4096 ∧ Tab.get? state_DeviceQueueVerbsCreateDestroyResetAndQuery_4.dev.dq ((spCall 3 115 77 (body [(4, 4)])).at_ 0 4) = some queue0 := by decide

/-- For `witness_DeviceQueueVerbsCreateDestroyResetAndQuery_5`. -/
def state_DeviceQueueVerbsCreateDestroyResetAndQuery_5 : State := asked 4 0x73 (body [(4, 5)]) id

/-- DeviceQueueVerbsCreateDestroyResetAndQuery, clause 6. -/
theorem witness_DeviceQueueVerbsCreateDestroyResetAndQuery_5 :
    (115, Instr.dqQuery (Caller.sp 3) 77 (body [(4, 5)])) ∈ [(113, Instr.dqDestroy (Caller.sp 3) 77 (body [(4, 5)])), (114, Instr.dqReset (Caller.sp 3) 77 (body [(4, 5)])), (115, Instr.dqQuery (Caller.sp 3) 77 (body [(4, 5)]))] ∧ state_DeviceQueueVerbsCreateDestroyResetAndQuery_5.dev.holdsVerb 3 115 77 (body [(4, 5)]) = true ∧ state_DeviceQueueVerbsCreateDestroyResetAndQuery_5.dev.answersGo = true ∧ Tab.get? state_DeviceQueueVerbsCreateDestroyResetAndQuery_5.dev.dq ((spCall 3 115 77 (body [(4, 5)])).at_ 0 4) = none := by decide

/-- For `witness_DescriptorsStartAsTheirOpcodeSays_0`. -/
def state_DescriptorsStartAsTheirOpcodeSays_0 : State := queued [(64, 0)] id

/-- For `witness_DescriptorsStartAsTheirOpcodeSays_0`. -/
def arg4_DescriptorsStartAsTheirOpcodeSays_0 : DevQ := { queue0 with posted := 1 }

set_option maxRecDepth 8192 in
/-- DescriptorsStartAsTheirOpcodeSays, clause 1. -/
theorem witness_DescriptorsStartAsTheirOpcodeSays_0 :
    (Instr.descNop 4, 0) ∈ [(Instr.descNop 4, 0), (Instr.descCopy 4 0, 1), (Instr.descFlush 4, 3), (Instr.descDiscard 4, 4), (Instr.descWait 4, 5)] ∧ state_DescriptorsStartAsTheirOpcodeSays_0.dev.queueServed 4 arg4_DescriptorsStartAsTheirOpcodeSays_0 = true ∧ arg4_DescriptorsStartAsTheirOpcodeSays_0.run = none ∧ ((state_DescriptorsStartAsTheirOpcodeSays_0.dev.queueTurn 4 arg4_DescriptorsStartAsTheirOpcodeSays_0).nextDesc arg4_DescriptorsStartAsTheirOpcodeSays_0).snd = some (body [(64, 0)]) ∧ dOP (body [(64, 0)]) = 0 := by decide

/-- For `witness_DescriptorsStartAsTheirOpcodeSays_0copy`. -/
def state_DescriptorsStartAsTheirOpcodeSays_0copy : State := queued [(8, 1), (8, 64), (4, 50 * 4096 + 1), (4, 0), (8, 0x10000), (4, 50 * 4096 + 1), (4, 0), (8, 0x12000), (16, 0)] id

/-- For `witness_DescriptorsStartAsTheirOpcodeSays_0copy`. -/
def arg4_DescriptorsStartAsTheirOpcodeSays_0copy : DevQ := { queue0 with posted := 1 }

set_option maxRecDepth 8192 in
/-- DescriptorsStartAsTheirOpcodeSays, clause 1. -/
theorem witness_DescriptorsStartAsTheirOpcodeSays_0copy :
    (Instr.descCopy 4 0, 1) ∈ [(Instr.descNop 4, 0), (Instr.descCopy 4 0, 1), (Instr.descFlush 4, 3), (Instr.descDiscard 4, 4), (Instr.descWait 4, 5)] ∧ state_DescriptorsStartAsTheirOpcodeSays_0copy.dev.queueServed 4 arg4_DescriptorsStartAsTheirOpcodeSays_0copy = true ∧ arg4_DescriptorsStartAsTheirOpcodeSays_0copy.run = none ∧ ((state_DescriptorsStartAsTheirOpcodeSays_0copy.dev.queueTurn 4 arg4_DescriptorsStartAsTheirOpcodeSays_0copy).nextDesc arg4_DescriptorsStartAsTheirOpcodeSays_0copy).snd = some (body [(8, 1), (8, 64), (4, 50 * 4096 + 1), (4, 0), (8, 65536), (4, 50 * 4096 + 1), (4, 0), (8, 73728), (16, 0)]) ∧ dOP (body [(8, 1), (8, 64), (4, 50 * 4096 + 1), (4, 0), (8, 65536), (4, 50 * 4096 + 1), (4, 0), (8, 73728), (16, 0)]) = 1 := by decide

/-- For `witness_DescriptorsStartAsTheirOpcodeSays_1`. -/
def state_DescriptorsStartAsTheirOpcodeSays_1 : State := queued [(8, 2), (8, 64), (4, 50 * 4096 + 1), (4, 3), (8, 0x10000), (4, 7), (4, 0), (8, 0), (16, 0)] id

/-- For `witness_DescriptorsStartAsTheirOpcodeSays_1`. -/
def arg2_DescriptorsStartAsTheirOpcodeSays_1 : DevQ := { queue0 with posted := 1 }

set_option maxRecDepth 8192 in
/-- DescriptorsStartAsTheirOpcodeSays, clause 2. -/
theorem witness_DescriptorsStartAsTheirOpcodeSays_1 :
    state_DescriptorsStartAsTheirOpcodeSays_1.dev.queueServed 4 arg2_DescriptorsStartAsTheirOpcodeSays_1 = true ∧ arg2_DescriptorsStartAsTheirOpcodeSays_1.run = none ∧ ((state_DescriptorsStartAsTheirOpcodeSays_1.dev.queueTurn 4 arg2_DescriptorsStartAsTheirOpcodeSays_1).nextDesc arg2_DescriptorsStartAsTheirOpcodeSays_1).snd = some (body [(8, 2), (8, 64), (4, 50 * 4096 + 1), (4, 3), (8, 65536), (4, 7), (4, 0), (8, 0), (16, 0)]) ∧ dOP (body [(8, 2), (8, 64), (4, 50 * 4096 + 1), (4, 3), (8, 65536), (4, 7), (4, 0), (8, 0), (16, 0)]) = 2 ∧ ((state_DescriptorsStartAsTheirOpcodeSays_1.dev.queueTurn 4 arg2_DescriptorsStartAsTheirOpcodeSays_1).nextDesc arg2_DescriptorsStartAsTheirOpcodeSays_1).fst.pushWaits (body [(8, 2), (8, 64), (4, 50 * 4096 + 1), (4, 3), (8, 65536), (4, 7), (4, 0), (8, 0), (16, 0)]) = false := by decide

/-- For `witness_DescriptorsStartAsTheirOpcodeSays_0flush`. -/
def state_DescriptorsStartAsTheirOpcodeSays_0flush : State := queued [(8, 3), (8, 64), (4, 50 * 4096 + 1), (4, 3), (8, 0x10000), (32, 0)] id

/-- For `witness_DescriptorsStartAsTheirOpcodeSays_0flush`. -/
def arg4_DescriptorsStartAsTheirOpcodeSays_0flush : DevQ := { queue0 with posted := 1 }

set_option maxRecDepth 8192 in
/-- DescriptorsStartAsTheirOpcodeSays, clause 1. -/
theorem witness_DescriptorsStartAsTheirOpcodeSays_0flush :
    (Instr.descFlush 4, 3) ∈ [(Instr.descNop 4, 0), (Instr.descCopy 4 0, 1), (Instr.descFlush 4, 3), (Instr.descDiscard 4, 4), (Instr.descWait 4, 5)] ∧ state_DescriptorsStartAsTheirOpcodeSays_0flush.dev.queueServed 4 arg4_DescriptorsStartAsTheirOpcodeSays_0flush = true ∧ arg4_DescriptorsStartAsTheirOpcodeSays_0flush.run = none ∧ ((state_DescriptorsStartAsTheirOpcodeSays_0flush.dev.queueTurn 4 arg4_DescriptorsStartAsTheirOpcodeSays_0flush).nextDesc arg4_DescriptorsStartAsTheirOpcodeSays_0flush).snd = some (body [(8, 3), (8, 64), (4, 50 * 4096 + 1), (4, 3), (8, 65536), (32, 0)]) ∧ dOP (body [(8, 3), (8, 64), (4, 50 * 4096 + 1), (4, 3), (8, 65536), (32, 0)]) = 3 := by decide

/-- For `witness_DescriptorsStartAsTheirOpcodeSays_0discard`. -/
def state_DescriptorsStartAsTheirOpcodeSays_0discard : State := queued [(8, 4), (8, 64), (4, 50 * 4096 + 1), (4, 3), (8, 0x10000), (32, 0)] id

/-- For `witness_DescriptorsStartAsTheirOpcodeSays_0discard`. -/
def arg4_DescriptorsStartAsTheirOpcodeSays_0discard : DevQ := { queue0 with posted := 1 }

set_option maxRecDepth 8192 in
/-- DescriptorsStartAsTheirOpcodeSays, clause 1. -/
theorem witness_DescriptorsStartAsTheirOpcodeSays_0discard :
    (Instr.descDiscard 4, 4) ∈ [(Instr.descNop 4, 0), (Instr.descCopy 4 0, 1), (Instr.descFlush 4, 3), (Instr.descDiscard 4, 4), (Instr.descWait 4, 5)] ∧ state_DescriptorsStartAsTheirOpcodeSays_0discard.dev.queueServed 4 arg4_DescriptorsStartAsTheirOpcodeSays_0discard = true ∧ arg4_DescriptorsStartAsTheirOpcodeSays_0discard.run = none ∧ ((state_DescriptorsStartAsTheirOpcodeSays_0discard.dev.queueTurn 4 arg4_DescriptorsStartAsTheirOpcodeSays_0discard).nextDesc arg4_DescriptorsStartAsTheirOpcodeSays_0discard).snd = some (body [(8, 4), (8, 64), (4, 50 * 4096 + 1), (4, 3), (8, 65536), (32, 0)]) ∧ dOP (body [(8, 4), (8, 64), (4, 50 * 4096 + 1), (4, 3), (8, 65536), (32, 0)]) = 4 := by decide

/-- For `witness_DescriptorsStartAsTheirOpcodeSays_0wait`. -/
def state_DescriptorsStartAsTheirOpcodeSays_0wait : State := queued [(8, 5), (40, 0), (2, 9), (6, 0), (8, 2)] id

/-- For `witness_DescriptorsStartAsTheirOpcodeSays_0wait`. -/
def arg4_DescriptorsStartAsTheirOpcodeSays_0wait : DevQ := { queue0 with posted := 1 }

set_option maxRecDepth 8192 in
/-- DescriptorsStartAsTheirOpcodeSays, clause 1. -/
theorem witness_DescriptorsStartAsTheirOpcodeSays_0wait :
    (Instr.descWait 4, 5) ∈ [(Instr.descNop 4, 0), (Instr.descCopy 4 0, 1), (Instr.descFlush 4, 3), (Instr.descDiscard 4, 4), (Instr.descWait 4, 5)] ∧ state_DescriptorsStartAsTheirOpcodeSays_0wait.dev.queueServed 4 arg4_DescriptorsStartAsTheirOpcodeSays_0wait = true ∧ arg4_DescriptorsStartAsTheirOpcodeSays_0wait.run = none ∧ ((state_DescriptorsStartAsTheirOpcodeSays_0wait.dev.queueTurn 4 arg4_DescriptorsStartAsTheirOpcodeSays_0wait).nextDesc arg4_DescriptorsStartAsTheirOpcodeSays_0wait).snd = some (body [(8, 5), (40, 0), (2, 9), (6, 0), (8, 2)]) ∧ dOP (body [(8, 5), (40, 0), (2, 9), (6, 0), (8, 2)]) = 5 := by decide

/-- For `witness_DescriptorsStartAsTheirOpcodeSays_3`. -/
def state_DescriptorsStartAsTheirOpcodeSays_3 : State := queued [(64, 6)] id

/-- For `witness_DescriptorsStartAsTheirOpcodeSays_3`. -/
def arg2_DescriptorsStartAsTheirOpcodeSays_3 : DevQ := { queue0 with posted := 1 }

set_option maxRecDepth 8192 in
/-- DescriptorsStartAsTheirOpcodeSays, clause 4. -/
theorem witness_DescriptorsStartAsTheirOpcodeSays_3 :
    state_DescriptorsStartAsTheirOpcodeSays_3.dev.queueServed 4 arg2_DescriptorsStartAsTheirOpcodeSays_3 = true ∧ arg2_DescriptorsStartAsTheirOpcodeSays_3.run = none ∧ ((state_DescriptorsStartAsTheirOpcodeSays_3.dev.queueTurn 4 arg2_DescriptorsStartAsTheirOpcodeSays_3).nextDesc arg2_DescriptorsStartAsTheirOpcodeSays_3).snd = some (body [(64, 6)]) ∧ 5 < dOP (body [(64, 6)]) := by decide

/-- For `witness_DescriptorsStartAsTheirOpcodeSays_6`. -/
def state_DescriptorsStartAsTheirOpcodeSays_6 : State := queued copies fun q => { q with run := some { begun copies with regions := [50, 50] } }

/-- For `witness_DescriptorsStartAsTheirOpcodeSays_6`. -/
def arg3_DescriptorsStartAsTheirOpcodeSays_6 : DevQ := { queue0 with posted := 1, run := some { begun copies with regions := [50, 50] } }

/-- For `witness_DescriptorsStartAsTheirOpcodeSays_6`. -/
def arg2_DescriptorsStartAsTheirOpcodeSays_6 : DescRun := { begun copies with regions := [50, 50] }

/-- DescriptorsStartAsTheirOpcodeSays, clause 7. -/
theorem witness_DescriptorsStartAsTheirOpcodeSays_6 :
    state_DescriptorsStartAsTheirOpcodeSays_6.dev.queue 4 = some arg3_DescriptorsStartAsTheirOpcodeSays_6 ∧ arg3_DescriptorsStartAsTheirOpcodeSays_6.run = some arg2_DescriptorsStartAsTheirOpcodeSays_6 ∧ dOP arg2_DescriptorsStartAsTheirOpcodeSays_6.bytes = 1 ∧ arg2_DescriptorsStartAsTheirOpcodeSays_6.ended = false := by decide

/-- For `witness_CompletionsAdvanceAndRevocationsComplete_0`. -/
def state_CompletionsAdvanceAndRevocationsComplete_0 : State := serving_ 0 (·.updQueue 4 fun q => { q with posted := 1, run := some { begun [(64, 0)] with ended := true } })

/-- For `witness_CompletionsAdvanceAndRevocationsComplete_0`. -/
def arg2_CompletionsAdvanceAndRevocationsComplete_0 : DevQ := { queue0 with posted := 1, run := some { begun [(64, 0)] with ended := true } }

/-- For `witness_CompletionsAdvanceAndRevocationsComplete_0`. -/
def arg1_CompletionsAdvanceAndRevocationsComplete_0 : DescRun := { begun [(64, 0)] with ended := true }

/-- CompletionsAdvanceAndRevocationsComplete, clause 1. -/
theorem witness_CompletionsAdvanceAndRevocationsComplete_0 :
    state_CompletionsAdvanceAndRevocationsComplete_0.dev.queue 4 = some arg2_CompletionsAdvanceAndRevocationsComplete_0 ∧ arg2_CompletionsAdvanceAndRevocationsComplete_0.run = some arg1_CompletionsAdvanceAndRevocationsComplete_0 ∧ arg2_CompletionsAdvanceAndRevocationsComplete_0.error = false ∧ arg1_CompletionsAdvanceAndRevocationsComplete_0.ended = true ∧ state_CompletionsAdvanceAndRevocationsComplete_0.dev.gal.owes (Owner.desc 4) = false ∧ state_CompletionsAdvanceAndRevocationsComplete_0.dev.serving = true ∧ state_CompletionsAdvanceAndRevocationsComplete_0.dev.reported arg1_CompletionsAdvanceAndRevocationsComplete_0.onum = true ∧ state_CompletionsAdvanceAndRevocationsComplete_0.dev.forwards = false := by decide

/-- For `witness_CompletionsAdvanceAndRevocationsComplete_2`. -/
def state_CompletionsAdvanceAndRevocationsComplete_2 : State := serving_ 0 fun s => (s.updQueue 4 fun q => { q with posted := 1, waiting := true, run := some (begun [(50, 5), (14, 3)]) }).modEvt fun e => { e with islandMs := 10 }

/-- For `witness_CompletionsAdvanceAndRevocationsComplete_2`. -/
def arg2_CompletionsAdvanceAndRevocationsComplete_2 : DevQ := { queue0 with posted := 1, waiting := true, run := some (begun [(50, 5), (14, 3)]) }

/-- For `witness_CompletionsAdvanceAndRevocationsComplete_2`. -/
def arg1_CompletionsAdvanceAndRevocationsComplete_2 : DescRun := begun [(50, 5), (14, 3)]

/-- CompletionsAdvanceAndRevocationsComplete, clause 3. -/
theorem witness_CompletionsAdvanceAndRevocationsComplete_2 :
    state_CompletionsAdvanceAndRevocationsComplete_2.dev.queue 4 = some arg2_CompletionsAdvanceAndRevocationsComplete_2 ∧ arg2_CompletionsAdvanceAndRevocationsComplete_2.run = some arg1_CompletionsAdvanceAndRevocationsComplete_2 ∧ arg1_CompletionsAdvanceAndRevocationsComplete_2.ended = false ∧ arg2_CompletionsAdvanceAndRevocationsComplete_2.waiting = true ∧ state_CompletionsAdvanceAndRevocationsComplete_2.dev.serving = true ∧ state_CompletionsAdvanceAndRevocationsComplete_2.dev.forwards = false ∧ dTIMEOUT arg1_CompletionsAdvanceAndRevocationsComplete_2.bytes ≠ 0 ∧ arg2_CompletionsAdvanceAndRevocationsComplete_2.waitMs + dTIMEOUT arg1_CompletionsAdvanceAndRevocationsComplete_2.bytes ≤ state_CompletionsAdvanceAndRevocationsComplete_2.dev.evt.islandMs := by decide

/-- For `witness_CompletionsAdvanceAndRevocationsComplete_3`. -/
def state_CompletionsAdvanceAndRevocationsComplete_3 : State := serving_ 0 (·.updQueue 4 fun q => { q with run := some (begun [(64, 0)]) })

/-- For `witness_CompletionsAdvanceAndRevocationsComplete_3`. -/
def arg2_CompletionsAdvanceAndRevocationsComplete_3 : DevQ := { queue0 with run := some (begun [(64, 0)]) }

/-- For `witness_CompletionsAdvanceAndRevocationsComplete_3`. -/
def arg1_CompletionsAdvanceAndRevocationsComplete_3 : DescRun := begun [(64, 0)]

/-- CompletionsAdvanceAndRevocationsComplete, clause 4. -/
theorem witness_CompletionsAdvanceAndRevocationsComplete_3 :
    state_CompletionsAdvanceAndRevocationsComplete_3.dev.queue 4 = some arg2_CompletionsAdvanceAndRevocationsComplete_3 ∧ arg2_CompletionsAdvanceAndRevocationsComplete_3.run = some arg1_CompletionsAdvanceAndRevocationsComplete_3 ∧ (arg2_CompletionsAdvanceAndRevocationsComplete_3.waiting = false ∨ dTIMEOUT arg1_CompletionsAdvanceAndRevocationsComplete_3.bytes = 0 ∨ state_CompletionsAdvanceAndRevocationsComplete_3.dev.evt.islandMs < arg2_CompletionsAdvanceAndRevocationsComplete_3.waitMs + dTIMEOUT arg1_CompletionsAdvanceAndRevocationsComplete_3.bytes) := by decide

/-- For `witness_CompletionsAdvanceAndRevocationsComplete_4`. -/
def state_CompletionsAdvanceAndRevocationsComplete_4 : State := serving_ 0 (·.updQueue 4 fun q => { q with posted := 1, again := true })

/-- For `witness_CompletionsAdvanceAndRevocationsComplete_4`. -/
def arg1_CompletionsAdvanceAndRevocationsComplete_4 : DevQ := { queue0 with posted := 1, again := true }

/-- CompletionsAdvanceAndRevocationsComplete, clause 5. -/
theorem witness_CompletionsAdvanceAndRevocationsComplete_4 :
    state_CompletionsAdvanceAndRevocationsComplete_4.dev.serving = true ∧ state_CompletionsAdvanceAndRevocationsComplete_4.dev.dq = [(4, arg1_CompletionsAdvanceAndRevocationsComplete_4)] ∧ arg1_CompletionsAdvanceAndRevocationsComplete_4.again = true ∧ arg1_CompletionsAdvanceAndRevocationsComplete_4.error = false ∧ arg1_CompletionsAdvanceAndRevocationsComplete_4.completed < arg1_CompletionsAdvanceAndRevocationsComplete_4.posted := by decide

/-- For `witness_CompletionsAdvanceAndRevocationsComplete_5`. -/
def state_CompletionsAdvanceAndRevocationsComplete_5 : State := serving_ 0 id

/-- CompletionsAdvanceAndRevocationsComplete, clause 6. -/
theorem witness_CompletionsAdvanceAndRevocationsComplete_5 :
    state_CompletionsAdvanceAndRevocationsComplete_5.dev.serving = false ∨ (List.any state_CompletionsAdvanceAndRevocationsComplete_5.dev.dq fun e => e.snd.again) = false := by decide

/-- For `witness_CompletionsAdvanceAndRevocationsComplete_6`. -/
def state_CompletionsAdvanceAndRevocationsComplete_6 : State := serving_ 0 (·.modRgn fun t => { t with regions := [(50, { region0 with state := .revoking, revokeCycle := 9 })] })

/-- CompletionsAdvanceAndRevocationsComplete, clause 7. -/
theorem witness_CompletionsAdvanceAndRevocationsComplete_6 :
    state_CompletionsAdvanceAndRevocationsComplete_6.dev.atBoundary = true ∧ state_CompletionsAdvanceAndRevocationsComplete_6.dev.mayRevoke 50 (state_CompletionsAdvanceAndRevocationsComplete_6.dev.rgn.region 50) = true ∧ state_CompletionsAdvanceAndRevocationsComplete_6.dev.twin.revokes.contains 50 = false := by decide

/-- For `witness_CompletionsAdvanceAndRevocationsComplete_7`. -/
def state_CompletionsAdvanceAndRevocationsComplete_7 : State := serving_ 0 id

/-- CompletionsAdvanceAndRevocationsComplete, clause 8. -/
theorem witness_CompletionsAdvanceAndRevocationsComplete_7 :
    state_CompletionsAdvanceAndRevocationsComplete_7.dev.atBoundary = false ∨ (state_CompletionsAdvanceAndRevocationsComplete_7.dev.rgn.region 50).state ≠ RState.revoking ∨ (state_CompletionsAdvanceAndRevocationsComplete_7.dev.rgn.region 50).inFlight ≠ 0 ∨ state_CompletionsAdvanceAndRevocationsComplete_7.dev.cal.cycle ≤ (state_CompletionsAdvanceAndRevocationsComplete_7.dev.rgn.region 50).revokeCycle := by decide

/-- For `witness_CompletionsAdvanceAndRevocationsComplete_8`. -/
def state_CompletionsAdvanceAndRevocationsComplete_8 : State := serving_ 0 fun s => ((s.modNet fun n => { n with qps := [] }).modDq fun _ => []).modRgn fun t => { t with regions := [(50, { region0 with state := .revoking, revokeCycle := 9, inFlight := 2 })] }

/-- CompletionsAdvanceAndRevocationsComplete, clause 9. -/
theorem witness_CompletionsAdvanceAndRevocationsComplete_8 :
    (state_CompletionsAdvanceAndRevocationsComplete_8.dev.rgn.region 50).state = RState.revoking ∧ (state_CompletionsAdvanceAndRevocationsComplete_8.dev.rgn.region 50).inFlight ≠ 0 ∧ state_CompletionsAdvanceAndRevocationsComplete_8.dev.follower = false ∧ state_CompletionsAdvanceAndRevocationsComplete_8.dev.net.qps = [] ∧ state_CompletionsAdvanceAndRevocationsComplete_8.dev.dq = [] := by decide

/-- For `witness_CompletionsAdvanceAndRevocationsComplete_9`. -/
def state_CompletionsAdvanceAndRevocationsComplete_9 : State := serving_ 0 id

/-- CompletionsAdvanceAndRevocationsComplete, clause 10. -/
theorem witness_CompletionsAdvanceAndRevocationsComplete_9 :
    (state_CompletionsAdvanceAndRevocationsComplete_9.dev.rgn.region 50).state ≠ RState.revoking ∨ (state_CompletionsAdvanceAndRevocationsComplete_9.dev.rgn.region 50).inFlight = 0 := by decide

/-- For `witness_CompletionsAdvanceAndRevocationsComplete_1`. -/
def state_CompletionsAdvanceAndRevocationsComplete_1 : State := serving_ 0 (·.updQueue 4 fun q => { q with run := some (begun [(64, 0)]) })

/-- For `witness_CompletionsAdvanceAndRevocationsComplete_1`. -/
def arg2_CompletionsAdvanceAndRevocationsComplete_1 : DevQ := { queue0 with run := some (begun [(64, 0)]) }

/-- For `witness_CompletionsAdvanceAndRevocationsComplete_1`. -/
def arg1_CompletionsAdvanceAndRevocationsComplete_1 : DescRun := begun [(64, 0)]

/-- CompletionsAdvanceAndRevocationsComplete, clause 2. -/
theorem witness_CompletionsAdvanceAndRevocationsComplete_1 :
    state_CompletionsAdvanceAndRevocationsComplete_1.dev.queue 4 = some arg2_CompletionsAdvanceAndRevocationsComplete_1 ∧ arg2_CompletionsAdvanceAndRevocationsComplete_1.run = some arg1_CompletionsAdvanceAndRevocationsComplete_1 ∧ (arg2_CompletionsAdvanceAndRevocationsComplete_1.error = true ∨ arg1_CompletionsAdvanceAndRevocationsComplete_1.ended = false ∨ state_CompletionsAdvanceAndRevocationsComplete_1.dev.gal.owes (Owner.desc 4) = true ∨ state_CompletionsAdvanceAndRevocationsComplete_1.dev.serving = false ∨ state_CompletionsAdvanceAndRevocationsComplete_1.dev.reported arg1_CompletionsAdvanceAndRevocationsComplete_1.onum = false) := by decide

/-- For `witness_DescriptorsStartAsTheirOpcodeSays_2`. -/
def state_DescriptorsStartAsTheirOpcodeSays_2 : State := serving_ 0 fun s => ((s.storeSpan .own 2 0 (queue0.entry 0) (body pushes)).updQueue 4 fun q => { q with posted := 1 }).updQp 3 fun _ => crowded

/-- For `witness_DescriptorsStartAsTheirOpcodeSays_2`. -/
def arg2_DescriptorsStartAsTheirOpcodeSays_2 : DevQ := { queue0 with posted := 1 }

set_option maxRecDepth 8192 in
/-- DescriptorsStartAsTheirOpcodeSays, clause 3. -/
theorem witness_DescriptorsStartAsTheirOpcodeSays_2 :
    state_DescriptorsStartAsTheirOpcodeSays_2.dev.queueServed 4 arg2_DescriptorsStartAsTheirOpcodeSays_2 = true ∧ arg2_DescriptorsStartAsTheirOpcodeSays_2.run = none ∧ ((state_DescriptorsStartAsTheirOpcodeSays_2.dev.queueTurn 4 arg2_DescriptorsStartAsTheirOpcodeSays_2).nextDesc arg2_DescriptorsStartAsTheirOpcodeSays_2).snd = some (body pushes) ∧ dOP (body pushes) = 2 ∧ ((state_DescriptorsStartAsTheirOpcodeSays_2.dev.queueTurn 4 arg2_DescriptorsStartAsTheirOpcodeSays_2).nextDesc arg2_DescriptorsStartAsTheirOpcodeSays_2).fst.pushWaits (body pushes) = true := by decide

/-- For `witness_DescriptorsStartAsTheirOpcodeSays_4`. -/
def arg2_DescriptorsStartAsTheirOpcodeSays_4 : DevQ := { queue0 with posted := 1 }

/-- DescriptorsStartAsTheirOpcodeSays, clause 5. -/
theorem witness_DescriptorsStartAsTheirOpcodeSays_4 :
    Instr.descFlush 4 ∈ [Instr.descNop 4, Instr.descCopy 4 0, Instr.descPush 4, Instr.descFlush 4, Instr.descDiscard 4, Instr.descWait 4] ∧ ringless.dev.queueServed 4 arg2_DescriptorsStartAsTheirOpcodeSays_4 = true ∧ arg2_DescriptorsStartAsTheirOpcodeSays_4.run = none ∧ ((ringless.dev.queueTurn 4 arg2_DescriptorsStartAsTheirOpcodeSays_4).nextDesc arg2_DescriptorsStartAsTheirOpcodeSays_4).snd = none := by decide

/-- For `witness_DescriptorsStartAsTheirOpcodeSays_5`. -/
def state_DescriptorsStartAsTheirOpcodeSays_5 : State := queued [(64, 0)] id

/-- For `witness_DescriptorsStartAsTheirOpcodeSays_5`. -/
def arg4_DescriptorsStartAsTheirOpcodeSays_5 : DevQ := { queue0 with posted := 1 }

set_option maxRecDepth 8192 in
/-- DescriptorsStartAsTheirOpcodeSays, clause 6. -/
theorem witness_DescriptorsStartAsTheirOpcodeSays_5 :
    (Instr.descPush 4, 2) ∈ [(Instr.descNop 4, 0), (Instr.descCopy 4 0, 1), (Instr.descPush 4, 2), (Instr.descFlush 4, 3), (Instr.descDiscard 4, 4), (Instr.descWait 4, 5)] ∧ state_DescriptorsStartAsTheirOpcodeSays_5.dev.queueServed 4 arg4_DescriptorsStartAsTheirOpcodeSays_5 = true ∧ arg4_DescriptorsStartAsTheirOpcodeSays_5.run = none ∧ ((state_DescriptorsStartAsTheirOpcodeSays_5.dev.queueTurn 4 arg4_DescriptorsStartAsTheirOpcodeSays_5).nextDesc arg4_DescriptorsStartAsTheirOpcodeSays_5).snd = some (body [(64, 0)]) ∧ dOP (body [(64, 0)]) ≤ 5 ∧ dOP (body [(64, 0)]) ≠ 2 := by decide

/-- For `witness_DescriptorsStartAsTheirOpcodeSays_7`. -/
def state_DescriptorsStartAsTheirOpcodeSays_7 : State := queued copies fun q => { q with run := some { begun copies with regions := [50, 50] } }

/-- For `witness_DescriptorsStartAsTheirOpcodeSays_7`. -/
def arg2_DescriptorsStartAsTheirOpcodeSays_7 : DevQ := { queue0 with posted := 1, run := some { begun copies with regions := [50, 50] } }

/-- For `witness_DescriptorsStartAsTheirOpcodeSays_7`. -/
def arg1_DescriptorsStartAsTheirOpcodeSays_7 : DescRun := { begun copies with regions := [50, 50] }

/-- DescriptorsStartAsTheirOpcodeSays, clause 8. -/
theorem witness_DescriptorsStartAsTheirOpcodeSays_7 :
    state_DescriptorsStartAsTheirOpcodeSays_7.dev.queueServed 4 arg2_DescriptorsStartAsTheirOpcodeSays_7 = true ∧ arg2_DescriptorsStartAsTheirOpcodeSays_7.run = some arg1_DescriptorsStartAsTheirOpcodeSays_7 ∧ dOP arg1_DescriptorsStartAsTheirOpcodeSays_7.bytes = 1 ∧ arg1_DescriptorsStartAsTheirOpcodeSays_7.ended = false ∧ (state_DescriptorsStartAsTheirOpcodeSays_7.dev.queueAt 4 id).queueServed 4 arg2_DescriptorsStartAsTheirOpcodeSays_7 = true := by decide

/-- For `witness_DescriptorsStartAsTheirOpcodeSays_8`. -/
def state_DescriptorsStartAsTheirOpcodeSays_8 : State := queued flushes fun q => { q with run := some { begun flushes with regions := [50] } }

/-- For `witness_DescriptorsStartAsTheirOpcodeSays_8`. -/
def arg2_DescriptorsStartAsTheirOpcodeSays_8 : DevQ := { queue0 with posted := 1, run := some { begun flushes with regions := [50] } }

/-- For `witness_DescriptorsStartAsTheirOpcodeSays_8`. -/
def arg1_DescriptorsStartAsTheirOpcodeSays_8 : DescRun := { begun flushes with regions := [50] }

/-- DescriptorsStartAsTheirOpcodeSays, clause 9. -/
theorem witness_DescriptorsStartAsTheirOpcodeSays_8 :
    state_DescriptorsStartAsTheirOpcodeSays_8.dev.queueServed 4 arg2_DescriptorsStartAsTheirOpcodeSays_8 = true ∧ arg2_DescriptorsStartAsTheirOpcodeSays_8.run = some arg1_DescriptorsStartAsTheirOpcodeSays_8 ∧ dOP arg1_DescriptorsStartAsTheirOpcodeSays_8.bytes = 3 ∧ arg1_DescriptorsStartAsTheirOpcodeSays_8.ended = false := by decide

/-- For `witness_DescriptorsStartAsTheirOpcodeSays_9`. -/
def arg4_DescriptorsStartAsTheirOpcodeSays_9 : Dev := (serving_ 0 id).dev

/-- DescriptorsStartAsTheirOpcodeSays, clause 10. -/
theorem witness_DescriptorsStartAsTheirOpcodeSays_9 :
    arg4_DescriptorsStartAsTheirOpcodeSays_9.queue (dWAITQ (body [(8, 5), (40, 0), (2, 4), (6, 0), (8, 2)])) = some queue0 ∧ queue0.completed < dWAITVALUE (body [(8, 5), (40, 0), (2, 4), (6, 0), (8, 2)]) ∧ queue0.error = false ∧ dWAITQ (body [(8, 5), (40, 0), (2, 4), (6, 0), (8, 2)]) ≠ 5 := by decide

/-- For `witness_DescriptorsStartAsTheirOpcodeSays_10`. -/
def state_DescriptorsStartAsTheirOpcodeSays_10 : State := serving_ 0 id

/-- DescriptorsStartAsTheirOpcodeSays, clause 11. -/
theorem witness_DescriptorsStartAsTheirOpcodeSays_10 :
    Instr.descNop 9 ∈ [Instr.descNop 9, Instr.descCopy 9 1, Instr.descPush 9, Instr.descFlush 9, Instr.descDiscard 9, Instr.descWait 9] ∧ (state_DescriptorsStartAsTheirOpcodeSays_10.dev.queue 9 = none ∨ state_DescriptorsStartAsTheirOpcodeSays_10.dev.follower = true ∨ state_DescriptorsStartAsTheirOpcodeSays_10.dev.queuesRun = false ∧ state_DescriptorsStartAsTheirOpcodeSays_10.dev.cal.stopStamp = none) := by decide

/-- For `witness_DescriptorsStartAsTheirOpcodeSays_11`. -/
def state_DescriptorsStartAsTheirOpcodeSays_11 : State := queued [(64, 1)] fun q => { q with error := true }

/-- For `witness_DescriptorsStartAsTheirOpcodeSays_11`. -/
def arg2_DescriptorsStartAsTheirOpcodeSays_11 : DevQ := { queue0 with posted := 1, error := true }

/-- DescriptorsStartAsTheirOpcodeSays, clause 12. -/
theorem witness_DescriptorsStartAsTheirOpcodeSays_11 :
    Instr.descNop 4 ∈ [Instr.descNop 4, Instr.descCopy 4 1, Instr.descPush 4, Instr.descFlush 4, Instr.descDiscard 4, Instr.descWait 4] ∧ state_DescriptorsStartAsTheirOpcodeSays_11.dev.queue 4 = some arg2_DescriptorsStartAsTheirOpcodeSays_11 ∧ (arg2_DescriptorsStartAsTheirOpcodeSays_11.live = false ∨ state_DescriptorsStartAsTheirOpcodeSays_11.dev.queueStalls 4 arg2_DescriptorsStartAsTheirOpcodeSays_11 = true) := by decide

/-- For `witness_KeyVerbsGenerateImportDestroyAndQuery_0`. -/
def state_KeyVerbsGenerateImportDestroyAndQuery_0 : State := asked 4 0x60 (body [(2, 5460), (1, 1), (1, 90), (2, 2), (2, 0), (8, 2 ^ 40)]) (id)

/-- KeyVerbsGenerateImportDestroyAndQuery, clause 1. -/
theorem witness_KeyVerbsGenerateImportDestroyAndQuery_0 :
    state_KeyVerbsGenerateImportDestroyAndQuery_0.dev.holdsVerb 3 96 77 (body [(2, 5460), (1, 1), (1, 90), (2, 2), (2, 0), (8, 2 ^ 40)]) = true ∧ (spCall 3 96 77 (body [(2, 5460), (1, 1), (1, 90), (2, 2), (2, 0), (8, 2 ^ 40)])).at_ 2 1 ∈ [1, 2, 3, 4] ∧ ((spCall 3 96 77 (body [(2, 5460), (1, 1), (1, 90), (2, 2), (2, 0), (8, 2 ^ 40)])).at_ 3 1 = 0 ∨ 50 ≤ (spCall 3 96 77 (body [(2, 5460), (1, 1), (1, 90), (2, 2), (2, 0), (8, 2 ^ 40)])).at_ 3 1 ∧ (spCall 3 96 77 (body [(2, 5460), (1, 1), (1, 90), (2, 2), (2, 0), (8, 2 ^ 40)])).at_ 3 1 ≤ 99) ∧ ((spCall 3 96 77 (body [(2, 5460), (1, 1), (1, 90), (2, 2), (2, 0), (8, 2 ^ 40)])).at_ 4 2 = 0 ∨ Option.any (fun p => !p.coming) (state_KeyVerbsGenerateImportDestroyAndQuery_0.dev.rgn.pds.get? ((spCall 3 96 77 (body [(2, 5460), (1, 1), (1, 90), (2, 2), (2, 0), (8, 2 ^ 40)])).at_ 4 2)) = true) ∧ (spCall 3 96 77 (body [(2, 5460), (1, 1), (1, 90), (2, 2), (2, 0), (8, 2 ^ 40)])).at_ 6 2 ≤ 1 ∧ 2 ^ 37 ≤ (spCall 3 96 77 (body [(2, 5460), (1, 1), (1, 90), (2, 2), (2, 0), (8, 2 ^ 40)])).at_ 8 8 ∧ (spCall 3 96 77 (body [(2, 5460), (1, 1), (1, 90), (2, 2), (2, 0), (8, 2 ^ 40)])).at_ 8 8 < 2 ^ 48 ∧ ((spCall 3 96 77 (body [(2, 5460), (1, 1), (1, 90), (2, 2), (2, 0), (8, 2 ^ 40)])).at_ 0 2 < nvSlots ∨ (spCall 3 96 77 (body [(2, 5460), (1, 1), (1, 90), (2, 2), (2, 0), (8, 2 ^ 40)])).at_ 2 1 = 2 ∧ (spCall 3 96 77 (body [(2, 5460), (1, 1), (1, 90), (2, 2), (2, 0), (8, 2 ^ 40)])).at_ 0 2 < 8192) ∧ state_KeyVerbsGenerateImportDestroyAndQuery_0.dev.bit Fld.CIPHER_STATUS_ENTROPY_FAIL = false ∧ (state_KeyVerbsGenerateImportDestroyAndQuery_0.dev.keys.slot ((spCall 3 96 77 (body [(2, 5460), (1, 1), (1, 90), (2, 2), (2, 0), (8, 2 ^ 40)])).at_ 0 2)).state = KState.empty := by decide

/-- For `witness_KeyVerbsGenerateImportDestroyAndQuery_1`. -/
def state_KeyVerbsGenerateImportDestroyAndQuery_1 : State := asked 4 0x60 (body [(2, 5), (1, 1), (1, 0), (2, 0), (2, 0), (8, 2 ^ 40)]) (·.set .CIPHER_STATUS_ENTROPY_FAIL 1)

/-- KeyVerbsGenerateImportDestroyAndQuery, clause 2. -/
theorem witness_KeyVerbsGenerateImportDestroyAndQuery_1 :
    state_KeyVerbsGenerateImportDestroyAndQuery_1.dev.holdsVerb 3 96 77 (body [(2, 5), (1, 1), (1, 0), (2, 0), (2, 0), (8, 2 ^ 40)]) = true ∧ (spCall 3 96 77 (body [(2, 5), (1, 1), (1, 0), (2, 0), (2, 0), (8, 2 ^ 40)])).at_ 2 1 ∈ [1, 2, 3, 4] ∧ (spCall 3 96 77 (body [(2, 5), (1, 1), (1, 0), (2, 0), (2, 0), (8, 2 ^ 40)])).at_ 3 1 = 0 ∧ (spCall 3 96 77 (body [(2, 5), (1, 1), (1, 0), (2, 0), (2, 0), (8, 2 ^ 40)])).at_ 4 2 = 0 ∧ (spCall 3 96 77 (body [(2, 5), (1, 1), (1, 0), (2, 0), (2, 0), (8, 2 ^ 40)])).at_ 6 2 ≤ 1 ∧ 2 ^ 37 ≤ (spCall 3 96 77 (body [(2, 5), (1, 1), (1, 0), (2, 0), (2, 0), (8, 2 ^ 40)])).at_ 8 8 ∧ (spCall 3 96 77 (body [(2, 5), (1, 1), (1, 0), (2, 0), (2, 0), (8, 2 ^ 40)])).at_ 8 8 < 2 ^ 48 ∧ (spCall 3 96 77 (body [(2, 5), (1, 1), (1, 0), (2, 0), (2, 0), (8, 2 ^ 40)])).at_ 0 2 < nvSlots ∧ (state_KeyVerbsGenerateImportDestroyAndQuery_1.dev.bit Fld.CIPHER_STATUS_ENTROPY_FAIL = true ∨ (state_KeyVerbsGenerateImportDestroyAndQuery_1.dev.keys.slot ((spCall 3 96 77 (body [(2, 5), (1, 1), (1, 0), (2, 0), (2, 0), (8, 2 ^ 40)])).at_ 0 2)).state ≠ KState.empty) ∧ state_KeyVerbsGenerateImportDestroyAndQuery_1.dev.answersGo = true := by decide

/-- For `witness_KeyVerbsGenerateImportDestroyAndQuery_1b`. -/
def state_KeyVerbsGenerateImportDestroyAndQuery_1b : State := asked 4 0x60 (body [(2, 7), (1, 1), (1, 0), (2, 0), (2, 0), (8, 2 ^ 40)]) (id)

/-- KeyVerbsGenerateImportDestroyAndQuery, clause 2. -/
theorem witness_KeyVerbsGenerateImportDestroyAndQuery_1b :
    state_KeyVerbsGenerateImportDestroyAndQuery_1b.dev.holdsVerb 3 96 77 (body [(2, 7), (1, 1), (1, 0), (2, 0), (2, 0), (8, 2 ^ 40)]) = true ∧ (spCall 3 96 77 (body [(2, 7), (1, 1), (1, 0), (2, 0), (2, 0), (8, 2 ^ 40)])).at_ 2 1 ∈ [1, 2, 3, 4] ∧ (spCall 3 96 77 (body [(2, 7), (1, 1), (1, 0), (2, 0), (2, 0), (8, 2 ^ 40)])).at_ 3 1 = 0 ∧ (spCall 3 96 77 (body [(2, 7), (1, 1), (1, 0), (2, 0), (2, 0), (8, 2 ^ 40)])).at_ 4 2 = 0 ∧ (spCall 3 96 77 (body [(2, 7), (1, 1), (1, 0), (2, 0), (2, 0), (8, 2 ^ 40)])).at_ 6 2 ≤ 1 ∧ 2 ^ 37 ≤ (spCall 3 96 77 (body [(2, 7), (1, 1), (1, 0), (2, 0), (2, 0), (8, 2 ^ 40)])).at_ 8 8 ∧ (spCall 3 96 77 (body [(2, 7), (1, 1), (1, 0), (2, 0), (2, 0), (8, 2 ^ 40)])).at_ 8 8 < 2 ^ 48 ∧ (spCall 3 96 77 (body [(2, 7), (1, 1), (1, 0), (2, 0), (2, 0), (8, 2 ^ 40)])).at_ 0 2 < nvSlots ∧ (state_KeyVerbsGenerateImportDestroyAndQuery_1b.dev.bit Fld.CIPHER_STATUS_ENTROPY_FAIL = true ∨ (state_KeyVerbsGenerateImportDestroyAndQuery_1b.dev.keys.slot ((spCall 3 96 77 (body [(2, 7), (1, 1), (1, 0), (2, 0), (2, 0), (8, 2 ^ 40)])).at_ 0 2)).state ≠ KState.empty) ∧ state_KeyVerbsGenerateImportDestroyAndQuery_1b.dev.answersGo = true := by decide

/-- For `witness_KeyVerbsGenerateImportDestroyAndQuery_2`. -/
def state_KeyVerbsGenerateImportDestroyAndQuery_2 : State := asked 4 0x61 (body [(2, 5), (2, 11), (1, 2), (1, 0), (2, 0), (2, 0), (8, 2 ^ 40), (40, 9)]) (id)

/-- KeyVerbsGenerateImportDestroyAndQuery, clause 3. -/
theorem witness_KeyVerbsGenerateImportDestroyAndQuery_2 :
    state_KeyVerbsGenerateImportDestroyAndQuery_2.dev.holdsVerb 3 97 77 (body [(2, 5), (2, 11), (1, 2), (1, 0), (2, 0), (2, 0), (8, 2 ^ 40), (40, 9)]) = true ∧ (spCall 3 97 77 (body [(2, 5), (2, 11), (1, 2), (1, 0), (2, 0), (2, 0), (8, 2 ^ 40), (40, 9)])).at_ 4 1 ∈ [1, 2, 3, 4] ∧ (spCall 3 97 77 (body [(2, 5), (2, 11), (1, 2), (1, 0), (2, 0), (2, 0), (8, 2 ^ 40), (40, 9)])).at_ 5 1 = 0 ∧ (spCall 3 97 77 (body [(2, 5), (2, 11), (1, 2), (1, 0), (2, 0), (2, 0), (8, 2 ^ 40), (40, 9)])).at_ 6 2 = 0 ∧ (spCall 3 97 77 (body [(2, 5), (2, 11), (1, 2), (1, 0), (2, 0), (2, 0), (8, 2 ^ 40), (40, 9)])).at_ 8 2 = 0 ∧ 2 ^ 37 ≤ (spCall 3 97 77 (body [(2, 5), (2, 11), (1, 2), (1, 0), (2, 0), (2, 0), (8, 2 ^ 40), (40, 9)])).at_ 10 8 ∧ (spCall 3 97 77 (body [(2, 5), (2, 11), (1, 2), (1, 0), (2, 0), (2, 0), (8, 2 ^ 40), (40, 9)])).at_ 10 8 < 2 ^ 48 ∧ (spCall 3 97 77 (body [(2, 5), (2, 11), (1, 2), (1, 0), (2, 0), (2, 0), (8, 2 ^ 40), (40, 9)])).at_ 0 2 < nvSlots ∧ (spCall 3 97 77 (body [(2, 5), (2, 11), (1, 2), (1, 0), (2, 0), (2, 0), (8, 2 ^ 40), (40, 9)])).at_ 2 2 < 8192 ∧ (state_KeyVerbsGenerateImportDestroyAndQuery_2.dev.keys.slot ((spCall 3 97 77 (body [(2, 5), (2, 11), (1, 2), (1, 0), (2, 0), (2, 0), (8, 2 ^ 40), (40, 9)])).at_ 2 2)).kind = 4 ∧ (state_KeyVerbsGenerateImportDestroyAndQuery_2.dev.keys.slot ((spCall 3 97 77 (body [(2, 5), (2, 11), (1, 2), (1, 0), (2, 0), (2, 0), (8, 2 ^ 40), (40, 9)])).at_ 2 2)).state = KState.active ∧ (state_KeyVerbsGenerateImportDestroyAndQuery_2.dev.keys.slot ((spCall 3 97 77 (body [(2, 5), (2, 11), (1, 2), (1, 0), (2, 0), (2, 0), (8, 2 ^ 40), (40, 9)])).at_ 0 2)).state = KState.empty := by decide

/-- For `witness_KeyVerbsGenerateImportDestroyAndQuery_3`. -/
def state_KeyVerbsGenerateImportDestroyAndQuery_3 : State := asked 4 0x62 (body [(2, 12)]) (id)

/-- KeyVerbsGenerateImportDestroyAndQuery, clause 4. -/
theorem witness_KeyVerbsGenerateImportDestroyAndQuery_3 :
    state_KeyVerbsGenerateImportDestroyAndQuery_3.dev.holdsVerb 3 98 77 (body [(2, 12)]) = true ∧ (spCall 3 98 77 (body [(2, 12)])).at_ 0 2 < 8192 ∧ (state_KeyVerbsGenerateImportDestroyAndQuery_3.dev.keys.slot ((spCall 3 98 77 (body [(2, 12)])).at_ 0 2)).state ≠ KState.empty ∧ state_KeyVerbsGenerateImportDestroyAndQuery_3.dev.slotBound ((spCall 3 98 77 (body [(2, 12)])).at_ 0 2) = false := by decide

/-- For `witness_KeyVerbsGenerateImportDestroyAndQuery_4`. -/
def state_KeyVerbsGenerateImportDestroyAndQuery_4 : State := asked 4 0x62 (body [(2, 7)]) (·.modKeys fun k => { k with slots := k.slots.upd 7 fun v => { v with domain := some 0 } })

/-- KeyVerbsGenerateImportDestroyAndQuery, clause 5. -/
theorem witness_KeyVerbsGenerateImportDestroyAndQuery_4 :
    state_KeyVerbsGenerateImportDestroyAndQuery_4.dev.holdsVerb 3 98 77 (body [(2, 7)]) = true ∧ (spCall 3 98 77 (body [(2, 7)])).at_ 0 2 < 8192 ∧ state_KeyVerbsGenerateImportDestroyAndQuery_4.dev.slotBound ((spCall 3 98 77 (body [(2, 7)])).at_ 0 2) = true ∧ state_KeyVerbsGenerateImportDestroyAndQuery_4.dev.answersGo = true := by decide

/-- For `witness_KeyVerbsGenerateImportDestroyAndQuery_5`. -/
def state_KeyVerbsGenerateImportDestroyAndQuery_5 : State := asked 4 0x63 (body [(2, 12)]) (id)

/-- KeyVerbsGenerateImportDestroyAndQuery, clause 6. -/
theorem witness_KeyVerbsGenerateImportDestroyAndQuery_5 :
    state_KeyVerbsGenerateImportDestroyAndQuery_5.dev.holdsVerb 3 99 77 (body [(2, 12)]) = true ∧ (spCall 3 99 77 (body [(2, 12)])).at_ 0 2 < 8192 ∧ state_KeyVerbsGenerateImportDestroyAndQuery_5.dev.answersGo = true := by decide

/-- For `witness_KeyDomainVerbsWaitForTheirBoundary_0`. -/
def state_KeyDomainVerbsWaitForTheirBoundary_0 : State := asked 4 0x64 (body [(2, 6), (2, 12)]) (id)

/-- KeyDomainVerbsWaitForTheirBoundary, clause 1. -/
theorem witness_KeyDomainVerbsWaitForTheirBoundary_0 :
    (100, DState.unkeyed, Instr.kdKey (Caller.sp 3) 77 (body [(2, 6), (2, 12)])) ∈ [(100, DState.unkeyed, Instr.kdKey (Caller.sp 3) 77 (body [(2, 6), (2, 12)])), (101, DState.keyed, Instr.kdRekey (Caller.sp 3) 77 (body [(2, 6), (2, 12)]))] ∧ state_KeyDomainVerbsWaitForTheirBoundary_0.dev.holdsVerb 3 100 77 (body [(2, 6), (2, 12)]) = true ∧ (spCall 3 100 77 (body [(2, 6), (2, 12)])).at_ 0 2 < 8192 ∧ (spCall 3 100 77 (body [(2, 6), (2, 12)])).at_ 2 2 < 8192 ∧ (state_KeyDomainVerbsWaitForTheirBoundary_0.dev.keys.dom ((spCall 3 100 77 (body [(2, 6), (2, 12)])).at_ 0 2)).state = DState.unkeyed ∧ state_KeyDomainVerbsWaitForTheirBoundary_0.dev.keys.busy ((spCall 3 100 77 (body [(2, 6), (2, 12)])).at_ 0 2) = false ∧ (state_KeyDomainVerbsWaitForTheirBoundary_0.dev.keys.dom ((spCall 3 100 77 (body [(2, 6), (2, 12)])).at_ 0 2)).curEpoch ≠ 4294967295 ∧ (state_KeyDomainVerbsWaitForTheirBoundary_0.dev.keys.slot ((spCall 3 100 77 (body [(2, 6), (2, 12)])).at_ 2 2)).state = KState.active ∧ (state_KeyDomainVerbsWaitForTheirBoundary_0.dev.keys.slot ((spCall 3 100 77 (body [(2, 6), (2, 12)])).at_ 2 2)).kind = 1 ∧ (state_KeyDomainVerbsWaitForTheirBoundary_0.dev.keys.slot ((spCall 3 100 77 (body [(2, 6), (2, 12)])).at_ 2 2)).domain = none := by decide

/-- For `witness_KeyDomainVerbsWaitForTheirBoundary_0b`. -/
def state_KeyDomainVerbsWaitForTheirBoundary_0b : State := asked 4 0x65 (body [(2, 0), (2, 12)]) (id)

/-- KeyDomainVerbsWaitForTheirBoundary, clause 1. -/
theorem witness_KeyDomainVerbsWaitForTheirBoundary_0b :
    (101, DState.keyed, Instr.kdRekey (Caller.sp 3) 77 (body [(2, 0), (2, 12)])) ∈ [(100, DState.unkeyed, Instr.kdKey (Caller.sp 3) 77 (body [(2, 0), (2, 12)])), (101, DState.keyed, Instr.kdRekey (Caller.sp 3) 77 (body [(2, 0), (2, 12)]))] ∧ state_KeyDomainVerbsWaitForTheirBoundary_0b.dev.holdsVerb 3 101 77 (body [(2, 0), (2, 12)]) = true ∧ (spCall 3 101 77 (body [(2, 0), (2, 12)])).at_ 0 2 < 8192 ∧ (spCall 3 101 77 (body [(2, 0), (2, 12)])).at_ 2 2 < 8192 ∧ (state_KeyDomainVerbsWaitForTheirBoundary_0b.dev.keys.dom ((spCall 3 101 77 (body [(2, 0), (2, 12)])).at_ 0 2)).state = DState.keyed ∧ state_KeyDomainVerbsWaitForTheirBoundary_0b.dev.keys.busy ((spCall 3 101 77 (body [(2, 0), (2, 12)])).at_ 0 2) = false ∧ (state_KeyDomainVerbsWaitForTheirBoundary_0b.dev.keys.dom ((spCall 3 101 77 (body [(2, 0), (2, 12)])).at_ 0 2)).curEpoch ≠ 4294967295 ∧ (state_KeyDomainVerbsWaitForTheirBoundary_0b.dev.keys.slot ((spCall 3 101 77 (body [(2, 0), (2, 12)])).at_ 2 2)).state = KState.active ∧ (state_KeyDomainVerbsWaitForTheirBoundary_0b.dev.keys.slot ((spCall 3 101 77 (body [(2, 0), (2, 12)])).at_ 2 2)).kind = 1 ∧ (state_KeyDomainVerbsWaitForTheirBoundary_0b.dev.keys.slot ((spCall 3 101 77 (body [(2, 0), (2, 12)])).at_ 2 2)).domain = none := by decide

/-- For `witness_KeyDomainVerbsWaitForTheirBoundary_1`. -/
def state_KeyDomainVerbsWaitForTheirBoundary_1 : State := asked 4 0x65 (body [(2, 6), (2, 12)]) (id)

/-- KeyDomainVerbsWaitForTheirBoundary, clause 2. -/
theorem witness_KeyDomainVerbsWaitForTheirBoundary_1 :
    state_KeyDomainVerbsWaitForTheirBoundary_1.dev.holdsVerb 3 101 77 (body [(2, 6), (2, 12)]) = true ∧ (spCall 3 101 77 (body [(2, 6), (2, 12)])).at_ 0 2 < 8192 ∧ ((state_KeyDomainVerbsWaitForTheirBoundary_1.dev.keys.dom ((spCall 3 101 77 (body [(2, 6), (2, 12)])).at_ 0 2)).state ≠ DState.keyed ∨ (state_KeyDomainVerbsWaitForTheirBoundary_1.dev.keys.dom ((spCall 3 101 77 (body [(2, 6), (2, 12)])).at_ 0 2)).curEpoch = 4294967295) ∧ state_KeyDomainVerbsWaitForTheirBoundary_1.dev.answersGo = true := by decide

/-- For `witness_KeyDomainVerbsWaitForTheirBoundary_2`. -/
def state_KeyDomainVerbsWaitForTheirBoundary_2 : State := asked 4 0x66 (body [(2, 5)]) (domainIn .rekeying)

/-- KeyDomainVerbsWaitForTheirBoundary, clause 3. -/
theorem witness_KeyDomainVerbsWaitForTheirBoundary_2 :
    state_KeyDomainVerbsWaitForTheirBoundary_2.dev.holdsVerb 3 102 77 (body [(2, 5)]) = true ∧ (spCall 3 102 77 (body [(2, 5)])).at_ 0 2 < 8192 ∧ (spCall 3 102 77 (body [(2, 5)])).at_ 0 2 ≠ 0 ∧ (state_KeyDomainVerbsWaitForTheirBoundary_2.dev.keys.dom ((spCall 3 102 77 (body [(2, 5)])).at_ 0 2)).state ∈ [DState.keyed, DState.rekeying, DState.keyLost] ∧ state_KeyDomainVerbsWaitForTheirBoundary_2.dev.domainUsed ((spCall 3 102 77 (body [(2, 5)])).at_ 0 2) = false ∧ (state_KeyDomainVerbsWaitForTheirBoundary_2.dev.keys.destroys.any fun e => e.fst == (spCall 3 102 77 (body [(2, 5)])).at_ 0 2) = false := by decide

/-- For `witness_KeyDomainVerbsWaitForTheirBoundary_3`. -/
def state_KeyDomainVerbsWaitForTheirBoundary_3 : State := asked 4 0x66 (body [(2, 0)]) (id)

/-- KeyDomainVerbsWaitForTheirBoundary, clause 4. -/
theorem witness_KeyDomainVerbsWaitForTheirBoundary_3 :
    state_KeyDomainVerbsWaitForTheirBoundary_3.dev.holdsVerb 3 102 77 (body [(2, 0)]) = true ∧ (spCall 3 102 77 (body [(2, 0)])).at_ 0 2 < 8192 ∧ ((spCall 3 102 77 (body [(2, 0)])).at_ 0 2 = 0 ∨ (state_KeyDomainVerbsWaitForTheirBoundary_3.dev.keys.dom ((spCall 3 102 77 (body [(2, 0)])).at_ 0 2)).state ∈ [DState.unkeyed, DState.purging] ∨ state_KeyDomainVerbsWaitForTheirBoundary_3.dev.domainUsed ((spCall 3 102 77 (body [(2, 0)])).at_ 0 2) = true) ∧ state_KeyDomainVerbsWaitForTheirBoundary_3.dev.answersGo = true := by decide

/-- For `witness_KeyDomainVerbsWaitForTheirBoundary_3b`. -/
def state_KeyDomainVerbsWaitForTheirBoundary_3b : State := asked 4 0x66 (body [(2, 5)]) (domainIn .purging)

/-- KeyDomainVerbsWaitForTheirBoundary, clause 4. -/
theorem witness_KeyDomainVerbsWaitForTheirBoundary_3b :
    state_KeyDomainVerbsWaitForTheirBoundary_3b.dev.holdsVerb 3 102 77 (body [(2, 5)]) = true ∧ (spCall 3 102 77 (body [(2, 5)])).at_ 0 2 < 8192 ∧ ((spCall 3 102 77 (body [(2, 5)])).at_ 0 2 = 0 ∨ (state_KeyDomainVerbsWaitForTheirBoundary_3b.dev.keys.dom ((spCall 3 102 77 (body [(2, 5)])).at_ 0 2)).state ∈ [DState.unkeyed, DState.purging] ∨ state_KeyDomainVerbsWaitForTheirBoundary_3b.dev.domainUsed ((spCall 3 102 77 (body [(2, 5)])).at_ 0 2) = true) ∧ state_KeyDomainVerbsWaitForTheirBoundary_3b.dev.answersGo = true := by decide

/-- For `witness_KeyDomainVerbsWaitForTheirBoundary_4`. -/
def state_KeyDomainVerbsWaitForTheirBoundary_4 : State := asked 4 0x67 (body [(2, 5)]) (domainIn .rekeying)

/-- KeyDomainVerbsWaitForTheirBoundary, clause 5. -/
theorem witness_KeyDomainVerbsWaitForTheirBoundary_4 :
    state_KeyDomainVerbsWaitForTheirBoundary_4.dev.holdsVerb 3 103 77 (body [(2, 5)]) = true ∧ (spCall 3 103 77 (body [(2, 5)])).at_ 0 2 < 8192 ∧ state_KeyDomainVerbsWaitForTheirBoundary_4.dev.answersGo = true := by decide

/-- For `witness_KeyUsageForcesRekeysAndCipherHealthIsKept_0`. -/
def state_KeyUsageForcesRekeysAndCipherHealthIsKept_0 : State := used 1000 0 id

/-- KeyUsageForcesRekeysAndCipherHealthIsKept, clause 1. -/
theorem witness_KeyUsageForcesRekeysAndCipherHealthIsKept_0 :
    (state_KeyUsageForcesRekeysAndCipherHealthIsKept_0.dev.keys.slot 7).state = KState.active ∧ ((state_KeyUsageForcesRekeysAndCipherHealthIsKept_0.dev.keys.slot 7).usage + 516) * 100 < (state_KeyUsageForcesRekeysAndCipherHealthIsKept_0.dev.keys.slot 7).limit * 50 ∧ (state_KeyUsageForcesRekeysAndCipherHealthIsKept_0.dev.keys.slot 7).usage + 516 < 2 ^ 36 ∧ ((state_KeyUsageForcesRekeysAndCipherHealthIsKept_0.dev.keys.slot 7).autoPct = 0 ∨ 50 ≤ (state_KeyUsageForcesRekeysAndCipherHealthIsKept_0.dev.keys.slot 7).autoPct) := by decide

/-- For `witness_KeyUsageForcesRekeysAndCipherHealthIsKept_1`. -/
def state_KeyUsageForcesRekeysAndCipherHealthIsKept_1 : State := used 1000 0 (fun v => { v with domain := none })

/-- KeyUsageForcesRekeysAndCipherHealthIsKept, clause 2. -/
theorem witness_KeyUsageForcesRekeysAndCipherHealthIsKept_1 :
    (state_KeyUsageForcesRekeysAndCipherHealthIsKept_1.dev.keys.slot 7).state = KState.active ∧ (state_KeyUsageForcesRekeysAndCipherHealthIsKept_1.dev.keys.slot 7).limit ≤ (state_KeyUsageForcesRekeysAndCipherHealthIsKept_1.dev.keys.slot 7).usage + 2 ^ 40 ∧ (state_KeyUsageForcesRekeysAndCipherHealthIsKept_1.dev.keys.slot 7).usage * 100 < (state_KeyUsageForcesRekeysAndCipherHealthIsKept_1.dev.keys.slot 7).limit * 90 ∧ (state_KeyUsageForcesRekeysAndCipherHealthIsKept_1.dev.keys.slot 7).autoPct = 0 ∧ (state_KeyUsageForcesRekeysAndCipherHealthIsKept_1.dev.keys.slot 7).domain = none := by decide

/-- For `witness_KeyUsageForcesRekeysAndCipherHealthIsKept_2`. -/
def state_KeyUsageForcesRekeysAndCipherHealthIsKept_2 : State := used 5 0 fun v => { v with state := .decryptOnly }

/-- KeyUsageForcesRekeysAndCipherHealthIsKept, clause 3. -/
theorem witness_KeyUsageForcesRekeysAndCipherHealthIsKept_2 :
    (state_KeyUsageForcesRekeysAndCipherHealthIsKept_2.dev.keys.slot 7).state = KState.decryptOnly ∧ (state_KeyUsageForcesRekeysAndCipherHealthIsKept_2.dev.keys.slot 7).refusedSeen = false := by decide

/-- For `witness_KeyUsageForcesRekeysAndCipherHealthIsKept_3`. -/
def state_KeyUsageForcesRekeysAndCipherHealthIsKept_3 : State := wired 4 keyed

/-- KeyUsageForcesRekeysAndCipherHealthIsKept, clause 4. -/
theorem witness_KeyUsageForcesRekeysAndCipherHealthIsKept_3 :
    (state_KeyUsageForcesRekeysAndCipherHealthIsKept_3.dev.keys.slot 100).state = KState.empty ∨ (state_KeyUsageForcesRekeysAndCipherHealthIsKept_3.dev.keys.slot 100).state ≠ KState.active ∧ (state_KeyUsageForcesRekeysAndCipherHealthIsKept_3.dev.keys.slot 100).refusedSeen = true := by decide

/-- For `witness_KeyUsageForcesRekeysAndCipherHealthIsKept_3b`. -/
def state_KeyUsageForcesRekeysAndCipherHealthIsKept_3b : State := used 5 0 fun v => { v with state := .lost, refusedSeen := true }

/-- KeyUsageForcesRekeysAndCipherHealthIsKept, clause 4. -/
theorem witness_KeyUsageForcesRekeysAndCipherHealthIsKept_3b :
    (state_KeyUsageForcesRekeysAndCipherHealthIsKept_3b.dev.keys.slot 7).state = KState.empty ∨ (state_KeyUsageForcesRekeysAndCipherHealthIsKept_3b.dev.keys.slot 7).state ≠ KState.active ∧ (state_KeyUsageForcesRekeysAndCipherHealthIsKept_3b.dev.keys.slot 7).refusedSeen = true := by decide

/-- For `witness_KeyUsageForcesRekeysAndCipherHealthIsKept_4`. -/
def state_KeyUsageForcesRekeysAndCipherHealthIsKept_4 : State := used (2 ^ 40) 0 id

/-- KeyUsageForcesRekeysAndCipherHealthIsKept, clause 5. -/
theorem witness_KeyUsageForcesRekeysAndCipherHealthIsKept_4 :
    (state_KeyUsageForcesRekeysAndCipherHealthIsKept_4.dev.keys.dom 0).state = DState.keyed ∧ (state_KeyUsageForcesRekeysAndCipherHealthIsKept_4.dev.keys.dom 0).curEpoch ≠ 4294967295 ∧ (state_KeyUsageForcesRekeysAndCipherHealthIsKept_4.dev.keys.starts.any fun x => x.fst == 0) = false ∧ state_KeyUsageForcesRekeysAndCipherHealthIsKept_4.dev.keys.lowestEmpty true = some 0 ∧ ((state_KeyUsageForcesRekeysAndCipherHealthIsKept_4.dev.keys.slot (state_KeyUsageForcesRekeysAndCipherHealthIsKept_4.dev.keys.dom 0).curSlot).limit * if (state_KeyUsageForcesRekeysAndCipherHealthIsKept_4.dev.keys.slot (state_KeyUsageForcesRekeysAndCipherHealthIsKept_4.dev.keys.dom 0).curSlot).autoPct = 0 then 100 else (state_KeyUsageForcesRekeysAndCipherHealthIsKept_4.dev.keys.slot (state_KeyUsageForcesRekeysAndCipherHealthIsKept_4.dev.keys.dom 0).curSlot).autoPct) ≤ (state_KeyUsageForcesRekeysAndCipherHealthIsKept_4.dev.keys.slot (state_KeyUsageForcesRekeysAndCipherHealthIsKept_4.dev.keys.dom 0).curSlot).usage * 100 := by decide

/-- For `witness_KeyUsageForcesRekeysAndCipherHealthIsKept_5`. -/
def state_KeyUsageForcesRekeysAndCipherHealthIsKept_5 : State := wired 4 fun s => (keyed s).modKeys fun k => { k with slots := k.slots.upd 7 (fun v => { v with usage := 2 ^ 40 }), starts := [(0, 12)] }

/-- KeyUsageForcesRekeysAndCipherHealthIsKept, clause 6. -/
theorem witness_KeyUsageForcesRekeysAndCipherHealthIsKept_5 :
    (state_KeyUsageForcesRekeysAndCipherHealthIsKept_5.dev.keys.dom 0).state = DState.keyed ∧ (state_KeyUsageForcesRekeysAndCipherHealthIsKept_5.dev.keys.dom 0).curEpoch ≠ 4294967295 ∧ (state_KeyUsageForcesRekeysAndCipherHealthIsKept_5.dev.keys.busy 0 = true ∨ state_KeyUsageForcesRekeysAndCipherHealthIsKept_5.dev.keys.lowestEmpty true = none) ∧ state_KeyUsageForcesRekeysAndCipherHealthIsKept_5.dev.keys.waits.contains 0 = false ∧ ((state_KeyUsageForcesRekeysAndCipherHealthIsKept_5.dev.keys.slot (state_KeyUsageForcesRekeysAndCipherHealthIsKept_5.dev.keys.dom 0).curSlot).limit * if (state_KeyUsageForcesRekeysAndCipherHealthIsKept_5.dev.keys.slot (state_KeyUsageForcesRekeysAndCipherHealthIsKept_5.dev.keys.dom 0).curSlot).autoPct = 0 then 100 else (state_KeyUsageForcesRekeysAndCipherHealthIsKept_5.dev.keys.slot (state_KeyUsageForcesRekeysAndCipherHealthIsKept_5.dev.keys.dom 0).curSlot).autoPct) ≤ (state_KeyUsageForcesRekeysAndCipherHealthIsKept_5.dev.keys.slot (state_KeyUsageForcesRekeysAndCipherHealthIsKept_5.dev.keys.dom 0).curSlot).usage * 100 := by decide

/-- For `witness_KeyUsageForcesRekeysAndCipherHealthIsKept_6`. -/
def state_KeyUsageForcesRekeysAndCipherHealthIsKept_6 : State := wired 4 fun s => (keyed s).modKeys fun k => { k with slots := k.slots.upd 7 (fun v => { v with usage := 2 ^ 40 }), domains := k.domains.upd 0 fun d => { d with curEpoch := 0xFFFFFFFF } }

/-- KeyUsageForcesRekeysAndCipherHealthIsKept, clause 7. -/
theorem witness_KeyUsageForcesRekeysAndCipherHealthIsKept_6 :
    (state_KeyUsageForcesRekeysAndCipherHealthIsKept_6.dev.keys.dom 0).serves = true ∧ (state_KeyUsageForcesRekeysAndCipherHealthIsKept_6.dev.keys.dom 0).curEpoch = 4294967295 ∧ state_KeyUsageForcesRekeysAndCipherHealthIsKept_6.dev.keys.waits.contains 0 = false ∧ ((state_KeyUsageForcesRekeysAndCipherHealthIsKept_6.dev.keys.slot (state_KeyUsageForcesRekeysAndCipherHealthIsKept_6.dev.keys.dom 0).curSlot).limit * if (state_KeyUsageForcesRekeysAndCipherHealthIsKept_6.dev.keys.slot (state_KeyUsageForcesRekeysAndCipherHealthIsKept_6.dev.keys.dom 0).curSlot).autoPct = 0 then 100 else (state_KeyUsageForcesRekeysAndCipherHealthIsKept_6.dev.keys.slot (state_KeyUsageForcesRekeysAndCipherHealthIsKept_6.dev.keys.dom 0).curSlot).autoPct) ≤ (state_KeyUsageForcesRekeysAndCipherHealthIsKept_6.dev.keys.slot (state_KeyUsageForcesRekeysAndCipherHealthIsKept_6.dev.keys.dom 0).curSlot).usage * 100 := by decide

/-- For `witness_KeyUsageForcesRekeysAndCipherHealthIsKept_7`. -/
def state_KeyUsageForcesRekeysAndCipherHealthIsKept_7 : State := used 5 0 id

/-- KeyUsageForcesRekeysAndCipherHealthIsKept, clause 8. -/
theorem witness_KeyUsageForcesRekeysAndCipherHealthIsKept_7 :
    (state_KeyUsageForcesRekeysAndCipherHealthIsKept_7.dev.keys.slot (state_KeyUsageForcesRekeysAndCipherHealthIsKept_7.dev.keys.dom 0).curSlot).usage * 100 < (state_KeyUsageForcesRekeysAndCipherHealthIsKept_7.dev.keys.slot (state_KeyUsageForcesRekeysAndCipherHealthIsKept_7.dev.keys.dom 0).curSlot).limit * if (state_KeyUsageForcesRekeysAndCipherHealthIsKept_7.dev.keys.slot (state_KeyUsageForcesRekeysAndCipherHealthIsKept_7.dev.keys.dom 0).curSlot).autoPct = 0 then 100 else (state_KeyUsageForcesRekeysAndCipherHealthIsKept_7.dev.keys.slot (state_KeyUsageForcesRekeysAndCipherHealthIsKept_7.dev.keys.dom 0).curSlot).autoPct := by decide

/-- For `witness_KeyUsageForcesRekeysAndCipherHealthIsKept_8`. -/
def state_KeyUsageForcesRekeysAndCipherHealthIsKept_8 : State := wired 4 fun s => (domainIn .rekeying (keyed s)).modKeys fun k => { k with scans := [(5, (100, 3))] }

/-- KeyUsageForcesRekeysAndCipherHealthIsKept, clause 9. -/
theorem witness_KeyUsageForcesRekeysAndCipherHealthIsKept_8 :
    state_KeyUsageForcesRekeysAndCipherHealthIsKept_8.dev.keys.scans.get? 5 = some (100, 3) ∧ state_KeyUsageForcesRekeysAndCipherHealthIsKept_8.dev.scanOver 5 = true := by decide

/-- For `witness_KeyUsageForcesRekeysAndCipherHealthIsKept_9`. -/
def state_KeyUsageForcesRekeysAndCipherHealthIsKept_9 : State := wired 4 keyed

/-- KeyUsageForcesRekeysAndCipherHealthIsKept, clause 10. -/
theorem witness_KeyUsageForcesRekeysAndCipherHealthIsKept_9 :
    state_KeyUsageForcesRekeysAndCipherHealthIsKept_9.dev.scanOver 0 = false := by decide

/-- KeyUsageForcesRekeysAndCipherHealthIsKept, clause 11. -/
theorem witness_KeyUsageForcesRekeysAndCipherHealthIsKept_10 :
    27 < 28 := by decide

/-- For `witness_KeyUsageForcesRekeysAndCipherHealthIsKept_11`. -/
def arg1_KeyUsageForcesRekeysAndCipherHealthIsKept_11 : Fld := .ENTROPY_STATUS_RCT_FAIL

/-- KeyUsageForcesRekeysAndCipherHealthIsKept, clause 12. -/
theorem witness_KeyUsageForcesRekeysAndCipherHealthIsKept_11 :
    (1, arg1_KeyUsageForcesRekeysAndCipherHealthIsKept_11) ∈ [(1, Fld.ENTROPY_STATUS_RCT_FAIL), (2, Fld.ENTROPY_STATUS_APT_FAIL)] := by decide

/-- For `witness_KeyUsageForcesRekeysAndCipherHealthIsKept_11b`. -/
def arg1_KeyUsageForcesRekeysAndCipherHealthIsKept_11b : Fld := .ENTROPY_STATUS_APT_FAIL

/-- KeyUsageForcesRekeysAndCipherHealthIsKept, clause 12. -/
theorem witness_KeyUsageForcesRekeysAndCipherHealthIsKept_11b :
    (2, arg1_KeyUsageForcesRekeysAndCipherHealthIsKept_11b) ∈ [(1, Fld.ENTROPY_STATUS_RCT_FAIL), (2, Fld.ENTROPY_STATUS_APT_FAIL)] := by decide

/-- For `witness_KeyUsageForcesRekeysAndCipherHealthIsKept_12`. -/
def state_KeyUsageForcesRekeysAndCipherHealthIsKept_12 : State := wired 4 fun s => (s.setL [(.CIPHER_STATUS_ENTROPY_FAIL, 1), (.ENTROPY_STATUS_RCT_FAIL, 1)])

/-- KeyUsageForcesRekeysAndCipherHealthIsKept, clause 13. -/
theorem witness_KeyUsageForcesRekeysAndCipherHealthIsKept_12 :
    state_KeyUsageForcesRekeysAndCipherHealthIsKept_12.dev.get Fld.CIPHER_STATUS_ENTROPY_FAIL = 1 ∧ state_KeyUsageForcesRekeysAndCipherHealthIsKept_12.dev.get Fld.ENTROPY_STATUS_RCT_FAIL = 1 ∧ state_KeyUsageForcesRekeysAndCipherHealthIsKept_12.dev.keys.draws < 2 ^ 20 := by decide

/-- For `witness_KeyUsageForcesRekeysAndCipherHealthIsKept_13`. -/
def state_KeyUsageForcesRekeysAndCipherHealthIsKept_13 : State := wired 4 fun s => (s.setL [(.CIPHER_STATUS_ENTROPY_FAIL, 1), (.ENTROPY_STATUS_RCT_FAIL, 1)]).set .CIPHER_STATUS_MASK_DEGRADED 1 |>.modKeys fun k => { k with draws := 2 ^ 20 }

/-- KeyUsageForcesRekeysAndCipherHealthIsKept, clause 14. -/
theorem witness_KeyUsageForcesRekeysAndCipherHealthIsKept_13 :
    state_KeyUsageForcesRekeysAndCipherHealthIsKept_13.dev.get Fld.CIPHER_STATUS_ENTROPY_FAIL = 1 ∧ state_KeyUsageForcesRekeysAndCipherHealthIsKept_13.dev.get Fld.ENTROPY_STATUS_RCT_FAIL = 1 ∧ 2 ^ 20 ≤ state_KeyUsageForcesRekeysAndCipherHealthIsKept_13.dev.keys.draws ∧ state_KeyUsageForcesRekeysAndCipherHealthIsKept_13.dev.get Fld.CIPHER_STATUS_MASK_DEGRADED = 1 := by decide

/-- For `witness_KeyUsageForcesRekeysAndCipherHealthIsKept_14`. -/
def state_KeyUsageForcesRekeysAndCipherHealthIsKept_14 : State := wired 4 id

/-- KeyUsageForcesRekeysAndCipherHealthIsKept, clause 15. -/
theorem witness_KeyUsageForcesRekeysAndCipherHealthIsKept_14 :
    state_KeyUsageForcesRekeysAndCipherHealthIsKept_14.dev.get Fld.CIPHER_STATUS_ENTROPY_FAIL = 0 := by decide

/-- For `witness_KeyUsageForcesRekeysAndCipherHealthIsKept_16`. -/
def state_KeyUsageForcesRekeysAndCipherHealthIsKept_16 : State := wired 4 fun s => (s.setL [(.CIPHER_STATUS_ENTROPY_FAIL, 1), (.ENTROPY_STATUS_RCT_FAIL, 1)])

/-- KeyUsageForcesRekeysAndCipherHealthIsKept, clause 17. -/
theorem witness_KeyUsageForcesRekeysAndCipherHealthIsKept_16 :
    state_KeyUsageForcesRekeysAndCipherHealthIsKept_16.dev.get Fld.CIPHER_STATUS_ENTROPY_FAIL = 1 ∧ state_KeyUsageForcesRekeysAndCipherHealthIsKept_16.dev.get Fld.CIPHER_STATUS_MASK_DEGRADED = 0 := by decide

/-- For `witness_KeyUsageForcesRekeysAndCipherHealthIsKept_17`. -/
def state_KeyUsageForcesRekeysAndCipherHealthIsKept_17 : State := wired 4 id

/-- KeyUsageForcesRekeysAndCipherHealthIsKept, clause 18. -/
theorem witness_KeyUsageForcesRekeysAndCipherHealthIsKept_17 :
    state_KeyUsageForcesRekeysAndCipherHealthIsKept_17.dev.get Fld.CIPHER_STATUS_ENTROPY_FAIL = 0 ∨ state_KeyUsageForcesRekeysAndCipherHealthIsKept_17.dev.get Fld.CIPHER_STATUS_MASK_DEGRADED = 1 := by decide

/-- For `witness_GalleyWritesArePlacedAndDrained_0`. -/
def state_GalleyWritesArePlacedAndDrained_0 : State := tiered .dirty (·.modGal fun g => { g with waiting := [wait0 320], entries := [(g.base 320, entry0 320)] })

/-- For `witness_GalleyWritesArePlacedAndDrained_0`. -/
def arg3_GalleyWritesArePlacedAndDrained_0 : GWait := wait0 320

/-- For `witness_GalleyWritesArePlacedAndDrained_0`. -/
def arg1_GalleyWritesArePlacedAndDrained_0 : GEntry := entry0 320

set_option maxRecDepth 8192 in
/-- GalleyWritesArePlacedAndDrained, clause 1. -/
theorem witness_GalleyWritesArePlacedAndDrained_0 :
    state_GalleyWritesArePlacedAndDrained_0.dev.twin.reports = [] ∧ state_GalleyWritesArePlacedAndDrained_0.dev.galleyNext = some arg3_GalleyWritesArePlacedAndDrained_0 ∧ state_GalleyWritesArePlacedAndDrained_0.dev.gal.find arg3_GalleyWritesArePlacedAndDrained_0.la = some ((wired 4 id).dev.gal.base 320, arg1_GalleyWritesArePlacedAndDrained_0) := by decide

/-- For `witness_GalleyWritesArePlacedAndDrained_1`. -/
def state_GalleyWritesArePlacedAndDrained_1 : State := tiered .dirty (·.modGal fun g => { g with waiting := [wait0 320] })

/-- For `witness_GalleyWritesArePlacedAndDrained_1`. -/
def arg2_GalleyWritesArePlacedAndDrained_1 : GWait := wait0 320

set_option maxRecDepth 8192 in
/-- GalleyWritesArePlacedAndDrained, clause 2. -/
theorem witness_GalleyWritesArePlacedAndDrained_1 :
    state_GalleyWritesArePlacedAndDrained_1.dev.twin.reports = [] ∧ state_GalleyWritesArePlacedAndDrained_1.dev.galleyNext = some arg2_GalleyWritesArePlacedAndDrained_1 ∧ state_GalleyWritesArePlacedAndDrained_1.dev.gal.find arg2_GalleyWritesArePlacedAndDrained_1.la = none ∧ state_GalleyWritesArePlacedAndDrained_1.dev.gal.freeKey arg2_GalleyWritesArePlacedAndDrained_1.la = some ((wired 4 id).dev.gal.base 320) := by decide

/-- For `witness_GalleyWritesArePlacedAndDrained_2`. -/
def state_GalleyWritesArePlacedAndDrained_2 : State := tiered .dirty id

/-- GalleyWritesArePlacedAndDrained, clause 3. -/
theorem witness_GalleyWritesArePlacedAndDrained_2 :
    state_GalleyWritesArePlacedAndDrained_2.dev.twin.reports = [] ∧ state_GalleyWritesArePlacedAndDrained_2.dev.galleyNext = none := by decide

/-- For `witness_GalleyWritesArePlacedAndDrained_4`. -/
def state_GalleyWritesArePlacedAndDrained_4 : State := tiered .dirty (·.modGal fun g => { g with entries := [(g.base 320, entry0 320)] })

/-- For `witness_GalleyWritesArePlacedAndDrained_4`. -/
def arg2_GalleyWritesArePlacedAndDrained_4 : GEntry := entry0 320

set_option maxRecDepth 8192 in
/-- GalleyWritesArePlacedAndDrained, clause 5. -/
theorem witness_GalleyWritesArePlacedAndDrained_4 :
    state_GalleyWritesArePlacedAndDrained_4.dev.drainable ((wired 4 id).dev.gal.base 320 / 8192) = [((wired 4 id).dev.gal.base 320, arg2_GalleyWritesArePlacedAndDrained_4)] ∧ state_GalleyWritesArePlacedAndDrained_4.dev.groupHeld (arg2_GalleyWritesArePlacedAndDrained_4.la / 64) = false ∧ state_GalleyWritesArePlacedAndDrained_4.dev.drainable1 arg2_GalleyWritesArePlacedAndDrained_4.la = true := by decide

/-- For `witness_GalleyWritesArePlacedAndDrained_5`. -/
def state_GalleyWritesArePlacedAndDrained_5 : State := tiered .unwritten (·.modGal fun g => { g with entries := [(g.base 320, entry0 320)] })

/-- For `witness_GalleyWritesArePlacedAndDrained_5`. -/
def arg1_GalleyWritesArePlacedAndDrained_5 : GEntry := entry0 320

set_option maxRecDepth 8192 in
/-- GalleyWritesArePlacedAndDrained, clause 6. -/
theorem witness_GalleyWritesArePlacedAndDrained_5 :
    state_GalleyWritesArePlacedAndDrained_5.dev.drainable ((wired 4 id).dev.gal.base 320 / 8192) = [((wired 4 id).dev.gal.base 320, arg1_GalleyWritesArePlacedAndDrained_5)] ∧ state_GalleyWritesArePlacedAndDrained_5.dev.groupHeld (arg1_GalleyWritesArePlacedAndDrained_5.la / 64) = false ∧ state_GalleyWritesArePlacedAndDrained_5.dev.drainable1 arg1_GalleyWritesArePlacedAndDrained_5.la = false ∧ state_GalleyWritesArePlacedAndDrained_5.dev.tier.latches.get? (arg1_GalleyWritesArePlacedAndDrained_5.la / 64) = none := by decide

/-- For `witness_GalleyWritesArePlacedAndDrained_6`. -/
def state_GalleyWritesArePlacedAndDrained_6 : State := tiered .dirty id

/-- GalleyWritesArePlacedAndDrained, clause 7. -/
theorem witness_GalleyWritesArePlacedAndDrained_6 :
    state_GalleyWritesArePlacedAndDrained_6.dev.drainable 0 = [] := by decide

/-- For `witness_GalleyWritesArePlacedAndDrained_7f`. -/
def state_GalleyWritesArePlacedAndDrained_7f : State := tiered .clean (·.modGal fun g => { g with entries := [(g.base 320, { entry0 320 with snap := some (0xCD00, 2, false), redrain := false })] })

/-- For `witness_GalleyWritesArePlacedAndDrained_7f`. -/
def arg2_GalleyWritesArePlacedAndDrained_7f : GEntry := { entry0 320 with snap := some (0xCD00, 2, false), redrain := false }

set_option maxRecDepth 8192 in
/-- GalleyWritesArePlacedAndDrained, clause 8. -/
theorem witness_GalleyWritesArePlacedAndDrained_7f :
    state_GalleyWritesArePlacedAndDrained_7f.dev.gal.find 320 = some ((wired 4 id).dev.gal.base 320, arg2_GalleyWritesArePlacedAndDrained_7f) ∧ arg2_GalleyWritesArePlacedAndDrained_7f.snap = some (52480, 2, false) ∧ state_GalleyWritesArePlacedAndDrained_7f.dev.drainable1 320 = true := by decide

/-- For `witness_GalleyWritesArePlacedAndDrained_7t`. -/
def state_GalleyWritesArePlacedAndDrained_7t : State := tiered .clean (·.modGal fun g => { g with entries := [(g.base 320, { entry0 320 with snap := some (0xCD00, 2, false), redrain := true })] })

/-- For `witness_GalleyWritesArePlacedAndDrained_7t`. -/
def arg2_GalleyWritesArePlacedAndDrained_7t : GEntry := { entry0 320 with snap := some (0xCD00, 2, false), redrain := true }

set_option maxRecDepth 8192 in
/-- GalleyWritesArePlacedAndDrained, clause 8. -/
theorem witness_GalleyWritesArePlacedAndDrained_7t :
    state_GalleyWritesArePlacedAndDrained_7t.dev.gal.find 320 = some ((wired 4 id).dev.gal.base 320, arg2_GalleyWritesArePlacedAndDrained_7t) ∧ arg2_GalleyWritesArePlacedAndDrained_7t.snap = some (52480, 2, false) ∧ state_GalleyWritesArePlacedAndDrained_7t.dev.drainable1 320 = true := by decide

/-- For `witness_GalleyWritesArePlacedAndDrained_8`. -/
def state_GalleyWritesArePlacedAndDrained_8 : State := tiered .clean (·.modGal fun g => { g with entries := [(g.base 320, { entry0 320 with snap := some (0xCD00, 2, false), redrain := false })] })

/-- For `witness_GalleyWritesArePlacedAndDrained_8`. -/
def arg1_GalleyWritesArePlacedAndDrained_8 : GEntry := { entry0 320 with snap := some (0xCD00, 2, false), redrain := false }

set_option maxRecDepth 8192 in
/-- GalleyWritesArePlacedAndDrained, clause 9. -/
theorem witness_GalleyWritesArePlacedAndDrained_8 :
    state_GalleyWritesArePlacedAndDrained_8.dev.gal.find 320 = some ((wired 4 id).dev.gal.base 320, arg1_GalleyWritesArePlacedAndDrained_8) ∧ arg1_GalleyWritesArePlacedAndDrained_8.snap.isSome = true := by decide

/-- For `witness_GalleyWritesArePlacedAndDrained_9`. -/
def state_GalleyWritesArePlacedAndDrained_9 : State := tiered .clean id

/-- GalleyWritesArePlacedAndDrained, clause 10. -/
theorem witness_GalleyWritesArePlacedAndDrained_9 :
    state_GalleyWritesArePlacedAndDrained_9.dev.gal.find 320 = none := by decide

/-- For `witness_LineFillsAndMapPagesLoad_0`. -/
def state_LineFillsAndMapPagesLoad_0 : State := tiered .clean fun s => { s with lc := { s.lc with fills := [{ la := 9, data := 5, stamp := 3, stale := false }] } }

/-- For `witness_LineFillsAndMapPagesLoad_0`. -/
def arg1_LineFillsAndMapPagesLoad_0 : Fill := { la := 9, data := 5, stamp := 3, stale := false }

set_option maxRecDepth 8192 in
/-- LineFillsAndMapPagesLoad, clause 1. -/
theorem witness_LineFillsAndMapPagesLoad_0 :
    List.find? (fun x => x.la == 9) state_LineFillsAndMapPagesLoad_0.dev.lc.fills = some arg1_LineFillsAndMapPagesLoad_0 ∧ arg1_LineFillsAndMapPagesLoad_0.stale = false ∧ state_LineFillsAndMapPagesLoad_0.dev.lc.live (lcSet 9) = true ∧ state_LineFillsAndMapPagesLoad_0.dev.lc.hit 9 = none := by decide

/-- For `witness_LineFillsAndMapPagesLoad_1`. -/
def state_LineFillsAndMapPagesLoad_1 : State := tiered .clean fun s => { s with lc := { s.lc with fills := [{ la := 9, data := 5, stamp := 3, stale := true }] } }

/-- For `witness_LineFillsAndMapPagesLoad_1`. -/
def arg1_LineFillsAndMapPagesLoad_1 : Fill := { la := 9, data := 5, stamp := 3, stale := true }

set_option maxRecDepth 8192 in
/-- LineFillsAndMapPagesLoad, clause 2. -/
theorem witness_LineFillsAndMapPagesLoad_1 :
    List.find? (fun x => x.la == 9) state_LineFillsAndMapPagesLoad_1.dev.lc.fills = some arg1_LineFillsAndMapPagesLoad_1 ∧ arg1_LineFillsAndMapPagesLoad_1.stale = true := by decide

/-- For `witness_LineFillsAndMapPagesLoad_2`. -/
def state_LineFillsAndMapPagesLoad_2 : State := tiered .clean fun s => { s with lc := { s.lc with dead := 1, fills := [{ la := 9, data := 5, stamp := 3, stale := false }] } }

/-- For `witness_LineFillsAndMapPagesLoad_2`. -/
def arg1_LineFillsAndMapPagesLoad_2 : Fill := { la := 9, data := 5, stamp := 3, stale := false }

set_option maxRecDepth 8192 in
/-- LineFillsAndMapPagesLoad, clause 3. -/
theorem witness_LineFillsAndMapPagesLoad_2 :
    List.find? (fun x => x.la == 9) state_LineFillsAndMapPagesLoad_2.dev.lc.fills = some arg1_LineFillsAndMapPagesLoad_2 ∧ arg1_LineFillsAndMapPagesLoad_2.stale = false ∧ (state_LineFillsAndMapPagesLoad_2.dev.lc.live (lcSet 9) = false ∨ (state_LineFillsAndMapPagesLoad_2.dev.lc.hit 9).isSome = true) := by decide

/-- LineFillsAndMapPagesLoad, clause 4. -/
theorem witness_LineFillsAndMapPagesLoad_3 :
    LcSt.reset.freeWay (lcSet 9) = some 0 := by decide

/-- For `witness_LineFillsAndMapPagesLoad_4`. -/
def arg3_LineFillsAndMapPagesLoad_4 : LcSt := { LcSt.reset with ways := (List.range 16).map fun i => (lcSet 9 * 17 + i, { la := 100 + i, data := 0 }) }

/-- LineFillsAndMapPagesLoad, clause 5. -/
theorem witness_LineFillsAndMapPagesLoad_4 :
    arg3_LineFillsAndMapPagesLoad_4.freeWay (lcSet 9) = none := by decide

/-- For `witness_LineFillsAndMapPagesLoad_5`. -/
def state_LineFillsAndMapPagesLoad_5 : State := tiered .clean id

/-- LineFillsAndMapPagesLoad, clause 6. -/
theorem witness_LineFillsAndMapPagesLoad_5 :
    state_LineFillsAndMapPagesLoad_5.dev.reaches 659460 = true ∧ state_LineFillsAndMapPagesLoad_5.dev.inMode [mSOLO, mQUIESCED] = true := by decide

/-- For `witness_LineFillsAndMapPagesLoad_6`. -/
def state_LineFillsAndMapPagesLoad_6 : State := tiered .clean id

/-- LineFillsAndMapPagesLoad, clause 7. -/
theorem witness_LineFillsAndMapPagesLoad_6 :
    true = false ∨ 29 ≠ 28 ∨ state_LineFillsAndMapPagesLoad_6.dev.inMode [mSOLO, mQUIESCED] = false := by decide

/-- For `witness_MovesStartCommitAndFail_0`. -/
def state_MovesStartCommitAndFail_0 : State := tiered .lost id

set_option maxRecDepth 8192 in
/-- MovesStartCommitAndFail, clause 1. -/
theorem witness_MovesStartCommitAndFail_0 :
    ((state_MovesStartCommitAndFail_0.dev.tier.entry 5).state = FState.unwritten ∨ (state_MovesStartCommitAndFail_0.dev.tier.entry 5).state = FState.lost) ∧ state_MovesStartCommitAndFail_0.dev.modeOf ≠ mHOLDUP ∧ state_MovesStartCommitAndFail_0.dev.tier.latches.get? 5 = none ∧ state_MovesStartCommitAndFail_0.dev.freeStage = some 0 ∧ state_MovesStartCommitAndFail_0.dev.folioData 5 = some Folio.lost ∧ state_MovesStartCommitAndFail_0.dev.tier.latchFree = true := by decide

/-- For `witness_MovesStartCommitAndFail_0b`. -/
def state_MovesStartCommitAndFail_0b : State := tiered .unwritten id

/-- MovesStartCommitAndFail, clause 1. -/
theorem witness_MovesStartCommitAndFail_0b :
    ((state_MovesStartCommitAndFail_0b.dev.tier.entry 6).state = FState.unwritten ∨ (state_MovesStartCommitAndFail_0b.dev.tier.entry 6).state = FState.lost) ∧ state_MovesStartCommitAndFail_0b.dev.modeOf ≠ mHOLDUP ∧ state_MovesStartCommitAndFail_0b.dev.tier.latches.get? 6 = none ∧ state_MovesStartCommitAndFail_0b.dev.freeStage = some 0 ∧ state_MovesStartCommitAndFail_0b.dev.folioData 6 = some [] ∧ state_MovesStartCommitAndFail_0b.dev.tier.latchFree = true := by decide

/-- For `witness_MovesStartCommitAndFail_1`. -/
def state_MovesStartCommitAndFail_1 : State := tiered .dirty (·.modTier fun t => { t with asks := [(5, true)] })

set_option maxRecDepth 8192 in
/-- MovesStartCommitAndFail, clause 2. -/
theorem witness_MovesStartCommitAndFail_1 :
    state_MovesStartCommitAndFail_1.dev.modeOf = mSOLO ∧ state_MovesStartCommitAndFail_1.dev.twin.resync = none ∧ state_MovesStartCommitAndFail_1.dev.get Fld.TWIN_STATUS_FENCED = 0 ∧ state_MovesStartCommitAndFail_1.dev.deferrable = true ∧ (state_MovesStartCommitAndFail_1.dev.tier.entry 5).state = FState.dirty ∧ (state_MovesStartCommitAndFail_1.dev.tier.entry 5).t0 = false ∧ state_MovesStartCommitAndFail_1.dev.tier.asks.contains (5, true) = true ∧ state_MovesStartCommitAndFail_1.dev.tier.latches.get? 5 = none ∧ state_MovesStartCommitAndFail_1.dev.tier.latchFree = true ∧ state_MovesStartCommitAndFail_1.dev.freeWay true 5 = some 0 ∧ state_MovesStartCommitAndFail_1.dev.folioData 5 = some [(0, { data := 7, poison := false : LineVal })] := by decide

/-- For `witness_MovesStartCommitAndFail_2`. -/
def state_MovesStartCommitAndFail_2 : State := tiered .clean id

/-- MovesStartCommitAndFail, clause 3. -/
theorem witness_MovesStartCommitAndFail_2 :
    state_MovesStartCommitAndFail_2.dev.modeOf = mSOLO ∧ state_MovesStartCommitAndFail_2.dev.twin.resync = none ∧ state_MovesStartCommitAndFail_2.dev.get Fld.TWIN_STATUS_FENCED = 0 ∧ (state_MovesStartCommitAndFail_2.dev.tier.entry 5).state = FState.clean ∧ (state_MovesStartCommitAndFail_2.dev.tier.entry 5).t0 = false ∧ state_MovesStartCommitAndFail_2.dev.tier.latches.get? 5 = none ∧ state_MovesStartCommitAndFail_2.dev.tier.latchFree = true := by decide

/-- For `witness_MovesStartCommitAndFail_3`. -/
def state_MovesStartCommitAndFail_3 : State := tiered .dirty (·)

set_option maxRecDepth 8192 in
/-- MovesStartCommitAndFail, clause 4. -/
theorem witness_MovesStartCommitAndFail_3 :
    state_MovesStartCommitAndFail_3.dev.modeOf = mSOLO ∧ state_MovesStartCommitAndFail_3.dev.twin.resync = none ∧ state_MovesStartCommitAndFail_3.dev.get Fld.TWIN_STATUS_FENCED = 0 ∧ state_MovesStartCommitAndFail_3.dev.destageNext = some 5 ∧ state_MovesStartCommitAndFail_3.dev.groupHeld 5 = false ∧ (state_MovesStartCommitAndFail_3.dev.get Fld.FM_STATUS_WEAR_LIMITED = 0 ∨ 4096000 ≤ state_MovesStartCommitAndFail_3.dev.fm.credit) ∧ (state_MovesStartCommitAndFail_3.dev.tier.entry 5).dirty = true ∧ state_MovesStartCommitAndFail_3.dev.tier.latches.get? 5 = none ∧ state_MovesStartCommitAndFail_3.dev.tier.latchFree = true ∧ state_MovesStartCommitAndFail_3.dev.freeSlot = some 0 ∧ state_MovesStartCommitAndFail_3.dev.tier.resident 5 (state_MovesStartCommitAndFail_3.dev.tier.entry 5) = some [(0, { data := 7, poison := false : LineVal })] := by decide

/-- For `witness_MovesStartCommitAndFail_4`. -/
def state_MovesStartCommitAndFail_4 : State := at_ 3 id

/-- MovesStartCommitAndFail, clause 5. -/
theorem witness_MovesStartCommitAndFail_4 :
    state_MovesStartCommitAndFail_4.dev.modeOf = mRECOVERING := by decide

/-- For `witness_MovesStartCommitAndFail_7`. -/
def state_MovesStartCommitAndFail_7 : State := tiered .dirty fun s => (s.modTier fun t => { t with latches := [(5, { latch .destage .t2 with home := some 77, slot := some 0 })] }).modFm fun x => { x with slots := [(77, { index := 5, isMeta := false, epoch := 1, wseq := 4, data := [], band := 0, page := 0, member := 0, plane := 0, committed := true, source := none, lost := false })] }

/-- For `witness_MovesStartCommitAndFail_7`. -/
def arg4_MovesStartCommitAndFail_7 : Latch := { latch .destage .t2 with home := some 77, slot := some 0 }

/-- For `witness_MovesStartCommitAndFail_7`. -/
def arg2_MovesStartCommitAndFail_7 : T2Slot := { index := 5, isMeta := false, epoch := 1, wseq := 4, data := [], band := 0, page := 0, member := 0, plane := 0, committed := true, source := none, lost := false }

/-- MovesStartCommitAndFail, clause 8. -/
theorem witness_MovesStartCommitAndFail_7 :
    state_MovesStartCommitAndFail_7.dev.modeOf = mSOLO ∧ state_MovesStartCommitAndFail_7.dev.tier.latches.get? 5 = some arg4_MovesStartCommitAndFail_7 ∧ arg4_MovesStartCommitAndFail_7.kind = LatchKind.destage ∧ arg4_MovesStartCommitAndFail_7.home = some 77 ∧ arg4_MovesStartCommitAndFail_7.slot = some 0 ∧ state_MovesStartCommitAndFail_7.dev.fm.slots.get? 77 = some arg2_MovesStartCommitAndFail_7 ∧ arg2_MovesStartCommitAndFail_7.committed = true ∧ state_MovesStartCommitAndFail_7.dev.tier.waits = [] ∧ (state_MovesStartCommitAndFail_7.dev.tier.entry 5).state = FState.dirty ∧ state_MovesStartCommitAndFail_7.dev.tier.discards = [] := by decide

/-- For `witness_MovesStartCommitAndFail_9`. -/
def state_MovesStartCommitAndFail_9 : State := tiered .dirty (·.modTier fun t => { t with latches := [(5, latch .promote (.t0 1))] })

/-- For `witness_MovesStartCommitAndFail_9`. -/
def arg1_MovesStartCommitAndFail_9 : Latch := latch .promote (.t0 1)

/-- MovesStartCommitAndFail, clause 10. -/
theorem witness_MovesStartCommitAndFail_9 :
    state_MovesStartCommitAndFail_9.dev.tier.latches.get? 5 = some arg1_MovesStartCommitAndFail_9 ∧ arg1_MovesStartCommitAndFail_9.home = none ∧ arg1_MovesStartCommitAndFail_9.slot = none ∧ state_MovesStartCommitAndFail_9.dev.tier.waits = [] ∧ state_MovesStartCommitAndFail_9.dev.tier.discards = [] := by decide

/-- For `witness_LineFillsAndMapPagesLoad_7`. -/
def state_LineFillsAndMapPagesLoad_7 : State := tiered .clean (·.modTier fun t => { t with rootMs := some 0, demand := [3] })

/-- LineFillsAndMapPagesLoad, clause 8. -/
theorem witness_LineFillsAndMapPagesLoad_7 :
    state_LineFillsAndMapPagesLoad_7.dev.tier.rootMs = some 0 ∧ state_LineFillsAndMapPagesLoad_7.dev.get Fld.TIER_STATUS_MAP_WARM = 0 ∧ state_LineFillsAndMapPagesLoad_7.dev.tier.lostUnits = [] := by decide

/-- For `witness_LineFillsAndMapPagesLoad_7b`. -/
def state_LineFillsAndMapPagesLoad_7b : State := tiered .clean (·.modTier fun t => { t with rootMs := some 0, dirLoaded := 1024, mapLoaded := 524285 })

/-- LineFillsAndMapPagesLoad, clause 8. -/
theorem witness_LineFillsAndMapPagesLoad_7b :
    state_LineFillsAndMapPagesLoad_7b.dev.tier.rootMs = some 0 ∧ state_LineFillsAndMapPagesLoad_7b.dev.get Fld.TIER_STATUS_MAP_WARM = 0 ∧ state_LineFillsAndMapPagesLoad_7b.dev.tier.lostUnits = [] := by decide

/-- For `witness_LineFillsAndMapPagesLoad_8`. -/
def state_LineFillsAndMapPagesLoad_8 : State := tiered .clean id

/-- LineFillsAndMapPagesLoad, clause 9. -/
theorem witness_LineFillsAndMapPagesLoad_8 :
    (state_LineFillsAndMapPagesLoad_8.dev.tier.rootMs = none ∨ state_LineFillsAndMapPagesLoad_8.dev.get Fld.TIER_STATUS_MAP_WARM = 1) ∧ (state_LineFillsAndMapPagesLoad_8.dev.tier.lostUnits = [] ∨ state_LineFillsAndMapPagesLoad_8.dev.mapPages ≤ state_LineFillsAndMapPagesLoad_8.dev.tier.rebuildAt) := by decide

/-- For `witness_MovesStartCommitAndFail_5`. -/
def state_MovesStartCommitAndFail_5 : State := tiered .unwritten (·.modTier fun t => { t with latches := [(5, latch .stage (.stageFrame 2))] })

/-- For `witness_MovesStartCommitAndFail_5`. -/
def arg2_MovesStartCommitAndFail_5 : Latch := latch .stage (.stageFrame 2)

/-- MovesStartCommitAndFail, clause 6. -/
theorem witness_MovesStartCommitAndFail_5 :
    state_MovesStartCommitAndFail_5.dev.modeOf = mSOLO ∧ state_MovesStartCommitAndFail_5.dev.tier.latches.get? 5 = some arg2_MovesStartCommitAndFail_5 ∧ arg2_MovesStartCommitAndFail_5.home = none ∧ arg2_MovesStartCommitAndFail_5.slot = none ∧ state_MovesStartCommitAndFail_5.dev.tier.waits = [] ∧ state_MovesStartCommitAndFail_5.dev.tier.discards = [] ∧ arg2_MovesStartCommitAndFail_5.kind = LatchKind.stage ∧ arg2_MovesStartCommitAndFail_5.dest = Dest.stageFrame 2 := by decide

/-- For `witness_MovesStartCommitAndFail_6`. -/
def state_MovesStartCommitAndFail_6 : State := tiered .staged (·.modTier fun t => { t with latches := [(5, latch .promote (.t1 2))] })

/-- For `witness_MovesStartCommitAndFail_6`. -/
def arg2_MovesStartCommitAndFail_6 : Latch := latch .promote (.t1 2)

/-- MovesStartCommitAndFail, clause 7. -/
theorem witness_MovesStartCommitAndFail_6 :
    state_MovesStartCommitAndFail_6.dev.modeOf = mSOLO ∧ state_MovesStartCommitAndFail_6.dev.tier.latches.get? 5 = some arg2_MovesStartCommitAndFail_6 ∧ arg2_MovesStartCommitAndFail_6.home = none ∧ arg2_MovesStartCommitAndFail_6.slot = none ∧ state_MovesStartCommitAndFail_6.dev.tier.waits = [] ∧ state_MovesStartCommitAndFail_6.dev.tier.discards = [] ∧ arg2_MovesStartCommitAndFail_6.kind = LatchKind.promote ∧ arg2_MovesStartCommitAndFail_6.dest = Dest.t1 2 := by decide

/-- For `witness_GalleyWritesArePlacedAndDrained_3`. -/
def state_GalleyWritesArePlacedAndDrained_3 : State := wired 6 (·.modTwin fun x => { x with reports := [(4, 9, 1)] })

set_option maxRecDepth 8192 in
/-- GalleyWritesArePlacedAndDrained, clause 4. -/
theorem witness_GalleyWritesArePlacedAndDrained_3 :
    state_GalleyWritesArePlacedAndDrained_3.dev.follower = true ∧ state_GalleyWritesArePlacedAndDrained_3.dev.twin.reports = [(4, 9, 1)] ∧ state_GalleyWritesArePlacedAndDrained_3.dev.galleyNext = none ∧ (state_GalleyWritesArePlacedAndDrained_3.dev.gal.waiting.any fun x => !x.evac && decide (x.stamp ≤ 9)) = false := by decide

/-- For `witness_LineFillsAndMapPagesLoad_9`. -/
def state_LineFillsAndMapPagesLoad_9 : State := tiered .clean (·.modTier fun t => { t with lostUnits := [0x0200], mapFrames := [(0, 3)] })

/-- LineFillsAndMapPagesLoad, clause 10. -/
theorem witness_LineFillsAndMapPagesLoad_9 :
    (state_LineFillsAndMapPagesLoad_9.dev.tier.rootMs = none ∨ state_LineFillsAndMapPagesLoad_9.dev.get Fld.TIER_STATUS_MAP_WARM = 1) ∧ state_LineFillsAndMapPagesLoad_9.dev.tier.lostUnits ≠ [] ∧ state_LineFillsAndMapPagesLoad_9.dev.tier.rebuildAt < state_LineFillsAndMapPagesLoad_9.dev.mapPages ∧ state_LineFillsAndMapPagesLoad_9.dev.mapPageLost state_LineFillsAndMapPagesLoad_9.dev.tier.rebuildAt = false := by decide

/-- LineFillsAndMapPagesLoad, clause 11. -/
theorem witness_LineFillsAndMapPagesLoad_10 :
    (halved.dev.tier.rootMs = none ∨ halved.dev.get Fld.TIER_STATUS_MAP_WARM = 1) ∧ halved.dev.tier.lostUnits ≠ [] ∧ halved.dev.mapPageLost halved.dev.tier.rebuildAt = true ∧ halved.dev.freeWay false halved.dev.tier.rebuildAt = some 0 := by decide

/-- For `witness_MovesStartCommitAndFail_8`. -/
def state_MovesStartCommitAndFail_8 : State := tiered .dirty fun s => (s.modTier fun t => { t with latches := [(5, { latch .destage .t2 with home := some 77, slot := some 0 })] })

/-- For `witness_MovesStartCommitAndFail_8`. -/
def arg2_MovesStartCommitAndFail_8 : Latch := { latch .destage .t2 with home := some 77, slot := some 0 }

/-- MovesStartCommitAndFail, clause 9. -/
theorem witness_MovesStartCommitAndFail_8 :
    state_MovesStartCommitAndFail_8.dev.tier.latches.get? 5 = some arg2_MovesStartCommitAndFail_8 ∧ arg2_MovesStartCommitAndFail_8.home = some 77 ∧ state_MovesStartCommitAndFail_8.dev.fm.slots.get? 77 = none ∧ state_MovesStartCommitAndFail_8.dev.tier.waits = [] := by decide

/-- For `witness_MovesStartCommitAndFail_10`. -/
def state_MovesStartCommitAndFail_10 : State := tiered .dirty id

/-- MovesStartCommitAndFail, clause 11. -/
theorem witness_MovesStartCommitAndFail_10 :
    state_MovesStartCommitAndFail_10.dev.tier.latches.get? 5 = none ∧ state_MovesStartCommitAndFail_10.dev.tier.waits = [] := by decide

/-- For `witness_MovesStartCommitAndFail_11`. -/
def state_MovesStartCommitAndFail_11 : State := tiered .home (·.modTier fun t => { t with latches := [(5, latch .stage (.stageFrame 2))], discards := [5] })

/-- For `witness_MovesStartCommitAndFail_11`. -/
def arg1_MovesStartCommitAndFail_11 : Latch := latch .stage (.stageFrame 2)

/-- MovesStartCommitAndFail, clause 12. -/
theorem witness_MovesStartCommitAndFail_11 :
    state_MovesStartCommitAndFail_11.dev.tier.latches.get? 5 = some arg1_MovesStartCommitAndFail_11 ∧ arg1_MovesStartCommitAndFail_11.home = none ∧ arg1_MovesStartCommitAndFail_11.slot = none ∧ arg1_MovesStartCommitAndFail_11.kind = LatchKind.stage ∧ state_MovesStartCommitAndFail_11.dev.tier.waits = [] ∧ state_MovesStartCommitAndFail_11.dev.tier.discards = [5] := by decide

/-- For `witness_MemoryRecoversParityReadsAndTemperatures_2`. -/
def state_MemoryRecoversParityReadsAndTemperatures_2 : State := wired 4 (·.modMem fun m => { m with gates := [(17, { lost := [5, 6], refreshes := 2 })] })

/-- For `witness_MemoryRecoversParityReadsAndTemperatures_2`. -/
def arg1_MemoryRecoversParityReadsAndTemperatures_2 : Gate := { lost := [5, 6], refreshes := 2 }

/-- MemoryRecoversParityReadsAndTemperatures, clause 3. -/
theorem witness_MemoryRecoversParityReadsAndTemperatures_2 :
    state_MemoryRecoversParityReadsAndTemperatures_2.dev.mem.gates.get? 17 = some arg1_MemoryRecoversParityReadsAndTemperatures_2 := by decide

/-- For `witness_MemoryRecoversParityReadsAndTemperatures_3`. -/
def state_MemoryRecoversParityReadsAndTemperatures_3 : State := wired 4 id

/-- MemoryRecoversParityReadsAndTemperatures, clause 4. -/
theorem witness_MemoryRecoversParityReadsAndTemperatures_3 :
    state_MemoryRecoversParityReadsAndTemperatures_3.dev.mem.gates.get? 17 = none := by decide

/-- For `witness_MemoryRecoversParityReadsAndTemperatures_4`. -/
def state_MemoryRecoversParityReadsAndTemperatures_4 : State := tiered .dirty (·.modMem fun m => { m with rereads := [{ unit := 0x0102, bank := 3, row := 77, line := some 320, newer := false, injected := false, found := (3, 4), tick := 9, sub := 1, req := none }] })

/-- For `witness_MemoryRecoversParityReadsAndTemperatures_4`. -/
def arg1_MemoryRecoversParityReadsAndTemperatures_4 : Reread := { unit := 0x0102, bank := 3, row := 77, line := some 320, newer := false, injected := false, found := (3, 4), tick := 9, sub := 1, req := none }

/-- MemoryRecoversParityReadsAndTemperatures, clause 5. -/
theorem witness_MemoryRecoversParityReadsAndTemperatures_4 :
    List.find? (fun r => r.unit == 258 && r.bank == 3 && r.row == 77) state_MemoryRecoversParityReadsAndTemperatures_4.dev.mem.rereads = some arg1_MemoryRecoversParityReadsAndTemperatures_4 := by decide

/-- For `witness_MemoryRecoversParityReadsAndTemperatures_5`. -/
def state_MemoryRecoversParityReadsAndTemperatures_5 : State := tiered .dirty (·.modMem fun m => { m with rereads := [{ unit := 0x0102, bank := 3, row := 77, line := some 320, newer := false, injected := false, found := (3, 4), tick := 9, sub := 1, req := none }] })

/-- For `witness_MemoryRecoversParityReadsAndTemperatures_5`. -/
def arg2_MemoryRecoversParityReadsAndTemperatures_5 : Reread := { unit := 0x0102, bank := 3, row := 77, line := some 320, newer := false, injected := false, found := (3, 4), tick := 9, sub := 1, req := none }

/-- MemoryRecoversParityReadsAndTemperatures, clause 6. -/
theorem witness_MemoryRecoversParityReadsAndTemperatures_5 :
    List.find? (fun r => r.unit == 258 && r.bank == 3 && r.row == 77) state_MemoryRecoversParityReadsAndTemperatures_5.dev.mem.rereads = some arg2_MemoryRecoversParityReadsAndTemperatures_5 ∧ arg2_MemoryRecoversParityReadsAndTemperatures_5.line = some 320 ∧ arg2_MemoryRecoversParityReadsAndTemperatures_5.newer = false := by decide

/-- For `witness_MemoryRecoversParityReadsAndTemperatures_7`. -/
def state_MemoryRecoversParityReadsAndTemperatures_7 : State := wired 4 (·.setL [(.MEM_CFG_ENABLED 9, 1), (.MEM_TEMP_REF_TEMP 9, 85)])

/-- MemoryRecoversParityReadsAndTemperatures, clause 8. -/
theorem witness_MemoryRecoversParityReadsAndTemperatures_7 :
    9 < 24 ∧ state_MemoryRecoversParityReadsAndTemperatures_7.dev.get (Fld.MEM_CFG_ENABLED 9) = 1 ∧ state_MemoryRecoversParityReadsAndTemperatures_7.dev.tempArrives 9 = true ∧ 85 ≤ state_MemoryRecoversParityReadsAndTemperatures_7.dev.get (Fld.MEM_TEMP_REF_TEMP 9) := by decide

/-- For `witness_MemoryRecoversParityReadsAndTemperatures_8`. -/
def state_MemoryRecoversParityReadsAndTemperatures_8 : State := wired 4 (·.setL [(.MEM_CFG_ENABLED 9, 1), (.MEM_TEMP_REF_TEMP 9, 85)])

/-- MemoryRecoversParityReadsAndTemperatures, clause 9. -/
theorem witness_MemoryRecoversParityReadsAndTemperatures_8 :
    9 < 24 ∧ state_MemoryRecoversParityReadsAndTemperatures_8.dev.get (Fld.MEM_CFG_ENABLED 9) = 1 ∧ state_MemoryRecoversParityReadsAndTemperatures_8.dev.tempArrives 9 = true ∧ state_MemoryRecoversParityReadsAndTemperatures_8.dev.get (Fld.MEM_TEMP_REF_TEMP 9) < 86 ∧ 86 < 256 := by decide

/-- For `witness_MemoryRecoversParityReadsAndTemperatures_9`. -/
def state_MemoryRecoversParityReadsAndTemperatures_9 : State := wired 4 (·.setL [(.MEM_CFG_ENABLED 9, 1), (.MEM_TEMP_REF_TEMP 9, 85)])

/-- MemoryRecoversParityReadsAndTemperatures, clause 10. -/
theorem witness_MemoryRecoversParityReadsAndTemperatures_9 :
    9 < 24 ∧ state_MemoryRecoversParityReadsAndTemperatures_9.dev.get (Fld.MEM_CFG_ENABLED 9) = 1 := by decide

/-- For `witness_MemoryRecoversParityReadsAndTemperatures_12`. -/
def state_MemoryRecoversParityReadsAndTemperatures_12 : State := wired 4 id

/-- MemoryRecoversParityReadsAndTemperatures, clause 13. -/
theorem witness_MemoryRecoversParityReadsAndTemperatures_12 :
    state_MemoryRecoversParityReadsAndTemperatures_12.dev.get (Fld.MEM_CFG_ENABLED 8) = 0 := by decide

/-- For `witness_MemoryRecoversParityReadsAndTemperatures_6`. -/
def state_MemoryRecoversParityReadsAndTemperatures_6 : State := wired 4 id

/-- MemoryRecoversParityReadsAndTemperatures, clause 7. -/
theorem witness_MemoryRecoversParityReadsAndTemperatures_6 :
    List.find? (fun r => r.unit == 258 && r.bank == 3 && r.row == 77) state_MemoryRecoversParityReadsAndTemperatures_6.dev.mem.rereads = none := by decide

/-- For `witness_MemoryRecoversParityReadsAndTemperatures_10`. -/
def state_MemoryRecoversParityReadsAndTemperatures_10 : State := wired 4 fun s => s.setL ((.MEM_CFG_ENABLED 1, 1) :: (List.range 16).map fun k => (.SB_SLOT_CHK_CHECK k, 0))

/-- MemoryRecoversParityReadsAndTemperatures, clause 11. -/
theorem witness_MemoryRecoversParityReadsAndTemperatures_10 :
    1 < 8 ∧ ∀ (k : Nat), k < 16 → state_MemoryRecoversParityReadsAndTemperatures_10.dev.sbAgrees k = false := by decide

/-- MemoryRecoversParityReadsAndTemperatures, clause 12. -/
theorem witness_MemoryRecoversParityReadsAndTemperatures_11 :
    8 ≤ 9 := by decide

/-- For `witness_MemoryRecoversParityReadsAndTemperatures_7d`. -/
def state_MemoryRecoversParityReadsAndTemperatures_7d : State := wired 4 (·.setL [(.MEM_CFG_ENABLED 2, 1), (.MEM_CFG_DPC 2, 1), (.MEM_TEMP_REF_TEMP 2, 85), (.SB_SLOT_CHK_CHECK 4, 0xFFFFFFFB)])

/-- MemoryRecoversParityReadsAndTemperatures, clause 8. -/
theorem witness_MemoryRecoversParityReadsAndTemperatures_7d :
    2 < 24 ∧ state_MemoryRecoversParityReadsAndTemperatures_7d.dev.get (Fld.MEM_CFG_ENABLED 2) = 1 ∧ state_MemoryRecoversParityReadsAndTemperatures_7d.dev.tempArrives 2 = true ∧ 85 ≤ state_MemoryRecoversParityReadsAndTemperatures_7d.dev.get (Fld.MEM_TEMP_REF_TEMP 2) := by decide

/-- For `witness_SlotsCommitRelocatePadAndFail_0`. -/
def state_SlotsCommitRelocatePadAndFail_0 : State := flashy .dirty ({ band0 with done := ready }) slot0 id

/-- For `witness_SlotsCommitRelocatePadAndFail_0`. -/
def arg1_SlotsCommitRelocatePadAndFail_0 : Band := { band0 with done := ready }

/-- SlotsCommitRelocatePadAndFail, clause 1. -/
theorem witness_SlotsCommitRelocatePadAndFail_0 :
    state_SlotsCommitRelocatePadAndFail_0.dev.fm.slots.get? home0 = some slot0 ∧ state_SlotsCommitRelocatePadAndFail_0.dev.fm.bands.get? slot0.band = some arg1_SlotsCommitRelocatePadAndFail_0 ∧ state_SlotsCommitRelocatePadAndFail_0.dev.fm.slotReady arg1_SlotsCommitRelocatePadAndFail_0 slot0 = true ∧ slot0.committed = false ∧ slot0.source = none ∧ slot0.isMeta = false ∧ arg1_SlotsCommitRelocatePadAndFail_0.stream ≠ some Stream.vigil := by decide

/-- For `witness_SlotsCommitRelocatePadAndFail_1`. -/
def state_SlotsCommitRelocatePadAndFail_1 : State := flashy .dirty ({ band0 with done := ready, stream := some .vigil, slc := true }) slot0 id

/-- For `witness_SlotsCommitRelocatePadAndFail_1`. -/
def arg1_SlotsCommitRelocatePadAndFail_1 : Band := { band0 with done := ready, stream := some .vigil, slc := true }

/-- SlotsCommitRelocatePadAndFail, clause 2. -/
theorem witness_SlotsCommitRelocatePadAndFail_1 :
    state_SlotsCommitRelocatePadAndFail_1.dev.fm.slots.get? home0 = some slot0 ∧ state_SlotsCommitRelocatePadAndFail_1.dev.fm.bands.get? slot0.band = some arg1_SlotsCommitRelocatePadAndFail_1 ∧ state_SlotsCommitRelocatePadAndFail_1.dev.fm.slotReady arg1_SlotsCommitRelocatePadAndFail_1 slot0 = true ∧ slot0.committed = false ∧ slot0.source = none ∧ slot0.isMeta = false ∧ arg1_SlotsCommitRelocatePadAndFail_1.stream = some Stream.vigil ∧ (state_SlotsCommitRelocatePadAndFail_1.dev.tier.entry slot0.index).dirty = true := by decide

/-- For `witness_SlotsCommitRelocatePadAndFail_2`. -/
def state_SlotsCommitRelocatePadAndFail_2 : State := flashy .dirty band0 slot0 id

/-- SlotsCommitRelocatePadAndFail, clause 3. -/
theorem witness_SlotsCommitRelocatePadAndFail_2 :
    state_SlotsCommitRelocatePadAndFail_2.dev.fm.slots.get? home0 = some slot0 ∧ state_SlotsCommitRelocatePadAndFail_2.dev.fm.bands.get? slot0.band = some band0 ∧ state_SlotsCommitRelocatePadAndFail_2.dev.fm.slotReady band0 slot0 = false := by decide

/-- For `witness_SlotsCommitRelocatePadAndFail_3`. -/
def state_SlotsCommitRelocatePadAndFail_3 : State := flashy .home ({ band0 with done := ready }) ({ slot0 with source := some 77 }) (·.modTier fun t => { t with map := [(5, { state := .home, t0 := false, loc := 0, home := some 77 })] })

/-- For `witness_SlotsCommitRelocatePadAndFail_3`. -/
def arg3_SlotsCommitRelocatePadAndFail_3 : T2Slot := { slot0 with source := some 77 }

/-- For `witness_SlotsCommitRelocatePadAndFail_3`. -/
def arg2_SlotsCommitRelocatePadAndFail_3 : Band := { band0 with done := ready }

/-- SlotsCommitRelocatePadAndFail, clause 4. -/
theorem witness_SlotsCommitRelocatePadAndFail_3 :
    state_SlotsCommitRelocatePadAndFail_3.dev.fm.slots.get? home0 = some arg3_SlotsCommitRelocatePadAndFail_3 ∧ state_SlotsCommitRelocatePadAndFail_3.dev.fm.bands.get? arg3_SlotsCommitRelocatePadAndFail_3.band = some arg2_SlotsCommitRelocatePadAndFail_3 ∧ state_SlotsCommitRelocatePadAndFail_3.dev.fm.slotReady arg2_SlotsCommitRelocatePadAndFail_3 arg3_SlotsCommitRelocatePadAndFail_3 = true ∧ arg3_SlotsCommitRelocatePadAndFail_3.committed = false ∧ arg3_SlotsCommitRelocatePadAndFail_3.source = some 77 ∧ arg3_SlotsCommitRelocatePadAndFail_3.isMeta = false := by decide

/-- For `witness_SlotsCommitRelocatePadAndFail_3stale`. -/
def state_SlotsCommitRelocatePadAndFail_3stale : State := flashy .dirty ({ band0 with done := ready }) ({ slot0 with source := some 77 }) id

/-- For `witness_SlotsCommitRelocatePadAndFail_3stale`. -/
def arg3_SlotsCommitRelocatePadAndFail_3stale : T2Slot := { slot0 with source := some 77 }

/-- For `witness_SlotsCommitRelocatePadAndFail_3stale`. -/
def arg2_SlotsCommitRelocatePadAndFail_3stale : Band := { band0 with done := ready }

/-- SlotsCommitRelocatePadAndFail, clause 4. -/
theorem witness_SlotsCommitRelocatePadAndFail_3stale :
    state_SlotsCommitRelocatePadAndFail_3stale.dev.fm.slots.get? home0 = some arg3_SlotsCommitRelocatePadAndFail_3stale ∧ state_SlotsCommitRelocatePadAndFail_3stale.dev.fm.bands.get? arg3_SlotsCommitRelocatePadAndFail_3stale.band = some arg2_SlotsCommitRelocatePadAndFail_3stale ∧ state_SlotsCommitRelocatePadAndFail_3stale.dev.fm.slotReady arg2_SlotsCommitRelocatePadAndFail_3stale arg3_SlotsCommitRelocatePadAndFail_3stale = true ∧ arg3_SlotsCommitRelocatePadAndFail_3stale.committed = false ∧ arg3_SlotsCommitRelocatePadAndFail_3stale.source = some 77 ∧ arg3_SlotsCommitRelocatePadAndFail_3stale.isMeta = false := by decide

/-- For `witness_SlotsCommitRelocatePadAndFail_4`. -/
def state_SlotsCommitRelocatePadAndFail_4 : State := flashy .dirty ({ band0 with state := .open_ }) slot0 id

/-- For `witness_SlotsCommitRelocatePadAndFail_4`. -/
def arg1_SlotsCommitRelocatePadAndFail_4 : Band := { band0 with state := .open_ }

/-- SlotsCommitRelocatePadAndFail, clause 5. -/
theorem witness_SlotsCommitRelocatePadAndFail_4 :
    state_SlotsCommitRelocatePadAndFail_4.dev.fm.bands.get? 2 = some arg1_SlotsCommitRelocatePadAndFail_4 ∧ arg1_SlotsCommitRelocatePadAndFail_4.state = BState.open_ ∧ arg1_SlotsCommitRelocatePadAndFail_4.placed % state_SlotsCommitRelocatePadAndFail_4.dev.fm.pageSlots arg1_SlotsCommitRelocatePadAndFail_4 ≠ 0 ∧ state_SlotsCommitRelocatePadAndFail_4.dev.fm.pageSlots arg1_SlotsCommitRelocatePadAndFail_4 ≠ 0 := by decide

/-- For `witness_SlotsCommitRelocatePadAndFail_5`. -/
def state_SlotsCommitRelocatePadAndFail_5 : State := flashy .dirty band0 slot0 id

/-- SlotsCommitRelocatePadAndFail, clause 6. -/
theorem witness_SlotsCommitRelocatePadAndFail_5 :
    state_SlotsCommitRelocatePadAndFail_5.dev.fm.bands.get? 2 = some band0 ∧ (band0.state = BState.closed ∨ band0.placed % state_SlotsCommitRelocatePadAndFail_5.dev.fm.pageSlots band0 = 0) := by decide

/-- For `witness_SlotsCommitRelocatePadAndFail_6`. -/
def state_SlotsCommitRelocatePadAndFail_6 : State := flashy .dirty ({ band0 with state := .open_ }) slot0 (·.modNand fun n => { n with luns := [(32, { run := none, susp := none, wait := [(5, .program 2 1 1)] })] })

/-- For `witness_SlotsCommitRelocatePadAndFail_6`. -/
def arg2_SlotsCommitRelocatePadAndFail_6 : Band := { band0 with state := .open_ }

/-- For `witness_SlotsCommitRelocatePadAndFail_6`. -/
def arg1_SlotsCommitRelocatePadAndFail_6 : Member := ⟨32, [1]⟩

/-- SlotsCommitRelocatePadAndFail, clause 7. -/
theorem witness_SlotsCommitRelocatePadAndFail_6 :
    (state_SlotsCommitRelocatePadAndFail_6.dev.nand.lun 32).run = none ∧ (state_SlotsCommitRelocatePadAndFail_6.dev.nand.lun 32).susp = none ∧ List.find? (fun x => state_SlotsCommitRelocatePadAndFail_6.dev.mayStart 32 x) (state_SlotsCommitRelocatePadAndFail_6.dev.nand.lun 32).wait = some (5, NandJob.program 2 1 1) ∧ state_SlotsCommitRelocatePadAndFail_6.dev.fm.bands.get? 2 = some arg2_SlotsCommitRelocatePadAndFail_6 ∧ arg2_SlotsCommitRelocatePadAndFail_6.members[1]? = some arg1_SlotsCommitRelocatePadAndFail_6 ∧ (arg1_SlotsCommitRelocatePadAndFail_6.blocks.any fun x => !state_SlotsCommitRelocatePadAndFail_6.dev.fm.accepts arg1_SlotsCommitRelocatePadAndFail_6.lun x 1 arg2_SlotsCommitRelocatePadAndFail_6.slc) = true := by decide

/-- For `witness_SlotsCommitRelocatePadAndFail_7`. -/
def state_SlotsCommitRelocatePadAndFail_7 : State := flashy .dirty band0 slot0 id

/-- SlotsCommitRelocatePadAndFail, clause 8. -/
theorem witness_SlotsCommitRelocatePadAndFail_7 :
    (state_SlotsCommitRelocatePadAndFail_7.dev.nand.lun 32).wait = [] := by decide

/-- For `witness_SlotsCommitRelocatePadAndFail_8`. -/
def state_SlotsCommitRelocatePadAndFail_8 : State := flashy .dirty band0 ({ slot0 with committed := true }) id

/-- SlotsCommitRelocatePadAndFail, clause 9. -/
theorem witness_SlotsCommitRelocatePadAndFail_8 :
    state_SlotsCommitRelocatePadAndFail_8.dev.fm.luns.contains 32 = true ∧ state_SlotsCommitRelocatePadAndFail_8.dev.fm.failed.contains 32 = false := by decide

/-- For `witness_SlotsCommitRelocatePadAndFail_9`. -/
def state_SlotsCommitRelocatePadAndFail_9 : State := flashy .dirty band0 slot0 id

/-- SlotsCommitRelocatePadAndFail, clause 10. -/
theorem witness_SlotsCommitRelocatePadAndFail_9 :
    state_SlotsCommitRelocatePadAndFail_9.dev.fm.luns.contains 33 = false ∨ state_SlotsCommitRelocatePadAndFail_9.dev.fm.failed.contains 33 = true := by decide

/-- For `witness_BandsAreCollectedRefreshedGovernedAndPurged_0`. -/
def state_BandsAreCollectedRefreshedGovernedAndPurged_0 : State := flashy .dirty band0 slot0 fun s => (limits 2 4 s).modFm fun x => { x with bands := x.bands ++ [(3, { band0 with state := .free })] }

/-- For `witness_BandsAreCollectedRefreshedGovernedAndPurged_0`. -/
def arg2_BandsAreCollectedRefreshedGovernedAndPurged_0 : FlashPolicy := { forme0.flash with gcLow := 2, gcHigh := 4, readRefresh := 5, refreshDays := 5 }

/-- BandsAreCollectedRefreshedGovernedAndPurged, clause 1. -/
theorem witness_BandsAreCollectedRefreshedGovernedAndPurged_0 :
    state_BandsAreCollectedRefreshedGovernedAndPurged_0.dev.flashPolicy = some arg2_BandsAreCollectedRefreshedGovernedAndPurged_0 ∧ state_BandsAreCollectedRefreshedGovernedAndPurged_0.dev.fm.freeCount < arg2_BandsAreCollectedRefreshedGovernedAndPurged_0.gcLow ∧ arg2_BandsAreCollectedRefreshedGovernedAndPurged_0.gcLow / 2 ≤ state_BandsAreCollectedRefreshedGovernedAndPurged_0.dev.fm.freeCount ∧ state_BandsAreCollectedRefreshedGovernedAndPurged_0.dev.gcVictim = some 2 := by decide

/-- For `witness_BandsAreCollectedRefreshedGovernedAndPurged_1`. -/
def state_BandsAreCollectedRefreshedGovernedAndPurged_1 : State := flashy .dirty band0 slot0 fun s => (limits 1 1 s).modFm fun x => { x with gc := true, bands := x.bands ++ [(3, { band0 with state := .free })] }

/-- For `witness_BandsAreCollectedRefreshedGovernedAndPurged_1`. -/
def arg1_BandsAreCollectedRefreshedGovernedAndPurged_1 : FlashPolicy := { forme0.flash with gcLow := 1, gcHigh := 1, readRefresh := 5, refreshDays := 5 }

/-- BandsAreCollectedRefreshedGovernedAndPurged, clause 2. -/
theorem witness_BandsAreCollectedRefreshedGovernedAndPurged_1 :
    state_BandsAreCollectedRefreshedGovernedAndPurged_1.dev.flashPolicy = some arg1_BandsAreCollectedRefreshedGovernedAndPurged_1 ∧ arg1_BandsAreCollectedRefreshedGovernedAndPurged_1.gcHigh ≤ state_BandsAreCollectedRefreshedGovernedAndPurged_1.dev.fm.freeCount ∧ arg1_BandsAreCollectedRefreshedGovernedAndPurged_1.gcLow ≤ state_BandsAreCollectedRefreshedGovernedAndPurged_1.dev.fm.freeCount := by decide

/-- For `witness_BandsAreCollectedRefreshedGovernedAndPurged_2`. -/
def state_BandsAreCollectedRefreshedGovernedAndPurged_2 : State := flashy .dirty ({ band0 with finalStep := true }) slot0 (limits 1 1)

/-- For `witness_BandsAreCollectedRefreshedGovernedAndPurged_2`. -/
def arg2_BandsAreCollectedRefreshedGovernedAndPurged_2 : Band := { band0 with finalStep := true }

/-- For `witness_BandsAreCollectedRefreshedGovernedAndPurged_2`. -/
def arg1_BandsAreCollectedRefreshedGovernedAndPurged_2 : FlashPolicy := { forme0.flash with gcLow := 1, gcHigh := 1, readRefresh := 5, refreshDays := 5 }

/-- BandsAreCollectedRefreshedGovernedAndPurged, clause 3. -/
theorem witness_BandsAreCollectedRefreshedGovernedAndPurged_2 :
    state_BandsAreCollectedRefreshedGovernedAndPurged_2.dev.flashPolicy = some arg1_BandsAreCollectedRefreshedGovernedAndPurged_2 ∧ state_BandsAreCollectedRefreshedGovernedAndPurged_2.dev.fm.bands.get? 2 = some arg2_BandsAreCollectedRefreshedGovernedAndPurged_2 ∧ arg2_BandsAreCollectedRefreshedGovernedAndPurged_2.state = BState.closed ∧ state_BandsAreCollectedRefreshedGovernedAndPurged_2.dev.refreshDue arg1_BandsAreCollectedRefreshedGovernedAndPurged_2 arg2_BandsAreCollectedRefreshedGovernedAndPurged_2 = true := by decide

/-- For `witness_BandsAreCollectedRefreshedGovernedAndPurged_3`. -/
def state_BandsAreCollectedRefreshedGovernedAndPurged_3 : State := flashy .dirty ({ band0 with finalStep := true, state := .log, cut := some 2 }) slot0 (limits 1 1)

/-- For `witness_BandsAreCollectedRefreshedGovernedAndPurged_3`. -/
def arg2_BandsAreCollectedRefreshedGovernedAndPurged_3 : Band := { band0 with finalStep := true, state := .log, cut := some 2 }

/-- For `witness_BandsAreCollectedRefreshedGovernedAndPurged_3`. -/
def arg1_BandsAreCollectedRefreshedGovernedAndPurged_3 : FlashPolicy := { forme0.flash with gcLow := 1, gcHigh := 1, readRefresh := 5, refreshDays := 5 }

/-- BandsAreCollectedRefreshedGovernedAndPurged, clause 4. -/
theorem witness_BandsAreCollectedRefreshedGovernedAndPurged_3 :
    state_BandsAreCollectedRefreshedGovernedAndPurged_3.dev.flashPolicy = some arg1_BandsAreCollectedRefreshedGovernedAndPurged_3 ∧ state_BandsAreCollectedRefreshedGovernedAndPurged_3.dev.fm.bands.get? 2 = some arg2_BandsAreCollectedRefreshedGovernedAndPurged_3 ∧ arg2_BandsAreCollectedRefreshedGovernedAndPurged_3.state = BState.log ∧ arg2_BandsAreCollectedRefreshedGovernedAndPurged_3.cut ≠ none ∧ state_BandsAreCollectedRefreshedGovernedAndPurged_3.dev.refreshDue arg1_BandsAreCollectedRefreshedGovernedAndPurged_3 arg2_BandsAreCollectedRefreshedGovernedAndPurged_3 = true := by decide

/-- For `witness_BandsAreCollectedRefreshedGovernedAndPurged_4`. -/
def state_BandsAreCollectedRefreshedGovernedAndPurged_4 : State := flashy .dirty band0 slot0 (limits 1 1)

/-- For `witness_BandsAreCollectedRefreshedGovernedAndPurged_4`. -/
def arg1_BandsAreCollectedRefreshedGovernedAndPurged_4 : FlashPolicy := { forme0.flash with gcLow := 1, gcHigh := 1, readRefresh := 5, refreshDays := 5 }

/-- BandsAreCollectedRefreshedGovernedAndPurged, clause 5. -/
theorem witness_BandsAreCollectedRefreshedGovernedAndPurged_4 :
    state_BandsAreCollectedRefreshedGovernedAndPurged_4.dev.flashPolicy = some arg1_BandsAreCollectedRefreshedGovernedAndPurged_4 ∧ state_BandsAreCollectedRefreshedGovernedAndPurged_4.dev.fm.bands.get? 2 = some band0 ∧ (band0.state = BState.open_ ∨ state_BandsAreCollectedRefreshedGovernedAndPurged_4.dev.refreshDue arg1_BandsAreCollectedRefreshedGovernedAndPurged_4 band0 = false) := by decide

/-- For `witness_BandsAreCollectedRefreshedGovernedAndPurged_5`. -/
def arg3_BandsAreCollectedRefreshedGovernedAndPurged_5 : Dev := (flashy .dirty band0 slot0 (limits 1 1)).dev

/-- For `witness_BandsAreCollectedRefreshedGovernedAndPurged_5`. -/
def arg2_BandsAreCollectedRefreshedGovernedAndPurged_5 : FlashPolicy := { forme0.flash with gcLow := 1, gcHigh := 1, readRefresh := 5, refreshDays := 5 }

/-- For `witness_BandsAreCollectedRefreshedGovernedAndPurged_5`. -/
def arg1_BandsAreCollectedRefreshedGovernedAndPurged_5 : Band := { band0 with finalStep := true }

/-- BandsAreCollectedRefreshedGovernedAndPurged, clause 6. -/
theorem witness_BandsAreCollectedRefreshedGovernedAndPurged_5 :
    (List.any arg1_BandsAreCollectedRefreshedGovernedAndPurged_5.reads fun e => decide (arg2_BandsAreCollectedRefreshedGovernedAndPurged_5.readRefresh ≤ e.snd)) = true ∨ arg1_BandsAreCollectedRefreshedGovernedAndPurged_5.finalStep = true ∨ arg1_BandsAreCollectedRefreshedGovernedAndPurged_5.closedMs + arg2_BandsAreCollectedRefreshedGovernedAndPurged_5.refreshDays * 86400000 < arg3_BandsAreCollectedRefreshedGovernedAndPurged_5.evt.islandMs ∨ arg2_BandsAreCollectedRefreshedGovernedAndPurged_5.wlSpread < arg3_BandsAreCollectedRefreshedGovernedAndPurged_5.fm.ecRange.snd - arg3_BandsAreCollectedRefreshedGovernedAndPurged_5.fm.ecRange.fst ∧ arg3_BandsAreCollectedRefreshedGovernedAndPurged_5.fm.holdsLowest arg1_BandsAreCollectedRefreshedGovernedAndPurged_5 = true := by decide

/-- For `witness_BandsAreCollectedRefreshedGovernedAndPurged_6`. -/
def state_BandsAreCollectedRefreshedGovernedAndPurged_6 : State := wired 4 id

/-- BandsAreCollectedRefreshedGovernedAndPurged, clause 7. -/
theorem witness_BandsAreCollectedRefreshedGovernedAndPurged_6 :
    state_BandsAreCollectedRefreshedGovernedAndPurged_6.dev.fm.credit = 0 ∧ state_BandsAreCollectedRefreshedGovernedAndPurged_6.dev.get Fld.FM_STATUS_WEAR_LIMITED = 0 := by decide

/-- For `witness_BandsAreCollectedRefreshedGovernedAndPurged_7`. -/
def state_BandsAreCollectedRefreshedGovernedAndPurged_7 : State := wired 4 (·.modFm fun f => { f with credit := 5 })

/-- BandsAreCollectedRefreshedGovernedAndPurged, clause 8. -/
theorem witness_BandsAreCollectedRefreshedGovernedAndPurged_7 :
    state_BandsAreCollectedRefreshedGovernedAndPurged_7.dev.fm.credit ≠ 0 ∨ state_BandsAreCollectedRefreshedGovernedAndPurged_7.dev.get Fld.FM_STATUS_WEAR_LIMITED = 1 := by decide

/-- For `witness_BandsAreCollectedRefreshedGovernedAndPurged_8`. -/
def state_BandsAreCollectedRefreshedGovernedAndPurged_8 : State := wired 4 fun s => (s.modFm fun f => { f with credit := 2097152000 }).set .FM_STATUS_WEAR_LIMITED 1

/-- BandsAreCollectedRefreshedGovernedAndPurged, clause 9. -/
theorem witness_BandsAreCollectedRefreshedGovernedAndPurged_8 :
    state_BandsAreCollectedRefreshedGovernedAndPurged_8.dev.fm.credit ≠ 0 ∧ state_BandsAreCollectedRefreshedGovernedAndPurged_8.dev.get Fld.FM_STATUS_WEAR_LIMITED = 1 := by decide

/-- For `witness_BandsAreCollectedRefreshedGovernedAndPurged_9`. -/
def state_BandsAreCollectedRefreshedGovernedAndPurged_9 : State := wired 4 id

/-- BandsAreCollectedRefreshedGovernedAndPurged, clause 10. -/
theorem witness_BandsAreCollectedRefreshedGovernedAndPurged_9 :
    state_BandsAreCollectedRefreshedGovernedAndPurged_9.dev.fm.credit = 0 ∨ state_BandsAreCollectedRefreshedGovernedAndPurged_9.dev.get Fld.FM_STATUS_WEAR_LIMITED = 0 := by decide

/-- For `witness_BandsAreCollectedRefreshedGovernedAndPurged_11`. -/
def arg2_BandsAreCollectedRefreshedGovernedAndPurged_11 : Dev := (wired 4 id).dev

/-- BandsAreCollectedRefreshedGovernedAndPurged, clause 12. -/
theorem witness_BandsAreCollectedRefreshedGovernedAndPurged_11 :
    arg2_BandsAreCollectedRefreshedGovernedAndPurged_11.fm.bands = [] := by decide

/-- For `witness_BandsAreCollectedRefreshedGovernedAndPurged_12`. -/
def state_BandsAreCollectedRefreshedGovernedAndPurged_12 : State := flashy .dirty band0 slot0 (·.modFm fun x => { x with purges := [5, 6] })

/-- BandsAreCollectedRefreshedGovernedAndPurged, clause 13. -/
theorem witness_BandsAreCollectedRefreshedGovernedAndPurged_12 :
    state_BandsAreCollectedRefreshedGovernedAndPurged_12.dev.fm.purge = none ∧ state_BandsAreCollectedRefreshedGovernedAndPurged_12.dev.fm.purges = [5, 6] ∧ 5 < 8192 ∧ (List.any state_BandsAreCollectedRefreshedGovernedAndPurged_12.dev.fm.bands fun e => e.snd.purged (some 5)) = false := by decide

/-- For `witness_BandsAreCollectedRefreshedGovernedAndPurged_13`. -/
def state_BandsAreCollectedRefreshedGovernedAndPurged_13 : State := flashy .dirty band0 slot0 (·.modFm fun x => { x with purge := some { purge0 with left := [2] } })

/-- For `witness_BandsAreCollectedRefreshedGovernedAndPurged_13`. -/
def arg4_BandsAreCollectedRefreshedGovernedAndPurged_13 : Purge := { purge0 with left := [2] }

/-- BandsAreCollectedRefreshedGovernedAndPurged, clause 14. -/
theorem witness_BandsAreCollectedRefreshedGovernedAndPurged_13 :
    state_BandsAreCollectedRefreshedGovernedAndPurged_13.dev.fm.purge = some arg4_BandsAreCollectedRefreshedGovernedAndPurged_13 ∧ arg4_BandsAreCollectedRefreshedGovernedAndPurged_13.left = [2] ∧ state_BandsAreCollectedRefreshedGovernedAndPurged_13.dev.fm.bands.get? 2 = some band0 ∧ band0.state ≠ BState.reclaim := by decide

/-- For `witness_BandsAreCollectedRefreshedGovernedAndPurged_14`. -/
def state_BandsAreCollectedRefreshedGovernedAndPurged_14 : State := flashy .dirty band0 slot0 (·.modFm fun x => { x with purge := some { purge0 with left := [9] } })

/-- For `witness_BandsAreCollectedRefreshedGovernedAndPurged_14`. -/
def arg3_BandsAreCollectedRefreshedGovernedAndPurged_14 : Purge := { purge0 with left := [9] }

/-- BandsAreCollectedRefreshedGovernedAndPurged, clause 15. -/
theorem witness_BandsAreCollectedRefreshedGovernedAndPurged_14 :
    state_BandsAreCollectedRefreshedGovernedAndPurged_14.dev.fm.purge = some arg3_BandsAreCollectedRefreshedGovernedAndPurged_14 ∧ arg3_BandsAreCollectedRefreshedGovernedAndPurged_14.left = [9] ∧ state_BandsAreCollectedRefreshedGovernedAndPurged_14.dev.fm.bands.get? 9 = none := by decide

/-- For `witness_BandsAreCollectedRefreshedGovernedAndPurged_15`. -/
def state_BandsAreCollectedRefreshedGovernedAndPurged_15 : State := flashy .dirty band0 slot0 (·.modFm fun x => { x with purge := some { purge0 with zeroing := true } })

/-- For `witness_BandsAreCollectedRefreshedGovernedAndPurged_15`. -/
def arg1_BandsAreCollectedRefreshedGovernedAndPurged_15 : Purge := { purge0 with zeroing := true }

/-- BandsAreCollectedRefreshedGovernedAndPurged, clause 16. -/
theorem witness_BandsAreCollectedRefreshedGovernedAndPurged_15 :
    state_BandsAreCollectedRefreshedGovernedAndPurged_15.dev.fm.purge = some arg1_BandsAreCollectedRefreshedGovernedAndPurged_15 ∧ arg1_BandsAreCollectedRefreshedGovernedAndPurged_15.left = [] ∧ arg1_BandsAreCollectedRefreshedGovernedAndPurged_15.zeroing = true := by decide

/-- For `witness_BandsAreCollectedRefreshedGovernedAndPurged_16`. -/
def state_BandsAreCollectedRefreshedGovernedAndPurged_16 : State := flashy .dirty band0 slot0 (fun s => (domainIn .purging s).modFm fun x => { x with purge := some purge0 })

/-- BandsAreCollectedRefreshedGovernedAndPurged, clause 17. -/
theorem witness_BandsAreCollectedRefreshedGovernedAndPurged_16 :
    state_BandsAreCollectedRefreshedGovernedAndPurged_16.dev.fm.purge = some purge0 ∧ purge0.left = [] ∧ purge0.zeroing = false ∧ purge0.domain = some 5 := by decide

/-- For `witness_BandsAreCollectedRefreshedGovernedAndPurged_17`. -/
def state_BandsAreCollectedRefreshedGovernedAndPurged_17 : State := wired 4 id

/-- BandsAreCollectedRefreshedGovernedAndPurged, clause 18. -/
theorem witness_BandsAreCollectedRefreshedGovernedAndPurged_17 :
    state_BandsAreCollectedRefreshedGovernedAndPurged_17.dev.fm.purge = none ∧ state_BandsAreCollectedRefreshedGovernedAndPurged_17.dev.fm.purges = [] := by decide

/-- For `witness_ArrayOperationsEndWithTheirStatus_0`. -/
def state_ArrayOperationsEndWithTheirStatus_0 : State := busy (.program 2 0 1) id

/-- For `witness_ArrayOperationsEndWithTheirStatus_0`. -/
def arg5_ArrayOperationsEndWithTheirStatus_0 : NandOp := op0 (.program 2 0 1)

/-- For `witness_ArrayOperationsEndWithTheirStatus_0`. -/
def arg1_ArrayOperationsEndWithTheirStatus_0 : NandRes := res0 0

/-- ArrayOperationsEndWithTheirStatus, clause 1. -/
theorem witness_ArrayOperationsEndWithTheirStatus_0 :
    (state_ArrayOperationsEndWithTheirStatus_0.dev.nand.lun 32).run = some arg5_ArrayOperationsEndWithTheirStatus_0 ∧ arg5_ArrayOperationsEndWithTheirStatus_0.job = NandJob.program 2 0 1 ∧ arg1_ArrayOperationsEndWithTheirStatus_0.result = 0 := by decide

/-- For `witness_ArrayOperationsEndWithTheirStatus_1`. -/
def state_ArrayOperationsEndWithTheirStatus_1 : State := busy (.erase (some 2) ⟨32, [1]⟩) id

/-- For `witness_ArrayOperationsEndWithTheirStatus_1`. -/
def arg4_ArrayOperationsEndWithTheirStatus_1 : NandOp := op0 (.erase (some 2) ⟨32, [1]⟩)

/-- For `witness_ArrayOperationsEndWithTheirStatus_1`. -/
def arg2_ArrayOperationsEndWithTheirStatus_1 : Member := ⟨32, [1]⟩

/-- For `witness_ArrayOperationsEndWithTheirStatus_1`. -/
def arg1_ArrayOperationsEndWithTheirStatus_1 : NandRes := res0 0

/-- ArrayOperationsEndWithTheirStatus, clause 2. -/
theorem witness_ArrayOperationsEndWithTheirStatus_1 :
    (state_ArrayOperationsEndWithTheirStatus_1.dev.nand.lun 32).run = some arg4_ArrayOperationsEndWithTheirStatus_1 ∧ arg4_ArrayOperationsEndWithTheirStatus_1.job = NandJob.erase (some 2) arg2_ArrayOperationsEndWithTheirStatus_1 ∧ arg1_ArrayOperationsEndWithTheirStatus_1.result = 0 ∧ ∀ (p : Purge), state_ArrayOperationsEndWithTheirStatus_1.dev.fm.purge = some p → ¬2 ∈ p.left := by decide

/-- For `witness_ArrayOperationsEndWithTheirStatus_2`. -/
def state_ArrayOperationsEndWithTheirStatus_2 : State := busy (.erase (some 2) ⟨32, [1]⟩) (·.modFm fun x => { x with purge := some { purge0 with left := [2] } })

/-- For `witness_ArrayOperationsEndWithTheirStatus_2`. -/
def arg5_ArrayOperationsEndWithTheirStatus_2 : NandOp := op0 (.erase (some 2) ⟨32, [1]⟩)

/-- For `witness_ArrayOperationsEndWithTheirStatus_2`. -/
def arg3_ArrayOperationsEndWithTheirStatus_2 : Member := ⟨32, [1]⟩

/-- For `witness_ArrayOperationsEndWithTheirStatus_2`. -/
def arg2_ArrayOperationsEndWithTheirStatus_2 : NandRes := res0 0

/-- For `witness_ArrayOperationsEndWithTheirStatus_2`. -/
def arg1_ArrayOperationsEndWithTheirStatus_2 : Purge := { purge0 with left := [2] }

/-- ArrayOperationsEndWithTheirStatus, clause 3. -/
theorem witness_ArrayOperationsEndWithTheirStatus_2 :
    (state_ArrayOperationsEndWithTheirStatus_2.dev.nand.lun 32).run = some arg5_ArrayOperationsEndWithTheirStatus_2 ∧ arg5_ArrayOperationsEndWithTheirStatus_2.job = NandJob.erase (some 2) arg3_ArrayOperationsEndWithTheirStatus_2 ∧ arg2_ArrayOperationsEndWithTheirStatus_2.result = 0 ∧ state_ArrayOperationsEndWithTheirStatus_2.dev.fm.purge = some arg1_ArrayOperationsEndWithTheirStatus_2 ∧ 2 ∈ arg1_ArrayOperationsEndWithTheirStatus_2.left := by decide

/-- For `witness_ArrayOperationsEndWithTheirStatus_3`. -/
def state_ArrayOperationsEndWithTheirStatus_3 : State := busy (.verify none ⟨32, [1]⟩) id

/-- For `witness_ArrayOperationsEndWithTheirStatus_3`. -/
def arg4_ArrayOperationsEndWithTheirStatus_3 : NandOp := op0 (.verify none ⟨32, [1]⟩)

/-- For `witness_ArrayOperationsEndWithTheirStatus_3`. -/
def arg2_ArrayOperationsEndWithTheirStatus_3 : Member := ⟨32, [1]⟩

/-- For `witness_ArrayOperationsEndWithTheirStatus_3`. -/
def arg1_ArrayOperationsEndWithTheirStatus_3 : NandRes := res0 0

/-- ArrayOperationsEndWithTheirStatus, clause 4. -/
theorem witness_ArrayOperationsEndWithTheirStatus_3 :
    (state_ArrayOperationsEndWithTheirStatus_3.dev.nand.lun 32).run = some arg4_ArrayOperationsEndWithTheirStatus_3 ∧ arg4_ArrayOperationsEndWithTheirStatus_3.job = NandJob.verify none arg2_ArrayOperationsEndWithTheirStatus_3 ∧ arg1_ArrayOperationsEndWithTheirStatus_3.result = 0 := by decide

/-- For `witness_ArrayOperationsEndWithTheirStatus_4`. -/
def state_ArrayOperationsEndWithTheirStatus_4 : State := busy (.check 2 1) id

/-- For `witness_ArrayOperationsEndWithTheirStatus_4`. -/
def arg4_ArrayOperationsEndWithTheirStatus_4 : NandOp := op0 (.check 2 1)

/-- For `witness_ArrayOperationsEndWithTheirStatus_4`. -/
def arg1_ArrayOperationsEndWithTheirStatus_4 : NandRes := res0 0

/-- ArrayOperationsEndWithTheirStatus, clause 5. -/
theorem witness_ArrayOperationsEndWithTheirStatus_4 :
    (state_ArrayOperationsEndWithTheirStatus_4.dev.nand.lun 32).run = some arg4_ArrayOperationsEndWithTheirStatus_4 ∧ arg4_ArrayOperationsEndWithTheirStatus_4.job = NandJob.check 2 1 ∧ arg1_ArrayOperationsEndWithTheirStatus_4.result = 0 := by decide

/-- For `witness_ArrayOperationsEndWithTheirStatus_5`. -/
def state_ArrayOperationsEndWithTheirStatus_5 : State := busy (.read home0) id

/-- For `witness_ArrayOperationsEndWithTheirStatus_5`. -/
def arg3_ArrayOperationsEndWithTheirStatus_5 : NandOp := op0 (.read home0)

/-- For `witness_ArrayOperationsEndWithTheirStatus_5`. -/
def arg1_ArrayOperationsEndWithTheirStatus_5 : NandRes := res0 0

/-- ArrayOperationsEndWithTheirStatus, clause 6. -/
theorem witness_ArrayOperationsEndWithTheirStatus_5 :
    (state_ArrayOperationsEndWithTheirStatus_5.dev.nand.lun 32).run = some arg3_ArrayOperationsEndWithTheirStatus_5 ∧ arg3_ArrayOperationsEndWithTheirStatus_5.job = NandJob.read home0 ∧ arg1_ArrayOperationsEndWithTheirStatus_5.result ≠ 3 ∧ arg1_ArrayOperationsEndWithTheirStatus_5.result ≠ 6 := by decide

/-- For `witness_ArrayOperationsEndWithTheirStatus_6`. -/
def state_ArrayOperationsEndWithTheirStatus_6 : State := busy (.program 2 0 1) id

/-- For `witness_ArrayOperationsEndWithTheirStatus_6`. -/
def arg5_ArrayOperationsEndWithTheirStatus_6 : NandOp := op0 (.program 2 0 1)

/-- ArrayOperationsEndWithTheirStatus, clause 7. -/
theorem witness_ArrayOperationsEndWithTheirStatus_6 :
    (state_ArrayOperationsEndWithTheirStatus_6.dev.nand.lun 32).run = some arg5_ArrayOperationsEndWithTheirStatus_6 ∧ arg5_ArrayOperationsEndWithTheirStatus_6.job = NandJob.program 2 0 1 := by decide

/-- For `witness_ArrayOperationsEndWithTheirStatus_7`. -/
def state_ArrayOperationsEndWithTheirStatus_7 : State := busy (.erase (some 2) ⟨32, [1]⟩) id

/-- For `witness_ArrayOperationsEndWithTheirStatus_7`. -/
def arg4_ArrayOperationsEndWithTheirStatus_7 : NandOp := op0 (.erase (some 2) ⟨32, [1]⟩)

/-- For `witness_ArrayOperationsEndWithTheirStatus_7`. -/
def arg2_ArrayOperationsEndWithTheirStatus_7 : Member := ⟨32, [1]⟩

/-- ArrayOperationsEndWithTheirStatus, clause 8. -/
theorem witness_ArrayOperationsEndWithTheirStatus_7 :
    (state_ArrayOperationsEndWithTheirStatus_7.dev.nand.lun 32).run = some arg4_ArrayOperationsEndWithTheirStatus_7 ∧ arg4_ArrayOperationsEndWithTheirStatus_7.job = NandJob.erase (some 2) arg2_ArrayOperationsEndWithTheirStatus_7 := by decide

/-- For `witness_ArrayOperationsEndWithTheirStatus_8`. -/
def state_ArrayOperationsEndWithTheirStatus_8 : State := busy (.read home0) id

/-- For `witness_ArrayOperationsEndWithTheirStatus_8`. -/
def arg2_ArrayOperationsEndWithTheirStatus_8 : NandOp := op0 (.read home0)

/-- ArrayOperationsEndWithTheirStatus, clause 9. -/
theorem witness_ArrayOperationsEndWithTheirStatus_8 :
    (state_ArrayOperationsEndWithTheirStatus_8.dev.nand.lun 32).run = some arg2_ArrayOperationsEndWithTheirStatus_8 ∧ arg2_ArrayOperationsEndWithTheirStatus_8.job = NandJob.read home0 := by decide

/-- For `witness_ArrayOperationsEndWithTheirStatus_9`. -/
def state_ArrayOperationsEndWithTheirStatus_9 : State := busy (.read home0) id

/-- ArrayOperationsEndWithTheirStatus, clause 10. -/
theorem witness_ArrayOperationsEndWithTheirStatus_9 :
    (state_ArrayOperationsEndWithTheirStatus_9.dev.nand.lun 33).run = none := by decide

/-- For `witness_ReadsSuspendRetryAndRebuild_0`. -/
def state_ReadsSuspendRetryAndRebuild_0 : State := busy (.program 2 0 1) id

/-- For `witness_ReadsSuspendRetryAndRebuild_0`. -/
def arg4_ReadsSuspendRetryAndRebuild_0 : NandOp := op0 (.program 2 0 1)

/-- ReadsSuspendRetryAndRebuild, clause 1. -/
theorem witness_ReadsSuspendRetryAndRebuild_0 :
    state_ReadsSuspendRetryAndRebuild_0.dev.modeOf ≠ mHOLDUP ∧ state_ReadsSuspendRetryAndRebuild_0.dev.nand.lun (homeLun home0) = { run := some arg4_ReadsSuspendRetryAndRebuild_0, susp := none, wait := [] : LunSt } ∧ arg4_ReadsSuspendRetryAndRebuild_0.job = NandJob.program 2 0 1 := by decide

/-- For `witness_ReadsSuspendRetryAndRebuild_1`. -/
def state_ReadsSuspendRetryAndRebuild_1 : State := busy (.program 2 0 1) (·.set (.NANDC_SUSPEND_CFG_RESUME_GRANT_US 1) 60000)

/-- For `witness_ReadsSuspendRetryAndRebuild_1`. -/
def arg4_ReadsSuspendRetryAndRebuild_1 : NandOp := op0 (.program 2 0 1)

/-- ReadsSuspendRetryAndRebuild, clause 2. -/
theorem witness_ReadsSuspendRetryAndRebuild_1 :
    state_ReadsSuspendRetryAndRebuild_1.dev.modeOf ≠ mHOLDUP ∧ state_ReadsSuspendRetryAndRebuild_1.dev.nand.lun (homeLun home0) = { run := some arg4_ReadsSuspendRetryAndRebuild_1, susp := none, wait := [] : LunSt } ∧ arg4_ReadsSuspendRetryAndRebuild_1.job = NandJob.program 2 0 1 ∧ 3 ∈ [1, 2, 3] ∧ (arg4_ReadsSuspendRetryAndRebuild_1.starved = true ∨ state_ReadsSuspendRetryAndRebuild_1.dev.nowTicks - arg4_ReadsSuspendRetryAndRebuild_1.since < state_ReadsSuspendRetryAndRebuild_1.dev.get (Fld.NANDC_SUSPEND_CFG_RESUME_GRANT_US (lunChannel (homeLun home0))) * 2000) := by decide

/-- For `witness_ReadsSuspendRetryAndRebuild_2`. -/
def state_ReadsSuspendRetryAndRebuild_2 : State := flashy .dirty band0 slot0 (·.modNand fun n => { n with luns := [(32, { run := none, susp := some (op0 (.program 2 0 1)), wait := [] })] })

/-- For `witness_ReadsSuspendRetryAndRebuild_2`. -/
def arg1_ReadsSuspendRetryAndRebuild_2 : NandOp := op0 (.program 2 0 1)

/-- ReadsSuspendRetryAndRebuild, clause 3. -/
theorem witness_ReadsSuspendRetryAndRebuild_2 :
    state_ReadsSuspendRetryAndRebuild_2.dev.nand.lun 32 = { run := none, susp := some arg1_ReadsSuspendRetryAndRebuild_2, wait := [] : LunSt } := by decide

/-- For `witness_ReadsSuspendRetryAndRebuild_3`. -/
def state_ReadsSuspendRetryAndRebuild_3 : State := busy (.program 2 0 1) id

/-- ReadsSuspendRetryAndRebuild, clause 4. -/
theorem witness_ReadsSuspendRetryAndRebuild_3 :
    (state_ReadsSuspendRetryAndRebuild_3.dev.nand.lun 32).susp = none := by decide

/-- For `witness_ReadsSuspendRetryAndRebuild_4`. -/
def state_ReadsSuspendRetryAndRebuild_4 : State := busy (.program 2 0 1) (fun s => (s.modCal fun c => { c with cycle := 10 ^ 6 }))

/-- For `witness_ReadsSuspendRetryAndRebuild_4`. -/
def arg5_ReadsSuspendRetryAndRebuild_4 : NandOp := op0 (.program 2 0 1)

/-- ReadsSuspendRetryAndRebuild, clause 5. -/
theorem witness_ReadsSuspendRetryAndRebuild_4 :
    state_ReadsSuspendRetryAndRebuild_4.dev.nand.lun 32 = { run := some arg5_ReadsSuspendRetryAndRebuild_4, susp := none, wait := [] : LunSt } ∧ arg5_ReadsSuspendRetryAndRebuild_4.job = NandJob.program 2 0 1 ∧ arg5_ReadsSuspendRetryAndRebuild_4.starved = false ∧ state_ReadsSuspendRetryAndRebuild_4.dev.get (Fld.NANDC_SUSPEND_CFG_STARVE_MS (lunChannel 32)) ≠ 0 ∧ arg5_ReadsSuspendRetryAndRebuild_4.start + state_ReadsSuspendRetryAndRebuild_4.dev.get (Fld.NANDC_SUSPEND_CFG_STARVE_MS (lunChannel 32)) * 2000000 ≤ state_ReadsSuspendRetryAndRebuild_4.dev.nowTicks := by decide

/-- For `witness_ReadsSuspendRetryAndRebuild_6`. -/
def state_ReadsSuspendRetryAndRebuild_6 : State := busy (.program 2 0 1) id

/-- For `witness_ReadsSuspendRetryAndRebuild_6`. -/
def arg2_ReadsSuspendRetryAndRebuild_6 : NandOp := op0 (.program 2 0 1)

/-- ReadsSuspendRetryAndRebuild, clause 7. -/
theorem witness_ReadsSuspendRetryAndRebuild_6 :
    state_ReadsSuspendRetryAndRebuild_6.dev.nand.lun 32 = { run := some arg2_ReadsSuspendRetryAndRebuild_6, susp := none, wait := [] : LunSt } ∧ state_ReadsSuspendRetryAndRebuild_6.dev.nowTicks < arg2_ReadsSuspendRetryAndRebuild_6.start + state_ReadsSuspendRetryAndRebuild_6.dev.get (Fld.NANDC_SUSPEND_CFG_STARVE_MS (lunChannel 32)) * 2000000 := by decide

/-- For `witness_ReadsSuspendRetryAndRebuild_7`. -/
def state_ReadsSuspendRetryAndRebuild_7 : State := flashy .dirty band0 slot0 id

/-- ReadsSuspendRetryAndRebuild, clause 8. -/
theorem witness_ReadsSuspendRetryAndRebuild_7 :
    state_ReadsSuspendRetryAndRebuild_7.dev.fm.table = some nand0 ∧ nand0.cont = true ∧ 0 < 3 ∧ 3 ≤ state_ReadsSuspendRetryAndRebuild_7.dev.get (Fld.NANDC_CONT_CFG_CONT_MAX_PAGES (lunChannel (homeLun home0))) ∧ state_ReadsSuspendRetryAndRebuild_7.dev.nand.lun (homeLun home0) = LunSt.idle ∧ state_ReadsSuspendRetryAndRebuild_7.dev.modeOf ≠ mHOLDUP := by decide

/-- For `witness_ReadsSuspendRetryAndRebuild_8`. -/
def state_ReadsSuspendRetryAndRebuild_8 : State := flashy .dirty band0 slot0 id

/-- ReadsSuspendRetryAndRebuild, clause 9. -/
theorem witness_ReadsSuspendRetryAndRebuild_8 :
    state_ReadsSuspendRetryAndRebuild_8.dev.fm.table = none ∨ 0 = 0 ∨ state_ReadsSuspendRetryAndRebuild_8.dev.modeOf = mHOLDUP := by decide

/-- For `witness_ReadsSuspendRetryAndRebuild_9`. -/
def state_ReadsSuspendRetryAndRebuild_9 : State := flashy .dirty band0 slot0 id

/-- ReadsSuspendRetryAndRebuild, clause 10. -/
theorem witness_ReadsSuspendRetryAndRebuild_9 :
    state_ReadsSuspendRetryAndRebuild_9.dev.fm.slots.get? home0 = some slot0 ∧ state_ReadsSuspendRetryAndRebuild_9.dev.fm.table = some nand0 ∧ 1 ≠ 0 ∧ 1 < nand0.retries ((Option.map Band.slc (state_ReadsSuspendRetryAndRebuild_9.dev.fm.bands.get? slot0.band)).getD false) := by decide

/-- For `witness_ReadsSuspendRetryAndRebuild_10`. -/
def state_ReadsSuspendRetryAndRebuild_10 : State := flashy .dirty band0 { slot0 with committed := true } id

/-- For `witness_ReadsSuspendRetryAndRebuild_10`. -/
def arg4_ReadsSuspendRetryAndRebuild_10 : T2Slot := { slot0 with committed := true }

/-- ReadsSuspendRetryAndRebuild, clause 11. -/
theorem witness_ReadsSuspendRetryAndRebuild_10 :
    state_ReadsSuspendRetryAndRebuild_10.dev.fm.slots.get? home0 = some arg4_ReadsSuspendRetryAndRebuild_10 ∧ state_ReadsSuspendRetryAndRebuild_10.dev.fm.table = some nand0 := by decide

/-- For `witness_ReadsSuspendRetryAndRebuild_11`. -/
def state_ReadsSuspendRetryAndRebuild_11 : State := flashy .dirty band0 { slot0 with committed := true } id

/-- For `witness_ReadsSuspendRetryAndRebuild_11`. -/
def arg2_ReadsSuspendRetryAndRebuild_11 : T2Slot := { slot0 with committed := true }

/-- ReadsSuspendRetryAndRebuild, clause 12. -/
theorem witness_ReadsSuspendRetryAndRebuild_11 :
    state_ReadsSuspendRetryAndRebuild_11.dev.fm.slots.get? home0 = some arg2_ReadsSuspendRetryAndRebuild_11 := by decide

/-- For `witness_ReadsSuspendRetryAndRebuild_12`. -/
def state_ReadsSuspendRetryAndRebuild_12 : State := wired 4 id

/-- ReadsSuspendRetryAndRebuild, clause 13. -/
theorem witness_ReadsSuspendRetryAndRebuild_12 :
    state_ReadsSuspendRetryAndRebuild_12.dev.fm.slots.get? home0 = none := by decide

/-- For `witness_RawOperationsRunOnlyInQuiesced_0a`. -/
def state_RawOperationsRunOnlyInQuiesced_0a : State := quiet_ 3 0 id

/-- RawOperationsRunOnlyInQuiesced, clause 1. -/
theorem witness_RawOperationsRunOnlyInQuiesced_0a :
    (1, 3, Instr.readRaw 1 61) ∈ [(1, 3, Instr.readRaw 1 61), (2, 3, Instr.readDecoded 1 61), (5, 1, Instr.rawReadId 1 61), (6, 1, Instr.getFeature 1 61), (7, 3, Instr.eraseCheck 1 61)] ∧ 1 < 32 ∧ state_RawOperationsRunOnlyInQuiesced_0a.dev.reaches (nandBase 1 + 128) = true ∧ state_RawOperationsRunOnlyInQuiesced_0a.dev.modeOf = mQUIESCED ∧ state_RawOperationsRunOnlyInQuiesced_0a.dev.get (Fld.NANDC_RAW_STATUS_BUSY 1) = 0 ∧ state_RawOperationsRunOnlyInQuiesced_0a.dev.get (Fld.NANDC_RAW_ADDR0_SLC 1) = 0 := by decide

/-- For `witness_RawOperationsRunOnlyInQuiesced_0b`. -/
def state_RawOperationsRunOnlyInQuiesced_0b : State := quiet_ 3 0 id

/-- RawOperationsRunOnlyInQuiesced, clause 1. -/
theorem witness_RawOperationsRunOnlyInQuiesced_0b :
    (2, 3, Instr.readDecoded 1 61) ∈ [(1, 3, Instr.readRaw 1 61), (2, 3, Instr.readDecoded 1 61), (5, 1, Instr.rawReadId 1 61), (6, 1, Instr.getFeature 1 61), (7, 3, Instr.eraseCheck 1 61)] ∧ 1 < 32 ∧ state_RawOperationsRunOnlyInQuiesced_0b.dev.reaches (nandBase 1 + 128) = true ∧ state_RawOperationsRunOnlyInQuiesced_0b.dev.modeOf = mQUIESCED ∧ state_RawOperationsRunOnlyInQuiesced_0b.dev.get (Fld.NANDC_RAW_STATUS_BUSY 1) = 0 ∧ state_RawOperationsRunOnlyInQuiesced_0b.dev.get (Fld.NANDC_RAW_ADDR0_SLC 1) = 0 := by decide

/-- For `witness_RawOperationsRunOnlyInQuiesced_0c`. -/
def state_RawOperationsRunOnlyInQuiesced_0c : State := quiet_ 3 0 id

/-- RawOperationsRunOnlyInQuiesced, clause 1. -/
theorem witness_RawOperationsRunOnlyInQuiesced_0c :
    (5, 1, Instr.rawReadId 1 61) ∈ [(1, 3, Instr.readRaw 1 61), (2, 3, Instr.readDecoded 1 61), (5, 1, Instr.rawReadId 1 61), (6, 1, Instr.getFeature 1 61), (7, 3, Instr.eraseCheck 1 61)] ∧ 1 < 32 ∧ state_RawOperationsRunOnlyInQuiesced_0c.dev.reaches (nandBase 1 + 128) = true ∧ state_RawOperationsRunOnlyInQuiesced_0c.dev.modeOf = mQUIESCED ∧ state_RawOperationsRunOnlyInQuiesced_0c.dev.get (Fld.NANDC_RAW_STATUS_BUSY 1) = 0 ∧ state_RawOperationsRunOnlyInQuiesced_0c.dev.get (Fld.NANDC_RAW_ADDR0_SLC 1) = 0 := by decide

/-- For `witness_RawOperationsRunOnlyInQuiesced_0d`. -/
def state_RawOperationsRunOnlyInQuiesced_0d : State := quiet_ 3 0 id

/-- RawOperationsRunOnlyInQuiesced, clause 1. -/
theorem witness_RawOperationsRunOnlyInQuiesced_0d :
    (6, 1, Instr.getFeature 1 61) ∈ [(1, 3, Instr.readRaw 1 61), (2, 3, Instr.readDecoded 1 61), (5, 1, Instr.rawReadId 1 61), (6, 1, Instr.getFeature 1 61), (7, 3, Instr.eraseCheck 1 61)] ∧ 1 < 32 ∧ state_RawOperationsRunOnlyInQuiesced_0d.dev.reaches (nandBase 1 + 128) = true ∧ state_RawOperationsRunOnlyInQuiesced_0d.dev.modeOf = mQUIESCED ∧ state_RawOperationsRunOnlyInQuiesced_0d.dev.get (Fld.NANDC_RAW_STATUS_BUSY 1) = 0 ∧ state_RawOperationsRunOnlyInQuiesced_0d.dev.get (Fld.NANDC_RAW_ADDR0_SLC 1) = 0 := by decide

/-- For `witness_RawOperationsRunOnlyInQuiesced_0e`. -/
def state_RawOperationsRunOnlyInQuiesced_0e : State := quiet_ 3 0 id

/-- RawOperationsRunOnlyInQuiesced, clause 1. -/
theorem witness_RawOperationsRunOnlyInQuiesced_0e :
    (7, 3, Instr.eraseCheck 1 61) ∈ [(1, 3, Instr.readRaw 1 61), (2, 3, Instr.readDecoded 1 61), (5, 1, Instr.rawReadId 1 61), (6, 1, Instr.getFeature 1 61), (7, 3, Instr.eraseCheck 1 61)] ∧ 1 < 32 ∧ state_RawOperationsRunOnlyInQuiesced_0e.dev.reaches (nandBase 1 + 128) = true ∧ state_RawOperationsRunOnlyInQuiesced_0e.dev.modeOf = mQUIESCED ∧ state_RawOperationsRunOnlyInQuiesced_0e.dev.get (Fld.NANDC_RAW_STATUS_BUSY 1) = 0 ∧ state_RawOperationsRunOnlyInQuiesced_0e.dev.get (Fld.NANDC_RAW_ADDR0_SLC 1) = 0 := by decide

/-- For `witness_RawOperationsRunOnlyInQuiesced_1`. -/
def state_RawOperationsRunOnlyInQuiesced_1 : State := quiet_ 3 0 (·.modFm fun f => f.setBlk 32 3 { Blk.new with erased := true })

/-- RawOperationsRunOnlyInQuiesced, clause 2. -/
theorem witness_RawOperationsRunOnlyInQuiesced_1 :
    1 < 32 ∧ state_RawOperationsRunOnlyInQuiesced_1.dev.reaches (nandBase 1 + 128) = true ∧ state_RawOperationsRunOnlyInQuiesced_1.dev.modeOf = mQUIESCED ∧ state_RawOperationsRunOnlyInQuiesced_1.dev.get (Fld.NANDC_RAW_STATUS_BUSY 1) = 0 ∧ state_RawOperationsRunOnlyInQuiesced_1.dev.get (Fld.NANDC_RAW_ADDR0_SLC 1) = 0 ∧ state_RawOperationsRunOnlyInQuiesced_1.dev.fm.bandBlock (1 * 32 + state_RawOperationsRunOnlyInQuiesced_1.dev.get (Fld.NANDC_RAW_ADDR0_LUN 1)) (state_RawOperationsRunOnlyInQuiesced_1.dev.get (Fld.NANDC_RAW_ADDR0_BLOCK 1)) = false ∧ state_RawOperationsRunOnlyInQuiesced_1.dev.fm.accepts (1 * 32 + state_RawOperationsRunOnlyInQuiesced_1.dev.get (Fld.NANDC_RAW_ADDR0_LUN 1)) (state_RawOperationsRunOnlyInQuiesced_1.dev.get (Fld.NANDC_RAW_ADDR0_BLOCK 1)) (state_RawOperationsRunOnlyInQuiesced_1.dev.get (Fld.NANDC_RAW_ADDR1_PAGE 1)) false = true := by decide

/-- For `witness_RawOperationsRunOnlyInQuiesced_2`. -/
def state_RawOperationsRunOnlyInQuiesced_2 : State := quiet_ 3 0 id

/-- RawOperationsRunOnlyInQuiesced, clause 3. -/
theorem witness_RawOperationsRunOnlyInQuiesced_2 :
    1 < 32 ∧ state_RawOperationsRunOnlyInQuiesced_2.dev.reaches (nandBase 1 + 128) = true ∧ state_RawOperationsRunOnlyInQuiesced_2.dev.modeOf = mQUIESCED ∧ state_RawOperationsRunOnlyInQuiesced_2.dev.get (Fld.NANDC_RAW_STATUS_BUSY 1) = 0 ∧ state_RawOperationsRunOnlyInQuiesced_2.dev.get (Fld.NANDC_RAW_ADDR0_SLC 1) = 0 ∧ state_RawOperationsRunOnlyInQuiesced_2.dev.fm.bandBlock (1 * 32 + state_RawOperationsRunOnlyInQuiesced_2.dev.get (Fld.NANDC_RAW_ADDR0_LUN 1)) (state_RawOperationsRunOnlyInQuiesced_2.dev.get (Fld.NANDC_RAW_ADDR0_BLOCK 1)) = false := by decide

/-- For `witness_RawOperationsRunOnlyInQuiesced_3`. -/
def state_RawOperationsRunOnlyInQuiesced_3 : State := quiet_ 1 0 id

/-- RawOperationsRunOnlyInQuiesced, clause 4. -/
theorem witness_RawOperationsRunOnlyInQuiesced_3 :
    (Instr.programRaw 1 61, 3) ∈ [(Instr.programRaw 1 61, 3), (Instr.rawErase 1 61, 4)] ∧ 1 < 32 ∧ state_RawOperationsRunOnlyInQuiesced_3.dev.reaches (nandBase 1 + 128) = true ∧ state_RawOperationsRunOnlyInQuiesced_3.dev.modeOf = mQUIESCED ∧ state_RawOperationsRunOnlyInQuiesced_3.dev.get (Fld.NANDC_RAW_STATUS_BUSY 1) = 0 ∧ state_RawOperationsRunOnlyInQuiesced_3.dev.fm.bandBlock (1 * 32 + state_RawOperationsRunOnlyInQuiesced_3.dev.get (Fld.NANDC_RAW_ADDR0_LUN 1)) (state_RawOperationsRunOnlyInQuiesced_3.dev.get (Fld.NANDC_RAW_ADDR0_BLOCK 1)) = true := by decide

/-- For `witness_RawOperationsRunOnlyInQuiesced_3b`. -/
def state_RawOperationsRunOnlyInQuiesced_3b : State := quiet_ 1 0 id

/-- RawOperationsRunOnlyInQuiesced, clause 4. -/
theorem witness_RawOperationsRunOnlyInQuiesced_3b :
    (Instr.rawErase 1 61, 4) ∈ [(Instr.programRaw 1 61, 3), (Instr.rawErase 1 61, 4)] ∧ 1 < 32 ∧ state_RawOperationsRunOnlyInQuiesced_3b.dev.reaches (nandBase 1 + 128) = true ∧ state_RawOperationsRunOnlyInQuiesced_3b.dev.modeOf = mQUIESCED ∧ state_RawOperationsRunOnlyInQuiesced_3b.dev.get (Fld.NANDC_RAW_STATUS_BUSY 1) = 0 ∧ state_RawOperationsRunOnlyInQuiesced_3b.dev.fm.bandBlock (1 * 32 + state_RawOperationsRunOnlyInQuiesced_3b.dev.get (Fld.NANDC_RAW_ADDR0_LUN 1)) (state_RawOperationsRunOnlyInQuiesced_3b.dev.get (Fld.NANDC_RAW_ADDR0_BLOCK 1)) = true := by decide

/-- For `witness_RawOperationsRunOnlyInQuiesced_4`. -/
def state_RawOperationsRunOnlyInQuiesced_4 : State := at_ 4 id

/-- RawOperationsRunOnlyInQuiesced, clause 5. -/
theorem witness_RawOperationsRunOnlyInQuiesced_4 :
    (1, Instr.readRaw 1 61) ∈ [(1, Instr.readRaw 1 61), (2, Instr.readDecoded 1 61), (3, Instr.programRaw 1 61), (4, Instr.rawErase 1 61), (5, Instr.rawReadId 1 61), (6, Instr.getFeature 1 61), (7, Instr.eraseCheck 1 61)] ∧ 1 < 32 ∧ state_RawOperationsRunOnlyInQuiesced_4.dev.reaches (nandBase 1 + 128) = true ∧ state_RawOperationsRunOnlyInQuiesced_4.dev.modeOf ≠ mQUIESCED ∧ state_RawOperationsRunOnlyInQuiesced_4.dev.get (Fld.NANDC_RAW_STATUS_BUSY 1) = 0 := by decide

/-- For `witness_RawOperationsRunOnlyInQuiesced_4b`. -/
def state_RawOperationsRunOnlyInQuiesced_4b : State := at_ 4 id

/-- RawOperationsRunOnlyInQuiesced, clause 5. -/
theorem witness_RawOperationsRunOnlyInQuiesced_4b :
    (4, Instr.rawErase 1 61) ∈ [(1, Instr.readRaw 1 61), (2, Instr.readDecoded 1 61), (3, Instr.programRaw 1 61), (4, Instr.rawErase 1 61), (5, Instr.rawReadId 1 61), (6, Instr.getFeature 1 61), (7, Instr.eraseCheck 1 61)] ∧ 1 < 32 ∧ state_RawOperationsRunOnlyInQuiesced_4b.dev.reaches (nandBase 1 + 128) = true ∧ state_RawOperationsRunOnlyInQuiesced_4b.dev.modeOf ≠ mQUIESCED ∧ state_RawOperationsRunOnlyInQuiesced_4b.dev.get (Fld.NANDC_RAW_STATUS_BUSY 1) = 0 := by decide

/-- For `witness_RawOperationsRunOnlyInQuiesced_5`. -/
def state_RawOperationsRunOnlyInQuiesced_5 : State := quiet_ 3 0 id

/-- RawOperationsRunOnlyInQuiesced, clause 6. -/
theorem witness_RawOperationsRunOnlyInQuiesced_5 :
    (3, Instr.programRaw 1 60) ∈ [(1, Instr.readRaw 1 60), (2, Instr.readDecoded 1 60), (3, Instr.programRaw 1 60), (4, Instr.rawErase 1 60), (5, Instr.rawReadId 1 60), (6, Instr.getFeature 1 60), (7, Instr.eraseCheck 1 60)] ∧ 1 < 32 ∧ state_RawOperationsRunOnlyInQuiesced_5.dev.reaches (nandBase 1 + 128) = true ∧ (60 ≠ 61 ∨ state_RawOperationsRunOnlyInQuiesced_5.dev.get (Fld.NANDC_RAW_STATUS_BUSY 1) = 1) := by decide

/-- For `witness_RawOperationsRunOnlyInQuiesced_5b`. -/
def state_RawOperationsRunOnlyInQuiesced_5b : State := quiet_ 3 0 (·.set (.NANDC_RAW_STATUS_BUSY 1) 1)

/-- RawOperationsRunOnlyInQuiesced, clause 6. -/
theorem witness_RawOperationsRunOnlyInQuiesced_5b :
    (7, Instr.eraseCheck 1 61) ∈ [(1, Instr.readRaw 1 61), (2, Instr.readDecoded 1 61), (3, Instr.programRaw 1 61), (4, Instr.rawErase 1 61), (5, Instr.rawReadId 1 61), (6, Instr.getFeature 1 61), (7, Instr.eraseCheck 1 61)] ∧ 1 < 32 ∧ state_RawOperationsRunOnlyInQuiesced_5b.dev.reaches (nandBase 1 + 128) = true ∧ (61 ≠ 61 ∨ state_RawOperationsRunOnlyInQuiesced_5b.dev.get (Fld.NANDC_RAW_STATUS_BUSY 1) = 1) := by decide

/-- For `witness_ReadsSuspendRetryAndRebuild_5`. -/
def state_ReadsSuspendRetryAndRebuild_5 : State := wired 4 id

/-- ReadsSuspendRetryAndRebuild, clause 6. -/
theorem witness_ReadsSuspendRetryAndRebuild_5 :
    state_ReadsSuspendRetryAndRebuild_5.dev.nand.lun 32 = LunSt.idle ∨ state_ReadsSuspendRetryAndRebuild_5.dev.get (Fld.NANDC_SUSPEND_CFG_STARVE_MS (lunChannel 32)) = 0 := by decide

/-- For `witness_DaybookRebuildsScrubsAndWritesIntents_0`. -/
def state_DaybookRebuildsScrubsAndWritesIntents_0 : State := wired 4 (·.set .DB_ERR_INFO_VALID 1)

/-- DaybookRebuildsScrubsAndWritesIntents, clause 1. -/
theorem witness_DaybookRebuildsScrubsAndWritesIntents_0 :
    31743 < 31744 ∧ state_DaybookRebuildsScrubsAndWritesIntents_0.dev.db.remapped.contains (1 * 32768 + 31743) = false ∧ state_DaybookRebuildsScrubsAndWritesIntents_0.dev.db.rebuilds (31743 * 64 + 63) 1 = true ∧ state_DaybookRebuildsScrubsAndWritesIntents_0.dev.db.bad.contains ((31743 * 64 + 63) * 4 + 1) = false ∧ state_DaybookRebuildsScrubsAndWritesIntents_0.dev.get Fld.DB_ERR_INFO_VALID = 1 := by decide

/-- For `witness_DaybookRebuildsScrubsAndWritesIntents_1`. -/
def state_DaybookRebuildsScrubsAndWritesIntents_1 : State := wired 4 fun s => (s.set .DB_ERR_INFO_VALID 1).modDb fun d => { d with dead := 1 }

/-- DaybookRebuildsScrubsAndWritesIntents, clause 2. -/
theorem witness_DaybookRebuildsScrubsAndWritesIntents_1 :
    100 < 31744 ∧ state_DaybookRebuildsScrubsAndWritesIntents_1.dev.db.remapped.contains (1 * 32768 + 100) = false ∧ state_DaybookRebuildsScrubsAndWritesIntents_1.dev.db.rebuilds (100 * 64 + 2) 1 = false ∧ state_DaybookRebuildsScrubsAndWritesIntents_1.dev.db.bad.contains ((100 * 64 + 2) * 4 + 1) = false ∧ state_DaybookRebuildsScrubsAndWritesIntents_1.dev.get Fld.DB_ERR_INFO_VALID = 1 := by decide

/-- For `witness_DaybookRebuildsScrubsAndWritesIntents_4`. -/
def arg3_DaybookRebuildsScrubsAndWritesIntents_4 : Dev := (wired 4 id).dev

/-- DaybookRebuildsScrubsAndWritesIntents, clause 5. -/
theorem witness_DaybookRebuildsScrubsAndWritesIntents_4 :
    arg3_DaybookRebuildsScrubsAndWritesIntents_4.db.remapped.contains (3 * 32768 + 31743) = false ∧ (arg3_DaybookRebuildsScrubsAndWritesIntents_4.db.copying.any fun e => e.fst == 3 * 32768 + 31743) = false ∧ arg3_DaybookRebuildsScrubsAndWritesIntents_4.db.used.getD 3 0 < 1024 := by decide

/-- For `witness_DaybookRebuildsScrubsAndWritesIntents_5`. -/
def state_DaybookRebuildsScrubsAndWritesIntents_5 : State := wired 4 (·.modDb fun d => { d with copying := [(32868, 60)] })

/-- DaybookRebuildsScrubsAndWritesIntents, clause 6. -/
theorem witness_DaybookRebuildsScrubsAndWritesIntents_5 :
    state_DaybookRebuildsScrubsAndWritesIntents_5.dev.db.copying = [(1 * 32768 + 100, 60)] ∧ 60 + 3 < 64 := by decide

/-- For `witness_DaybookRebuildsScrubsAndWritesIntents_6`. -/
def state_DaybookRebuildsScrubsAndWritesIntents_6 : State := wired 4 (·.modDb fun d => { d with copying := [(32868, 60)] })

/-- DaybookRebuildsScrubsAndWritesIntents, clause 7. -/
theorem witness_DaybookRebuildsScrubsAndWritesIntents_6 :
    state_DaybookRebuildsScrubsAndWritesIntents_6.dev.db.copying = [(1 * 32768 + 100, 60)] ∧ state_DaybookRebuildsScrubsAndWritesIntents_6.dev.db.bad = [] ∧ 64 ≤ 60 + 4 := by decide

/-- For `witness_DaybookRebuildsScrubsAndWritesIntents_7`. -/
def state_DaybookRebuildsScrubsAndWritesIntents_7 : State := wired 4 id

/-- DaybookRebuildsScrubsAndWritesIntents, clause 8. -/
theorem witness_DaybookRebuildsScrubsAndWritesIntents_7 :
    state_DaybookRebuildsScrubsAndWritesIntents_7.dev.db.copying = [] := by decide

/-- For `witness_DaybookRebuildsScrubsAndWritesIntents_8`. -/
def state_DaybookRebuildsScrubsAndWritesIntents_8 : State := wired 4 (·.set .DB_CFG_SCRUB_HOURS 24)

/-- DaybookRebuildsScrubsAndWritesIntents, clause 9. -/
theorem witness_DaybookRebuildsScrubsAndWritesIntents_8 :
    state_DaybookRebuildsScrubsAndWritesIntents_8.dev.get Fld.DB_CFG_SCRUB_HOURS ≠ 0 := by decide

/-- For `witness_DaybookRebuildsScrubsAndWritesIntents_9`. -/
def state_DaybookRebuildsScrubsAndWritesIntents_9 : State := wired 4 (·.set .DB_CFG_SCRUB_HOURS 24)

/-- For `witness_DaybookRebuildsScrubsAndWritesIntents_9`. -/
def arg1_DaybookRebuildsScrubsAndWritesIntents_9 : FaultOp := { unit := 0, kind := 10, recovered := true, tick := 0, bank := 0, row := 0, col := 0, pos := 0, synd := 9, sub := 0, la := none }

/-- DaybookRebuildsScrubsAndWritesIntents, clause 10. -/
theorem witness_DaybookRebuildsScrubsAndWritesIntents_9 :
    state_DaybookRebuildsScrubsAndWritesIntents_9.dev.get Fld.DB_CFG_SCRUB_HOURS ≠ 0 ∧ arg1_DaybookRebuildsScrubsAndWritesIntents_9.kind = 10 := by decide

/-- For `witness_DaybookRebuildsScrubsAndWritesIntents_10`. -/
def state_DaybookRebuildsScrubsAndWritesIntents_10 : State := wired 4 (·.set (.MEM_ECC_CTRL_SCRUB_HOURS 9) 24)

/-- DaybookRebuildsScrubsAndWritesIntents, clause 11. -/
theorem witness_DaybookRebuildsScrubsAndWritesIntents_10 :
    9 < 24 ∧ state_DaybookRebuildsScrubsAndWritesIntents_10.dev.get (Fld.MEM_ECC_CTRL_SCRUB_HOURS 9) ≠ 0 := by decide

/-- For `witness_DaybookRebuildsScrubsAndWritesIntents_11`. -/
def state_DaybookRebuildsScrubsAndWritesIntents_11 : State := wired 4 (·.set .DB_CFG_SCRUB_HOURS 0)

/-- DaybookRebuildsScrubsAndWritesIntents, clause 12. -/
theorem witness_DaybookRebuildsScrubsAndWritesIntents_11 :
    state_DaybookRebuildsScrubsAndWritesIntents_11.dev.get Fld.DB_CFG_SCRUB_HOURS = 0 := by decide

/-- For `witness_DaybookRebuildsScrubsAndWritesIntents_12`. -/
def state_DaybookRebuildsScrubsAndWritesIntents_12 : State := wired 4 (·.modJrn fun j => { j with pos := 16384 * 100 })

/-- DaybookRebuildsScrubsAndWritesIntents, clause 13. -/
theorem witness_DaybookRebuildsScrubsAndWritesIntents_12 :
    state_DaybookRebuildsScrubsAndWritesIntents_12.dev.jrn.full = true := by decide

/-- For `witness_DaybookRebuildsScrubsAndWritesIntents_13`. -/
def state_DaybookRebuildsScrubsAndWritesIntents_13 : State := wired 4 id

/-- DaybookRebuildsScrubsAndWritesIntents, clause 14. -/
theorem witness_DaybookRebuildsScrubsAndWritesIntents_13 :
    state_DaybookRebuildsScrubsAndWritesIntents_13.dev.jrn.full = false := by decide

/-- For `witness_DaybookRebuildsScrubsAndWritesIntents_14`. -/
def state_DaybookRebuildsScrubsAndWritesIntents_14 : State := wired 4 (·.modJrn fun j => { j with due := (List.range 45).map fun i => (1, i, 0), batchAt := some 84 })

/-- DaybookRebuildsScrubsAndWritesIntents, clause 15. -/
theorem witness_DaybookRebuildsScrubsAndWritesIntents_14 :
    state_DaybookRebuildsScrubsAndWritesIntents_14.dev.jrn.due ≠ [] ∧ (state_DaybookRebuildsScrubsAndWritesIntents_14.dev.jrn.batchAt = none ∨ ∃ c, c ∈ state_DaybookRebuildsScrubsAndWritesIntents_14.dev.jrn.batchAt ∧ c + 16 ≤ state_DaybookRebuildsScrubsAndWritesIntents_14.dev.cal.cycle) ∧ (∀ (e : Nat × Nat × Nat), e ∈ state_DaybookRebuildsScrubsAndWritesIntents_14.dev.jrn.due → e.fst = 2 → state_DaybookRebuildsScrubsAndWritesIntents_14.dev.jrn.journaled state_DaybookRebuildsScrubsAndWritesIntents_14.dev.jrn.pos = true) ∧ ∀ (e : Nat × Nat × Nat × Nat), e ∈ state_DaybookRebuildsScrubsAndWritesIntents_14.dev.jrn.force → e.snd.snd.snd + intentRing < state_DaybookRebuildsScrubsAndWritesIntents_14.dev.jrn.iseq ∨ state_DaybookRebuildsScrubsAndWritesIntents_14.dev.jrn.iseq + 6 ≤ e.snd.snd.snd + intentRing := by decide

/-- For `witness_DaybookRebuildsScrubsAndWritesIntents_15`. -/
def state_DaybookRebuildsScrubsAndWritesIntents_15 : State := wired 4 (·.modJrn fun j => { j with due := [(3, 2, 7)], iseq := intentRing + 9, force := [(1, 70, 0, 9)] })

/-- DaybookRebuildsScrubsAndWritesIntents, clause 16. -/
theorem witness_DaybookRebuildsScrubsAndWritesIntents_15 :
    state_DaybookRebuildsScrubsAndWritesIntents_15.dev.jrn.due = [(3, 2, 7)] ∧ (3, 2, 7).fst ≠ 2 ∧ state_DaybookRebuildsScrubsAndWritesIntents_15.dev.jrn.batchAt = none ∧ intentRing ≤ state_DaybookRebuildsScrubsAndWritesIntents_15.dev.jrn.iseq ∧ state_DaybookRebuildsScrubsAndWritesIntents_15.dev.jrn.force = [(1, 70, 0, state_DaybookRebuildsScrubsAndWritesIntents_15.dev.jrn.iseq - intentRing)] := by decide

/-- For `witness_DaybookRebuildsScrubsAndWritesIntents_16`. -/
def state_DaybookRebuildsScrubsAndWritesIntents_16 : State := wired 4 (·.modJrn fun j => { j with due := [(2, 5, 0)], pos := 16384 * 100 })

/-- DaybookRebuildsScrubsAndWritesIntents, clause 17. -/
theorem witness_DaybookRebuildsScrubsAndWritesIntents_16 :
    state_DaybookRebuildsScrubsAndWritesIntents_16.dev.jrn.due = [(2, 5, 0)] ∧ (2, 5, 0).fst = 2 ∧ state_DaybookRebuildsScrubsAndWritesIntents_16.dev.jrn.journaled state_DaybookRebuildsScrubsAndWritesIntents_16.dev.jrn.pos = false := by decide

/-- For `witness_DaybookRebuildsScrubsAndWritesIntents_17`. -/
def state_DaybookRebuildsScrubsAndWritesIntents_17 : State := wired 4 (·.modJrn fun j => { j with due := [(1, 5, 0)], batchAt := some 85 })

/-- DaybookRebuildsScrubsAndWritesIntents, clause 18. -/
theorem witness_DaybookRebuildsScrubsAndWritesIntents_17 :
    state_DaybookRebuildsScrubsAndWritesIntents_17.dev.jrn.due = [] ∨ state_DaybookRebuildsScrubsAndWritesIntents_17.dev.jrn.batchAt = some 85 ∧ state_DaybookRebuildsScrubsAndWritesIntents_17.dev.cal.cycle < 85 + 16 := by decide

/-- For `witness_DaybookRebuildsScrubsAndWritesIntents_3`. -/
def state_DaybookRebuildsScrubsAndWritesIntents_3 : State := wired 4 id

/-- DaybookRebuildsScrubsAndWritesIntents, clause 4. -/
theorem witness_DaybookRebuildsScrubsAndWritesIntents_3 :
    31744 ≤ 31744 ∧ state_DaybookRebuildsScrubsAndWritesIntents_3.dev.db.remapped = [] := by decide

/-- For `witness_FlesalDeliversFramesInOrder_0`. -/
def state_FlesalDeliversFramesInOrder_0 : State := wired 4 id

/-- FlesalDeliversFramesInOrder, clause 1. -/
theorem witness_FlesalDeliversFramesInOrder_0 :
    state_FlesalDeliversFramesInOrder_0.dev.bit Fld.TWIN_STATUS_LINK_UP = false ∨ first.fseq ≠ state_FlesalDeliversFramesInOrder_0.dev.twin.recv := by decide

/-- For `witness_FlesalDeliversFramesInOrder_1`. -/
def state_FlesalDeliversFramesInOrder_1 : State := paired 4 4 id

/-- FlesalDeliversFramesInOrder, clause 2. -/
theorem witness_FlesalDeliversFramesInOrder_1 :
    state_FlesalDeliversFramesInOrder_1.dev.inTurn first FlType.idle = true := by decide

/-- For `witness_FlesalDeliversFramesInOrder_2`. -/
def state_FlesalDeliversFramesInOrder_2 : State := paired 4 4 id

/-- FlesalDeliversFramesInOrder, clause 3. -/
theorem witness_FlesalDeliversFramesInOrder_2 :
    state_FlesalDeliversFramesInOrder_2.dev.inTurn first FlType.budget = true := by decide

/-- For `witness_FlesalDeliversFramesInOrder_3`. -/
def state_FlesalDeliversFramesInOrder_3 : State := wired 4 id

/-- FlesalDeliversFramesInOrder, clause 4. -/
theorem witness_FlesalDeliversFramesInOrder_3 :
    state_FlesalDeliversFramesInOrder_3.dev.bit Fld.TWIN_STATUS_LINK_UP = false := by decide

/-- For `witness_FlesalDeliversFramesInOrder_4`. -/
def state_FlesalDeliversFramesInOrder_4 : State := wired 4 id

/-- FlesalDeliversFramesInOrder, clause 5. -/
theorem witness_FlesalDeliversFramesInOrder_4 :
    state_FlesalDeliversFramesInOrder_4.dev.bit Fld.TWIN_STATUS_LINK_UP = false ∧ state_FlesalDeliversFramesInOrder_4.dev.modeOf ≠ mSWITCHOVER := by decide

/-- For `witness_FlesalDeliversFramesInOrder_5`. -/
def state_FlesalDeliversFramesInOrder_5 : State := wired 8 (·.modTwin fun x => { x with announce := 2, swCause := 1 })

/-- FlesalDeliversFramesInOrder, clause 6. -/
theorem witness_FlesalDeliversFramesInOrder_5 :
    state_FlesalDeliversFramesInOrder_5.dev.bit Fld.TWIN_STATUS_LINK_UP = false ∧ state_FlesalDeliversFramesInOrder_5.dev.modeOf = mSWITCHOVER := by decide

/-- For `witness_FlesalDeliversFramesInOrder_6`. -/
def state_FlesalDeliversFramesInOrder_6 : State := paired 4 4 id

/-- FlesalDeliversFramesInOrder, clause 7. -/
theorem witness_FlesalDeliversFramesInOrder_6 :
    state_FlesalDeliversFramesInOrder_6.dev.bit Fld.TWIN_STATUS_LINK_UP = true := by decide

/-- For `witness_FlesalDeliversFramesInOrder_7`. -/
def state_FlesalDeliversFramesInOrder_7 : State := paired 4 4 id

/-- FlesalDeliversFramesInOrder, clause 8. -/
theorem witness_FlesalDeliversFramesInOrder_7 :
    state_FlesalDeliversFramesInOrder_7.dev.bit Fld.TWIN_STATUS_LINK_UP = true := by decide

/-- For `witness_FlesalDeliversFramesInOrder_8`. -/
def state_FlesalDeliversFramesInOrder_8 : State := paired 4 4 id

/-- FlesalDeliversFramesInOrder, clause 9. -/
theorem witness_FlesalDeliversFramesInOrder_8 :
    state_FlesalDeliversFramesInOrder_8.dev.bit Fld.TWIN_STATUS_LINK_UP = true := by decide

/-- For `witness_FlesalDeliversFramesInOrder_9`. -/
def state_FlesalDeliversFramesInOrder_9 : State := paired 4 4 (·.modTwin fun x => { x with kept := [(.idle, []), (.cycle, [3])] })

/-- FlesalDeliversFramesInOrder, clause 10. -/
theorem witness_FlesalDeliversFramesInOrder_9 :
    state_FlesalDeliversFramesInOrder_9.dev.bit Fld.TWIN_STATUS_LINK_UP = true := by decide

/-- For `witness_FlesalDeliversFramesInOrder_10`. -/
def arg4_FlesalDeliversFramesInOrder_10 : Dev := (wired 4 id).dev

/-- FlesalDeliversFramesInOrder, clause 11. -/
theorem witness_FlesalDeliversFramesInOrder_10 :
    arg4_FlesalDeliversFramesInOrder_10.carries FlType.idle = false := by decide

/-- For `witness_FlesalDeliversFramesInOrder_11`. -/
def arg4_FlesalDeliversFramesInOrder_11 : Dev := (paired 4 4 id).dev

/-- FlesalDeliversFramesInOrder, clause 12. -/
theorem witness_FlesalDeliversFramesInOrder_11 :
    arg4_FlesalDeliversFramesInOrder_11.carries FlType.cycle = true ∧ (arg4_FlesalDeliversFramesInOrder_11.sealFrame 8).snd = true := by decide

/-- For `witness_TheLinkComesUpIsLostAndCarriesMailboxes_0`. -/
def state_TheLinkComesUpIsLostAndCarriesMailboxes_0 : State := paired 4 4 id

/-- TheLinkComesUpIsLostAndCarriesMailboxes, clause 1. -/
theorem witness_TheLinkComesUpIsLostAndCarriesMailboxes_0 :
    state_TheLinkComesUpIsLostAndCarriesMailboxes_0.dev.bit Fld.TWIN_STATUS_LINK_UP = true ∧ 2000 ≤ 2000 := by decide

/-- For `witness_TheLinkComesUpIsLostAndCarriesMailboxes_1`. -/
def state_TheLinkComesUpIsLostAndCarriesMailboxes_1 : State := paired 4 4 id

/-- TheLinkComesUpIsLostAndCarriesMailboxes, clause 2. -/
theorem witness_TheLinkComesUpIsLostAndCarriesMailboxes_1 :
    state_TheLinkComesUpIsLostAndCarriesMailboxes_1.dev.bit Fld.TWIN_STATUS_LINK_UP = true ∧ 2000 < 70000 := by decide

/-- For `witness_TheLinkComesUpIsLostAndCarriesMailboxes_2`. -/
def state_TheLinkComesUpIsLostAndCarriesMailboxes_2 : State := paired 4 4 id

/-- TheLinkComesUpIsLostAndCarriesMailboxes, clause 3. -/
theorem witness_TheLinkComesUpIsLostAndCarriesMailboxes_2 :
    state_TheLinkComesUpIsLostAndCarriesMailboxes_2.dev.twinFitted = false ∨ state_TheLinkComesUpIsLostAndCarriesMailboxes_2.dev.bit Fld.TWIN_STATUS_LINK_UP = true := by decide

/-- For `witness_TheLinkComesUpIsLostAndCarriesMailboxes_3`. -/
def state_TheLinkComesUpIsLostAndCarriesMailboxes_3 : State := paired 4 4 (·.setL [(.TWIN_STATUS_LINK_UP, 0), (.TWIN_DB_OUT_RING, 3)])

/-- TheLinkComesUpIsLostAndCarriesMailboxes, clause 4. -/
theorem witness_TheLinkComesUpIsLostAndCarriesMailboxes_3 :
    state_TheLinkComesUpIsLostAndCarriesMailboxes_3.dev.twinFitted = true ∧ state_TheLinkComesUpIsLostAndCarriesMailboxes_3.dev.bit Fld.TWIN_STATUS_LINK_UP = false ∧ state_TheLinkComesUpIsLostAndCarriesMailboxes_3.dev.inMode [mRECOVERING, mSOLO, mACTIVE, mSTANDBY, mRESYNC, mSWITCHOVER, mQUIESCED] = true := by decide

/-- For `witness_TheLinkComesUpIsLostAndCarriesMailboxes_4`. -/
def state_TheLinkComesUpIsLostAndCarriesMailboxes_4 : State := paired 4 4 id

/-- TheLinkComesUpIsLostAndCarriesMailboxes, clause 5. -/
theorem witness_TheLinkComesUpIsLostAndCarriesMailboxes_4 :
    state_TheLinkComesUpIsLostAndCarriesMailboxes_4.dev.bit Fld.TWIN_STATUS_LINK_UP = true ∧ state_TheLinkComesUpIsLostAndCarriesMailboxes_4.dev.modeOf = mSOLO ∧ state_TheLinkComesUpIsLostAndCarriesMailboxes_4.dev.get Fld.TWIN_MB_FLAGS_OUT_FULL = 0 ∧ state_TheLinkComesUpIsLostAndCarriesMailboxes_4.dev.twin.resync = none := by decide

/-- For `witness_TheLinkComesUpIsLostAndCarriesMailboxes_5`. -/
def state_TheLinkComesUpIsLostAndCarriesMailboxes_5 : State := paired 4 4 (·.set .TWIN_MB_FLAGS_OUT_FULL 128)

/-- TheLinkComesUpIsLostAndCarriesMailboxes, clause 6. -/
theorem witness_TheLinkComesUpIsLostAndCarriesMailboxes_5 :
    state_TheLinkComesUpIsLostAndCarriesMailboxes_5.dev.bit Fld.TWIN_STATUS_LINK_UP = true ∧ state_TheLinkComesUpIsLostAndCarriesMailboxes_5.dev.modeOf = mSOLO ∧ state_TheLinkComesUpIsLostAndCarriesMailboxes_5.dev.get Fld.TWIN_MB_FLAGS_OUT_FULL ≠ 0 ∧ state_TheLinkComesUpIsLostAndCarriesMailboxes_5.dev.twin.resync = none := by decide

/-- For `witness_TheLinkComesUpIsLostAndCarriesMailboxes_6`. -/
def state_TheLinkComesUpIsLostAndCarriesMailboxes_6 : State := paired 6 5 id

/-- TheLinkComesUpIsLostAndCarriesMailboxes, clause 7. -/
theorem witness_TheLinkComesUpIsLostAndCarriesMailboxes_6 :
    state_TheLinkComesUpIsLostAndCarriesMailboxes_6.dev.bit Fld.TWIN_STATUS_LINK_UP = true ∧ state_TheLinkComesUpIsLostAndCarriesMailboxes_6.dev.modeOf = mSTANDBY ∧ state_TheLinkComesUpIsLostAndCarriesMailboxes_6.dev.get Fld.TWIN_MB_FLAGS_OUT_FULL = 0 ∧ state_TheLinkComesUpIsLostAndCarriesMailboxes_6.dev.twin.resync = none ∧ state_TheLinkComesUpIsLostAndCarriesMailboxes_6.dev.bit Fld.TWIN_STATUS_FENCED = false := by decide

/-- For `witness_TheLinkComesUpIsLostAndCarriesMailboxes_7`. -/
def state_TheLinkComesUpIsLostAndCarriesMailboxes_7 : State := paired 4 4 id

/-- TheLinkComesUpIsLostAndCarriesMailboxes, clause 8. -/
theorem witness_TheLinkComesUpIsLostAndCarriesMailboxes_7 :
    state_TheLinkComesUpIsLostAndCarriesMailboxes_7.dev.inTurn first FlType.mailbox = true := by decide

/-- For `witness_TheLinkComesUpIsLostAndCarriesMailboxes_8`. -/
def state_TheLinkComesUpIsLostAndCarriesMailboxes_8 : State := paired 4 4 id

/-- TheLinkComesUpIsLostAndCarriesMailboxes, clause 9. -/
theorem witness_TheLinkComesUpIsLostAndCarriesMailboxes_8 :
    state_TheLinkComesUpIsLostAndCarriesMailboxes_8.dev.inTurn first FlType.mailbox = true := by decide

/-- For `witness_TheLinkComesUpIsLostAndCarriesMailboxes_9`. -/
def state_TheLinkComesUpIsLostAndCarriesMailboxes_9 : State := paired 4 4 (·.set .TWIN_MB_FLAGS_OUT_FULL 128)

/-- TheLinkComesUpIsLostAndCarriesMailboxes, clause 10. -/
theorem witness_TheLinkComesUpIsLostAndCarriesMailboxes_9 :
    state_TheLinkComesUpIsLostAndCarriesMailboxes_9.dev.inTurn first FlType.mailbox = true := by decide

/-- For `witness_TheLinkComesUpIsLostAndCarriesMailboxes_10`. -/
def state_TheLinkComesUpIsLostAndCarriesMailboxes_10 : State := paired 4 4 (·.set .TWIN_MB_FLAGS_OUT_FULL 128)

/-- TheLinkComesUpIsLostAndCarriesMailboxes, clause 11. -/
theorem witness_TheLinkComesUpIsLostAndCarriesMailboxes_10 :
    7 < 8 ∧ state_TheLinkComesUpIsLostAndCarriesMailboxes_10.dev.reaches (590336 + 4 * 7) = true ∧ (state_TheLinkComesUpIsLostAndCarriesMailboxes_10.dev.get Fld.TWIN_MB_FLAGS_OUT_FULL).testBit 7 = true := by decide

/-- For `witness_TheLinkComesUpIsLostAndCarriesMailboxes_11`. -/
def state_TheLinkComesUpIsLostAndCarriesMailboxes_11 : State := wired 4 id

/-- TheLinkComesUpIsLostAndCarriesMailboxes, clause 12. -/
theorem witness_TheLinkComesUpIsLostAndCarriesMailboxes_11 :
    7 < 8 ∧ 5 < 2 ^ 32 ∧ state_TheLinkComesUpIsLostAndCarriesMailboxes_11.dev.reaches (590336 + 4 * 7) = true ∧ (state_TheLinkComesUpIsLostAndCarriesMailboxes_11.dev.get Fld.TWIN_MB_FLAGS_OUT_FULL).testBit 7 = false ∧ (state_TheLinkComesUpIsLostAndCarriesMailboxes_11.dev.bit Fld.TWIN_STATUS_LINK_UP = false ∨ state_TheLinkComesUpIsLostAndCarriesMailboxes_11.dev.twin.partner = none) := by decide

/-- For `witness_TheLinkComesUpIsLostAndCarriesMailboxes_12`. -/
def state_TheLinkComesUpIsLostAndCarriesMailboxes_12 : State := paired 4 4 id

/-- TheLinkComesUpIsLostAndCarriesMailboxes, clause 13. -/
theorem witness_TheLinkComesUpIsLostAndCarriesMailboxes_12 :
    0 < 8 ∧ 5 < 2 ^ 32 ∧ state_TheLinkComesUpIsLostAndCarriesMailboxes_12.dev.reaches (590336 + 4 * 0) = true ∧ (state_TheLinkComesUpIsLostAndCarriesMailboxes_12.dev.get Fld.TWIN_MB_FLAGS_OUT_FULL).testBit 0 = false ∧ state_TheLinkComesUpIsLostAndCarriesMailboxes_12.dev.bit Fld.TWIN_STATUS_LINK_UP = true ∧ state_TheLinkComesUpIsLostAndCarriesMailboxes_12.dev.twin.partner ≠ none := by decide

/-- For `witness_TheLinkComesUpIsLostAndCarriesMailboxes_13`. -/
def state_TheLinkComesUpIsLostAndCarriesMailboxes_13 : State := wired 4 id

/-- TheLinkComesUpIsLostAndCarriesMailboxes, clause 14. -/
theorem witness_TheLinkComesUpIsLostAndCarriesMailboxes_13 :
    5 < 2 ^ 32 ∧ state_TheLinkComesUpIsLostAndCarriesMailboxes_13.dev.reaches 590404 = true ∧ (state_TheLinkComesUpIsLostAndCarriesMailboxes_13.dev.bit Fld.TWIN_STATUS_LINK_UP = false ∨ state_TheLinkComesUpIsLostAndCarriesMailboxes_13.dev.twin.partner = none) := by decide

/-- For `witness_TheLinkComesUpIsLostAndCarriesMailboxes_14`. -/
def state_TheLinkComesUpIsLostAndCarriesMailboxes_14 : State := paired 4 4 id

/-- TheLinkComesUpIsLostAndCarriesMailboxes, clause 15. -/
theorem witness_TheLinkComesUpIsLostAndCarriesMailboxes_14 :
    5 < 2 ^ 32 ∧ state_TheLinkComesUpIsLostAndCarriesMailboxes_14.dev.reaches 590404 = true ∧ state_TheLinkComesUpIsLostAndCarriesMailboxes_14.dev.bit Fld.TWIN_STATUS_LINK_UP = true ∧ state_TheLinkComesUpIsLostAndCarriesMailboxes_14.dev.twin.partner ≠ none := by decide

/-- For `witness_TheLinkComesUpIsLostAndCarriesMailboxes_15`. -/
def state_TheLinkComesUpIsLostAndCarriesMailboxes_15 : State := paired 4 4 (·.set .TWIN_MB_FLAGS_IN_FULL 128)

/-- TheLinkComesUpIsLostAndCarriesMailboxes, clause 16. -/
theorem witness_TheLinkComesUpIsLostAndCarriesMailboxes_15 :
    7 < 8 ∧ state_TheLinkComesUpIsLostAndCarriesMailboxes_15.dev.readsAt (590368 + 4 * 7) = true ∧ (state_TheLinkComesUpIsLostAndCarriesMailboxes_15.dev.get Fld.TWIN_MB_FLAGS_IN_FULL).testBit 7 = true := by decide

/-- For `witness_TheLinkComesUpIsLostAndCarriesMailboxes_16`. -/
def state_TheLinkComesUpIsLostAndCarriesMailboxes_16 : State := paired 4 4 (·.set (.TWIN_MB_IN_WORD 7) 9)

/-- TheLinkComesUpIsLostAndCarriesMailboxes, clause 17. -/
theorem witness_TheLinkComesUpIsLostAndCarriesMailboxes_16 :
    7 < 8 ∧ state_TheLinkComesUpIsLostAndCarriesMailboxes_16.dev.readsAt (590368 + 4 * 7) = true ∧ (state_TheLinkComesUpIsLostAndCarriesMailboxes_16.dev.get Fld.TWIN_MB_FLAGS_IN_FULL).testBit 7 = false := by decide

/-- For `witness_TwinFramesActAsTheirTypeSays_0`. -/
def state_TwinFramesActAsTheirTypeSays_0 : State := paired 5 6 (·.modTwin fun x => { x with lines := [(2, 9), (3, 8)] })

/-- TwinFramesActAsTheirTypeSays, clause 1. -/
theorem witness_TwinFramesActAsTheirTypeSays_0 :
    state_TwinFramesActAsTheirTypeSays_0.dev.inTurn first FlType.report = true := by decide

/-- For `witness_TwinFramesActAsTheirTypeSays_1`. -/
def state_TwinFramesActAsTheirTypeSays_1 : State := paired 6 5 queue32

/-- TwinFramesActAsTheirTypeSays, clause 2. -/
theorem witness_TwinFramesActAsTheirTypeSays_1 :
    state_TwinFramesActAsTheirTypeSays_1.dev.inTurn first FlType.item = true := by decide

/-- For `witness_TwinFramesActAsTheirTypeSays_1later`. -/
def state_TwinFramesActAsTheirTypeSays_1later : State := paired 6 5 queue32

/-- TwinFramesActAsTheirTypeSays, clause 2. -/
theorem witness_TwinFramesActAsTheirTypeSays_1later :
    state_TwinFramesActAsTheirTypeSays_1later.dev.inTurn first FlType.item = true := by decide

/-- For `witness_TwinFramesActAsTheirTypeSays_1full`. -/
def state_TwinFramesActAsTheirTypeSays_1full : State := paired 6 5 id

/-- TwinFramesActAsTheirTypeSays, clause 2. -/
theorem witness_TwinFramesActAsTheirTypeSays_1full :
    state_TwinFramesActAsTheirTypeSays_1full.dev.inTurn first FlType.item = true := by decide

/-- For `witness_TwinFramesActAsTheirTypeSays_2`. -/
def arg4_TwinFramesActAsTheirTypeSays_2 : Dev := (paired 6 5 (·.modTwin fun x => { x with reports := [(4, 5, 6)] })).dev

/-- TwinFramesActAsTheirTypeSays, clause 3. -/
theorem witness_TwinFramesActAsTheirTypeSays_2 :
    arg4_TwinFramesActAsTheirTypeSays_2.follower = true ∧ arg4_TwinFramesActAsTheirTypeSays_2.twin.reports = [(4, 5, 6)] ∧ arg4_TwinFramesActAsTheirTypeSays_2.gal.waiting = [] := by decide

/-- For `witness_TwinFramesActAsTheirTypeSays_3`. -/
def arg6_TwinFramesActAsTheirTypeSays_3 : Dev := (paired 6 5 fun s => (s.modTwin fun x => { x with reports := [(4, 5, 6)] }).modGal fun g => { g with waiting := [{ wait0 5 with stamp := 5 }] }).dev

/-- For `witness_TwinFramesActAsTheirTypeSays_3`. -/
def arg2_TwinFramesActAsTheirTypeSays_3 : GWait := { wait0 5 with stamp := 5 }

set_option maxRecDepth 8192 in
/-- TwinFramesActAsTheirTypeSays, clause 4. -/
theorem witness_TwinFramesActAsTheirTypeSays_3 :
    arg6_TwinFramesActAsTheirTypeSays_3.follower = true ∧ arg6_TwinFramesActAsTheirTypeSays_3.twin.reports = [(4, 5, 6)] ∧ arg6_TwinFramesActAsTheirTypeSays_3.gal.waiting = [arg2_TwinFramesActAsTheirTypeSays_3] ∧ arg2_TwinFramesActAsTheirTypeSays_3.evac = false ∧ arg2_TwinFramesActAsTheirTypeSays_3.stamp ≤ 5 := by decide

/-- For `witness_TwinFramesActAsTheirTypeSays_4`. -/
def state_TwinFramesActAsTheirTypeSays_4 : State := paired 6 5 id

/-- TwinFramesActAsTheirTypeSays, clause 5. -/
theorem witness_TwinFramesActAsTheirTypeSays_4 :
    state_TwinFramesActAsTheirTypeSays_4.dev.inTurn first FlType.cycle = true := by decide

/-- For `witness_TwinFramesActAsTheirTypeSays_5`. -/
def state_TwinFramesActAsTheirTypeSays_5 : State := paired 6 5 id

/-- TwinFramesActAsTheirTypeSays, clause 6. -/
theorem witness_TwinFramesActAsTheirTypeSays_5 :
    state_TwinFramesActAsTheirTypeSays_5.dev.inTurn first FlType.digest = true ∧ (state_TwinFramesActAsTheirTypeSays_5.dev.afterFrame first).twin.own.get? (2 * 2) = none := by decide

/-- For `witness_TwinFramesActAsTheirTypeSays_6`. -/
def state_TwinFramesActAsTheirTypeSays_6 : State := paired 6 5 (·.modTwin fun x => { x with own := [(4, 77)] })

/-- TwinFramesActAsTheirTypeSays, clause 7. -/
theorem witness_TwinFramesActAsTheirTypeSays_6 :
    state_TwinFramesActAsTheirTypeSays_6.dev.inTurn first FlType.digest = true ∧ (state_TwinFramesActAsTheirTypeSays_6.dev.afterFrame first).twin.own.get? (2 * 2) = some 77 := by decide

/-- For `witness_TwinFramesActAsTheirTypeSays_7`. -/
def state_TwinFramesActAsTheirTypeSays_7 : State := paired 6 5 (·.modTwin fun x => { x with own := [(4, 78)] })

/-- TwinFramesActAsTheirTypeSays, clause 8. -/
theorem witness_TwinFramesActAsTheirTypeSays_7 :
    state_TwinFramesActAsTheirTypeSays_7.dev.inTurn first FlType.digest = true ∧ (state_TwinFramesActAsTheirTypeSays_7.dev.afterFrame first).twin.own.get? (2 * 2) = some 78 ∧ 78 ≠ 77 ∧ (state_TwinFramesActAsTheirTypeSays_7.dev.afterFrame first).twin.mismatch = none ∧ (state_TwinFramesActAsTheirTypeSays_7.dev.afterFrame first).twin.verdict = none ∧ 1 ≤ 2 := by decide

/-- For `witness_TwinFramesActAsTheirTypeSays_8`. -/
def state_TwinFramesActAsTheirTypeSays_8 : State := paired 6 5 id

/-- TwinFramesActAsTheirTypeSays, clause 9. -/
theorem witness_TwinFramesActAsTheirTypeSays_8 :
    state_TwinFramesActAsTheirTypeSays_8.dev.inTurn first FlType.verdict = true ∧ (state_TwinFramesActAsTheirTypeSays_8.dev.afterFrame first).twin.mismatch = none := by decide

/-- For `witness_TwinFramesActAsTheirTypeSays_9`. -/
def state_TwinFramesActAsTheirTypeSays_9 : State := paired 5 6 (·.modTwin fun x => { x with mismatch := some ⟨2, 0, false⟩ })

/-- For `witness_TwinFramesActAsTheirTypeSays_9`. -/
def arg1_TwinFramesActAsTheirTypeSays_9 : Mismatch := ⟨2, 0, false⟩

/-- TwinFramesActAsTheirTypeSays, clause 10. -/
theorem witness_TwinFramesActAsTheirTypeSays_9 :
    state_TwinFramesActAsTheirTypeSays_9.dev.inTurn first FlType.verdict = true ∧ (state_TwinFramesActAsTheirTypeSays_9.dev.afterFrame first).twin.mismatch = some arg1_TwinFramesActAsTheirTypeSays_9 ∧ (state_TwinFramesActAsTheirTypeSays_9.dev.afterFrame first).modeOf = mACTIVE ∧ (arg1_TwinFramesActAsTheirTypeSays_9.own = false ∨ false = true) := by decide

/-- For `witness_TwinFramesActAsTheirTypeSays_10`. -/
def state_TwinFramesActAsTheirTypeSays_10 : State := paired 5 6 (·.modTwin fun x => { x with mismatch := some ⟨2, 0, true⟩ })

/-- For `witness_TwinFramesActAsTheirTypeSays_10`. -/
def arg1_TwinFramesActAsTheirTypeSays_10 : Mismatch := ⟨2, 0, true⟩

/-- TwinFramesActAsTheirTypeSays, clause 11. -/
theorem witness_TwinFramesActAsTheirTypeSays_10 :
    state_TwinFramesActAsTheirTypeSays_10.dev.inTurn first FlType.verdict = true ∧ (state_TwinFramesActAsTheirTypeSays_10.dev.afterFrame first).twin.mismatch = some arg1_TwinFramesActAsTheirTypeSays_10 ∧ (state_TwinFramesActAsTheirTypeSays_10.dev.afterFrame first).modeOf = mACTIVE ∧ arg1_TwinFramesActAsTheirTypeSays_10.own = true := by decide

/-- For `witness_TwinFramesActAsTheirTypeSays_11`. -/
def state_TwinFramesActAsTheirTypeSays_11 : State := paired 6 5 (·.modTwin fun x => { x with mismatch := some ⟨2, 0, false⟩ })

/-- For `witness_TwinFramesActAsTheirTypeSays_11`. -/
def arg1_TwinFramesActAsTheirTypeSays_11 : Mismatch := ⟨2, 0, false⟩

/-- TwinFramesActAsTheirTypeSays, clause 12. -/
theorem witness_TwinFramesActAsTheirTypeSays_11 :
    state_TwinFramesActAsTheirTypeSays_11.dev.inTurn first FlType.verdict = true ∧ (state_TwinFramesActAsTheirTypeSays_11.dev.afterFrame first).twin.mismatch = some arg1_TwinFramesActAsTheirTypeSays_11 ∧ (state_TwinFramesActAsTheirTypeSays_11.dev.afterFrame first).modeOf = mSTANDBY ∧ (false = false ∨ arg1_TwinFramesActAsTheirTypeSays_11.own = true) := by decide

/-- For `witness_TwinFramesActAsTheirTypeSays_12`. -/
def state_TwinFramesActAsTheirTypeSays_12 : State := paired 5 6 (·.modTwin fun x => { x with mismatch := some ⟨2, 0, true⟩ })

/-- For `witness_TwinFramesActAsTheirTypeSays_12`. -/
def arg1_TwinFramesActAsTheirTypeSays_12 : Mismatch := ⟨2, 0, true⟩

/-- TwinFramesActAsTheirTypeSays, clause 13. -/
theorem witness_TwinFramesActAsTheirTypeSays_12 :
    state_TwinFramesActAsTheirTypeSays_12.dev.twin.mismatch = some arg1_TwinFramesActAsTheirTypeSays_12 ∧ state_TwinFramesActAsTheirTypeSays_12.dev.twin.verdict = none ∧ state_TwinFramesActAsTheirTypeSays_12.dev.modeOf = mACTIVE := by decide

/-- For `witness_TwinFramesActAsTheirTypeSays_13`. -/
def state_TwinFramesActAsTheirTypeSays_13 : State := paired 5 6 id

/-- TwinFramesActAsTheirTypeSays, clause 14. -/
theorem witness_TwinFramesActAsTheirTypeSays_13 :
    state_TwinFramesActAsTheirTypeSays_13.dev.twin.mismatch = none ∨ state_TwinFramesActAsTheirTypeSays_13.dev.twin.verdict ≠ none ∨ state_TwinFramesActAsTheirTypeSays_13.dev.modeOf ≠ mACTIVE := by decide

/-- For `witness_TwinFramesActAsTheirTypeSays_14`. -/
def state_TwinFramesActAsTheirTypeSays_14 : State := paired 6 5 id

/-- TwinFramesActAsTheirTypeSays, clause 15. -/
theorem witness_TwinFramesActAsTheirTypeSays_14 :
    state_TwinFramesActAsTheirTypeSays_14.dev.inTurn first FlType.fault = true := by decide

/-- For `witness_TwinFramesActAsTheirTypeSays_15`. -/
def state_TwinFramesActAsTheirTypeSays_15 : State := paired 6 5 (·.modTwin fun x => { x with onum := 8 })

/-- TwinFramesActAsTheirTypeSays, clause 16. -/
theorem witness_TwinFramesActAsTheirTypeSays_15 :
    state_TwinFramesActAsTheirTypeSays_15.dev.inTurn first FlType.handover = true := by decide

/-- For `witness_TwinFramesActAsTheirTypeSays_16`. -/
def state_TwinFramesActAsTheirTypeSays_16 : State := paired 5 6 (·.modTwin fun x => { x with handover := some (some 8) })

/-- TwinFramesActAsTheirTypeSays, clause 17. -/
theorem witness_TwinFramesActAsTheirTypeSays_16 :
    state_TwinFramesActAsTheirTypeSays_16.dev.inTurn first FlType.handoverAck = true ∧ (state_TwinFramesActAsTheirTypeSays_16.dev.afterFrame first).twin.handover = some (some 8) := by decide

/-- For `witness_TwinFramesActAsTheirTypeSays_17`. -/
def state_TwinFramesActAsTheirTypeSays_17 : State := paired 5 6 id

/-- TwinFramesActAsTheirTypeSays, clause 18. -/
theorem witness_TwinFramesActAsTheirTypeSays_17 :
    state_TwinFramesActAsTheirTypeSays_17.dev.inTurn first FlType.handoverAck = true ∧ (state_TwinFramesActAsTheirTypeSays_17.dev.afterFrame first).twin.handover = none := by decide

/-- For `witness_PartnerStatesDriveTheModes_0`. -/
def state_PartnerStatesDriveTheModes_0 : State := paired 5 6 (·.set .TWIN_STATUS_FENCED 1)

/-- For `witness_PartnerStatesDriveTheModes_0`. -/
def arg1_PartnerStatesDriveTheModes_0 : Partner := partner0 4

/-- PartnerStatesDriveTheModes, clause 1. -/
theorem witness_PartnerStatesDriveTheModes_0 :
    state_PartnerStatesDriveTheModes_0.dev.inTurn first FlType.state = true ∧ (state_PartnerStatesDriveTheModes_0.dev.afterFrame first).bit Fld.TWIN_STATUS_FENCED = true ∧ Option.map Forme.digest (state_PartnerStatesDriveTheModes_0.dev.afterFrame first).forme.run = some arg1_PartnerStatesDriveTheModes_0.digest ∧ ((state_PartnerStatesDriveTheModes_0.dev.afterFrame first).twin.partner ≠ none ∨ (state_PartnerStatesDriveTheModes_0.dev.afterFrame first).get Fld.TWIN_DB_OUT_RING = 0) := by decide

/-- For `witness_PartnerStatesDriveTheModes_2`. -/
def state_PartnerStatesDriveTheModes_2 : State := paired 4 7 id

/-- For `witness_PartnerStatesDriveTheModes_2`. -/
def arg1_PartnerStatesDriveTheModes_2 : Partner := partner0 6

/-- PartnerStatesDriveTheModes, clause 3. -/
theorem witness_PartnerStatesDriveTheModes_2 :
    state_PartnerStatesDriveTheModes_2.dev.inTurn first FlType.state = true ∧ (state_PartnerStatesDriveTheModes_2.dev.afterFrame first).bit Fld.TWIN_STATUS_FENCED = false ∧ Option.map Forme.digest (state_PartnerStatesDriveTheModes_2.dev.afterFrame first).forme.run = some arg1_PartnerStatesDriveTheModes_2.digest ∧ (state_PartnerStatesDriveTheModes_2.dev.afterFrame first).twin.partner ≠ none ∧ (state_PartnerStatesDriveTheModes_2.dev.afterFrame first).modeOf = mSOLO ∧ arg1_PartnerStatesDriveTheModes_2.mode = mSTANDBY ∧ (state_PartnerStatesDriveTheModes_2.dev.afterFrame first).mode.due = none ∧ arg1_PartnerStatesDriveTheModes_2.pair = (state_PartnerStatesDriveTheModes_2.dev.afterFrame first).twin.pair := by decide

/-- For `witness_PartnerStatesDriveTheModes_3`. -/
def state_PartnerStatesDriveTheModes_3 : State := paired 5 6 id

/-- For `witness_PartnerStatesDriveTheModes_3`. -/
def arg2_PartnerStatesDriveTheModes_3 : Partner := partner0 7

/-- For `witness_PartnerStatesDriveTheModes_3`. -/
def arg1_PartnerStatesDriveTheModes_3 : Partner := partner0 6

/-- PartnerStatesDriveTheModes, clause 4. -/
theorem witness_PartnerStatesDriveTheModes_3 :
    state_PartnerStatesDriveTheModes_3.dev.inTurn first FlType.state = true ∧ (state_PartnerStatesDriveTheModes_3.dev.afterFrame first).bit Fld.TWIN_STATUS_FENCED = false ∧ Option.map Forme.digest (state_PartnerStatesDriveTheModes_3.dev.afterFrame first).forme.run = some arg2_PartnerStatesDriveTheModes_3.digest ∧ (state_PartnerStatesDriveTheModes_3.dev.afterFrame first).twin.partner = some arg1_PartnerStatesDriveTheModes_3 ∧ arg1_PartnerStatesDriveTheModes_3.mode = mSTANDBY ∧ (state_PartnerStatesDriveTheModes_3.dev.afterFrame first).modeOf = mACTIVE ∧ (arg2_PartnerStatesDriveTheModes_3.mode = mRESYNC ∨ arg2_PartnerStatesDriveTheModes_3.mode = mRECOVERING) ∧ (state_PartnerStatesDriveTheModes_3.dev.afterFrame first).mode.due = none := by decide

/-- For `witness_PartnerStatesDriveTheModes_4`. -/
def state_PartnerStatesDriveTheModes_4 : State := paired 5 6 id

/-- For `witness_PartnerStatesDriveTheModes_4`. -/
def arg2_PartnerStatesDriveTheModes_4 : Partner := partner0 4

/-- For `witness_PartnerStatesDriveTheModes_4`. -/
def arg1_PartnerStatesDriveTheModes_4 : Partner := partner0 6

/-- PartnerStatesDriveTheModes, clause 5. -/
theorem witness_PartnerStatesDriveTheModes_4 :
    state_PartnerStatesDriveTheModes_4.dev.inTurn first FlType.state = true ∧ (state_PartnerStatesDriveTheModes_4.dev.afterFrame first).bit Fld.TWIN_STATUS_FENCED = false ∧ Option.map Forme.digest (state_PartnerStatesDriveTheModes_4.dev.afterFrame first).forme.run = some arg2_PartnerStatesDriveTheModes_4.digest ∧ (state_PartnerStatesDriveTheModes_4.dev.afterFrame first).twin.partner = some arg1_PartnerStatesDriveTheModes_4 ∧ arg1_PartnerStatesDriveTheModes_4.mode = mSTANDBY ∧ (state_PartnerStatesDriveTheModes_4.dev.afterFrame first).modeOf = mACTIVE ∧ (arg2_PartnerStatesDriveTheModes_4.mode = mSOLO ∨ arg2_PartnerStatesDriveTheModes_4.mode = mACTIVE) ∧ (state_PartnerStatesDriveTheModes_4.dev.afterFrame first).mode.due = none := by decide

/-- For `witness_PartnerStatesDriveTheModes_5`. -/
def state_PartnerStatesDriveTheModes_5 : State := paired 6 5 id

/-- For `witness_PartnerStatesDriveTheModes_5`. -/
def arg2_PartnerStatesDriveTheModes_5 : Partner := { partner0 4 with term := 3 }

/-- For `witness_PartnerStatesDriveTheModes_5`. -/
def arg1_PartnerStatesDriveTheModes_5 : Partner := partner0 5

/-- PartnerStatesDriveTheModes, clause 6. -/
theorem witness_PartnerStatesDriveTheModes_5 :
    state_PartnerStatesDriveTheModes_5.dev.inTurn first FlType.state = true ∧ (state_PartnerStatesDriveTheModes_5.dev.afterFrame first).bit Fld.TWIN_STATUS_FENCED = false ∧ Option.map Forme.digest (state_PartnerStatesDriveTheModes_5.dev.afterFrame first).forme.run = some arg2_PartnerStatesDriveTheModes_5.digest ∧ (state_PartnerStatesDriveTheModes_5.dev.afterFrame first).twin.partner = some arg1_PartnerStatesDriveTheModes_5 ∧ arg1_PartnerStatesDriveTheModes_5.mode = mACTIVE ∧ (state_PartnerStatesDriveTheModes_5.dev.afterFrame first).modeOf = mSTANDBY ∧ arg2_PartnerStatesDriveTheModes_5.mode = mSOLO ∧ (state_PartnerStatesDriveTheModes_5.dev.afterFrame first).mode.due = none ∧ arg2_PartnerStatesDriveTheModes_5.pair = (state_PartnerStatesDriveTheModes_5.dev.afterFrame first).twin.pair := by decide

/-- For `witness_PartnerStatesDriveTheModes_6`. -/
def state_PartnerStatesDriveTheModes_6 : State := paired 5 6 (fun s => (s.set .TWIN_STATUS_FENCED 1).modForme fun x => { x with run := some forme0 })

/-- For `witness_PartnerStatesDriveTheModes_6`. -/
def arg2_PartnerStatesDriveTheModes_6 : Partner := { partner0 6 with digest := [1] }

/-- PartnerStatesDriveTheModes, clause 7. -/
theorem witness_PartnerStatesDriveTheModes_6 :
    state_PartnerStatesDriveTheModes_6.dev.inTurn first FlType.state = true ∧ (state_PartnerStatesDriveTheModes_6.dev.afterFrame first).bit Fld.TWIN_STATUS_FENCED = true ∧ (state_PartnerStatesDriveTheModes_6.dev.afterFrame first).forme.run = some forme0 ∧ forme0.digest ≠ arg2_PartnerStatesDriveTheModes_6.digest ∧ (state_PartnerStatesDriveTheModes_6.dev.afterFrame first).digestsDiffer = false ∧ (state_PartnerStatesDriveTheModes_6.dev.afterFrame first).twin.partner ≠ none := by decide

/-- For `witness_LedgerLeasesAndGrants_0`. -/
def state_LedgerLeasesAndGrants_0 : State := wired 4 (·.modCal fun c => { c with count := 1024 })

/-- LedgerLeasesAndGrants, clause 1. -/
theorem witness_LedgerLeasesAndGrants_0 :
    state_LedgerLeasesAndGrants_0.dev.calRuns = true ∧ state_LedgerLeasesAndGrants_0.dev.inMode [mSOLO, mACTIVE, mSTANDBY, mRESYNC] = true ∧ state_LedgerLeasesAndGrants_0.dev.twin.ledgerAt + 1024 ≤ state_LedgerLeasesAndGrants_0.dev.cal.count ∧ state_LedgerLeasesAndGrants_0.dev.twin.keptFrom = none := by decide

/-- For `witness_LedgerLeasesAndGrants_1`. -/
def state_LedgerLeasesAndGrants_1 : State := wired 4 (·.modCal fun c => { c with count := 1023 })

/-- LedgerLeasesAndGrants, clause 2. -/
theorem witness_LedgerLeasesAndGrants_1 :
    state_LedgerLeasesAndGrants_1.dev.calRuns = false ∨ state_LedgerLeasesAndGrants_1.dev.cal.count < state_LedgerLeasesAndGrants_1.dev.twin.ledgerAt + 1024 := by decide

/-- For `witness_LedgerLeasesAndGrants_2`. -/
def state_LedgerLeasesAndGrants_2 : State := paired 5 6 id

/-- LedgerLeasesAndGrants, clause 3. -/
theorem witness_LedgerLeasesAndGrants_2 :
    state_LedgerLeasesAndGrants_2.dev.twin.leaseDue = false ∨ state_LedgerLeasesAndGrants_2.dev.twin.lease.isSome = true ∨ state_LedgerLeasesAndGrants_2.dev.bit Fld.TWIN_STATUS_FENCED = true := by decide

/-- For `witness_LedgerLeasesAndGrants_3`. -/
def state_LedgerLeasesAndGrants_3 : State := paired 5 6 fun s => (s.set .TWIN_LEASE_CFG_WITNESS_SLOT 9).modTwin fun x => { x with leaseDue := true }

/-- LedgerLeasesAndGrants, clause 4. -/
theorem witness_LedgerLeasesAndGrants_3 :
    state_LedgerLeasesAndGrants_3.dev.twin.leaseDue = true ∧ state_LedgerLeasesAndGrants_3.dev.twin.lease = none ∧ state_LedgerLeasesAndGrants_3.dev.twin.denied ≠ some state_LedgerLeasesAndGrants_3.dev.twin.term ∧ state_LedgerLeasesAndGrants_3.dev.bit Fld.TWIN_STATUS_FENCED = false ∧ (state_LedgerLeasesAndGrants_3.dev.keys.slot (state_LedgerLeasesAndGrants_3.dev.get Fld.TWIN_LEASE_CFG_WITNESS_SLOT)).state = KState.active := by decide

/-- For `witness_LedgerLeasesAndGrants_4`. -/
def state_LedgerLeasesAndGrants_4 : State := wired 6 id

/-- LedgerLeasesAndGrants, clause 5. -/
theorem witness_LedgerLeasesAndGrants_4 :
    state_LedgerLeasesAndGrants_4.dev.reaches 590208 = true ∧ 76 = 76 ∧ state_LedgerLeasesAndGrants_4.dev.bit Fld.TWIN_STATUS_FENCED = false ∧ state_LedgerLeasesAndGrants_4.dev.twin.lease = none := by decide

/-- LedgerLeasesAndGrants, clause 6. -/
theorem witness_LedgerLeasesAndGrants_5 :
    77 ≠ 76 := by decide

/-- For `witness_LedgerLeasesAndGrants_6`. -/
def state_LedgerLeasesAndGrants_6 : State := wired 6 fun s => (s.setL [(.TWIN_LEASE_GRANT_GRANT 0, 0x52474C4B), (.TWIN_LEASE_GRANT_GRANT 1, 9)]).modTwin fun x => { x with lease := some lease0 }

/-- LedgerLeasesAndGrants, clause 7. -/
theorem witness_LedgerLeasesAndGrants_6 :
    state_LedgerLeasesAndGrants_6.dev.reaches 590208 = true ∧ state_LedgerLeasesAndGrants_6.dev.bit Fld.TWIN_STATUS_FENCED = false ∧ state_LedgerLeasesAndGrants_6.dev.twin.lease = some lease0 := by decide

/-- For `witness_LedgerLeasesAndGrants_7`. -/
def state_LedgerLeasesAndGrants_7 : State := wired 3 (·.modTwin fun x => { x with lease := some lease0 })

/-- LedgerLeasesAndGrants, clause 8. -/
theorem witness_LedgerLeasesAndGrants_7 :
    state_LedgerLeasesAndGrants_7.dev.reaches 590208 = true ∧ state_LedgerLeasesAndGrants_7.dev.twin.lease = some lease0 ∧ state_LedgerLeasesAndGrants_7.dev.modeOf ≠ mACTIVE ∧ state_LedgerLeasesAndGrants_7.dev.modeOf ≠ mSTANDBY := by decide

/-- For `witness_LedgerLeasesAndGrants_8`. -/
def state_LedgerLeasesAndGrants_8 : State := wired 6 (·.modTwin fun x => { x with lease := some lease0 })

/-- LedgerLeasesAndGrants, clause 9. -/
theorem witness_LedgerLeasesAndGrants_8 :
    state_LedgerLeasesAndGrants_8.dev.twin.lease = some lease0 ∧ state_LedgerLeasesAndGrants_8.dev.modeOf = mSTANDBY := by decide

/-- For `witness_LedgerLeasesAndGrants_9`. -/
def state_LedgerLeasesAndGrants_9 : State := wired 5 (·.modTwin fun x => { x with lease := some lease0 })

/-- LedgerLeasesAndGrants, clause 10. -/
theorem witness_LedgerLeasesAndGrants_9 :
    state_LedgerLeasesAndGrants_9.dev.twin.lease = some lease0 ∧ state_LedgerLeasesAndGrants_9.dev.modeOf = mACTIVE := by decide

/-- For `witness_LedgerLeasesAndGrants_10`. -/
def state_LedgerLeasesAndGrants_10 : State := wired 5 id

/-- LedgerLeasesAndGrants, clause 11. -/
theorem witness_LedgerLeasesAndGrants_10 :
    state_LedgerLeasesAndGrants_10.dev.twin.lease = none := by decide

/-- For `witness_LedgerLeasesAndGrants_11`. -/
def arg2_LedgerLeasesAndGrants_11 : Dev := (wired 5 id).dev

/-- LedgerLeasesAndGrants, clause 12. -/
theorem witness_LedgerLeasesAndGrants_11 :
    arg2_LedgerLeasesAndGrants_11.bit Fld.TWIN_STATUS_FENCED = false ∧ ∀ (p : Nat), p ∈ arg2_LedgerLeasesAndGrants_11.ports → p < 8 := by decide

/-- For `witness_LedgerLeasesAndGrants_12`. -/
def state_LedgerLeasesAndGrants_12 : State := wired 5 id

/-- LedgerLeasesAndGrants, clause 13. -/
theorem witness_LedgerLeasesAndGrants_12 :
    state_LedgerLeasesAndGrants_12.dev.serving = true := by decide

/-- For `witness_LedgerLeasesAndGrants_13`. -/
def state_LedgerLeasesAndGrants_13 : State := wired 6 (·.setL [(.TWIN_EGRESS_HOURS, 23), (.TWIN_CFG_EGRESS_WARN_DAYS, 1)])

/-- LedgerLeasesAndGrants, clause 14. -/
theorem witness_LedgerLeasesAndGrants_13 :
    state_LedgerLeasesAndGrants_13.dev.serving = false ∧ (state_LedgerLeasesAndGrants_13.dev.get Fld.TWIN_CFG_EGRESS_WARN_DAYS = 0 ∨ state_LedgerLeasesAndGrants_13.dev.counted Fld.TWIN_EGRESS_HOURS ≤ state_LedgerLeasesAndGrants_13.dev.get Fld.TWIN_CFG_EGRESS_WARN_DAYS * 24) := by decide

/-- For `witness_LedgerLeasesAndGrants_14`. -/
def state_LedgerLeasesAndGrants_14 : State := wired 6 (·.setL [(.TWIN_EGRESS_HOURS, 24), (.TWIN_CFG_EGRESS_WARN_DAYS, 1)])

/-- LedgerLeasesAndGrants, clause 15. -/
theorem witness_LedgerLeasesAndGrants_14 :
    state_LedgerLeasesAndGrants_14.dev.serving = false ∧ state_LedgerLeasesAndGrants_14.dev.get Fld.TWIN_CFG_EGRESS_WARN_DAYS ≠ 0 ∧ state_LedgerLeasesAndGrants_14.dev.get Fld.TWIN_CFG_EGRESS_WARN_DAYS * 24 < state_LedgerLeasesAndGrants_14.dev.counted Fld.TWIN_EGRESS_HOURS ∧ state_LedgerLeasesAndGrants_14.dev.twin.egressTold = false := by decide

/-- For `witness_SwitchOverAndResynchronisation_0`. -/
def state_SwitchOverAndResynchronisation_0 : State := wired 8 (·.modTwin fun x => { x with onum := 8, swCause := 1 })

/-- SwitchOverAndResynchronisation, clause 1. -/
theorem witness_SwitchOverAndResynchronisation_0 :
    state_SwitchOverAndResynchronisation_0.dev.modeOf = mSWITCHOVER ∧ state_SwitchOverAndResynchronisation_0.dev.twin.announce = 0 := by decide

/-- For `witness_SwitchOverAndResynchronisation_1`. -/
def state_SwitchOverAndResynchronisation_1 : State := wired 4 id

/-- SwitchOverAndResynchronisation, clause 2. -/
theorem witness_SwitchOverAndResynchronisation_1 :
    state_SwitchOverAndResynchronisation_1.dev.modeOf ≠ mSWITCHOVER := by decide

/-- For `witness_SwitchOverAndResynchronisation_2`. -/
def arg1_SwitchOverAndResynchronisation_2 : Dev := (wired 8 (·.modTwin fun x => { x with announce := 2, swCause := 1 })).dev

/-- SwitchOverAndResynchronisation, clause 3. -/
theorem witness_SwitchOverAndResynchronisation_2 :
    arg1_SwitchOverAndResynchronisation_2.modeOf = mSWITCHOVER ∧ arg1_SwitchOverAndResynchronisation_2.twin.announce ≠ 0 ∧ arg1_SwitchOverAndResynchronisation_2.mode.due = none ∧ (arg1_SwitchOverAndResynchronisation_2.twin.swCause ≠ 0 ∨ arg1_SwitchOverAndResynchronisation_2.bit Fld.TWIN_STATUS_LINK_UP = false) := by decide

/-- For `witness_SwitchOverAndResynchronisation_3`. -/
def arg2_SwitchOverAndResynchronisation_3 : Dev := (paired 8 6 (·.modTwin fun x => { x with announce := 2 })).dev

/-- For `witness_SwitchOverAndResynchronisation_3`. -/
def arg1_SwitchOverAndResynchronisation_3 : Partner := partner0 6

/-- SwitchOverAndResynchronisation, clause 4. -/
theorem witness_SwitchOverAndResynchronisation_3 :
    arg2_SwitchOverAndResynchronisation_3.modeOf = mSWITCHOVER ∧ arg2_SwitchOverAndResynchronisation_3.twin.announce ≠ 0 ∧ arg2_SwitchOverAndResynchronisation_3.mode.due = none ∧ arg2_SwitchOverAndResynchronisation_3.twin.swCause = 0 ∧ arg2_SwitchOverAndResynchronisation_3.bit Fld.TWIN_STATUS_LINK_UP = true ∧ arg2_SwitchOverAndResynchronisation_3.twin.partner = some arg1_SwitchOverAndResynchronisation_3 := by decide

/-- For `witness_SwitchOverAndResynchronisation_4`. -/
def state_SwitchOverAndResynchronisation_4 : State := wired 4 (·.modTwin fun x => { x with announce := 2 })

/-- SwitchOverAndResynchronisation, clause 5. -/
theorem witness_SwitchOverAndResynchronisation_4 :
    state_SwitchOverAndResynchronisation_4.dev.twin.announce ≠ 0 ∧ state_SwitchOverAndResynchronisation_4.dev.serving = true := by decide

/-- For `witness_SwitchOverAndResynchronisation_5`. -/
def state_SwitchOverAndResynchronisation_5 : State := wired 6 id

/-- SwitchOverAndResynchronisation, clause 6. -/
theorem witness_SwitchOverAndResynchronisation_5 :
    state_SwitchOverAndResynchronisation_5.dev.twin.announce = 0 ∨ state_SwitchOverAndResynchronisation_5.dev.serving = false := by decide

/-- For `witness_SwitchOverAndResynchronisation_6`. -/
def state_SwitchOverAndResynchronisation_6 : State := paired 4 7 id

/-- For `witness_SwitchOverAndResynchronisation_6`. -/
def arg1_SwitchOverAndResynchronisation_6 : Partner := partner0 7

/-- SwitchOverAndResynchronisation, clause 7. -/
theorem witness_SwitchOverAndResynchronisation_6 :
    state_SwitchOverAndResynchronisation_6.dev.twin.partner = some arg1_SwitchOverAndResynchronisation_6 ∧ state_SwitchOverAndResynchronisation_6.dev.modeOf = mSOLO ∧ arg1_SwitchOverAndResynchronisation_6.mode = mRESYNC ∧ state_SwitchOverAndResynchronisation_6.dev.carries FlType.resync = true ∧ state_SwitchOverAndResynchronisation_6.dev.twin.resync = none := by decide

/-- For `witness_SwitchOverAndResynchronisation_7`. -/
def state_SwitchOverAndResynchronisation_7 : State := paired 4 7 (·.modTwin fun x => { x with resync := some { resync0 1 with ready := true }, cur := [1] })

/-- For `witness_SwitchOverAndResynchronisation_7`. -/
def arg2_SwitchOverAndResynchronisation_7 : Partner := partner0 7

/-- For `witness_SwitchOverAndResynchronisation_7`. -/
def arg1_SwitchOverAndResynchronisation_7 : Resync := { resync0 1 with ready := true }

/-- SwitchOverAndResynchronisation, clause 8. -/
theorem witness_SwitchOverAndResynchronisation_7 :
    state_SwitchOverAndResynchronisation_7.dev.twin.partner = some arg2_SwitchOverAndResynchronisation_7 ∧ state_SwitchOverAndResynchronisation_7.dev.modeOf = mSOLO ∧ arg2_SwitchOverAndResynchronisation_7.mode = mRESYNC ∧ state_SwitchOverAndResynchronisation_7.dev.carries FlType.resync = true ∧ state_SwitchOverAndResynchronisation_7.dev.twin.resync = some arg1_SwitchOverAndResynchronisation_7 ∧ arg1_SwitchOverAndResynchronisation_7.phase = 1 ∧ arg1_SwitchOverAndResynchronisation_7.ready = true := by decide

/-- For `witness_SwitchOverAndResynchronisation_8`. -/
def state_SwitchOverAndResynchronisation_8 : State := paired 4 7 fun s => (s.modTwin fun x => { x with resync := some (resync0 2) }).modTier fun x => { x with latches := [(1025, latch .stage .t2)] }

/-- For `witness_SwitchOverAndResynchronisation_8`. -/
def arg4_SwitchOverAndResynchronisation_8 : Partner := partner0 7

/-- For `witness_SwitchOverAndResynchronisation_8`. -/
def arg3_SwitchOverAndResynchronisation_8 : Resync := resync0 2

/-- SwitchOverAndResynchronisation, clause 9. -/
theorem witness_SwitchOverAndResynchronisation_8 :
    state_SwitchOverAndResynchronisation_8.dev.twin.partner = some arg4_SwitchOverAndResynchronisation_8 ∧ state_SwitchOverAndResynchronisation_8.dev.modeOf = mSOLO ∧ arg4_SwitchOverAndResynchronisation_8.mode = mRESYNC ∧ state_SwitchOverAndResynchronisation_8.dev.carries FlType.resync = true ∧ state_SwitchOverAndResynchronisation_8.dev.twin.resync = some arg3_SwitchOverAndResynchronisation_8 ∧ arg3_SwitchOverAndResynchronisation_8.phase = 2 ∧ arg3_SwitchOverAndResynchronisation_8.bulk = none ∧ arg3_SwitchOverAndResynchronisation_8.left = [2] ∧ state_SwitchOverAndResynchronisation_8.dev.groupClear 2 = false := by decide

/-- For `witness_SwitchOverAndResynchronisation_9`. -/
def arg4_SwitchOverAndResynchronisation_9 : Dev := (paired 4 7 (·.modTwin fun x => { x with resync := some (resync0 2) })).dev

/-- For `witness_SwitchOverAndResynchronisation_9`. -/
def arg3_SwitchOverAndResynchronisation_9 : Resync := resync0 2

/-- SwitchOverAndResynchronisation, clause 10. -/
theorem witness_SwitchOverAndResynchronisation_9 :
    arg4_SwitchOverAndResynchronisation_9.twin.resync = some arg3_SwitchOverAndResynchronisation_9 ∧ arg3_SwitchOverAndResynchronisation_9.bulk = none ∧ arg3_SwitchOverAndResynchronisation_9.left = [2] ∧ arg4_SwitchOverAndResynchronisation_9.groupClear 2 = true := by decide

/-- For `witness_SwitchOverAndResynchronisation_10`. -/
def state_SwitchOverAndResynchronisation_10 : State := paired 4 7 (·.modTwin fun x => { x with resync := some (resync0 4) })

/-- For `witness_SwitchOverAndResynchronisation_10`. -/
def arg2_SwitchOverAndResynchronisation_10 : Partner := partner0 7

/-- For `witness_SwitchOverAndResynchronisation_10`. -/
def arg1_SwitchOverAndResynchronisation_10 : Resync := resync0 4

/-- SwitchOverAndResynchronisation, clause 11. -/
theorem witness_SwitchOverAndResynchronisation_10 :
    state_SwitchOverAndResynchronisation_10.dev.twin.partner = some arg2_SwitchOverAndResynchronisation_10 ∧ state_SwitchOverAndResynchronisation_10.dev.modeOf = mSOLO ∧ arg2_SwitchOverAndResynchronisation_10.mode = mRESYNC ∧ state_SwitchOverAndResynchronisation_10.dev.carries FlType.resync = true ∧ state_SwitchOverAndResynchronisation_10.dev.twin.resync = some arg1_SwitchOverAndResynchronisation_10 ∧ arg1_SwitchOverAndResynchronisation_10.phase = 4 ∧ arg1_SwitchOverAndResynchronisation_10.final = false := by decide

/-- For `witness_SwitchOverAndResynchronisation_13`. -/
def state_SwitchOverAndResynchronisation_13 : State := paired 5 6 id

/-- SwitchOverAndResynchronisation, clause 14. -/
theorem witness_SwitchOverAndResynchronisation_13 :
    state_SwitchOverAndResynchronisation_13.dev.modeOf ≠ mSOLO ∨ state_SwitchOverAndResynchronisation_13.dev.twin.partner = none := by decide

/-- For `witness_SwitchOverAndResynchronisation_14`. -/
def state_SwitchOverAndResynchronisation_14 : State := paired 7 4 (·.modTwin fun x => { x with resync := some (resync0 2) })

/-- For `witness_SwitchOverAndResynchronisation_14`. -/
def arg1_SwitchOverAndResynchronisation_14 : Resync := resync0 2

/-- SwitchOverAndResynchronisation, clause 15. -/
theorem witness_SwitchOverAndResynchronisation_14 :
    state_SwitchOverAndResynchronisation_14.dev.inTurn first FlType.resync = true ∧ (state_SwitchOverAndResynchronisation_14.dev.afterFrame first).modeOf = mRESYNC ∧ 3 ≠ 1 ∧ (state_SwitchOverAndResynchronisation_14.dev.afterFrame first).twin.resync = some arg1_SwitchOverAndResynchronisation_14 := by decide

/-- For `witness_SwitchOverAndResynchronisation_15`. -/
def state_SwitchOverAndResynchronisation_15 : State := paired 4 7 (·.modTwin fun x => { x with resync := some (resync0 1) })

/-- For `witness_SwitchOverAndResynchronisation_15`. -/
def arg1_SwitchOverAndResynchronisation_15 : Resync := resync0 1

/-- SwitchOverAndResynchronisation, clause 16. -/
theorem witness_SwitchOverAndResynchronisation_15 :
    state_SwitchOverAndResynchronisation_15.dev.inTurn first FlType.resync = true ∧ (state_SwitchOverAndResynchronisation_15.dev.afterFrame first).modeOf = mSOLO ∧ (state_SwitchOverAndResynchronisation_15.dev.afterFrame first).twin.resync = some arg1_SwitchOverAndResynchronisation_15 ∧ arg1_SwitchOverAndResynchronisation_15.phase = 1 := by decide

/-- For `witness_SwitchOverAndResynchronisation_16`. -/
def state_SwitchOverAndResynchronisation_16 : State := paired 7 4 (·.modTwin fun x => { x with resync := some (resync0 2) })

/-- For `witness_SwitchOverAndResynchronisation_16`. -/
def arg1_SwitchOverAndResynchronisation_16 : Resync := resync0 2

/-- SwitchOverAndResynchronisation, clause 17. -/
theorem witness_SwitchOverAndResynchronisation_16 :
    state_SwitchOverAndResynchronisation_16.dev.inTurn first FlType.group = true ∧ (state_SwitchOverAndResynchronisation_16.dev.afterFrame first).modeOf = mRESYNC ∧ (state_SwitchOverAndResynchronisation_16.dev.afterFrame first).twin.resync = some arg1_SwitchOverAndResynchronisation_16 ∧ 2 ≤ arg1_SwitchOverAndResynchronisation_16.phase := by decide

/-- For `witness_SwitchOverAndResynchronisation_17`. -/
def state_SwitchOverAndResynchronisation_17 : State := paired 7 4 id

/-- SwitchOverAndResynchronisation, clause 18. -/
theorem witness_SwitchOverAndResynchronisation_17 :
    state_SwitchOverAndResynchronisation_17.dev.inTurn first FlType.group = true ∧ ((state_SwitchOverAndResynchronisation_17.dev.afterFrame first).modeOf ≠ mRESYNC ∨ (state_SwitchOverAndResynchronisation_17.dev.afterFrame first).twin.resync = none) := by decide

/-- For `witness_SwitchOverAndResynchronisation_18`. -/
def arg1_SwitchOverAndResynchronisation_18 : GroupFolio := ⟨1025, 5, false, 0, []⟩

/-- SwitchOverAndResynchronisation, clause 19. -/
theorem witness_SwitchOverAndResynchronisation_18 :
    arg1_SwitchOverAndResynchronisation_18.state = 5 := by decide

/-- For `witness_SwitchOverAndResynchronisation_19`. -/
def state_SwitchOverAndResynchronisation_19 : State := paired 7 4 (·.modTwin fun x => { x with resync := some (resync0 4) })

/-- For `witness_SwitchOverAndResynchronisation_19`. -/
def arg1_SwitchOverAndResynchronisation_19 : Resync := resync0 4

/-- SwitchOverAndResynchronisation, clause 20. -/
theorem witness_SwitchOverAndResynchronisation_19 :
    state_SwitchOverAndResynchronisation_19.dev.inTurn first FlType.tables = true ∧ (state_SwitchOverAndResynchronisation_19.dev.afterFrame first).modeOf = mRESYNC ∧ (state_SwitchOverAndResynchronisation_19.dev.afterFrame first).twin.resync = some arg1_SwitchOverAndResynchronisation_19 ∧ arg1_SwitchOverAndResynchronisation_19.phase = 4 := by decide

/-- For `witness_SwitchOverAndResynchronisation_20`. -/
def state_SwitchOverAndResynchronisation_20 : State := paired 7 4 id

/-- SwitchOverAndResynchronisation, clause 21. -/
theorem witness_SwitchOverAndResynchronisation_20 :
    state_SwitchOverAndResynchronisation_20.dev.inTurn first FlType.tables = true ∧ ((state_SwitchOverAndResynchronisation_20.dev.afterFrame first).modeOf ≠ mRESYNC ∨ (state_SwitchOverAndResynchronisation_20.dev.afterFrame first).twin.resync = none) := by decide

/-- For `witness_SwitchOverAndResynchronisation_21`. -/
def state_SwitchOverAndResynchronisation_21 : State := paired 7 4 (·.modTwin fun x => { x with resync := some { resync0 4 with final := true, left := [] } })

/-- For `witness_SwitchOverAndResynchronisation_21`. -/
def arg1_SwitchOverAndResynchronisation_21 : Resync := { resync0 4 with final := true, left := [] }

/-- SwitchOverAndResynchronisation, clause 22. -/
theorem witness_SwitchOverAndResynchronisation_21 :
    state_SwitchOverAndResynchronisation_21.dev.twin.resync = some arg1_SwitchOverAndResynchronisation_21 ∧ state_SwitchOverAndResynchronisation_21.dev.modeOf = mRESYNC ∧ arg1_SwitchOverAndResynchronisation_21.final = true ∧ arg1_SwitchOverAndResynchronisation_21.left = [] ∧ state_SwitchOverAndResynchronisation_21.dev.tier.latches = [] ∧ state_SwitchOverAndResynchronisation_21.dev.mode.due = none := by decide

/-- For `witness_SwitchOverAndResynchronisation_22`. -/
def state_SwitchOverAndResynchronisation_22 : State := paired 7 4 id

/-- SwitchOverAndResynchronisation, clause 23. -/
theorem witness_SwitchOverAndResynchronisation_22 :
    state_SwitchOverAndResynchronisation_22.dev.twin.resync = none ∨ state_SwitchOverAndResynchronisation_22.dev.modeOf ≠ mRESYNC ∨ state_SwitchOverAndResynchronisation_22.dev.tier.latches ≠ [] := by decide

/-- For `witness_SwitchOverAndResynchronisation_23`. -/
def state_SwitchOverAndResynchronisation_23 : State := wired 7 (·.modTwin fun x => { x with resync := some (resync0 4) })

/-- For `witness_SwitchOverAndResynchronisation_23`. -/
def arg1_SwitchOverAndResynchronisation_23 : Resync := resync0 4

/-- SwitchOverAndResynchronisation, clause 24. -/
theorem witness_SwitchOverAndResynchronisation_23 :
    state_SwitchOverAndResynchronisation_23.dev.twin.resync = some arg1_SwitchOverAndResynchronisation_23 ∧ state_SwitchOverAndResynchronisation_23.dev.bit Fld.TWIN_STATUS_LINK_UP = false := by decide

/-- For `witness_SwitchOverAndResynchronisation_24`. -/
def state_SwitchOverAndResynchronisation_24 : State := wired 7 id

/-- SwitchOverAndResynchronisation, clause 25. -/
theorem witness_SwitchOverAndResynchronisation_24 :
    state_SwitchOverAndResynchronisation_24.dev.twin.resync = none ∨ state_SwitchOverAndResynchronisation_24.dev.bit Fld.TWIN_STATUS_LINK_UP = true ∧ state_SwitchOverAndResynchronisation_24.dev.modeOf = mSOLO := by decide

/-- For `witness_TheLinkComesUpIsLostAndCarriesMailboxes_17`. -/
def state_TheLinkComesUpIsLostAndCarriesMailboxes_17 : State := powered 0 id

/-- TheLinkComesUpIsLostAndCarriesMailboxes, clause 18. -/
theorem witness_TheLinkComesUpIsLostAndCarriesMailboxes_17 :
    state_TheLinkComesUpIsLostAndCarriesMailboxes_17.dev.reaches (590336 + 4 * 1) = false := by decide

/-- For `witness_TheLinkComesUpIsLostAndCarriesMailboxes_18`. -/
def state_TheLinkComesUpIsLostAndCarriesMailboxes_18 : State := powered 0 id

/-- TheLinkComesUpIsLostAndCarriesMailboxes, clause 19. -/
theorem witness_TheLinkComesUpIsLostAndCarriesMailboxes_18 :
    state_TheLinkComesUpIsLostAndCarriesMailboxes_18.dev.reaches 590404 = false := by decide

/-- For `witness_TheLinkComesUpIsLostAndCarriesMailboxes_19`. -/
def state_TheLinkComesUpIsLostAndCarriesMailboxes_19 : State := powered 0 id

/-- TheLinkComesUpIsLostAndCarriesMailboxes, clause 20. -/
theorem witness_TheLinkComesUpIsLostAndCarriesMailboxes_19 :
    state_TheLinkComesUpIsLostAndCarriesMailboxes_19.dev.readsAt (590368 + 4 * 1) = false := by decide

/-- For `witness_PartnerStatesDriveTheModes_1`. -/
def state_PartnerStatesDriveTheModes_1 : State := paired 5 6 (fun s => (s.setL [(.TWIN_STATUS_FENCED, 1), (.TWIN_DB_OUT_RING, 3)]).modTwin fun x => { x with partner := none })

/-- For `witness_PartnerStatesDriveTheModes_1`. -/
def arg1_PartnerStatesDriveTheModes_1 : Partner := partner0 4

/-- PartnerStatesDriveTheModes, clause 2. -/
theorem witness_PartnerStatesDriveTheModes_1 :
    state_PartnerStatesDriveTheModes_1.dev.inTurn first FlType.state = true ∧ (state_PartnerStatesDriveTheModes_1.dev.afterFrame first).bit Fld.TWIN_STATUS_FENCED = true ∧ (state_PartnerStatesDriveTheModes_1.dev.afterFrame first).bit Fld.TWIN_STATUS_LINK_UP = true ∧ Option.map Forme.digest (state_PartnerStatesDriveTheModes_1.dev.afterFrame first).forme.run = some arg1_PartnerStatesDriveTheModes_1.digest ∧ (state_PartnerStatesDriveTheModes_1.dev.afterFrame first).twin.partner = none ∧ (state_PartnerStatesDriveTheModes_1.dev.afterFrame first).get Fld.TWIN_DB_OUT_RING ≠ 0 := by decide

/-- For `witness_SwitchOverAndResynchronisation_11`. -/
def arg2_SwitchOverAndResynchronisation_11 : Dev := (paired 4 7 (·.modTwin fun x => { x with resync := some (resync0 4) })).dev

/-- For `witness_SwitchOverAndResynchronisation_11`. -/
def arg1_SwitchOverAndResynchronisation_11 : Resync := resync0 4

/-- SwitchOverAndResynchronisation, clause 12. -/
theorem witness_SwitchOverAndResynchronisation_11 :
    arg2_SwitchOverAndResynchronisation_11.modeOf = mSOLO ∧ arg2_SwitchOverAndResynchronisation_11.carries FlType.resync = true ∧ arg2_SwitchOverAndResynchronisation_11.twin.resync = some arg1_SwitchOverAndResynchronisation_11 ∧ arg1_SwitchOverAndResynchronisation_11.phase = 4 ∧ arg1_SwitchOverAndResynchronisation_11.final = false ∧ arg2_SwitchOverAndResynchronisation_11.tier.latches = [] := by decide

/-- For `witness_SwitchOverAndResynchronisation_12`. -/
def arg2_SwitchOverAndResynchronisation_12 : Dev := (paired 4 7 (·.modTwin fun x => { x with resync := some (resync0 3) })).dev

/-- For `witness_SwitchOverAndResynchronisation_12`. -/
def arg1_SwitchOverAndResynchronisation_12 : Resync := resync0 3

/-- SwitchOverAndResynchronisation, clause 13. -/
theorem witness_SwitchOverAndResynchronisation_12 :
    arg2_SwitchOverAndResynchronisation_12.twin.resync = some arg1_SwitchOverAndResynchronisation_12 ∧ (arg2_SwitchOverAndResynchronisation_12.tier.latches ≠ [] ∨ arg1_SwitchOverAndResynchronisation_12.phase ≠ 4) := by decide

/-- UndecodedAddressesReadZeroAndDiscardWrites, clause 1. -/
theorem witness_UndecodedAddressesReadZeroAndDiscardWrites_0 :
    fieldsAt 12288 = [] := by decide

/-- UndecodedAddressesReadZeroAndDiscardWrites, clause 1. -/
theorem witness_UndecodedAddressesReadZeroAndDiscardWrites_0b :
    fieldsAt 8388604 = [] := by decide

/-- For `witness_UndecodedAddressesReadZeroAndDiscardWrites_1`. -/
def state_UndecodedAddressesReadZeroAndDiscardWrites_1 : State := at_ 4 id

/-- UndecodedAddressesReadZeroAndDiscardWrites, clause 2. -/
theorem witness_UndecodedAddressesReadZeroAndDiscardWrites_1 :
    fieldsAt 12288 = [] ∧ 12288 % 4 = 0 ∧ 12288 < 2 ^ 24 ∧ 12288 < 8388608 ∧ state_UndecodedAddressesReadZeroAndDiscardWrites_1.dev.pwr.on = true := by decide

/-- For `witness_UndecodedAddressesReadZeroAndDiscardWrites_1b`. -/
def state_UndecodedAddressesReadZeroAndDiscardWrites_1b : State := at_ 4 id

/-- UndecodedAddressesReadZeroAndDiscardWrites, clause 2. -/
theorem witness_UndecodedAddressesReadZeroAndDiscardWrites_1b :
    fieldsAt 8388604 = [] ∧ 8388604 % 4 = 0 ∧ 8388604 < 2 ^ 24 ∧ 8388604 < 8388608 ∧ state_UndecodedAddressesReadZeroAndDiscardWrites_1b.dev.pwr.on = true := by decide

/-- For `witness_UndecodedAddressesReadZeroAndDiscardWrites_2`. -/
def state_UndecodedAddressesReadZeroAndDiscardWrites_2 : State := at_ 4 id

/-- UndecodedAddressesReadZeroAndDiscardWrites, clause 3. -/
theorem witness_UndecodedAddressesReadZeroAndDiscardWrites_2 :
    fieldsAt 12288 = [] ∧ 12288 % 4 = 0 ∧ state_UndecodedAddressesReadZeroAndDiscardWrites_2.dev.pwr.on = true ∧ state_UndecodedAddressesReadZeroAndDiscardWrites_2.dev.inMode [mHOLDUP, mSANITIZING] = false := by decide

/-- For `witness_FramesCarryRegisterWritesByFieldType_0`. -/
def state_FramesCarryRegisterWritesByFieldType_0 : State := at_ 4 id

/-- For `witness_FramesCarryRegisterWritesByFieldType_0`. -/
def arg3_FramesCarryRegisterWritesByFieldType_0 : SpFrame := frame 2 0x41 1 []

/-- FramesCarryRegisterWritesByFieldType, clause 1. -/
theorem witness_FramesCarryRegisterWritesByFieldType_0 :
    Instr.read (frame 2 65 1 []) ∈ [Instr.write arg3_FramesCarryRegisterWritesByFieldType_0, Instr.read arg3_FramesCarryRegisterWritesByFieldType_0, Instr.writeBurst arg3_FramesCarryRegisterWritesByFieldType_0] ∧ state_FramesCarryRegisterWritesByFieldType_0.dev.pwr.on = true ∧ state_FramesCarryRegisterWritesByFieldType_0.dev.frameRefusal arg3_FramesCarryRegisterWritesByFieldType_0 = 1 ∧ 1 ≠ 0 := by decide

/-- For `witness_FramesCarryRegisterWritesByFieldType_0b`. -/
def state_FramesCarryRegisterWritesByFieldType_0b : State := at_ 9 id

/-- For `witness_FramesCarryRegisterWritesByFieldType_0b`. -/
def arg3_FramesCarryRegisterWritesByFieldType_0b : SpFrame := frame 1 0x44 1 [7]

/-- FramesCarryRegisterWritesByFieldType, clause 1. -/
theorem witness_FramesCarryRegisterWritesByFieldType_0b :
    Instr.write (frame 1 68 1 [7]) ∈ [Instr.write arg3_FramesCarryRegisterWritesByFieldType_0b, Instr.read arg3_FramesCarryRegisterWritesByFieldType_0b, Instr.writeBurst arg3_FramesCarryRegisterWritesByFieldType_0b] ∧ state_FramesCarryRegisterWritesByFieldType_0b.dev.pwr.on = true ∧ state_FramesCarryRegisterWritesByFieldType_0b.dev.frameRefusal arg3_FramesCarryRegisterWritesByFieldType_0b = 5 ∧ 5 ≠ 0 := by decide

/-- For `witness_FramesCarryRegisterWritesByFieldType_0c`. -/
def state_FramesCarryRegisterWritesByFieldType_0c : State := at_ 4 id

/-- For `witness_FramesCarryRegisterWritesByFieldType_0c`. -/
def arg3_FramesCarryRegisterWritesByFieldType_0c : SpFrame := frame 3 0x44 65 []

/-- FramesCarryRegisterWritesByFieldType, clause 1. -/
theorem witness_FramesCarryRegisterWritesByFieldType_0c :
    Instr.writeBurst (frame 3 68 65 []) ∈ [Instr.write arg3_FramesCarryRegisterWritesByFieldType_0c, Instr.read arg3_FramesCarryRegisterWritesByFieldType_0c, Instr.writeBurst arg3_FramesCarryRegisterWritesByFieldType_0c] ∧ state_FramesCarryRegisterWritesByFieldType_0c.dev.pwr.on = true ∧ state_FramesCarryRegisterWritesByFieldType_0c.dev.frameRefusal arg3_FramesCarryRegisterWritesByFieldType_0c = 2 ∧ 2 ≠ 0 := by decide

/-- For `witness_FramesCarryRegisterWritesByFieldType_1`. -/
def arg1_FramesCarryRegisterWritesByFieldType_1 : SpFrame := frame 2 0x41 1 []

/-- FramesCarryRegisterWritesByFieldType, clause 2. -/
theorem witness_FramesCarryRegisterWritesByFieldType_1 :
    arg1_FramesCarryRegisterWritesByFieldType_1.cmd ∈ [1, 2, 3] := by decide

/-- For `witness_FramesCarryRegisterWritesByFieldType_2`. -/
def arg1_FramesCarryRegisterWritesByFieldType_2 : SpFrame := frame 2 0x40 0 []

/-- FramesCarryRegisterWritesByFieldType, clause 3. -/
theorem witness_FramesCarryRegisterWritesByFieldType_2 :
    arg1_FramesCarryRegisterWritesByFieldType_2.addr % 4 = 0 ∧ (arg1_FramesCarryRegisterWritesByFieldType_2.cmd = 2 ∨ arg1_FramesCarryRegisterWritesByFieldType_2.cmd = 3) := by decide

/-- For `witness_FramesCarryRegisterWritesByFieldType_4`. -/
def arg1_FramesCarryRegisterWritesByFieldType_4 : SpFrame := frame 1 0x40 0 [1]

/-- FramesCarryRegisterWritesByFieldType, clause 5. -/
theorem witness_FramesCarryRegisterWritesByFieldType_4 :
    arg1_FramesCarryRegisterWritesByFieldType_4.addr % 4 = 0 ∧ arg1_FramesCarryRegisterWritesByFieldType_4.cmd = 1 ∧ arg1_FramesCarryRegisterWritesByFieldType_4.whole = true ∧ arg1_FramesCarryRegisterWritesByFieldType_4.data.length = 1 := by decide

/-- For `witness_FramesCarryRegisterWritesByFieldType_5`. -/
def state_FramesCarryRegisterWritesByFieldType_5 : State := at_ 4 id

/-- For `witness_FramesCarryRegisterWritesByFieldType_5`. -/
def arg2_FramesCarryRegisterWritesByFieldType_5 : SpFrame := frame 1 0x44 0 [5]

/-- FramesCarryRegisterWritesByFieldType, clause 6. -/
theorem witness_FramesCarryRegisterWritesByFieldType_5 :
    state_FramesCarryRegisterWritesByFieldType_5.dev.pwr.on = true ∧ state_FramesCarryRegisterWritesByFieldType_5.dev.frameRefusal arg2_FramesCarryRegisterWritesByFieldType_5 = 0 ∧ arg2_FramesCarryRegisterWritesByFieldType_5.cmd = 1 ∧ arg2_FramesCarryRegisterWritesByFieldType_5.data = [5] := by decide

/-- For `witness_FramesCarryRegisterWritesByFieldType_6`. -/
def state_FramesCarryRegisterWritesByFieldType_6 : State := at_ 4 id

/-- For `witness_FramesCarryRegisterWritesByFieldType_6`. -/
def arg1_FramesCarryRegisterWritesByFieldType_6 : SpFrame := frame 3 0x40 2 [5, 6]

/-- FramesCarryRegisterWritesByFieldType, clause 7. -/
theorem witness_FramesCarryRegisterWritesByFieldType_6 :
    state_FramesCarryRegisterWritesByFieldType_6.dev.pwr.on = true ∧ state_FramesCarryRegisterWritesByFieldType_6.dev.frameRefusal arg1_FramesCarryRegisterWritesByFieldType_6 = 0 ∧ arg1_FramesCarryRegisterWritesByFieldType_6.cmd = 3 := by decide

/-- For `witness_FramesCarryRegisterWritesByFieldType_7`. -/
def state_FramesCarryRegisterWritesByFieldType_7 : State := at_ 4 (·.set .INT_MASK_MASK 5)

/-- For `witness_FramesCarryRegisterWritesByFieldType_7`. -/
def arg1_FramesCarryRegisterWritesByFieldType_7 : SpFrame := frame 2 0x40 3 []

/-- FramesCarryRegisterWritesByFieldType, clause 8. -/
theorem witness_FramesCarryRegisterWritesByFieldType_7 :
    state_FramesCarryRegisterWritesByFieldType_7.dev.pwr.on = true ∧ state_FramesCarryRegisterWritesByFieldType_7.dev.frameRefusal arg1_FramesCarryRegisterWritesByFieldType_7 = 0 ∧ arg1_FramesCarryRegisterWritesByFieldType_7.cmd = 2 := by decide

/-- For `witness_FramesCarryRegisterWritesByFieldType_8`. -/
def state_FramesCarryRegisterWritesByFieldType_8 : State := at_ 4 (·.set .I3C_REFUSED_REFUSED 5)

/-- FramesCarryRegisterWritesByFieldType, clause 9. -/
theorem witness_FramesCarryRegisterWritesByFieldType_8 :
    state_FramesCarryRegisterWritesByFieldType_8.dev.pwr.on = true ∧ state_FramesCarryRegisterWritesByFieldType_8.dev.modeOf ≠ mDORMANT := by decide

/-- For `witness_FramesCarryRegisterWritesByFieldType_9`. -/
def state_FramesCarryRegisterWritesByFieldType_9 : State := at_ 4 (·.modSp fun p => { p with readBuf := { status := 1, addr := 0x123456, words := [7, 9] } })

/-- FramesCarryRegisterWritesByFieldType, clause 10. -/
theorem witness_FramesCarryRegisterWritesByFieldType_9 :
    state_FramesCarryRegisterWritesByFieldType_9.dev.pwr.on = true := by decide

/-- For `witness_FramesCarryRegisterWritesByFieldType_10`. -/
def state_FramesCarryRegisterWritesByFieldType_10 : State := at_ 4 (·.modPwr fun p => { p with on := false })

/-- For `witness_FramesCarryRegisterWritesByFieldType_10`. -/
def arg2_FramesCarryRegisterWritesByFieldType_10 : SpFrame := frame 1 0x44 0 [5]

/-- FramesCarryRegisterWritesByFieldType, clause 11. -/
theorem witness_FramesCarryRegisterWritesByFieldType_10 :
    state_FramesCarryRegisterWritesByFieldType_10.dev.pwr.on = false ∧ Instr.write (frame 1 68 0 [5]) ∈ [Instr.write arg2_FramesCarryRegisterWritesByFieldType_10, Instr.read arg2_FramesCarryRegisterWritesByFieldType_10, Instr.writeBurst arg2_FramesCarryRegisterWritesByFieldType_10, Instr.privateRead] := by decide

/-- For `witness_FramesCarryRegisterWritesByFieldType_11`. -/
def state_FramesCarryRegisterWritesByFieldType_11 : State := at_ 4 id

/-- FramesCarryRegisterWritesByFieldType, clause 12. -/
theorem witness_FramesCarryRegisterWritesByFieldType_11 :
    state_FramesCarryRegisterWritesByFieldType_11.dev.reaches 68 = true := by decide

/-- For `witness_FramesCarryRegisterWritesByFieldType_12`. -/
def state_FramesCarryRegisterWritesByFieldType_12 : State := at_ 4 (·.set .MB_STATUS_OVERRUN 7)

/-- FramesCarryRegisterWritesByFieldType, clause 13. -/
theorem witness_FramesCarryRegisterWritesByFieldType_12 :
    state_FramesCarryRegisterWritesByFieldType_12.dev.reaches 262276 = true := by decide

/-- For `witness_FramesCarryRegisterWritesByFieldType_13a`. -/
def state_FramesCarryRegisterWritesByFieldType_13a : State := at_ 4 id

/-- FramesCarryRegisterWritesByFieldType, clause 14. -/
theorem witness_FramesCarryRegisterWritesByFieldType_13a :
    0 ∈ [0, 4, 32, 64, 72, 262272, 262296, 5243140] ∧ state_FramesCarryRegisterWritesByFieldType_13a.dev.reaches 0 = true := by decide

/-- For `witness_FramesCarryRegisterWritesByFieldType_13b`. -/
def state_FramesCarryRegisterWritesByFieldType_13b : State := at_ 4 id

/-- FramesCarryRegisterWritesByFieldType, clause 14. -/
theorem witness_FramesCarryRegisterWritesByFieldType_13b :
    4 ∈ [0, 4, 32, 64, 72, 262272, 262296, 5243140] ∧ state_FramesCarryRegisterWritesByFieldType_13b.dev.reaches 4 = true := by decide

/-- For `witness_FramesCarryRegisterWritesByFieldType_13c`. -/
def state_FramesCarryRegisterWritesByFieldType_13c : State := at_ 4 id

/-- FramesCarryRegisterWritesByFieldType, clause 14. -/
theorem witness_FramesCarryRegisterWritesByFieldType_13c :
    32 ∈ [0, 4, 32, 64, 72, 262272, 262296, 5243140] ∧ state_FramesCarryRegisterWritesByFieldType_13c.dev.reaches 32 = true := by decide

/-- For `witness_FramesCarryRegisterWritesByFieldType_13d`. -/
def state_FramesCarryRegisterWritesByFieldType_13d : State := at_ 4 id

/-- FramesCarryRegisterWritesByFieldType, clause 14. -/
theorem witness_FramesCarryRegisterWritesByFieldType_13d :
    64 ∈ [0, 4, 32, 64, 72, 262272, 262296, 5243140] ∧ state_FramesCarryRegisterWritesByFieldType_13d.dev.reaches 64 = true := by decide

/-- For `witness_FramesCarryRegisterWritesByFieldType_13e`. -/
def state_FramesCarryRegisterWritesByFieldType_13e : State := at_ 4 id

/-- FramesCarryRegisterWritesByFieldType, clause 14. -/
theorem witness_FramesCarryRegisterWritesByFieldType_13e :
    72 ∈ [0, 4, 32, 64, 72, 262272, 262296, 5243140] ∧ state_FramesCarryRegisterWritesByFieldType_13e.dev.reaches 72 = true := by decide

/-- For `witness_FramesCarryRegisterWritesByFieldType_13g`. -/
def state_FramesCarryRegisterWritesByFieldType_13g : State := at_ 4 id

/-- FramesCarryRegisterWritesByFieldType, clause 14. -/
theorem witness_FramesCarryRegisterWritesByFieldType_13g :
    262272 ∈ [0, 4, 32, 64, 72, 262272, 262296, 5243140] ∧ state_FramesCarryRegisterWritesByFieldType_13g.dev.reaches 262272 = true := by decide

/-- For `witness_FramesCarryRegisterWritesByFieldType_13h`. -/
def state_FramesCarryRegisterWritesByFieldType_13h : State := at_ 4 id

/-- FramesCarryRegisterWritesByFieldType, clause 14. -/
theorem witness_FramesCarryRegisterWritesByFieldType_13h :
    262296 ∈ [0, 4, 32, 64, 72, 262272, 262296, 5243140] ∧ state_FramesCarryRegisterWritesByFieldType_13h.dev.reaches 262296 = true := by decide

/-- For `witness_FramesCarryRegisterWritesByFieldType_13i`. -/
def state_FramesCarryRegisterWritesByFieldType_13i : State := at_ 4 id

/-- FramesCarryRegisterWritesByFieldType, clause 14. -/
theorem witness_FramesCarryRegisterWritesByFieldType_13i :
    5243140 ∈ [0, 4, 32, 64, 72, 262272, 262296, 5243140] ∧ state_FramesCarryRegisterWritesByFieldType_13i.dev.reaches 5243140 = true := by decide

/-- For `witness_FramesCarryRegisterWritesByFieldType_14`. -/
def state_FramesCarryRegisterWritesByFieldType_14 : State := at_ 9 id

/-- FramesCarryRegisterWritesByFieldType, clause 15. -/
theorem witness_FramesCarryRegisterWritesByFieldType_14 :
    state_FramesCarryRegisterWritesByFieldType_14.dev.reaches 68 = false := by decide

/-- For `witness_FramesCarryRegisterWritesByFieldType_15`. -/
def state_FramesCarryRegisterWritesByFieldType_15 : State := at_ 4 (·.set .I3C_SADDR_ADDR 5)

/-- FramesCarryRegisterWritesByFieldType, clause 16. -/
theorem witness_FramesCarryRegisterWritesByFieldType_15 :
    state_FramesCarryRegisterWritesByFieldType_15.dev.reaches 262312 = true ∧ state_FramesCarryRegisterWritesByFieldType_15.dev.get Fld.I3C_SADDR_ADDR + 4294967290 % 2 ^ 32 = 2 ^ 32 - 1 := by decide

/-- For `witness_FramesCarryRegisterWritesByFieldType_16`. -/
def state_FramesCarryRegisterWritesByFieldType_16 : State := at_ 4 id

/-- FramesCarryRegisterWritesByFieldType, clause 17. -/
theorem witness_FramesCarryRegisterWritesByFieldType_16 :
    state_FramesCarryRegisterWritesByFieldType_16.dev.reaches 262312 = true ∧ state_FramesCarryRegisterWritesByFieldType_16.dev.get Fld.I3C_SADDR_ADDR + 7 % 2 ^ 32 ≠ 2 ^ 32 - 1 ∧ state_FramesCarryRegisterWritesByFieldType_16.dev.get Fld.I3C_SADDR_ADDR + state_FramesCarryRegisterWritesByFieldType_16.dev.get Fld.I3C_SADDR_CHK_CHECK = 2 ^ 32 - 1 := by decide

/-- For `witness_FramesCarryRegisterWritesByFieldType_17`. -/
def state_FramesCarryRegisterWritesByFieldType_17 : State := at_ 4 (·.set (.SB_SLOT_ADDR_SEL 3) 5)

/-- FramesCarryRegisterWritesByFieldType, clause 18. -/
theorem witness_FramesCarryRegisterWritesByFieldType_17 :
    3 < 16 ∧ state_FramesCarryRegisterWritesByFieldType_17.dev.reaches (262660 + 8 * 3) = true ∧ state_FramesCarryRegisterWritesByFieldType_17.dev.modeOf ≠ mDORMANT ∧ state_FramesCarryRegisterWritesByFieldType_17.dev.get (Fld.SB_SLOT_ADDR_SEL 3) + 4294967290 % 2 ^ 32 = 2 ^ 32 - 1 := by decide

/-- FramesCarryRegisterWritesByFieldType, clause 19. -/
theorem witness_FramesCarryRegisterWritesByFieldType_18 :
    livePair 68 = false := by decide

/-- For `witness_FramesCarryRegisterWritesByFieldType_19a`. -/
def state_FramesCarryRegisterWritesByFieldType_19a : State := at_ 4 id

/-- For `witness_FramesCarryRegisterWritesByFieldType_19a`. -/
def arg2_FramesCarryRegisterWritesByFieldType_19a : Fld := .KEY_SEL_READY

/-- FramesCarryRegisterWritesByFieldType, clause 20. -/
theorem witness_FramesCarryRegisterWritesByFieldType_19a :
    (458768, arg2_FramesCarryRegisterWritesByFieldType_19a) ∈ [(458768, Fld.KEY_SEL_READY), (5242900, Fld.XPORT_QP_SEL_READY), (5246976, Fld.REGION_SEL_READY), (5251072, Fld.DQ_SEL_READY)] ∧ state_FramesCarryRegisterWritesByFieldType_19a.dev.reaches 458768 = true ∧ state_FramesCarryRegisterWritesByFieldType_19a.dev.modeOf ≠ mDORMANT := by decide

/-- For `witness_FramesCarryRegisterWritesByFieldType_19b`. -/
def state_FramesCarryRegisterWritesByFieldType_19b : State := at_ 4 id

/-- For `witness_FramesCarryRegisterWritesByFieldType_19b`. -/
def arg2_FramesCarryRegisterWritesByFieldType_19b : Fld := .XPORT_QP_SEL_READY

/-- FramesCarryRegisterWritesByFieldType, clause 20. -/
theorem witness_FramesCarryRegisterWritesByFieldType_19b :
    (5242900, arg2_FramesCarryRegisterWritesByFieldType_19b) ∈ [(458768, Fld.KEY_SEL_READY), (5242900, Fld.XPORT_QP_SEL_READY), (5246976, Fld.REGION_SEL_READY), (5251072, Fld.DQ_SEL_READY)] ∧ state_FramesCarryRegisterWritesByFieldType_19b.dev.reaches 5242900 = true ∧ state_FramesCarryRegisterWritesByFieldType_19b.dev.modeOf ≠ mDORMANT := by decide

/-- For `witness_FramesCarryRegisterWritesByFieldType_19c`. -/
def state_FramesCarryRegisterWritesByFieldType_19c : State := at_ 4 id

/-- For `witness_FramesCarryRegisterWritesByFieldType_19c`. -/
def arg2_FramesCarryRegisterWritesByFieldType_19c : Fld := .REGION_SEL_READY

/-- FramesCarryRegisterWritesByFieldType, clause 20. -/
theorem witness_FramesCarryRegisterWritesByFieldType_19c :
    (5246976, arg2_FramesCarryRegisterWritesByFieldType_19c) ∈ [(458768, Fld.KEY_SEL_READY), (5242900, Fld.XPORT_QP_SEL_READY), (5246976, Fld.REGION_SEL_READY), (5251072, Fld.DQ_SEL_READY)] ∧ state_FramesCarryRegisterWritesByFieldType_19c.dev.reaches 5246976 = true ∧ state_FramesCarryRegisterWritesByFieldType_19c.dev.modeOf ≠ mDORMANT := by decide

/-- For `witness_FramesCarryRegisterWritesByFieldType_19d`. -/
def state_FramesCarryRegisterWritesByFieldType_19d : State := at_ 4 id

/-- For `witness_FramesCarryRegisterWritesByFieldType_19d`. -/
def arg2_FramesCarryRegisterWritesByFieldType_19d : Fld := .DQ_SEL_READY

/-- FramesCarryRegisterWritesByFieldType, clause 20. -/
theorem witness_FramesCarryRegisterWritesByFieldType_19d :
    (5251072, arg2_FramesCarryRegisterWritesByFieldType_19d) ∈ [(458768, Fld.KEY_SEL_READY), (5242900, Fld.XPORT_QP_SEL_READY), (5246976, Fld.REGION_SEL_READY), (5251072, Fld.DQ_SEL_READY)] ∧ state_FramesCarryRegisterWritesByFieldType_19d.dev.reaches 5251072 = true ∧ state_FramesCarryRegisterWritesByFieldType_19d.dev.modeOf ≠ mDORMANT := by decide

/-- FramesCarryRegisterWritesByFieldType, clause 21. -/
theorem witness_FramesCarryRegisterWritesByFieldType_20 :
    readyOf 68 = none := by decide

/-- For `witness_CommonCommandCodesAnswerAsTheirTableSays_0`. -/
def state_CommonCommandCodesAnswerAsTheirTableSays_0 : State := addressed 4 1 id

/-- CommonCommandCodesAnswerAsTheirTableSays, clause 1. -/
theorem witness_CommonCommandCodesAnswerAsTheirTableSays_0 :
    state_CommonCommandCodesAnswerAsTheirTableSays_0.dev.pwr.on = true ∧ state_CommonCommandCodesAnswerAsTheirTableSays_0.dev.modeOf ≠ mDORMANT ∧ state_CommonCommandCodesAnswerAsTheirTableSays_0.dev.get Fld.I3C_STATUS_BUSMODE ≠ 2 := by decide

/-- For `witness_CommonCommandCodesAnswerAsTheirTableSays_1`. -/
def state_CommonCommandCodesAnswerAsTheirTableSays_1 : State := addressed 4 1 id

/-- CommonCommandCodesAnswerAsTheirTableSays, clause 2. -/
theorem witness_CommonCommandCodesAnswerAsTheirTableSays_1 :
    state_CommonCommandCodesAnswerAsTheirTableSays_1.dev.pwr.on = true ∧ state_CommonCommandCodesAnswerAsTheirTableSays_1.dev.modeOf ≠ mDORMANT ∧ state_CommonCommandCodesAnswerAsTheirTableSays_1.dev.get Fld.I3C_STATUS_BUSMODE ≠ 2 := by decide

/-- For `witness_CommonCommandCodesAnswerAsTheirTableSays_2`. -/
def state_CommonCommandCodesAnswerAsTheirTableSays_2 : State := addressed 4 0 id

/-- CommonCommandCodesAnswerAsTheirTableSays, clause 3. -/
theorem witness_CommonCommandCodesAnswerAsTheirTableSays_2 :
    33 < 128 ∧ state_CommonCommandCodesAnswerAsTheirTableSays_2.dev.pwr.on = true ∧ state_CommonCommandCodesAnswerAsTheirTableSays_2.dev.modeOf ≠ mDORMANT ∧ (Instr.entdaa 33, 1) ∈ [(Instr.entdaa 33, 1), (Instr.setdasa (state_CommonCommandCodesAnswerAsTheirTableSays_2.dev.get Fld.I3C_STATUS_STATIC_ADDR) 33, 0), (Instr.setnewda 33, 2)] ∧ state_CommonCommandCodesAnswerAsTheirTableSays_2.dev.get Fld.I3C_STATUS_BUSMODE = if 1 = 2 then 1 else 0 := by decide

/-- For `witness_CommonCommandCodesAnswerAsTheirTableSays_2b`. -/
def state_CommonCommandCodesAnswerAsTheirTableSays_2b : State := addressed 4 0 id

/-- CommonCommandCodesAnswerAsTheirTableSays, clause 3. -/
theorem witness_CommonCommandCodesAnswerAsTheirTableSays_2b :
    33 < 128 ∧ state_CommonCommandCodesAnswerAsTheirTableSays_2b.dev.pwr.on = true ∧ state_CommonCommandCodesAnswerAsTheirTableSays_2b.dev.modeOf ≠ mDORMANT ∧ (Instr.setdasa 60 33, 0) ∈ [(Instr.entdaa 33, 1), (Instr.setdasa (state_CommonCommandCodesAnswerAsTheirTableSays_2b.dev.get Fld.I3C_STATUS_STATIC_ADDR) 33, 0), (Instr.setnewda 33, 2)] ∧ state_CommonCommandCodesAnswerAsTheirTableSays_2b.dev.get Fld.I3C_STATUS_BUSMODE = if 0 = 2 then 1 else 0 := by decide

/-- For `witness_CommonCommandCodesAnswerAsTheirTableSays_2c`. -/
def state_CommonCommandCodesAnswerAsTheirTableSays_2c : State := addressed 4 1 id

/-- CommonCommandCodesAnswerAsTheirTableSays, clause 3. -/
theorem witness_CommonCommandCodesAnswerAsTheirTableSays_2c :
    33 < 128 ∧ state_CommonCommandCodesAnswerAsTheirTableSays_2c.dev.pwr.on = true ∧ state_CommonCommandCodesAnswerAsTheirTableSays_2c.dev.modeOf ≠ mDORMANT ∧ (Instr.setnewda 33, 2) ∈ [(Instr.entdaa 33, 1), (Instr.setdasa (state_CommonCommandCodesAnswerAsTheirTableSays_2c.dev.get Fld.I3C_STATUS_STATIC_ADDR) 33, 0), (Instr.setnewda 33, 2)] ∧ state_CommonCommandCodesAnswerAsTheirTableSays_2c.dev.get Fld.I3C_STATUS_BUSMODE = if 2 = 2 then 1 else 0 := by decide

/-- For `witness_CommonCommandCodesAnswerAsTheirTableSays_3`. -/
def state_CommonCommandCodesAnswerAsTheirTableSays_3 : State := addressed 4 1 id

/-- CommonCommandCodesAnswerAsTheirTableSays, clause 4. -/
theorem witness_CommonCommandCodesAnswerAsTheirTableSays_3 :
    state_CommonCommandCodesAnswerAsTheirTableSays_3.dev.get Fld.I3C_STATUS_BUSMODE ≠ 0 ∨ 60 ≠ state_CommonCommandCodesAnswerAsTheirTableSays_3.dev.get Fld.I3C_STATUS_STATIC_ADDR := by decide

/-- For `witness_CommonCommandCodesAnswerAsTheirTableSays_4a`. -/
def state_CommonCommandCodesAnswerAsTheirTableSays_4a : State := addressed 4 1 id

/-- CommonCommandCodesAnswerAsTheirTableSays, clause 5. -/
theorem witness_CommonCommandCodesAnswerAsTheirTableSays_4a :
    state_CommonCommandCodesAnswerAsTheirTableSays_4a.dev.pwr.on = true ∧ state_CommonCommandCodesAnswerAsTheirTableSays_4a.dev.modeOf ≠ mDORMANT ∧ state_CommonCommandCodesAnswerAsTheirTableSays_4a.dev.get Fld.I3C_STATUS_BUSMODE = 1 ∧ (Instr.getpid, [5, 114, 96, 64, 0, 162]) ∈ [(Instr.getpid, (leBytes 6 (697 * 2 ^ 33 + 24640 * 2 ^ 16 + state_CommonCommandCodesAnswerAsTheirTableSays_4a.dev.sp.addrStrap * 2 ^ 12 + 162)).reverse), (Instr.getbcr, [38]), (Instr.getdcr, [0]), (Instr.getmwl, [BitVec.ofNat 8 (state_CommonCommandCodesAnswerAsTheirTableSays_4a.dev.sp.mwl / 256), BitVec.ofNat 8 state_CommonCommandCodesAnswerAsTheirTableSays_4a.dev.sp.mwl]), (Instr.getmrl, [1, 4, 5]), (Instr.getmxds, [0, 0])] := by decide

/-- For `witness_CommonCommandCodesAnswerAsTheirTableSays_4b`. -/
def state_CommonCommandCodesAnswerAsTheirTableSays_4b : State := addressed 4 1 id

/-- CommonCommandCodesAnswerAsTheirTableSays, clause 5. -/
theorem witness_CommonCommandCodesAnswerAsTheirTableSays_4b :
    state_CommonCommandCodesAnswerAsTheirTableSays_4b.dev.pwr.on = true ∧ state_CommonCommandCodesAnswerAsTheirTableSays_4b.dev.modeOf ≠ mDORMANT ∧ state_CommonCommandCodesAnswerAsTheirTableSays_4b.dev.get Fld.I3C_STATUS_BUSMODE = 1 ∧ (Instr.getbcr, [38]) ∈ [(Instr.getpid, (leBytes 6 (697 * 2 ^ 33 + 24640 * 2 ^ 16 + state_CommonCommandCodesAnswerAsTheirTableSays_4b.dev.sp.addrStrap * 2 ^ 12 + 162)).reverse), (Instr.getbcr, [38]), (Instr.getdcr, [0]), (Instr.getmwl, [BitVec.ofNat 8 (state_CommonCommandCodesAnswerAsTheirTableSays_4b.dev.sp.mwl / 256), BitVec.ofNat 8 state_CommonCommandCodesAnswerAsTheirTableSays_4b.dev.sp.mwl]), (Instr.getmrl, [1, 4, 5]), (Instr.getmxds, [0, 0])] := by decide

/-- For `witness_CommonCommandCodesAnswerAsTheirTableSays_4c`. -/
def state_CommonCommandCodesAnswerAsTheirTableSays_4c : State := addressed 4 1 id

/-- CommonCommandCodesAnswerAsTheirTableSays, clause 5. -/
theorem witness_CommonCommandCodesAnswerAsTheirTableSays_4c :
    state_CommonCommandCodesAnswerAsTheirTableSays_4c.dev.pwr.on = true ∧ state_CommonCommandCodesAnswerAsTheirTableSays_4c.dev.modeOf ≠ mDORMANT ∧ state_CommonCommandCodesAnswerAsTheirTableSays_4c.dev.get Fld.I3C_STATUS_BUSMODE = 1 ∧ (Instr.getdcr, [0]) ∈ [(Instr.getpid, (leBytes 6 (697 * 2 ^ 33 + 24640 * 2 ^ 16 + state_CommonCommandCodesAnswerAsTheirTableSays_4c.dev.sp.addrStrap * 2 ^ 12 + 162)).reverse), (Instr.getbcr, [38]), (Instr.getdcr, [0]), (Instr.getmwl, [BitVec.ofNat 8 (state_CommonCommandCodesAnswerAsTheirTableSays_4c.dev.sp.mwl / 256), BitVec.ofNat 8 state_CommonCommandCodesAnswerAsTheirTableSays_4c.dev.sp.mwl]), (Instr.getmrl, [1, 4, 5]), (Instr.getmxds, [0, 0])] := by decide

/-- For `witness_CommonCommandCodesAnswerAsTheirTableSays_4d`. -/
def state_CommonCommandCodesAnswerAsTheirTableSays_4d : State := addressed 4 1 id

/-- CommonCommandCodesAnswerAsTheirTableSays, clause 5. -/
theorem witness_CommonCommandCodesAnswerAsTheirTableSays_4d :
    state_CommonCommandCodesAnswerAsTheirTableSays_4d.dev.pwr.on = true ∧ state_CommonCommandCodesAnswerAsTheirTableSays_4d.dev.modeOf ≠ mDORMANT ∧ state_CommonCommandCodesAnswerAsTheirTableSays_4d.dev.get Fld.I3C_STATUS_BUSMODE = 1 ∧ (Instr.getmwl, [1, 5]) ∈ [(Instr.getpid, (leBytes 6 (697 * 2 ^ 33 + 24640 * 2 ^ 16 + state_CommonCommandCodesAnswerAsTheirTableSays_4d.dev.sp.addrStrap * 2 ^ 12 + 162)).reverse), (Instr.getbcr, [38]), (Instr.getdcr, [0]), (Instr.getmwl, [BitVec.ofNat 8 (state_CommonCommandCodesAnswerAsTheirTableSays_4d.dev.sp.mwl / 256), BitVec.ofNat 8 state_CommonCommandCodesAnswerAsTheirTableSays_4d.dev.sp.mwl]), (Instr.getmrl, [1, 4, 5]), (Instr.getmxds, [0, 0])] := by decide

/-- For `witness_CommonCommandCodesAnswerAsTheirTableSays_4e`. -/
def state_CommonCommandCodesAnswerAsTheirTableSays_4e : State := addressed 4 1 id

/-- CommonCommandCodesAnswerAsTheirTableSays, clause 5. -/
theorem witness_CommonCommandCodesAnswerAsTheirTableSays_4e :
    state_CommonCommandCodesAnswerAsTheirTableSays_4e.dev.pwr.on = true ∧ state_CommonCommandCodesAnswerAsTheirTableSays_4e.dev.modeOf ≠ mDORMANT ∧ state_CommonCommandCodesAnswerAsTheirTableSays_4e.dev.get Fld.I3C_STATUS_BUSMODE = 1 ∧ (Instr.getmrl, [1, 4, 5]) ∈ [(Instr.getpid, (leBytes 6 (697 * 2 ^ 33 + 24640 * 2 ^ 16 + state_CommonCommandCodesAnswerAsTheirTableSays_4e.dev.sp.addrStrap * 2 ^ 12 + 162)).reverse), (Instr.getbcr, [38]), (Instr.getdcr, [0]), (Instr.getmwl, [BitVec.ofNat 8 (state_CommonCommandCodesAnswerAsTheirTableSays_4e.dev.sp.mwl / 256), BitVec.ofNat 8 state_CommonCommandCodesAnswerAsTheirTableSays_4e.dev.sp.mwl]), (Instr.getmrl, [1, 4, 5]), (Instr.getmxds, [0, 0])] := by decide

/-- For `witness_CommonCommandCodesAnswerAsTheirTableSays_4f`. -/
def state_CommonCommandCodesAnswerAsTheirTableSays_4f : State := addressed 4 1 id

/-- CommonCommandCodesAnswerAsTheirTableSays, clause 5. -/
theorem witness_CommonCommandCodesAnswerAsTheirTableSays_4f :
    state_CommonCommandCodesAnswerAsTheirTableSays_4f.dev.pwr.on = true ∧ state_CommonCommandCodesAnswerAsTheirTableSays_4f.dev.modeOf ≠ mDORMANT ∧ state_CommonCommandCodesAnswerAsTheirTableSays_4f.dev.get Fld.I3C_STATUS_BUSMODE = 1 ∧ (Instr.getmxds, [0, 0]) ∈ [(Instr.getpid, (leBytes 6 (697 * 2 ^ 33 + 24640 * 2 ^ 16 + state_CommonCommandCodesAnswerAsTheirTableSays_4f.dev.sp.addrStrap * 2 ^ 12 + 162)).reverse), (Instr.getbcr, [38]), (Instr.getdcr, [0]), (Instr.getmwl, [BitVec.ofNat 8 (state_CommonCommandCodesAnswerAsTheirTableSays_4f.dev.sp.mwl / 256), BitVec.ofNat 8 state_CommonCommandCodesAnswerAsTheirTableSays_4f.dev.sp.mwl]), (Instr.getmrl, [1, 4, 5]), (Instr.getmxds, [0, 0])] := by decide

/-- For `witness_CommonCommandCodesAnswerAsTheirTableSays_5`. -/
def state_CommonCommandCodesAnswerAsTheirTableSays_5 : State := addressed 4 1 (·.modSp fun p => { p with ibiPending := true, frameRefused := true })

/-- CommonCommandCodesAnswerAsTheirTableSays, clause 6. -/
theorem witness_CommonCommandCodesAnswerAsTheirTableSays_5 :
    state_CommonCommandCodesAnswerAsTheirTableSays_5.dev.pwr.on = true ∧ state_CommonCommandCodesAnswerAsTheirTableSays_5.dev.modeOf ≠ mDORMANT ∧ state_CommonCommandCodesAnswerAsTheirTableSays_5.dev.get Fld.I3C_STATUS_BUSMODE = 1 := by decide

/-- For `witness_CommonCommandCodesAnswerAsTheirTableSays_6`. -/
def state_CommonCommandCodesAnswerAsTheirTableSays_6 : State := addressed 4 1 id

/-- CommonCommandCodesAnswerAsTheirTableSays, clause 7. -/
theorem witness_CommonCommandCodesAnswerAsTheirTableSays_6 :
    100 < 261 ∧ state_CommonCommandCodesAnswerAsTheirTableSays_6.dev.pwr.on = true ∧ state_CommonCommandCodesAnswerAsTheirTableSays_6.dev.modeOf ≠ mDORMANT ∧ state_CommonCommandCodesAnswerAsTheirTableSays_6.dev.get Fld.I3C_STATUS_BUSMODE ≠ 2 := by decide

/-- For `witness_CommonCommandCodesAnswerAsTheirTableSays_7`. -/
def state_CommonCommandCodesAnswerAsTheirTableSays_7 : State := addressed 4 1 id

/-- CommonCommandCodesAnswerAsTheirTableSays, clause 8. -/
theorem witness_CommonCommandCodesAnswerAsTheirTableSays_7 :
    state_CommonCommandCodesAnswerAsTheirTableSays_7.dev.pwr.on = true ∧ state_CommonCommandCodesAnswerAsTheirTableSays_7.dev.modeOf ≠ mDORMANT ∧ state_CommonCommandCodesAnswerAsTheirTableSays_7.dev.get Fld.I3C_STATUS_BUSMODE = 1 := by decide

/-- For `witness_CommonCommandCodesAnswerAsTheirTableSays_8`. -/
def state_CommonCommandCodesAnswerAsTheirTableSays_8 : State := addressed 4 2 id

/-- CommonCommandCodesAnswerAsTheirTableSays, clause 9. -/
theorem witness_CommonCommandCodesAnswerAsTheirTableSays_8 :
    state_CommonCommandCodesAnswerAsTheirTableSays_8.dev.get Fld.I3C_STATUS_BUSMODE = 2 := by decide

/-- For `witness_CommonCommandCodesAnswerAsTheirTableSays_9`. -/
def state_CommonCommandCodesAnswerAsTheirTableSays_9 : State := addressed 0 0 id

/-- CommonCommandCodesAnswerAsTheirTableSays, clause 10. -/
theorem witness_CommonCommandCodesAnswerAsTheirTableSays_9 :
    Instr.getpid ∈ [Instr.getpid, Instr.getbcr, Instr.getdcr, Instr.getstatus, Instr.getmwl, Instr.getmrl, Instr.getmxds, Instr.enthdr0, Instr.setnewda 5, Instr.rstdaa, Instr.entdaa 5, Instr.setmwl 100] ∧ (state_CommonCommandCodesAnswerAsTheirTableSays_9.dev.modeOf = mDORMANT ∨ state_CommonCommandCodesAnswerAsTheirTableSays_9.dev.pwr.on = false) := by decide

/-- For `witness_CommonCommandCodesAnswerAsTheirTableSays_9b`. -/
def state_CommonCommandCodesAnswerAsTheirTableSays_9b : State := addressed 0 0 id

/-- CommonCommandCodesAnswerAsTheirTableSays, clause 10. -/
theorem witness_CommonCommandCodesAnswerAsTheirTableSays_9b :
    Instr.entdaa 5 ∈ [Instr.getpid, Instr.getbcr, Instr.getdcr, Instr.getstatus, Instr.getmwl, Instr.getmrl, Instr.getmxds, Instr.enthdr0, Instr.setnewda 5, Instr.rstdaa, Instr.entdaa 5, Instr.setmwl 100] ∧ (state_CommonCommandCodesAnswerAsTheirTableSays_9b.dev.modeOf = mDORMANT ∨ state_CommonCommandCodesAnswerAsTheirTableSays_9b.dev.pwr.on = false) := by decide

/-- For `witness_MailboxesVerbAnswersAndInterruptsAreDelivered_0`. -/
def state_MailboxesVerbAnswersAndInterruptsAreDelivered_0 : State := at_ 4 id

/-- MailboxesVerbAnswersAndInterruptsAreDelivered, clause 1. -/
theorem witness_MailboxesVerbAnswersAndInterruptsAreDelivered_0 :
    15 < 16 ∧ state_MailboxesVerbAnswersAndInterruptsAreDelivered_0.dev.reaches (262144 + 4 * 15) = true ∧ (state_MailboxesVerbAnswersAndInterruptsAreDelivered_0.dev.get Fld.MB_FLAGS_TO_DEV_FULL).testBit 15 = false := by decide

/-- For `witness_MailboxesVerbAnswersAndInterruptsAreDelivered_1`. -/
def state_MailboxesVerbAnswersAndInterruptsAreDelivered_1 : State := at_ 4 (·.set .MB_FLAGS_TO_DEV_FULL 0x8000)

/-- MailboxesVerbAnswersAndInterruptsAreDelivered, clause 2. -/
theorem witness_MailboxesVerbAnswersAndInterruptsAreDelivered_1 :
    15 < 16 ∧ state_MailboxesVerbAnswersAndInterruptsAreDelivered_1.dev.reaches (262144 + 4 * 15) = true ∧ (state_MailboxesVerbAnswersAndInterruptsAreDelivered_1.dev.get Fld.MB_FLAGS_TO_DEV_FULL).testBit 15 = true := by decide

/-- For `witness_MailboxesVerbAnswersAndInterruptsAreDelivered_2`. -/
def state_MailboxesVerbAnswersAndInterruptsAreDelivered_2 : State := at_ 4 (·.setL [(.MB_FLAGS_TO_SP_FULL, 0x8001), (.MB_TO_SP_WORD 15, 9)])

/-- MailboxesVerbAnswersAndInterruptsAreDelivered, clause 3. -/
theorem witness_MailboxesVerbAnswersAndInterruptsAreDelivered_2 :
    15 < 16 ∧ state_MailboxesVerbAnswersAndInterruptsAreDelivered_2.dev.pwr.on = true ∧ state_MailboxesVerbAnswersAndInterruptsAreDelivered_2.dev.modeOf ≠ mDORMANT := by decide

/-- For `witness_MailboxesVerbAnswersAndInterruptsAreDelivered_3`. -/
def state_MailboxesVerbAnswersAndInterruptsAreDelivered_3 : State := at_ 4 id

/-- MailboxesVerbAnswersAndInterruptsAreDelivered, clause 4. -/
theorem witness_MailboxesVerbAnswersAndInterruptsAreDelivered_3 :
    1023 < 1024 ∧ state_MailboxesVerbAnswersAndInterruptsAreDelivered_3.dev.reaches (266240 + 4 * 1023) = true := by decide

/-- For `witness_MailboxesVerbAnswersAndInterruptsAreDelivered_3b`. -/
def state_MailboxesVerbAnswersAndInterruptsAreDelivered_3b : State := at_ 4 (·.set .MB_FLAGS_TO_DEV_FULL 1)

/-- MailboxesVerbAnswersAndInterruptsAreDelivered, clause 4. -/
theorem witness_MailboxesVerbAnswersAndInterruptsAreDelivered_3b :
    1023 < 1024 ∧ state_MailboxesVerbAnswersAndInterruptsAreDelivered_3b.dev.reaches (266240 + 4 * 1023) = true := by decide

/-- For `witness_MailboxesVerbAnswersAndInterruptsAreDelivered_4`. -/
def state_MailboxesVerbAnswersAndInterruptsAreDelivered_4 : State := at_ 4 fun s => (s.modSp fun p => { p with verbOut := [{ seq := 3, bytes := [1, 2, 3, 4, 5, 6, 7, 8, 9, 10, 11, 12, 13, 14, 15, 16, 17, 18, 19, 20] }] }).modForme fun f => { f with runtime := true }

/-- For `witness_MailboxesVerbAnswersAndInterruptsAreDelivered_4`. -/
def arg2_MailboxesVerbAnswersAndInterruptsAreDelivered_4 : SpMsg := { seq := 3, bytes := [1, 2, 3, 4, 5, 6, 7, 8, 9, 10, 11, 12, 13, 14, 15, 16, 17, 18, 19, 20] }

/-- MailboxesVerbAnswersAndInterruptsAreDelivered, clause 5. -/
theorem witness_MailboxesVerbAnswersAndInterruptsAreDelivered_4 :
    state_MailboxesVerbAnswersAndInterruptsAreDelivered_4.dev.get Fld.MB_FLAGS_TO_DEV_FULL = 0 ∧ state_MailboxesVerbAnswersAndInterruptsAreDelivered_4.dev.sp.verbOut = [arg2_MailboxesVerbAnswersAndInterruptsAreDelivered_4] ∧ state_MailboxesVerbAnswersAndInterruptsAreDelivered_4.dev.coreRuns = true ∧ (state_MailboxesVerbAnswersAndInterruptsAreDelivered_4.dev.get Fld.MB_FLAGS_TO_SP_FULL).testBit 0 = false := by decide

/-- For `witness_MailboxesVerbAnswersAndInterruptsAreDelivered_5`. -/
def state_MailboxesVerbAnswersAndInterruptsAreDelivered_5 : State := at_ 4 id

/-- MailboxesVerbAnswersAndInterruptsAreDelivered, clause 6. -/
theorem witness_MailboxesVerbAnswersAndInterruptsAreDelivered_5 :
    state_MailboxesVerbAnswersAndInterruptsAreDelivered_5.dev.get Fld.MB_FLAGS_TO_DEV_FULL = 0 ∧ (state_MailboxesVerbAnswersAndInterruptsAreDelivered_5.dev.sp.verbOut = [] ∨ state_MailboxesVerbAnswersAndInterruptsAreDelivered_5.dev.coreRuns = false ∨ (state_MailboxesVerbAnswersAndInterruptsAreDelivered_5.dev.get Fld.MB_FLAGS_TO_SP_FULL).testBit 0 = true) := by decide

/-- For `witness_MailboxesVerbAnswersAndInterruptsAreDelivered_6`. -/
def state_MailboxesVerbAnswersAndInterruptsAreDelivered_6 : State := addressed 4 1 fun s => (s.modSp fun p => { p with ibiPending := true }).setL [(.DB_TO_SP_BITS, 5), (.DB_MASK_MASK, 1)]

/-- MailboxesVerbAnswersAndInterruptsAreDelivered, clause 7. -/
theorem witness_MailboxesVerbAnswersAndInterruptsAreDelivered_6 :
    state_MailboxesVerbAnswersAndInterruptsAreDelivered_6.dev.sp.ibiPending = true ∧ state_MailboxesVerbAnswersAndInterruptsAreDelivered_6.dev.modeOf ≠ mDORMANT ∧ state_MailboxesVerbAnswersAndInterruptsAreDelivered_6.dev.get Fld.I3C_STATUS_BUSMODE ≠ 0 ∧ state_MailboxesVerbAnswersAndInterruptsAreDelivered_6.dev.get Fld.I3C_STATUS_IBI_EN = 1 := by decide

/-- For `witness_SidebandAndBootStoreOperationsBeginAndEnd_0`. -/
def state_SidebandAndBootStoreOperationsBeginAndEnd_0 : State := at_ 4 id

/-- SidebandAndBootStoreOperationsBeginAndEnd, clause 1. -/
theorem witness_SidebandAndBootStoreOperationsBeginAndEnd_0 :
    15 < 16 ∧ state_SidebandAndBootStoreOperationsBeginAndEnd_0.dev.sbAgrees 15 = true ∧ state_SidebandAndBootStoreOperationsBeginAndEnd_0.dev.modeOf ≠ mDORMANT ∧ 2 < 3 := by decide

/-- For `witness_SidebandAndBootStoreOperationsBeginAndEnd_1`. -/
def state_SidebandAndBootStoreOperationsBeginAndEnd_1 : State := at_ 4 (·.set .SB_STATUS_PRESENT 0x8001)

/-- SidebandAndBootStoreOperationsBeginAndEnd, clause 2. -/
theorem witness_SidebandAndBootStoreOperationsBeginAndEnd_1 :
    15 < 16 ∧ state_SidebandAndBootStoreOperationsBeginAndEnd_1.dev.sbAgrees 15 = true ∧ state_SidebandAndBootStoreOperationsBeginAndEnd_1.dev.modeOf ≠ mDORMANT ∧ 3 ≤ 3 := by decide

/-- For `witness_SidebandAndBootStoreOperationsBeginAndEnd_2`. -/
def state_SidebandAndBootStoreOperationsBeginAndEnd_2 : State := at_ 4 (·.set (.SB_SLOT_ADDR_SEL 3) 5)

/-- SidebandAndBootStoreOperationsBeginAndEnd, clause 3. -/
theorem witness_SidebandAndBootStoreOperationsBeginAndEnd_2 :
    state_SidebandAndBootStoreOperationsBeginAndEnd_2.dev.sbAgrees 3 = false := by decide

/-- For `witness_SidebandAndBootStoreOperationsBeginAndEnd_3`. -/
def state_SidebandAndBootStoreOperationsBeginAndEnd_3 : State := at_ 4 id

/-- SidebandAndBootStoreOperationsBeginAndEnd, clause 4. -/
theorem witness_SidebandAndBootStoreOperationsBeginAndEnd_3 :
    bitOf (1181826 + 3 * 16) 7 = true ∧ bitOf (1181826 + 3 * 16) 6 = false ∧ bitsOf (1181826 + 3 * 16) 8 4 ≠ 0 ∧ bitsOf (1181826 + 3 * 16) 8 4 ≤ 8 ∧ state_SidebandAndBootStoreOperationsBeginAndEnd_3.dev.sp.sbXfer = none ∧ state_SidebandAndBootStoreOperationsBeginAndEnd_3.dev.reaches 262404 = true ∧ state_SidebandAndBootStoreOperationsBeginAndEnd_3.dev.ddr4 = false ∧ state_SidebandAndBootStoreOperationsBeginAndEnd_3.dev.sbAgrees (bitsOf (1181826 + 3 * 16) 0 4) = true := by decide

/-- For `witness_SidebandAndBootStoreOperationsBeginAndEnd_7`. -/
def state_SidebandAndBootStoreOperationsBeginAndEnd_7 : State := at_ 4 id

/-- SidebandAndBootStoreOperationsBeginAndEnd, clause 8. -/
theorem witness_SidebandAndBootStoreOperationsBeginAndEnd_7 :
    bitOf 1180866 7 = true ∧ bitOf 1180866 6 = true ∧ bitsOf 1180866 8 4 ≠ 0 ∧ state_SidebandAndBootStoreOperationsBeginAndEnd_7.dev.sp.sbXfer = none ∧ state_SidebandAndBootStoreOperationsBeginAndEnd_7.dev.reaches 262404 = true ∧ state_SidebandAndBootStoreOperationsBeginAndEnd_7.dev.modeOf ≠ mQUIESCED := by decide

/-- For `witness_SidebandAndBootStoreOperationsBeginAndEnd_8`. -/
def state_SidebandAndBootStoreOperationsBeginAndEnd_8 : State := at_ 4 id

/-- SidebandAndBootStoreOperationsBeginAndEnd, clause 9. -/
theorem witness_SidebandAndBootStoreOperationsBeginAndEnd_8 :
    (Instr.bsRead 134217712 15 181, 1, 15) ∈ [(Instr.bsRead 134217712 15 181, 1, 15), (Instr.bsProgram 134217712 15 181, 2, 15), (Instr.bsErase 134217712 181, 3, 0), (Instr.eraseSlot 134217712 181, 4, 0)] ∧ 134217712 + 15 ≤ 134217727 ∧ state_SidebandAndBootStoreOperationsBeginAndEnd_8.dev.reaches 329728 = true ∧ state_SidebandAndBootStoreOperationsBeginAndEnd_8.dev.sp.bsOp = none ∧ state_SidebandAndBootStoreOperationsBeginAndEnd_8.dev.slotClosed 1 134217712 (134217712 + 15) = false := by decide

/-- For `witness_SidebandAndBootStoreOperationsBeginAndEnd_8b`. -/
def state_SidebandAndBootStoreOperationsBeginAndEnd_8b : State := at_ 11 id

/-- SidebandAndBootStoreOperationsBeginAndEnd, clause 9. -/
theorem witness_SidebandAndBootStoreOperationsBeginAndEnd_8b :
    (Instr.bsProgram 256 15 181, 2, 15) ∈ [(Instr.bsRead 256 15 181, 1, 15), (Instr.bsProgram 256 15 181, 2, 15), (Instr.bsErase 256 181, 3, 0), (Instr.eraseSlot 256 181, 4, 0)] ∧ 256 + 15 ≤ 134217727 ∧ state_SidebandAndBootStoreOperationsBeginAndEnd_8b.dev.reaches 329728 = true ∧ state_SidebandAndBootStoreOperationsBeginAndEnd_8b.dev.sp.bsOp = none ∧ state_SidebandAndBootStoreOperationsBeginAndEnd_8b.dev.slotClosed 2 256 (256 + 15) = false := by decide

/-- For `witness_SidebandAndBootStoreOperationsBeginAndEnd_8c`. -/
def state_SidebandAndBootStoreOperationsBeginAndEnd_8c : State := at_ 11 id

/-- SidebandAndBootStoreOperationsBeginAndEnd, clause 9. -/
theorem witness_SidebandAndBootStoreOperationsBeginAndEnd_8c :
    (Instr.bsErase 256 181, 3, 0) ∈ [(Instr.bsRead 256 15 181, 1, 15), (Instr.bsProgram 256 15 181, 2, 15), (Instr.bsErase 256 181, 3, 0), (Instr.eraseSlot 256 181, 4, 0)] ∧ 256 + 15 ≤ 134217727 ∧ state_SidebandAndBootStoreOperationsBeginAndEnd_8c.dev.reaches 329728 = true ∧ state_SidebandAndBootStoreOperationsBeginAndEnd_8c.dev.sp.bsOp = none ∧ state_SidebandAndBootStoreOperationsBeginAndEnd_8c.dev.slotClosed 3 256 (256 + 0) = false := by decide

/-- For `witness_SidebandAndBootStoreOperationsBeginAndEnd_8d`. -/
def state_SidebandAndBootStoreOperationsBeginAndEnd_8d : State := at_ 11 id

/-- SidebandAndBootStoreOperationsBeginAndEnd, clause 9. -/
theorem witness_SidebandAndBootStoreOperationsBeginAndEnd_8d :
    (Instr.eraseSlot 256 181, 4, 0) ∈ [(Instr.bsRead 256 15 181, 1, 15), (Instr.bsProgram 256 15 181, 2, 15), (Instr.bsErase 256 181, 3, 0), (Instr.eraseSlot 256 181, 4, 0)] ∧ 256 + 15 ≤ 134217727 ∧ state_SidebandAndBootStoreOperationsBeginAndEnd_8d.dev.reaches 329728 = true ∧ state_SidebandAndBootStoreOperationsBeginAndEnd_8d.dev.sp.bsOp = none ∧ state_SidebandAndBootStoreOperationsBeginAndEnd_8d.dev.slotClosed 4 256 (256 + 0) = false := by decide

/-- For `witness_SidebandAndBootStoreOperationsBeginAndEnd_9`. -/
def state_SidebandAndBootStoreOperationsBeginAndEnd_9 : State := at_ 11 (·.modSp fun p => { p with bsOp := some { op := 1, addr := 0, len := 4 } })

/-- For `witness_SidebandAndBootStoreOperationsBeginAndEnd_9`. -/
def arg1_SidebandAndBootStoreOperationsBeginAndEnd_9 : BsOp := { op := 1, addr := 0, len := 4 }

/-- SidebandAndBootStoreOperationsBeginAndEnd, clause 10. -/
theorem witness_SidebandAndBootStoreOperationsBeginAndEnd_9 :
    256 ≤ 134217727 ∧ state_SidebandAndBootStoreOperationsBeginAndEnd_9.dev.reaches 329728 = true ∧ state_SidebandAndBootStoreOperationsBeginAndEnd_9.dev.sp.bsOp = some arg1_SidebandAndBootStoreOperationsBeginAndEnd_9 := by decide

/-- For `witness_SidebandAndBootStoreOperationsBeginAndEnd_10`. -/
def state_SidebandAndBootStoreOperationsBeginAndEnd_10 : State := at_ 4 id

/-- SidebandAndBootStoreOperationsBeginAndEnd, clause 11. -/
theorem witness_SidebandAndBootStoreOperationsBeginAndEnd_10 :
    134217713 ≤ 134217727 ∧ 134217727 < 134217713 + 15 ∧ state_SidebandAndBootStoreOperationsBeginAndEnd_10.dev.reaches 329728 = true ∧ state_SidebandAndBootStoreOperationsBeginAndEnd_10.dev.sp.bsOp = none := by decide

/-- For `witness_SidebandAndBootStoreOperationsBeginAndEnd_11`. -/
def state_SidebandAndBootStoreOperationsBeginAndEnd_11 : State := at_ 4 id

/-- SidebandAndBootStoreOperationsBeginAndEnd, clause 12. -/
theorem witness_SidebandAndBootStoreOperationsBeginAndEnd_11 :
    256 ≤ 134217727 ∧ 90 < 256 ∧ 90 ≠ 181 ∧ state_SidebandAndBootStoreOperationsBeginAndEnd_11.dev.reaches 329728 = true := by decide

/-- For `witness_SidebandAndBootStoreOperationsBeginAndEnd_12`. -/
def state_SidebandAndBootStoreOperationsBeginAndEnd_12 : State := at_ 4 fun s => (s.modSp fun p => { p with bsOp := some { op := 1, addr := 0x10, len := 4 } }).modForme fun f => f.putByte 0x11 7

/-- SidebandAndBootStoreOperationsBeginAndEnd, clause 13. -/
theorem witness_SidebandAndBootStoreOperationsBeginAndEnd_12 :
    state_SidebandAndBootStoreOperationsBeginAndEnd_12.dev.sp.bsOp = some { op := 1, addr := 16, len := 4 : BsOp } := by decide

/-- For `witness_SidebandAndBootStoreOperationsBeginAndEnd_13`. -/
def state_SidebandAndBootStoreOperationsBeginAndEnd_13 : State := at_ 11 fun s => (s.modSp fun p => { p with bsOp := some { op := 2, addr := 0x10, len := 1 } }).set (.BS_WINDOW_DATA 0) 0x1234

/-- SidebandAndBootStoreOperationsBeginAndEnd, clause 14. -/
theorem witness_SidebandAndBootStoreOperationsBeginAndEnd_13 :
    state_SidebandAndBootStoreOperationsBeginAndEnd_13.dev.sp.bsOp = some { op := 2, addr := 16, len := 1 : BsOp } ∧ state_SidebandAndBootStoreOperationsBeginAndEnd_13.dev.forme.byte 16 = 255 := by decide

/-- For `witness_SidebandAndBootStoreOperationsBeginAndEnd_14`. -/
def state_SidebandAndBootStoreOperationsBeginAndEnd_14 : State := at_ 11 fun s => (s.modSp fun p => { p with bsOp := some { op := 3, addr := 0x12345, len := 1 } }).modForme fun f => (f.putByte 0x1FFFF 7).putByte 0x20000 8

/-- For `witness_SidebandAndBootStoreOperationsBeginAndEnd_14`. -/
def arg3_SidebandAndBootStoreOperationsBeginAndEnd_14 : BsOp := { op := 3, addr := 0x12345, len := 1 }

/-- SidebandAndBootStoreOperationsBeginAndEnd, clause 15. -/
theorem witness_SidebandAndBootStoreOperationsBeginAndEnd_14 :
    state_SidebandAndBootStoreOperationsBeginAndEnd_14.dev.sp.bsOp = some arg3_SidebandAndBootStoreOperationsBeginAndEnd_14 ∧ (arg3_SidebandAndBootStoreOperationsBeginAndEnd_14.op, 2 ^ 16) ∈ [(3, 2 ^ 16), (4, 2 ^ 26)] ∧ 65536 = arg3_SidebandAndBootStoreOperationsBeginAndEnd_14.addr - arg3_SidebandAndBootStoreOperationsBeginAndEnd_14.addr % 2 ^ 16 := by decide

/-- For `witness_SidebandAndBootStoreOperationsBeginAndEnd_15`. -/
def state_SidebandAndBootStoreOperationsBeginAndEnd_15 : State := at_ 4 id

/-- SidebandAndBootStoreOperationsBeginAndEnd, clause 16. -/
theorem witness_SidebandAndBootStoreOperationsBeginAndEnd_15 :
    state_SidebandAndBootStoreOperationsBeginAndEnd_15.dev.sp.bsOp = none := by decide

/-- For `witness_TapInstructionsShiftAndDrive_0`. -/
def state_TapInstructionsShiftAndDrive_0 : State := tapped 4 0 0xFFFFFFFF

/-- TapInstructionsShiftAndDrive, clause 1. -/
theorem witness_TapInstructionsShiftAndDrive_0 :
    state_TapInstructionsShiftAndDrive_0.dev.vddIo = true ∧ (Instr.bypass, 0, 255) ∈ [(Instr.bypass, 0, 255), (Instr.idcode, 369363551, 1)] := by decide

/-- For `witness_TapInstructionsShiftAndDrive_0b`. -/
def state_TapInstructionsShiftAndDrive_0b : State := tapped 4 0 0xFFFFFFFF

/-- TapInstructionsShiftAndDrive, clause 1. -/
theorem witness_TapInstructionsShiftAndDrive_0b :
    state_TapInstructionsShiftAndDrive_0b.dev.vddIo = true ∧ (Instr.idcode, 369363551, 1) ∈ [(Instr.bypass, 0, 255), (Instr.idcode, 369363551, 1)] := by decide

/-- For `witness_TapInstructionsShiftAndDrive_1`. -/
def state_TapInstructionsShiftAndDrive_1 : State := tapped 4 0 0xFFFFFFFF

/-- TapInstructionsShiftAndDrive, clause 2. -/
theorem witness_TapInstructionsShiftAndDrive_1 :
    state_TapInstructionsShiftAndDrive_1.dev.vddIo = true := by decide

/-- For `witness_TapInstructionsShiftAndDrive_2`. -/
def state_TapInstructionsShiftAndDrive_2 : State := tapped 11 1 0xFFFFFFFE

/-- TapInstructionsShiftAndDrive, clause 3. -/
theorem witness_TapInstructionsShiftAndDrive_2 :
    state_TapInstructionsShiftAndDrive_2.dev.vddIo = true ∧ state_TapInstructionsShiftAndDrive_2.boundaryOn = true := by decide

/-- For `witness_TapInstructionsShiftAndDrive_3`. -/
def state_TapInstructionsShiftAndDrive_3 : State := tapped 4 1 0xFFFFFFFE

/-- TapInstructionsShiftAndDrive, clause 4. -/
theorem witness_TapInstructionsShiftAndDrive_3 :
    state_TapInstructionsShiftAndDrive_3.dev.vddIo = true ∧ state_TapInstructionsShiftAndDrive_3.boundaryOn = false := by decide

/-- For `witness_TapInstructionsShiftAndDrive_4`. -/
def state_TapInstructionsShiftAndDrive_4 : State := tapped 11 0 0xFFFFFFFE

/-- TapInstructionsShiftAndDrive, clause 5. -/
theorem witness_TapInstructionsShiftAndDrive_4 :
    state_TapInstructionsShiftAndDrive_4.dev.vddIo = true ∧ 1 < 2 ^ 32 ∧ 1 + state_TapInstructionsShiftAndDrive_4.tap.chk = 2 ^ 32 - 1 := by decide

/-- For `witness_TapInstructionsShiftAndDrive_5`. -/
def state_TapInstructionsShiftAndDrive_5 : State := tapped 11 0 0xFFFFFFFF

/-- TapInstructionsShiftAndDrive, clause 6. -/
theorem witness_TapInstructionsShiftAndDrive_5 :
    state_TapInstructionsShiftAndDrive_5.dev.vddIo = true ∧ 1 < 2 ^ 32 ∧ state_TapInstructionsShiftAndDrive_5.tap.chk < 2 ^ 32 ∧ 1 + state_TapInstructionsShiftAndDrive_5.tap.chk ≠ 2 ^ 32 - 1 ∧ state_TapInstructionsShiftAndDrive_5.tap.agrees = true ∧ state_TapInstructionsShiftAndDrive_5.boundaryOn = false := by decide

/-- For `witness_TapInstructionsShiftAndDrive_6`. -/
def state_TapInstructionsShiftAndDrive_6 : State := tapped 11 1 0xFFFFFFFE

/-- TapInstructionsShiftAndDrive, clause 7. -/
theorem witness_TapInstructionsShiftAndDrive_6 :
    state_TapInstructionsShiftAndDrive_6.dev.vddIo = true ∧ 5 < 2 ^ 32 ∧ state_TapInstructionsShiftAndDrive_6.tap.mode < 2 ^ 32 ∧ 5 + state_TapInstructionsShiftAndDrive_6.tap.mode ≠ 2 ^ 32 - 1 ∧ state_TapInstructionsShiftAndDrive_6.boundaryOn = true := by decide

/-- For `witness_TapInstructionsShiftAndDrive_7`. -/
def state_TapInstructionsShiftAndDrive_7 : State := tapped 11 1 0xFFFFFFFF

/-- TapInstructionsShiftAndDrive, clause 8. -/
theorem witness_TapInstructionsShiftAndDrive_7 :
    state_TapInstructionsShiftAndDrive_7.dev.vddIo = true ∧ 4294967294 < 2 ^ 32 ∧ state_TapInstructionsShiftAndDrive_7.tap.mode < 2 ^ 32 ∧ 4294967294 + state_TapInstructionsShiftAndDrive_7.tap.mode = 2 ^ 32 - 1 := by decide

/-- For `witness_TapInstructionsShiftAndDrive_8`. -/
def state_TapInstructionsShiftAndDrive_8 : State := at_ 4 id

/-- TapInstructionsShiftAndDrive, clause 9. -/
theorem witness_TapInstructionsShiftAndDrive_8 :
    state_TapInstructionsShiftAndDrive_8.dev.vddIo = false := by decide

/-- For `witness_SidebandAndBootStoreOperationsBeginAndEnd_4`. -/
def state_SidebandAndBootStoreOperationsBeginAndEnd_4 : State := at_ 11 (·.setL [(.SB_XFER_DATA_DATA 0, 0x04030201), (.SB_XFER_DATA_DATA 1, 5)])

/-- SidebandAndBootStoreOperationsBeginAndEnd, clause 5. -/
theorem witness_SidebandAndBootStoreOperationsBeginAndEnd_4 :
    bitOf (1181890 + 3 * 16) 7 = true ∧ bitOf (1181890 + 3 * 16) 6 = true ∧ bitsOf (1181890 + 3 * 16) 8 4 ≠ 0 ∧ bitsOf (1181890 + 3 * 16) 8 4 ≤ 8 ∧ state_SidebandAndBootStoreOperationsBeginAndEnd_4.dev.sp.sbXfer = none ∧ state_SidebandAndBootStoreOperationsBeginAndEnd_4.dev.reaches 262404 = true ∧ state_SidebandAndBootStoreOperationsBeginAndEnd_4.dev.modeOf = mQUIESCED ∧ state_SidebandAndBootStoreOperationsBeginAndEnd_4.dev.ddr4 = false ∧ state_SidebandAndBootStoreOperationsBeginAndEnd_4.dev.sbAgrees (bitsOf (1181890 + 3 * 16) 0 4) = true := by decide

/-- For `witness_SidebandAndBootStoreOperationsBeginAndEnd_5`. -/
def state_SidebandAndBootStoreOperationsBeginAndEnd_5 : State := at_ 4 (·.modForme fun x => { x with run := some { forme0 with fixed := { forme0.fixed with dimmGen := 4 } } })

/-- SidebandAndBootStoreOperationsBeginAndEnd, clause 6. -/
theorem witness_SidebandAndBootStoreOperationsBeginAndEnd_5 :
    bitOf 1181842 7 = true ∧ bitOf 1181842 6 = false ∧ bitsOf 1181842 8 4 ≠ 0 ∧ bitsOf 1181842 8 4 ≤ 8 ∧ state_SidebandAndBootStoreOperationsBeginAndEnd_5.dev.sp.sbXfer = none ∧ state_SidebandAndBootStoreOperationsBeginAndEnd_5.dev.reaches 262404 = true ∧ state_SidebandAndBootStoreOperationsBeginAndEnd_5.dev.ddr4 = true ∧ bitsOf 1181842 4 2 ∈ [1, 3] ∧ state_SidebandAndBootStoreOperationsBeginAndEnd_5.dev.sbAgrees (bitsOf 1181842 0 4) = true := by decide

/-- For `witness_SidebandAndBootStoreOperationsBeginAndEnd_6`. -/
def state_SidebandAndBootStoreOperationsBeginAndEnd_6 : State := at_ 4 (·.set (.SB_SLOT_ADDR_SEL 2) 5)

/-- SidebandAndBootStoreOperationsBeginAndEnd, clause 7. -/
theorem witness_SidebandAndBootStoreOperationsBeginAndEnd_6 :
    bitOf 1181842 7 = true ∧ bitOf 1181842 6 = false ∧ bitsOf 1181842 8 4 ≠ 0 ∧ bitsOf 1181842 8 4 ≤ 8 ∧ state_SidebandAndBootStoreOperationsBeginAndEnd_6.dev.sp.sbXfer = none ∧ state_SidebandAndBootStoreOperationsBeginAndEnd_6.dev.reaches 262404 = true ∧ state_SidebandAndBootStoreOperationsBeginAndEnd_6.dev.sbAgrees (bitsOf 1181842 0 4) = false := by decide

/-- EventPostingsAreFoldedWithheldOrStaged, clause 1. -/
theorem witness_EventPostingsAreFoldedWithheldOrStaged_0 :
    eventDefined 1 = false := by decide

/-- EventPostingsAreFoldedWithheldOrStaged, clause 2. -/
theorem witness_EventPostingsAreFoldedWithheldOrStaged_1 :
    on.dev.pwr.on = true ∧ eventDefined 8193 = true ∧ rateLimited 8193 = false ∧ Option.map (fun q => (q.code, q.unit)) on.dev.evt.staging.getLast? ≠ some (8193, 3 % 65536) ∧ (on.dev.evt.staging = [] → Option.map (fun e => (e.code, e.unit)) on.dev.evt.newest ≠ some (8193, 3 % 65536)) ∧ on.dev.evt.staging.length < stagingLimit (on.dev.bit Fld.EVT_STATUS_RUNNING) := by decide

/-- For `witness_EventPostingsAreFoldedWithheldOrStaged_2`. -/
def state_EventPostingsAreFoldedWithheldOrStaged_2 : State := logging 4 fun r => { r with staging := [posted 0x2001 3], foldable := true }

/-- For `witness_EventPostingsAreFoldedWithheldOrStaged_2`. -/
def arg1_EventPostingsAreFoldedWithheldOrStaged_2 : Posting := posted 0x2001 3

/-- EventPostingsAreFoldedWithheldOrStaged, clause 3. -/
theorem witness_EventPostingsAreFoldedWithheldOrStaged_2 :
    state_EventPostingsAreFoldedWithheldOrStaged_2.dev.pwr.on = true ∧ eventDefined 8193 = true ∧ rateLimited 8193 = false ∧ state_EventPostingsAreFoldedWithheldOrStaged_2.dev.evt.staging.getLast? = some arg1_EventPostingsAreFoldedWithheldOrStaged_2 ∧ state_EventPostingsAreFoldedWithheldOrStaged_2.dev.evt.foldable = true ∧ arg1_EventPostingsAreFoldedWithheldOrStaged_2.code = 8193 ∧ arg1_EventPostingsAreFoldedWithheldOrStaged_2.unit = 3 % 65536 ∧ arg1_EventPostingsAreFoldedWithheldOrStaged_2.rep < 65535 := by decide

/-- For `witness_EventPostingsAreFoldedWithheldOrStaged_5`. -/
def state_EventPostingsAreFoldedWithheldOrStaged_5 : State := mk fun s => (s.modPwr fun p => { p with on := true }).modEvt fun r => { r with staging := List.replicate 64 (posted 0x2001 3) }

/-- EventPostingsAreFoldedWithheldOrStaged, clause 6. -/
theorem witness_EventPostingsAreFoldedWithheldOrStaged_5 :
    state_EventPostingsAreFoldedWithheldOrStaged_5.dev.pwr.on = true ∧ eventDefined 4097 = true ∧ rateLimited 4097 = true ∧ state_EventPostingsAreFoldedWithheldOrStaged_5.dev.evt.windows.get? 4097 = none ∧ stagingLimit (state_EventPostingsAreFoldedWithheldOrStaged_5.dev.bit Fld.EVT_STATUS_RUNNING) ≤ state_EventPostingsAreFoldedWithheldOrStaged_5.dev.evt.staging.length := by decide

/-- For `witness_EventPostingsAreFoldedWithheldOrStaged_6`. -/
def state_EventPostingsAreFoldedWithheldOrStaged_6 : State := logging 4 fun r => { r with windows := [(0x1001, ⟨16, 0, none⟩)] }

/-- For `witness_EventPostingsAreFoldedWithheldOrStaged_6`. -/
def arg1_EventPostingsAreFoldedWithheldOrStaged_6 : RateWin := ⟨16, 0, none⟩

/-- EventPostingsAreFoldedWithheldOrStaged, clause 7. -/
theorem witness_EventPostingsAreFoldedWithheldOrStaged_6 :
    state_EventPostingsAreFoldedWithheldOrStaged_6.dev.pwr.on = true ∧ eventDefined 4097 = true ∧ rateLimited 4097 = true ∧ state_EventPostingsAreFoldedWithheldOrStaged_6.dev.evt.windows.get? 4097 = some arg1_EventPostingsAreFoldedWithheldOrStaged_6 ∧ state_EventPostingsAreFoldedWithheldOrStaged_6.dev.get Fld.EVT_RATE_COUNT ≤ arg1_EventPostingsAreFoldedWithheldOrStaged_6.taken := by decide

/-- For `witness_RecordsTakeTheNextNumberAndCursorsAsk_0`. -/
def state_RecordsTakeTheNextNumberAndCursorsAsk_0 : State := logging 4 fun r => { r with staging := [posted 0x2001 3], burst := 5, head := 7, gapDue := true }

/-- For `witness_RecordsTakeTheNextNumberAndCursorsAsk_0`. -/
def arg2_RecordsTakeTheNextNumberAndCursorsAsk_0 : Posting := posted 0x2001 3

/-- RecordsTakeTheNextNumberAndCursorsAsk, clause 1. -/
theorem witness_RecordsTakeTheNextNumberAndCursorsAsk_0 :
    state_RecordsTakeTheNextNumberAndCursorsAsk_0.dev.evt.staging = [arg2_RecordsTakeTheNextNumberAndCursorsAsk_0] ∧ state_RecordsTakeTheNextNumberAndCursorsAsk_0.dev.bit Fld.EVT_STATUS_RUNNING = true ∧ state_RecordsTakeTheNextNumberAndCursorsAsk_0.dev.evt.burst ≠ 0 ∧ serialDist 32 state_RecordsTakeTheNextNumberAndCursorsAsk_0.dev.evt.archNext ((state_RecordsTakeTheNextNumberAndCursorsAsk_0.dev.evt.head + 1) % 2 ^ 32) < 65536 ∧ (([] : List Nat) = [] → state_RecordsTakeTheNextNumberAndCursorsAsk_0.dev.evt.lostRun = 0) := by decide

/-- For `witness_RecordsTakeTheNextNumberAndCursorsAsk_1`. -/
def state_RecordsTakeTheNextNumberAndCursorsAsk_1 : State := logging 4 fun r => { r with staging := [posted 0x2001 3], burst := 0 }

/-- RecordsTakeTheNextNumberAndCursorsAsk, clause 2. -/
theorem witness_RecordsTakeTheNextNumberAndCursorsAsk_1 :
    state_RecordsTakeTheNextNumberAndCursorsAsk_1.dev.evt.staging = [] ∨ state_RecordsTakeTheNextNumberAndCursorsAsk_1.dev.bit Fld.EVT_STATUS_RUNNING = false ∨ state_RecordsTakeTheNextNumberAndCursorsAsk_1.dev.evt.burst = 0 := by decide

/-- For `witness_RecorderTimersCloseFlushArchiveAndCopy_0`. -/
def state_RecorderTimersCloseFlushArchiveAndCopy_0 : State := logging 4 fun r => { r with windows := [(0x1001, ⟨16, 2, some (posted 0x1001 3)⟩)] }

/-- For `witness_RecorderTimersCloseFlushArchiveAndCopy_0`. -/
def arg2_RecorderTimersCloseFlushArchiveAndCopy_0 : RateWin := ⟨16, 2, some (posted 0x1001 3)⟩

/-- For `witness_RecorderTimersCloseFlushArchiveAndCopy_0`. -/
def arg1_RecorderTimersCloseFlushArchiveAndCopy_0 : Posting := posted 0x1001 3

/-- RecorderTimersCloseFlushArchiveAndCopy, clause 1. -/
theorem witness_RecorderTimersCloseFlushArchiveAndCopy_0 :
    state_RecorderTimersCloseFlushArchiveAndCopy_0.dev.evt.windows.get? 4097 = some arg2_RecorderTimersCloseFlushArchiveAndCopy_0 ∧ arg2_RecorderTimersCloseFlushArchiveAndCopy_0.last = some arg1_RecorderTimersCloseFlushArchiveAndCopy_0 ∧ state_RecorderTimersCloseFlushArchiveAndCopy_0.dev.evt.staging.length < stagingLimit (state_RecorderTimersCloseFlushArchiveAndCopy_0.dev.bit Fld.EVT_STATUS_RUNNING) := by decide

/-- For `witness_RecorderTimersCloseFlushArchiveAndCopy_1`. -/
def state_RecorderTimersCloseFlushArchiveAndCopy_1 : State := logging 4 fun r => { r with windows := [(0x1001, ⟨16, 0, none⟩)] }

/-- For `witness_RecorderTimersCloseFlushArchiveAndCopy_1`. -/
def arg1_RecorderTimersCloseFlushArchiveAndCopy_1 : RateWin := ⟨16, 0, none⟩

/-- RecorderTimersCloseFlushArchiveAndCopy, clause 2. -/
theorem witness_RecorderTimersCloseFlushArchiveAndCopy_1 :
    state_RecorderTimersCloseFlushArchiveAndCopy_1.dev.evt.windows.get? 4097 = some arg1_RecorderTimersCloseFlushArchiveAndCopy_1 ∧ arg1_RecorderTimersCloseFlushArchiveAndCopy_1.last = none := by decide

/-- For `witness_RecorderTimersCloseFlushArchiveAndCopy_2`. -/
def state_RecorderTimersCloseFlushArchiveAndCopy_2 : State := logging 4 fun r => { r with head := 8, ring := [(7, record 7 0x2001)], newestRep := 3 }

/-- For `witness_RecorderTimersCloseFlushArchiveAndCopy_2`. -/
def arg1_RecorderTimersCloseFlushArchiveAndCopy_2 : EvRec := record 7 0x2001

/-- RecorderTimersCloseFlushArchiveAndCopy, clause 3. -/
theorem witness_RecorderTimersCloseFlushArchiveAndCopy_2 :
    state_RecorderTimersCloseFlushArchiveAndCopy_2.dev.evt.newest = some arg1_RecorderTimersCloseFlushArchiveAndCopy_2 ∧ arg1_RecorderTimersCloseFlushArchiveAndCopy_2.rep ≠ state_RecorderTimersCloseFlushArchiveAndCopy_2.dev.evt.newestRep := by decide

/-- For `witness_RecorderTimersCloseFlushArchiveAndCopy_3`. -/
def state_RecorderTimersCloseFlushArchiveAndCopy_3 : State := metaBand fun r => { r with head := 130, archOn := true, ring := [(7, record 7 0x2001)] }

/-- For `witness_RecorderTimersCloseFlushArchiveAndCopy_3`. -/
def arg2_RecorderTimersCloseFlushArchiveAndCopy_3 : Dev := ((metaBand fun r => { r with head := 130, archOn := true, ring := [(7, record 7 0x2001)] }).dev.placeMeta 0x300000000).1

set_option maxRecDepth 8192 in
/-- RecorderTimersCloseFlushArchiveAndCopy, clause 4. -/
theorem witness_RecorderTimersCloseFlushArchiveAndCopy_3 :
    state_RecorderTimersCloseFlushArchiveAndCopy_3.dev.evt.archOn = true ∧ state_RecorderTimersCloseFlushArchiveAndCopy_3.dev.evt.archBusy = none ∧ 128 ≤ serialDist 32 state_RecorderTimersCloseFlushArchiveAndCopy_3.dev.evt.archNext state_RecorderTimersCloseFlushArchiveAndCopy_3.dev.evt.head ∧ state_RecorderTimersCloseFlushArchiveAndCopy_3.dev.placeMeta (12884901888 + state_RecorderTimersCloseFlushArchiveAndCopy_3.dev.evt.archNext / 128 % 65536) = (arg2_RecorderTimersCloseFlushArchiveAndCopy_3, ((metaBand fun r => { head := 130, clearPoint := r.clearPoint, archOldest := r.archOldest, archNext := r.archNext, ring := [(7, record 7 8193)], archive := r.archive, archAt := r.archAt, archBusy := r.archBusy, staging := r.staging, newestRep := r.newestRep, foldable := r.foldable, windows := r.windows, lostRun := r.lostRun, lostFirst := r.lostFirst, gapDue := r.gapDue, burst := r.burst, islandMs := r.islandMs, opBase := r.opBase, opCopy := r.opCopy, timeKnown := r.timeKnown, archOn := true, cursorPending := r.cursorPending, folded := r.folded, supp := r.supp, lost := r.lost : Recorder }).dev.placeMeta 12884901888).snd) := by decide

/-- For `witness_RecorderTimersCloseFlushArchiveAndCopy_4`. -/
def state_RecorderTimersCloseFlushArchiveAndCopy_4 : State := flashy .dirty ({ band0 with done := ready }) ({ slot0 with isMeta := true, index := 0x300000000 }) (·.modEvt fun r => { r with archBusy := some (0, home0, []) })

/-- For `witness_RecorderTimersCloseFlushArchiveAndCopy_4`. -/
def arg4_RecorderTimersCloseFlushArchiveAndCopy_4 : T2Slot := { slot0 with isMeta := true, index := 0x300000000 }

/-- For `witness_RecorderTimersCloseFlushArchiveAndCopy_4`. -/
def arg3_RecorderTimersCloseFlushArchiveAndCopy_4 : Band := { band0 with done := ready }

/-- RecorderTimersCloseFlushArchiveAndCopy, clause 5. -/
theorem witness_RecorderTimersCloseFlushArchiveAndCopy_4 :
    state_RecorderTimersCloseFlushArchiveAndCopy_4.dev.fm.slots.get? home0 = some arg4_RecorderTimersCloseFlushArchiveAndCopy_4 ∧ state_RecorderTimersCloseFlushArchiveAndCopy_4.dev.fm.bands.get? arg4_RecorderTimersCloseFlushArchiveAndCopy_4.band = some arg3_RecorderTimersCloseFlushArchiveAndCopy_4 ∧ state_RecorderTimersCloseFlushArchiveAndCopy_4.dev.fm.slotReady arg3_RecorderTimersCloseFlushArchiveAndCopy_4 arg4_RecorderTimersCloseFlushArchiveAndCopy_4 = true ∧ arg4_RecorderTimersCloseFlushArchiveAndCopy_4.committed = false ∧ arg4_RecorderTimersCloseFlushArchiveAndCopy_4.source = none ∧ arg4_RecorderTimersCloseFlushArchiveAndCopy_4.isMeta = true ∧ 12884901888 ≤ arg4_RecorderTimersCloseFlushArchiveAndCopy_4.index ∧ state_RecorderTimersCloseFlushArchiveAndCopy_4.dev.evt.archBusy = some (0, home0, []) ∧ serialDist 32 state_RecorderTimersCloseFlushArchiveAndCopy_4.dev.evt.archOldest ((state_RecorderTimersCloseFlushArchiveAndCopy_4.dev.evt.archNext + 128) % 2 ^ 32) ≤ 8388608 := by decide

/-- For `witness_RecorderTimersCloseFlushArchiveAndCopy_5`. -/
def state_RecorderTimersCloseFlushArchiveAndCopy_5 : State := logging 4 fun r => { r with head := 100, archOn := true }

/-- RecorderTimersCloseFlushArchiveAndCopy, clause 6. -/
theorem witness_RecorderTimersCloseFlushArchiveAndCopy_5 :
    state_RecorderTimersCloseFlushArchiveAndCopy_5.dev.evt.archOn = false ∨ state_RecorderTimersCloseFlushArchiveAndCopy_5.dev.evt.archBusy ≠ none ∨ serialDist 32 state_RecorderTimersCloseFlushArchiveAndCopy_5.dev.evt.archNext state_RecorderTimersCloseFlushArchiveAndCopy_5.dev.evt.head < 128 := by decide

/-- For `witness_RecorderTimersCloseFlushArchiveAndCopy_6`. -/
def state_RecorderTimersCloseFlushArchiveAndCopy_6 : State := logging 4 fun r => { r with timeKnown := true, islandMs := 12345, opBase := 77 }

/-- RecorderTimersCloseFlushArchiveAndCopy, clause 7. -/
theorem witness_RecorderTimersCloseFlushArchiveAndCopy_6 :
    state_RecorderTimersCloseFlushArchiveAndCopy_6.dev.modeOf ≠ mDORMANT ∧ state_RecorderTimersCloseFlushArchiveAndCopy_6.dev.evt.timeKnown = true := by decide

/-- RecorderTimersCloseFlushArchiveAndCopy, clause 8. -/
theorem witness_RecorderTimersCloseFlushArchiveAndCopy_7 :
    on.dev.modeOf = mDORMANT ∨ on.dev.evt.timeKnown = false := by decide

/-- For `witness_RecordsTakeTheNextNumberAndCursorsAsk_2`. -/
def state_RecordsTakeTheNextNumberAndCursorsAsk_2 : State := logging 4 id

/-- RecordsTakeTheNextNumberAndCursorsAsk, clause 3. -/
theorem witness_RecordsTakeTheNextNumberAndCursorsAsk_2 :
    state_RecordsTakeTheNextNumberAndCursorsAsk_2.dev.reaches 196640 = true ∧ state_RecordsTakeTheNextNumberAndCursorsAsk_2.dev.calRuns = true := by decide

/-- For `witness_RecordsTakeTheNextNumberAndCursorsAsk_3`. -/
def state_RecordsTakeTheNextNumberAndCursorsAsk_3 : State := mk fun s => ((inMode 11 false s).modPwr fun p => { p with on := true })

/-- RecordsTakeTheNextNumberAndCursorsAsk, clause 4. -/
theorem witness_RecordsTakeTheNextNumberAndCursorsAsk_3 :
    state_RecordsTakeTheNextNumberAndCursorsAsk_3.dev.reaches 196640 = true ∧ state_RecordsTakeTheNextNumberAndCursorsAsk_3.dev.calRuns = false := by decide

/-- For `witness_RecordsTakeTheNextNumberAndCursorsAsk_4`. -/
def state_RecordsTakeTheNextNumberAndCursorsAsk_4 : State := logging 11 fun r => { r with head := 130 }

/-- RecordsTakeTheNextNumberAndCursorsAsk, clause 5. -/
theorem witness_RecordsTakeTheNextNumberAndCursorsAsk_4 :
    state_RecordsTakeTheNextNumberAndCursorsAsk_4.dev.reaches 196628 = true ∧ state_RecordsTakeTheNextNumberAndCursorsAsk_4.dev.modeOf = mQUIESCED ∧ state_RecordsTakeTheNextNumberAndCursorsAsk_4.dev.evt.staging = [] := by decide

/-- For `witness_RecordsTakeTheNextNumberAndCursorsAsk_6`. -/
def state_RecordsTakeTheNextNumberAndCursorsAsk_6 : State := logging 4 id

/-- RecordsTakeTheNextNumberAndCursorsAsk, clause 7. -/
theorem witness_RecordsTakeTheNextNumberAndCursorsAsk_6 :
    231 ≠ 231 ∨ state_RecordsTakeTheNextNumberAndCursorsAsk_6.dev.modeOf ≠ mQUIESCED := by decide

/-- For `witness_EventPostingsAreFoldedWithheldOrStaged_3`. -/
def state_EventPostingsAreFoldedWithheldOrStaged_3 : State := logging 4 fun r => { r with head := 8, ring := [(7, record 7 0x2001)], foldable := true }

/-- For `witness_EventPostingsAreFoldedWithheldOrStaged_3`. -/
def arg1_EventPostingsAreFoldedWithheldOrStaged_3 : EvRec := record 7 0x2001

/-- EventPostingsAreFoldedWithheldOrStaged, clause 4. -/
theorem witness_EventPostingsAreFoldedWithheldOrStaged_3 :
    state_EventPostingsAreFoldedWithheldOrStaged_3.dev.pwr.on = true ∧ eventDefined 8193 = true ∧ rateLimited 8193 = false ∧ state_EventPostingsAreFoldedWithheldOrStaged_3.dev.evt.staging = [] ∧ state_EventPostingsAreFoldedWithheldOrStaged_3.dev.bit Fld.EVT_STATUS_RUNNING = true ∧ state_EventPostingsAreFoldedWithheldOrStaged_3.dev.evt.newest = some arg1_EventPostingsAreFoldedWithheldOrStaged_3 ∧ state_EventPostingsAreFoldedWithheldOrStaged_3.dev.evt.foldable = true ∧ arg1_EventPostingsAreFoldedWithheldOrStaged_3.code = 8193 ∧ arg1_EventPostingsAreFoldedWithheldOrStaged_3.unit = 0 % 65536 ∧ state_EventPostingsAreFoldedWithheldOrStaged_3.dev.evt.newestRep < 65535 := by decide

/-- For `witness_EventPostingsAreFoldedWithheldOrStaged_4`. -/
def state_EventPostingsAreFoldedWithheldOrStaged_4 : State := logging 4 id

/-- EventPostingsAreFoldedWithheldOrStaged, clause 5. -/
theorem witness_EventPostingsAreFoldedWithheldOrStaged_4 :
    state_EventPostingsAreFoldedWithheldOrStaged_4.dev.pwr.on = true ∧ eventDefined 4097 = true ∧ rateLimited 4097 = true ∧ state_EventPostingsAreFoldedWithheldOrStaged_4.dev.evt.windows.get? 4097 = none ∧ state_EventPostingsAreFoldedWithheldOrStaged_4.dev.evt.staging.length < stagingLimit (state_EventPostingsAreFoldedWithheldOrStaged_4.dev.bit Fld.EVT_STATUS_RUNNING) := by decide

/-- For `witness_RecordsTakeTheNextNumberAndCursorsAsk_5`. -/
def state_RecordsTakeTheNextNumberAndCursorsAsk_5 : State := logging 11 fun r => { r with staging := [posted 0x2001 3], burst := 5, head := 7 }

/-- For `witness_RecordsTakeTheNextNumberAndCursorsAsk_5`. -/
def arg1_RecordsTakeTheNextNumberAndCursorsAsk_5 : Posting := posted 0x2001 3

/-- RecordsTakeTheNextNumberAndCursorsAsk, clause 6. -/
theorem witness_RecordsTakeTheNextNumberAndCursorsAsk_5 :
    state_RecordsTakeTheNextNumberAndCursorsAsk_5.dev.reaches 196628 = true ∧ state_RecordsTakeTheNextNumberAndCursorsAsk_5.dev.modeOf = mQUIESCED ∧ state_RecordsTakeTheNextNumberAndCursorsAsk_5.dev.evt.staging = [arg1_RecordsTakeTheNextNumberAndCursorsAsk_5] := by decide

end Sys2Proof.Tests
end

section
/-!
PROOF. The thermal governor (18_clocks_and_thermal.md): Tj_gov of R554, and the cap that a control period leaves in force (R558, R559).
-/

namespace Sys2Proof.Machine

open Sys2Proof

/-! ### The temperature state after the shared operations -/

/-- Setting a list of fields touches the registers alone. -/
@[simp] theorem setL_therm (s : Dev) (l : List (Fld × Nat)) : (s.setL l).therm = s.therm := by
  induction l generalizing s with
  | nil => rfl
  | cons e l ih => exact ih (s.set e.1 e.2)

/-- A conditional update leaves the temperature state of the update where it applies, and the one there was where it does not. -/
@[simp] theorem when_therm (s : Dev) (b : Bool) (f : Dev → Dev) : (s.when b f).therm = if b then (f s).therm else s.therm := by
  cases b <;> rfl

/-- The summary's doorbell leaves the temperature state. -/
@[simp] theorem summaryRing_therm (s : Dev) (before : Nat) : (s.summaryRing before).therm = s.therm := by
  obtain ⟨r, p, h, -, -⟩ := summaryRing_frame s before
  rw [h]

/-- What holds of the device that a command makes, once the summary's doorbell has rung, holds of its answer. -/
theorem answers_of_finish {i : Instr} {w : State} {P : Dev → Prop} (f : Dev → Dev) (hx : exec i w = finish w f)
    (hP : P ((f w.dev).summaryRing w.dev.intPending)) : Answers i w P := by
  obtain ⟨t, ht, hpend, hdev, htap⟩ := finish_next w f
  exact ⟨t, hx.trans ht, hpend, htap, hdev ▸ hP⟩

/-! ### Tj_gov (R554) -/

/-- Memory is hot where one of the 24 units shows REFRESH_SHORT (R337, R554). -/
theorem memoryHot_iff (s : Dev) : s.memoryHot = true ↔ ∃ n < 24, s.bit (.MEM_STATUS_REFRESH_SHORT n) = true := by
  simp only [Dev.memoryHot, List.any_eq_true, List.mem_range]

/-- Memory is not hot where none of the 24 units shows it. -/
theorem memoryHot_eq_false_iff (s : Dev) : s.memoryHot = false ↔ ∀ n < 24, s.bit (.MEM_STATUS_REFRESH_SHORT n) = false := by
  simp only [Dev.memoryHot, List.any_eq_false, List.mem_range, Bool.not_eq_true]

theorem tjGov_of_memoryHot {s : Dev} (h : s.memoryHot = true) : s.tjGov = max s.therm.tj 920 := if_pos h

theorem tjGov_of_not_memoryHot {s : Dev} (h : s.memoryHot = false) : s.tjGov = s.therm.tj := by
  rw [Dev.tjGov, h]
  rfl

/-! ### The cap in force (R558) -/

/-- The cap after it has followed Tj_gov is the entry that Tj_gov reaches from the one in force. -/
theorem recap_cap {s : Dev} {c : ThermalCurve} (hc : s.thermCurve = some c) : s.recap.therm.cap = c.next s.therm.cap s.tjGov := by
  simp only [Dev.recap, hc]
  by_cases hn : c.next s.therm.cap s.tjGov = s.therm.cap
  · rw [if_pos hn, hn]
  · rw [if_neg hn, setB_therm, modTherm_therm]

/-- The cap after a choice of two devices with the same cap. -/
theorem cap_ite {p : Prop} [Decidable p] {s t : Dev} {n : Option Nat} (hs : s.therm.cap = n) (ht : t.therm.cap = n) :
    (if p then s else t).therm.cap = n := by
  split
  · exact hs
  · exact ht

/-- Of what a control period does, only the step that follows Tj_gov moves the cap: the counters, the level and CAP_UNMET are written after it,
in each of their cases to other parts of the state (R559, R562). -/
theorem govPeriod_cap {s : Dev} {c : ThermalCurve} (pEst : Nat) (hc : s.thermCurve = some c) (hrun : s.calRuns = true) :
    (s.govPeriod pEst).therm.cap = s.recap.therm.cap := by
  simp -zeta only [Dev.govPeriod, hc, hrun, Bool.true_eq_false, if_false]
  extract_lets r l old g above_ s1 s2 s3
  have counted : s1.therm = r.therm := by simp only [s1, when_therm, inc_therm, ite_self]
  have levelled : s2.therm.cap = r.therm.cap := by simp only [s2, setL_therm, modTherm_therm, counted]
  have logged : s3.therm.cap = r.therm.cap :=
    cap_ite levelled (by simp only [when_therm, set_therm, ite_self, post_therm, levelled])
  exact cap_ite (by rw [post_therm, setL_therm, logged]) (cap_ite logged logged)

/-- Settles O7: Tj_gov by whether memory is hot, and the cap by the step of a control period that follows Tj_gov. -/
theorem theThermalGovernorActsOnTjGov : Obligations.TheThermalGovernorActsOnTjGov := by
  refine ⟨fun s hot => tjGov_of_memoryHot ((memoryHot_iff s).mpr hot),
    fun s cool => tjGov_of_not_memoryHot ((memoryHot_eq_false_iff s).mpr cool), fun w c pEst hc hrun => ?_⟩
  apply answers_of_finish (·.govPeriod pEst) rfl
  calc (((w.dev.govPeriod pEst).summaryRing w.dev.intPending).therm).cap
      _ = (w.dev.govPeriod pEst).therm.cap := by rw [summaryRing_therm]
      _ = w.dev.recap.therm.cap := govPeriod_cap pEst hc hrun
      _ = c.next w.dev.therm.cap w.dev.tjGov := recap_cap hc

end Sys2Proof.Machine
end

section
/-!
PROOF. The interrupt summary (21_register_map.md R615, R617): its doorbell rings with every new bit of `INT_PENDING`, and a read through the
register window sees both registers as they are.
-/

namespace Sys2Proof.Machine

open Sys2Proof

/-! ### Every command ends in `finish` -/

/-- An outcome is what `finish` makes of the machine, its test access port moved or not. -/
def Finishes (w : State) (o : Host.Outcome State Fault Refusal) : Prop := ∃ tap f, o = finish { w with tap := tap } f

theorem finishes_finish (w : State) (f : Dev → Dev) : Finishes w (finish w f) := ⟨w.tap, f, rfl⟩

/-- A TAP instruction finishes with the port it leaves, and with the port it found where VDD_IO is not good (R630). -/
theorem finishes_tapRow (w : State) (ir tdo : Nat) (g : TapSt → TapSt) (f : Dev → Dev) : Finishes w (w.tapRow ir tdo g f) := by
  unfold State.tapRow
  split
  · exact ⟨_, _, rfl⟩
  · exact finishes_finish w id

/-- A register of the pair that is shifted finishes as its row (R631). -/
theorem finishes_tapShift (w : State) (ir old : Nat) (put : TapSt → TapSt) : Finishes w (w.tapShift ir old put) := by
  unfold State.tapShift
  exact finishes_tapRow w _ _ _ _

/-- EXTEST finishes both where BOUNDARY is in effect and where it acts as BYPASS (R632). -/
theorem finishes_execExtest (pins value : Nat) (w : State) : Finishes w (execExtest pins value w) := by
  unfold execExtest
  split
  · exact finishes_tapRow w _ _ _ _
  · exact finishes_tapRow w _ _ _ _

/-- Every command finishes: a TAP instruction by its row, every other one with the port it found. (Unfolding `exec` before the split leaves each arm
its own call, whose meaning is then read off by unification.) -/
theorem exec_finishes (i : Instr) (w : State) : Finishes w (exec i w) := by
  unfold exec
  cases i with
  | bypass => exact finishes_tapRow w _ _ _ _
  | idcode => exact finishes_tapRow w _ _ _ _
  | samplePreload pins value => exact finishes_tapRow w _ _ _ _
  | extest pins value => exact finishes_execExtest pins value w
  | testMode value => exact finishes_tapShift w _ _ _
  | testModeChk value => exact finishes_tapShift w _ _ _
  | _ => exact finishes_finish w _

/-- The device after a command is one on which the summary's doorbell has followed what `INT_PENDING` was (R617). -/
theorem exec_dev_summaryRing {i : Instr} {w t : State} (hx : exec i w = .next t) : ∃ d : Dev, t.dev = d.summaryRing w.dev.intPending := by
  obtain ⟨tap, f, hf⟩ := exec_finishes i w
  cases hf.symm.trans hx
  exact ⟨f w.dev, rfl⟩

/-! ### The doorbell rings with a new bit (R577, R579, R617) -/

/-- Bits stand in a union with them. -/
theorem union_and_right (x b : Nat) : (x ||| b) &&& b = b := by
  apply Nat.eq_of_testBit_eq
  intro i
  rw [Nat.testBit_and, Nat.testBit_or]
  cases b.testBit i <;> simp

/-- A ring leaves its bits in `DB_TO_SP`, or in SWITCHOVER held for its end (R577, R579). -/
theorem rung_ring (s : Dev) {b : Nat} (hb : b < 2 ^ 32) : (s.ring b).rung b := by
  unfold Dev.rung
  by_cases h : s.modeOf = mSWITCHOVER
  · have hheld : (s.ring b).sp.dbHeld = s.sp.dbHeld ||| b := by unfold Dev.ring; rw [if_pos h]
    rw [hheld, ← Nat.or_assoc, union_and_right]
  · have hset : (s.ring b).get .DB_TO_SP_BITS = s.get .DB_TO_SP_BITS ||| b := by
      rw [ring_sets s b h]
      exact Nat.mod_eq_of_lt (Nat.or_lt_two_pow (get_lt s .DB_TO_SP_BITS) hb)
    rw [hset, Nat.or_comm, ← Nat.or_assoc, union_and_right]

/-- Where `INT_PENDING` shows a new bit after the summary's doorbell, that doorbell has rung: had it kept still, no bit was new. -/
theorem rung_summaryRing {s : Dev} {before : Nat} (hnew : maskOff (s.summaryRing before).intPending before ≠ 0) :
    (s.summaryRing before).rung 4 := by
  unfold Dev.summaryRing Dev.when at *
  split at hnew
  next h => rw [if_pos h]; exact rung_ring s (by decide)
  next h => exact absurd (bne_iff_ne.mpr hnew) h

/-! ### Both registers through the window (R572) -/

/-- A number summed of single bits below `n` is below `2 ^ n`. -/
theorem foldl_bits_lt (p : Nat → Bool) (n : Nat) : (List.range n).foldl (fun a i => a + b2n (p i) * 2 ^ i) 0 < 2 ^ n := by
  induction n with
  | zero => exact Nat.one_pos
  | succ n ih =>
    have hbit : b2n (p n) * 2 ^ n ≤ 2 ^ n := by unfold b2n; split <;> simp
    rw [List.range_succ, List.foldl_append, List.foldl_cons, List.foldl_nil, Nat.pow_succ]
    omega

/-- `INT_SUMMARY` fits its 14 bits (R615). -/
theorem intSummary_lt (s : Dev) : s.intSummary < 2 ^ 14 := foldl_bits_lt _ 14

/-- `INT_PENDING` fits its 14 bits: a mask takes bits away (R617). -/
theorem intPending_lt (s : Dev) : s.intPending < 2 ^ 14 := Nat.lt_of_le_of_lt (Nat.sub_le _ _) (intSummary_lt s)

/-- The register map's first block is read in every mode while the device has its supply (R612): it is always on and belongs to no unit. -/
theorem readsAt_low {s : Dev} (hon : s.pwr.on = true) {a : Nat} (ha : a < 0x10000) : s.readsAt a = true := by
  have hunit : unitOfReg a = none := by
    unfold unitOfReg
    rw [if_neg (by omega), if_neg (by omega), if_neg (by omega), if_neg (by omega)]
  have haon : a < 0x30000 := by omega
  simp [Dev.readsAt, Dev.instOpen, hon, hunit, haon]

/-- A word of the first block with one field, at its foot, is that field as it stands. -/
theorem wordAt_of_one_field {s : Dev} (hon : s.pwr.on = true) {a : Nat} (ha : a < 0x10000) {f : Fld} (hf : fieldsAt a = [f]) (hlo : f.lo = 0) :
    s.wordAt a = s.fieldNow f := by
  unfold Dev.wordAt
  rw [readsAt_low hon ha, if_neg (by decide), if_neg (by omega), hf, List.foldl_cons, List.foldl_nil, hlo, Nat.pow_zero, Nat.mul_one, Nat.zero_add]

/-- A read finds an always-on field that follows the machine's state at what the state makes of it, where that fits the field. -/
theorem fieldNow_of_live {s : Dev} {f : Fld} {v : Nat} (haon : f.dom = .aon) (hty : f.ty ≠ .wo) (hlive : s.live f.reg = [(f, v)])
    (hv : v < 2 ^ f.width) : s.fieldNow f = v := by
  have hshown : s.shown f = v := by simp [Dev.shown, hty, hlive, Nat.mod_eq_of_lt hv]
  simp [Dev.fieldNow, haon, hshown]

/-- A read of `INT_SUMMARY` returns the summary as it is. -/
theorem readWord_INT_SUMMARY {s : Dev} (hon : s.pwr.on = true) : (s.readWord 0x40).2 = s.intSummary :=
  calc s.wordAt 0x40
      _ = s.fieldNow .INT_SUMMARY_SUMMARY := wordAt_of_one_field hon (by decide) (by decide) rfl
      _ = s.intSummary := fieldNow_of_live rfl (by decide) rfl (intSummary_lt s)

/-- A read of `INT_PENDING` returns what is pending as it is. -/
theorem readWord_INT_PENDING {s : Dev} (hon : s.pwr.on = true) : (s.readWord 0x48).2 = s.intPending :=
  calc s.wordAt 0x48
      _ = s.fieldNow .INT_PENDING_PENDING := wordAt_of_one_field hon (by decide) (by decide) rfl
      _ = s.intPending := fieldNow_of_live rfl (by decide) rfl (intPending_lt s)

/-- Settles O58: the mask by definition, the doorbell since every command ends in `finish`, and the two registers by their reads. -/
theorem newPendingCausesRingTheServiceProcessor : Obligations.NewPendingCausesRingTheServiceProcessor := by
  refine ⟨fun s => rfl, fun i w t hx hnew => ?_, fun s hon => ⟨readWord_INT_PENDING hon, readWord_INT_SUMMARY hon⟩⟩
  obtain ⟨d, hd⟩ := exec_dev_summaryRing hx
  rw [hd] at hnew ⊢
  exact rung_summaryRing hnew

end Sys2Proof.Machine
end
